-- ==== Sys2Proof/Word.lean ====
section
/-! DEFINITION. The word types of the package and their plainest arithmetic: a 64-bit word, a byte, bit-field reads and writes. -/

namespace Sys2Proof

/-- A 64-bit register or doubleword (R4: CSRs are 64 bits wide). -/
abbrev Word := BitVec 64

/-- One byte of memory. -/
abbrev Byte := BitVec 8

/-- The value of the `n` bits of `w` from bit `lo` up. -/
def Word.field (w : Word) (lo n : Nat) : Nat := (w.toNat >>> lo) % 2 ^ n

/-- `w` with the `n` bits from bit `lo` up replaced by the low `n` bits of `v`; every other bit stays. -/
def Word.setField (w : Word) (lo n v : Nat) : Word :=
  let m : Word := BitVec.ofNat 64 ((2 ^ n - 1) <<< lo)
  (w &&& ~~~ m) ||| (BitVec.ofNat 64 ((v % 2 ^ n) <<< lo) &&& m)

/-- Bit `i` of a natural number. -/
def natBit (v i : Nat) : Bool := v.testBit i

/-- A Bool as a one-bit number. -/
def b2n (b : Bool) : Nat := if b then 1 else 0

/-- ⌈log2 n⌉, with 0 for n at most 1 (the retry codes of R85, R99). -/
def clog2 (n : Nat) : Nat := if n ≤ 1 then 0 else Nat.log2 (n - 1) + 1

/-- `v` held between `lo` and `hi`. -/
def clampN (lo hi v : Nat) : Nat := if v < lo then lo else if hi < v then hi else v

/-- `a / b` rounded up. -/
def cdiv (a b : Nat) : Nat := (a + b - 1) / b

end Sys2Proof
end

