-- ==== Sys2Proof/Syntax.lean ====
section
/-! DEFINITION. The commands of the block: one constructor of Instr for each row of spec/opcode_table.json, in the table's order,
with the operand types that they carry. An operand is what comes from outside the package: an access's master and data, a message, a
physical outcome, an index. -/

namespace Sys2Proof

/-! ### Common operand types -/

/-- Privilege, ordered U < S < F (R61, 10_jess_access.md). -/
inductive Priv where
  | u | s | f
deriving DecidableEq, Repr

/-- The privilege's code: 0 U, 1 S, 2 F. -/
def Priv.code : Priv → Nat
  | .u => 0 | .s => 1 | .f => 2

/-- The privilege of a code; a code above 2 stands for F. -/
def Priv.ofCode : Nat → Priv
  | 0 => .u | 1 => .s | _ => .f

/-- The kinds of access of R236. -/
inductive AccKind where
  | r | w | x | a
deriving DecidableEq, Repr

/-- The kind's code in JESS_LOG_i_INFO. -/
def AccKind.code : AccKind → Nat
  | .r => 0 | .w => 1 | .x => 2 | .a => 3

/-- The HBM and Roost request classes. -/
inductive ReqClass where
  | crit | norm | bulk
deriving DecidableEq, Repr

def ReqClass.code : ReqClass → Nat
  | .crit => 0 | .norm => 1 | .bulk => 2

/-- Who presents a request: the 16-bit master ID (class [15:12], instance [11:0], R233), the privilege, and whether the
request came over Kettle from another package (R234). -/
structure Master where
  id : Nat
  priv : Priv
  remote : Bool
deriving DecidableEq, Repr

def Master.cls (m : Master) : Nat := m.id / 4096
def Master.inst (m : Master) : Nat := m.id % 4096
/-- WARDEN_CORE class at privilege F, from this package. -/
def Master.isWardenF (m : Master) : Bool := m.cls == 0 && m.priv == .f && !m.remote

/-- A CSR write: its master, its size in bytes, the byte offset from the register's own offset (0 or 4; anything else is
misaligned), its kind (R4 admits only plain writes) and its data. -/
structure CsrWr where
  m : Master
  size : Nat
  sub : Nat
  plain : Bool
  val : Nat
deriving DecidableEq, Repr

/-- A command entry (64 B, 03_tci_transport.md), with the queue pair it came on, the package it was forwarded from (FWD), and
its extended block's bytes ([] for none). -/
structure Cmd where
  qp : Nat
  fwdFrom : Option Nat
  opcode : Nat
  flags : Nat
  pcount : Nat
  tag : Nat
  handle : Nat
  timeout : Nat
  ridLo : Nat
  params : List Nat
  block : List Byte
deriving DecidableEq, Repr

/-- A reply entry (32 B): tag, status, flags, RETRY_AFTER, RESULT as its low and high doubleword, DONE_NS. -/
structure Rep where
  tag : Nat
  status : Nat
  flags : Nat
  retry : Nat
  r0 : Nat
  r1 : Nat
  doneNs : Nat
deriving DecidableEq, Repr

/-- One 64 B entry of a HOST ring as PCIe DMA returns it, with its extended block. -/
structure HostEnt where
  entry : List Byte
  block : List Byte
deriving DecidableEq, Repr

/-- An event on a Watch source: source, class (1 CE, 2 DE, 3 UC, 4 FA), cause code, detail word (15_watch_faults.md). -/
structure FaultEv where
  src : Nat
  cls : Nat
  cause : Nat
  detail : Nat
deriving DecidableEq, Repr

/-- The outcome of a check code or of a read: clean, corrected (one symbol), uncorrectable. -/
inductive EccOutcome where
  | clean | corrected | uncorrectable
deriving DecidableEq, Repr

/-! ### What comes from outside for a command's buffers and the tiles (04_tci_commands.md, 05_talon_tiles.md) -/

/-- The bytes that reads of a PCIe buffer returned, in address order, and the STATUS (table "Response STATUS codes") of the read that ended them early. `bad`: the 64 B pieces that came poisoned. -/
structure ExtRead where
  data : List Byte
  status : Nat
  bad : List Nat := []
deriving DecidableEq, Repr

/-- The element types of the matrix engine and of the conversions (table "Element types", and BF16). -/
inductive ElemType where
  | fp4 | fp6e2 | fp6e3 | fp8e4 | fp8e5 | int8 | bf16
deriving DecidableEq, Repr

/-- An MX block: its 32 element codes and its E8M0 scale; BF16 goes in groups of 32 elements with the scale 127, which stands for 1. -/
structure MxBlock where
  elems : List Nat
  scale : Nat
deriving DecidableEq, Repr

/-- The operations of the vector unit on the lanes of its registers ("The vector unit", R124): fused multiply-add and the other FP32 arithmetic, integer add, logic and shifts, the conversions
with BF16 and FP16, and the four quarter-rate functions. -/
inductive VecOp where
  | fma | add | mul | min | max
  | iadd | and | or | xor | shl | shr | sar
  | toBf16 | ofBf16 | toFp16 | ofFp16
  | exp2 | log2 | recip | rsqrt
deriving DecidableEq, Repr

/-- A relation that the vector unit compares by. -/
inductive VecRel where
  | lt | le | eq
deriving DecidableEq, Repr

/-- What a tile's sequencer makes its units do: an accumulator is given a value; blocks along K, in ascending order, are added to accumulator `i` of set `set`, their operands read at the tile offsets `rd`;
an accumulator moves to a lane; a vector register is loaded from, or stored to, 2,048 B of tile SRAM; a lane-wise operation; a comparison, which leaves the lane mask, and a selection by it; the sum
across all lanes; the conversion of the 32 lanes of block `blk` to an MX type (element codes into `dst`, the scale into lane `blk` of `sreg`) and back; bytes that the sequencer stores. -/
inductive TileOp where
  | accSet (set i v : Nat)
  | dot (set i : Nat) (ta tb : ElemType) (k : List (MxBlock × MxBlock)) (rd : List Nat)
  | accOut (set i reg lane : Nat)
  | load (reg off : Nat)
  | store (reg off : Nat)
  | vec (op : VecOp) (dst a b c : Nat)
  | cmp (rel : VecRel) (a b : Nat)
  | select (dst a b : Nat)
  | sum (dst a lane : Nat)
  | quant (t : ElemType) (src blk dst sreg : Nat)
  | dequant (t : ElemType) (src blk sreg dst : Nat)
  | put (off : Nat) (data : List Byte)
deriving DecidableEq, Repr

/-- A line access that a requester presents to a bank of a tile's SRAM (R126): its cycle, the requester (0 matrix operand read, 1 vector, 2 sequencer fetch, 3 tile DMA, 4 scrubber), the tile offset. -/
structure BankReq where
  cycle : Nat
  who : Nat
  off : Nat
deriving DecidableEq, Repr

/-- What a tile has done since it was last told of: energy in nJ (R143), cycles in RUNNING, the accesses that its banks were asked for (R126), what its units did, in order, and the errors that lines of its SRAM had
developed by then (tile offset, with word and bit of each bit in error). -/
structure TileUse where
  energy : Nat
  cycles : Nat
  acc : List BankReq := []
  ops : List TileOp := []
  cells : List (Nat × List (Nat × Nat)) := []
deriving DecidableEq, Repr

/-- A tile DMA descriptor as a channel executes it: the tile (96 · die + tile), the channel, the admission number of the run's command, the descriptor's 32 bytes, and what the tile's units did before it was
pushed. -/
structure DmaEv where
  tile : Nat
  ch : Nat
  seq : Nat
  desc : List Byte
  work : List TileOp := []
deriving DecidableEq, Repr

/-! ### Operands of the memory controllers (06_hbm_channels.md to 08_roost_tier.md) -/

/-- What a controller is asked for on one line (R150, R194). -/
inductive LineOp where
  | read
  | write
  | masked
  | add (op : Nat)
deriving DecidableEq, Repr

/-- A request presented to an HBM or Roost target port: its master, the package-local address of its line, what it asks for, its class (R156), the data of a
write (64 bytes), the byte mask of a masked write, whether the operand is poisoned. -/
structure LineReq where
  m : Master
  addr : Nat
  op : LineOp
  cls : ReqClass
  data : List Byte
  mask : Nat
  poison : Bool
deriving DecidableEq, Repr

/-- What comes back from the devices on a read: the on-die severity (0 NE, 1 CE, 2 UE; HBM only) and the errors on the wire, as (code symbol,
error byte) of RS(72,68), or as (codeword · 10 + device, error byte) of the eight codewords of RS(10,8). -/
structure WireErr where
  ondie : Nat
  errs : List (Nat × Nat)
deriving DecidableEq, Repr

/-- Errors that the cells of lines have developed by then, by line address, as WireErr gives errors: they stand until the line is written, and every read of the line meets them. -/
abbrev CellErrs := List (Nat × List (Nat × Nat))

/-- How the boot training of a Roost channel went where it was not well (R192): the step that failed, 1 to 6, and its first failing nibble; step 0 stands for a channel that did not come back from self-refresh and was trained from reset. -/
structure ChTrain where
  ch : Nat
  step : Nat
  nibble : Nat
deriving DecidableEq, Repr

/-- The figures of a Roost boot training: its length in µs and the bridges' temperatures in °C. -/
structure TrainFigures where
  us : Nat
  temps : List Nat
deriving DecidableEq, Repr

/-- What a stack temperature reading gives: failed, or degrees Celsius. -/
abbrev TempReading := Option Nat

/-! ### Kettle messages and flits (11_kettle_fabric.md) -/

/-- The message kinds of the table "Message kinds"; `other` is an unassigned KIND. -/
inductive KKind where
  | rd | wr | wrMask | cmd | fwd | buddySec | buddyCommit | buddyDel | claim | expHdr | expSec | impReq
  | rdData | ack | reply | fwdReply | add
  | presence | linkstate | probe | probeAck | routeFence | fenceAck | leave | join | downReq | downAck | slotSync | tod | wake | ready
  | other (code : Nat)
deriving DecidableEq, Repr

/-- A message: its header's fields and its body. `lines`, `op`, `ordered`, `addr`: a request's ARG; `status`, `poison`: a
response's; `mask`: WR_MASK's byte mask; `data`: line or sector bytes; `cmds`, `reps`: the entries of CMD, FWD, REPLY and FWD_REPLY;
`w`: the payload slot's words in the order the table of that payload gives them. -/
structure KMsg where
  kind : KKind
  slots : Nat
  via : Bool
  relayed : Bool
  dest : Nat
  origin : Nat
  priv : Nat
  oclass : Nat
  cls : Nat
  tag : Nat
  addr : Nat
  lines : Nat
  op : Nat
  ordered : Bool
  status : Nat
  poison : Nat
  mask : Nat
  data : List Byte
  cmds : List Cmd
  reps : List Rep
  w : List Nat
deriving DecidableEq, Repr

/-- A received flit (table "Flit"): whether its CRC holds and no uncorrectable codeword overlaps it, how many codewords were corrected since the last flit, and its header's fields. -/
structure Flit where
  crcOk : Bool
  fecOk : Bool
  fecFixed : Nat
  seqd : Bool
  nak : Bool
  seq : Nat
  ack : Nat
  craPool : Nat
  craCount : Nat
  crbPool : Nat
  crbCount : Nat
  slotMask : Nat
deriving DecidableEq, Repr

/-- How training of a link ended (R270, R23): up with the peer's ID and epoch nonce and the stored settings, or failed. -/
inductive TrainEnd where
  | up (peerId nonce : Nat) (eq : List Nat)
  | failed
deriving DecidableEq, Repr

/-! ### Operands of the cores and the Mews cache (12_mews_cores.md) -/

/-- The AMO operations of the RISC-V A extension. -/
inductive AmoOp where
  | swap | add | xor | and | or | min | max | minu | maxu
deriving DecidableEq, Repr

/-- An access presented at the Mews cache port: who, which kind (R236), the address as presented (64 bits), the bytes read or
written (a write's enabled bytes as data; within one line), whether the page type is NC or IO (R284), the way that the
pseudo-LRU choice names for an allocation, and what the (72,64) code of the line finds on a hit (R288). -/
structure CacheAcc where
  m : Master
  kind : AccKind
  addr : Nat
  len : Nat
  data : List Byte
  nc : Bool
  way : Nat
  ecc : EccOutcome
deriving DecidableEq, Repr

/-! ### Operands of the power manager (13_power_energy.md) -/

/-- What the meter and the sensors give at a credit window's start: the measured package energy of the window that ends (µJ)
and the work energy of tiles that run passes, since they were last told of (tile, nJ), each tile's ballast energy in it (tile, nJ), and the hottest sensor of each Talon die (0.1 °C). -/
structure WindowIn where
  energy : Nat
  ballast : List (Nat × Nat)
  work : List (Nat × Nat)
  dieTemp : List Nat
deriving DecidableEq, Repr

/-- The registers of PWR_CFG_WRITE (R332). -/
inductive PwrCfg where
  | therm | gov | policy
deriving DecidableEq, Repr

/-! ### Operands of the two-wire ports (17_management_buses.md) -/

/-- Why an attempt of the controller port fails (R407, R409). -/
inductive CtlFail where
  | nack | pec | arb | sclLow | sdaLow
deriving DecidableEq, Repr

/-- What an entry's turn meets: its failure, or the words read (READ_PIN and STATUS_WORD of a regulator, the sensor's word in `w0`). `second`: the failure came in STATUS_WORD's transfer, after
READ_PIN's word had been read. -/
structure CtlTry where
  fail : Option CtlFail
  second : Bool
  w0 : Nat
  w1 : Nat
deriving DecidableEq, Repr

/-! ### The commands -/

/-- A command: one constructor per row of spec/opcode_table.json. -/
inductive Instr where
  /-- PERCH_POWER_ON (R333). The Perch rail comes up: the Perch domain starts, draws the epoch nonce and resets the elapsed counter, generation counter, key table and Perch registers. -/
  | perchPowerOn (addrSel : Nat) (healthOk : Bool)
  /-- PWR_OK_RISE (R418). PWR_OK rises: the identity straps are latched, CORE_EN rises unless HOODED holds it, and a COLD start begins. -/
  | pwrOkRise (trayId addrSel : Nat)
  /-- PWR_OK_FALL (R330). PWR_OK falls: real work stops, the load ramps down, Roost enters self-refresh and a COLD reset follows. -/
  | pwrOkFall
  /-- CORE_PG_RISE (R303). The tray asserts CORE_PG, so the fast PLLs start. -/
  | corePgRise
  /-- CORE_PG_FALL (R303). CORE_PG falls while CORE_EN is high, and the package acts as at a fall of PWR_OK. -/
  | corePgFall
  /-- PLL_LOCK (R310). A fast PLL completes locking, which allows the boot ROM to start and the fast counter to run. -/
  | pllLock
  /-- BOOT_ROM_START (R369). Warden core 0 runs the boot ROM: it checks the sensors, verifies and loads the slot A image (or slot B), fills the key slots and starts Tirlo. -/
  | bootRomStart (d2dFails : List (Nat × Nat))
  /-- RESET_N_ASSERT (R419). RESET_N held low for at least 1 µs starts a WARM reset that holds before the release of warden core 0. -/
  | resetNAssert
  /-- RESET_N_RELEASE (R419). RESET_N rises and warden core 0 is released in the next cycle. -/
  | resetNRelease
  /-- PERST_N_ASSERT (R420). PERST_N resets the PCIe endpoint: queue pair 0 is deleted, the other PCIE queue pairs enter ERROR, and the link drops. -/
  | perstNAssert
  /-- PERST_N_RELEASE (R420). PERST_N is released: the endpoint retrains and answers configuration requests with Request Retry Status until the link is up. -/
  | perstNRelease
  /-- STRAP_CHANGE (R21). A strap changes while PWR_OK is high: STRAP_CHANGED is set and counted, and the identity is unchanged. -/
  | strapChange (trayId addrSel : Nat)
  /-- WARM_RESET_START (R427). A WARM reset begins: work stops, caches write back, memory enters self-refresh and blocks reset, then recovery proceeds to READY. -/
  | warmResetStart
  /-- REVALIDATION (R431). After a WARM reset Tirlo revalidates every session, resolves IN_DOUBT request IDs and sweeps the frame map. -/
  | revalidation
  /-- HBM_TRAINING_DONE (R424). HBM stack training completes: the stack becomes READY, or is retrained once and then FAILED. -/
  | hbmTrainingDone (stack : Nat) (ok : Bool) (ppr : List Nat)
  /-- ROOST_TRAINING_DONE (R192). Roost boot training completes on the channels, which become READY or FAILED. -/
  | roostTrainingDone (results : List ChTrain) (fig : TrainFigures)
  /-- TILE_SELF_TEST_DONE (R425). The tile self-test ends, and failing tiles are marked FAULTED. -/
  | tileSelfTestDone (failed : List (Nat × Nat))
  /-- TCI_READY (R423). When every READY condition holds, READY becomes 1, partners are signalled and the live queue pairs are fetched. -/
  | tciReady
  /-- D2D_FLIT_CRC_ERROR (R18). A die-to-die link receives a flit with a CRC error and requests a replay. -/
  | d2dFlitCrcError (link : Nat) (onReplay : Bool)
  /-- D2D_LINK_FAILED (R18). After the eighth failed replay or 2 µs the D2D link is declared failed and in-flight transactions error. -/
  | d2dLinkFailed (link : Nat)
  /-- SQ_DOORBELL (R63). A write to TCI_DB_SQ_q replaces the stored tail and sets the pending bit, or is dropped and counted. -/
  | sqDoorbell (q : Nat) (w : CsrWr)
  /-- RQ_DOORBELL (R63). A write to TCI_DB_RQ_q records the new RQ head, freeing reply slots. -/
  | rqDoorbell (q : Nat) (w : CsrWr)
  /-- FETCH_TURN (R68). The fetcher serves a pending queue pair: it reads up to FETCH_BURST entries in ring order, reserves reply slots and writes the head shadow. -/
  | fetchTurn (host : List HostEnt) (pcieFail : Bool)
  /-- COMMAND_TIMEOUT (R77). The command timeout expires with no reply, a TIMEOUT reply is written and the work stops at its abort point. -/
  | commandTimeout (q tag ridLo : Nat)
  /-- COALESCE_TIMER (R72). COAL_TIME passes since the first unsignalled reply, and the queue pair's interrupt is raised. -/
  | coalesceTimer (q : Nat)
  /-- ONCE_ID_EXPIRY (R74). A remembered ONCE request ID reaches 60 s of epoch time and is forgotten. -/
  | onceIdExpiry (q rid : Nat)
  /-- ADMIN_QP_ENABLE (R80). Setting TCI_ADMIN_CFG.ENABLE makes queue pair 0 LIVE and ADMIN_LIVE can become 1. -/
  | adminQpEnable (w : CsrWr)
  /-- ADMIN_QP_DISABLE (R83). Clearing TCI_ADMIN_CFG.ENABLE deletes queue pair 0 as QUEUE_DELETE does. -/
  | adminQpDisable (w : CsrWr)
  /-- NOP (R109). NOP completes at once with no effect. -/
  | nop (c : Cmd)
  /-- IDENTIFY (R109). IDENTIFY returns IDCODE, stepping, package ID, Tirlo version and epoch nonce. -/
  | identify (c : Cmd)
  /-- QUEUE_CREATE (R60). QUEUE_CREATE checks and creates a queue pair bound to its attributes and makes it LIVE. -/
  | queueCreate (c : Cmd)
  /-- QUEUE_DELETE (R83). QUEUE_DELETE drains the queue pair, aborts its commands, discards unfetched entries and makes it ABSENT. -/
  | queueDelete (c : Cmd)
  /-- QUEUE_QUERY (R109). QUEUE_QUERY returns a queue pair's attribute and position words. -/
  | queueQuery (c : Cmd)
  /-- QUEUE_MODIFY (R109). QUEUE_MODIFY changes a queue pair's PRIO and coalescing settings. -/
  | queueModify (c : Cmd)
  /-- RESET_WARM (R102). RESET_WARM replies OK and starts a WARM reset 100 µs later. -/
  | resetWarm (c : Cmd)
  /-- SESSION_OPEN (R33). SESSION_OPEN allocates the lowest free slot, issues a handle with the next generation and makes the session NEW. -/
  | sessionOpen (c : Cmd)
  /-- SESSION_APPEND (R39). SESSION_APPEND makes the session ACTIVE, unparking first if it is PARKED, and runs the plan over the new positions. -/
  | sessionAppend (c : Cmd)
  /-- SESSION_RESUME (R39). SESSION_RESUME makes the session ACTIVE, unparking it when PARKED. -/
  | sessionResume (c : Cmd)
  /-- SESSION_PARK (R39). SESSION_PARK starts or joins a park, completes at once on a clean PARKED session, or answers NOT_READY. -/
  | sessionPark (c : Cmd)
  /-- SESSION_SET (R42). SESSION_SET changes park_after and the buddy package. -/
  | sessionSet (c : Cmd)
  /-- SESSION_QUERY (R110). SESSION_QUERY returns the session status word, park_after and idle time. -/
  | sessionQuery (c : Cmd)
  /-- SESSION_EXPORT (R50). SESSION_EXPORT stops new work and streams the session, sealed under export keys, to the gateway. -/
  | sessionExport (c : Cmd)
  /-- SESSION_IMPORT (R108). SESSION_IMPORT fetches and verifies an export stream and creates a PARKED session. -/
  | sessionImport (c : Cmd)
  /-- SESSION_RECOVER (R55). SESSION_RECOVER creates a PARKED session from a held buddy copy when the home is lost or FORCE is set. -/
  | sessionRecover (c : Cmd)
  /-- SESSION_CLOSE (R51). SESSION_CLOSE stops the session's work, frees its frames, deletes the buddy copy and frees the slot. -/
  | sessionClose (c : Cmd)
  /-- MEM_COPY (R111). MEM_COPY copies a buffer under the acting identity in the selected HBM class. -/
  | memCopy (c : Cmd) (ext : ExtRead)
  /-- MEM_FILL (R111). MEM_FILL writes a repeated 64-bit pattern into a buffer. -/
  | memFill (c : Cmd)
  /-- ROOST_STATUS (R111). ROOST_STATUS returns the free, CLEAN, PARKED and queued counts. -/
  | roostStatus (c : Cmd)
  /-- ROOST_RECLAIM (R111). ROOST_RECLAIM reclaims CLEAN frames until the target free percentage is reached. -/
  | roostReclaim (c : Cmd)
  /-- PLAN_LOAD (R134). PLAN_LOAD validates a plan image and reserves its tile placement. -/
  | planLoad (c : Cmd) (ext : ExtRead)
  /-- PLAN_UNLOAD (R112). PLAN_UNLOAD releases the plan's placement after its dispatched runs complete. -/
  | planUnload (c : Cmd)
  /-- WEIGHTS_LOAD (R136). WEIGHTS_LOAD writes weights into the plan's placement after earlier runs complete. -/
  | weightsLoad (c : Cmd) (ext : ExtRead)
  /-- KERNEL_RUN (R112). KERNEL_RUN runs a plan entry, with optional session KV access. -/
  | kernelRun (c : Cmd)
  /-- LINK_STATUS (R113). LINK_STATUS returns a Kettle link status word and replay count. -/
  | linkStatus (c : Cmd)
  /-- LINK_CONTROL_ENABLE (R272). LINK_CONTROL ENABLE trains the link in its next slot. -/
  | linkControlEnable (c : Cmd)
  /-- LINK_CONTROL_DISABLE (R272). LINK_CONTROL DISABLE withdraws the link with LINKSTATE and DOWN_REQ, then keeps it in keeper mode. -/
  | linkControlDisable (c : Cmd)
  /-- LINK_CONTROL_RETRAIN (R272). LINK_CONTROL RETRAIN withdraws the link and retrains it in its next slot. -/
  | linkControlRetrain (c : Cmd)
  /-- REDUCE (R113). REDUCE sends a buffer as Kite adds to a destination and then increments the counter. -/
  | reduce (c : Cmd)
  /-- REDUCE_WAIT (R113). REDUCE_WAIT completes once the counter reaches its target. -/
  | reduceWait (c : Cmd)
  /-- PKG_DRAIN_START (R113). PKG_DRAIN 1 parks every session, refuses new opens and sends LEAVE. -/
  | pkgDrainStart (c : Cmd)
  /-- PKG_DRAIN_END (R276). PKG_DRAIN 0 ends the drain and sends JOIN. -/
  | pkgDrainEnd (c : Cmd)
  /-- POWER_QUERY (R331). POWER_QUERY returns power, cap, credits, clock, state and temperatures. -/
  | powerQuery (c : Cmd)
  /-- POWER_SET_CAP (R315). POWER_SET_CAP sets the cap, which applies from the next whole window. -/
  | powerSetCap (c : Cmd)
  /-- POWER_STATE_FLIGHT (R301). POWER_STATE to FLIGHT powers every tile group. -/
  | powerStateFlight (c : Cmd)
  /-- POWER_STATE_GLIDE (R301). POWER_STATE to GLIDE allows idle tile groups to be gated. -/
  | powerStateGlide (c : Cmd)
  /-- POWER_STATE_PERCH (R103). POWER_STATE to PERCH replies OK, and entry begins 100 µs later unless work runs. -/
  | powerStatePerch (c : Cmd)
  /-- TIME_QUERY (R347). TIME_QUERY samples the epoch or rack time values in one cycle. -/
  | timeQuery (c : Cmd)
  /-- KEY_DOMAIN_LOAD (R375). KEY_DOMAIN_LOAD unwraps a blob and seals it as current set A of the domain. -/
  | keyDomainLoad (c : Cmd) (ext : ExtRead)
  /-- KEY_DOMAIN_DELETE (R376). KEY_DOMAIN_DELETE invalidates both sets and clears CRYPT_LOST. -/
  | keyDomainDelete (c : Cmd)
  /-- CRYPT_REKEY (R225). CRYPT_REKEY loads a new set, journals boundary 0, marks the domain MIXED and starts the walk. -/
  | cryptRekey (c : Cmd) (ext : ExtRead)
  /-- CRYPT_STATUS (R116). CRYPT_STATUS returns a domain's state, highest counter and MIXED boundary. -/
  | cryptStatus (c : Cmd)
  /-- JESS_SET_REGION (R242). JESS_SET_REGION stages and commits a region write. -/
  | jessSetRegion (c : Cmd)
  /-- JESS_SYNC (R246). The JESS_SYNC command writes GO and completes when its sync completes. -/
  | jessSync (c : Cmd)
  /-- TRNG_READ (R378). TRNG_READ returns 16 random bytes, or FAULTED on a health failure. -/
  | trngRead (c : Cmd)
  /-- ATTEST (R379). ATTEST writes the signed attestation report. -/
  | attest (c : Cmd) (ext : ExtRead)
  /-- FAULT_QUERY (R117). FAULT_QUERY returns a source status word and CE count. -/
  | faultQuery (c : Cmd)
  /-- FAULT_LOG_READ (R365). FAULT_LOG_READ returns a Watch log entry by index. -/
  | faultLogRead (c : Cmd)
  /-- FAULT_CLEAR (R358). FAULT_CLEAR clears PENDING and resets an idle ladder. -/
  | faultClear (c : Cmd)
  /-- FAULT_INJECT (R364). FAULT_INJECT pulses one injected event on a source. -/
  | faultInject (c : Cmd)
  /-- BLOCK_RESET (R368). BLOCK_RESET resets a unit, joins a running reset, or is replaced under R361. -/
  | blockReset (c : Cmd)
  /-- PARK_EVALUATION (R44). Every 1 ms Tirlo finds eligible WAITING sessions and starts parks under pressure or energy policy. -/
  | parkEvaluation
  /-- TRANSFER_START (R206). A queued Roost engine transfer starts in class order when a run position frees. -/
  | transferStart
  /-- ROOST_PAGE_TRANSFER (R206). A running transfer moves one page through HBM, the Crypt engine and Roost in its round-robin turn. -/
  | roostPageTransfer
  /-- PARK_COMMIT_WRITE (R46). After every sector and page-table write is acknowledged, the engine writes the commit record. -/
  | parkCommitWrite (slot : Nat)
  /-- PARK_COMMIT_ACK (R39). The commit record acknowledgement makes the session PARKED, frees its HBM frames and starts the buddy copy. -/
  | parkCommitAck (slot : Nat) (freed : Bool) (shards : List (Nat × Bool))
  /-- UNPARK_COMPLETE (R39). The last page reaches HBM, and the session becomes ACTIVE with its waiting work dispatched. -/
  | unparkComplete (slot : Nat) (shards : List (Nat × Bool))
  /-- UNPARK_DEFER_TIMEOUT (R52). An unpark not begun within 100 ms completes its commands with ENERGY_DEFERRED. -/
  | unparkDeferTimeout (slot : Nat)
  /-- UNPARK_FRAME_TIMEOUT (R53). Unpark frames still short after 10 ms complete the commands with BUSY_RETRY. -/
  | unparkFrameTimeout (slot : Nat)
  /-- BUDDY_RETRY_TIMER (R54). At least once every 1 s the home resends a refused buddy copy. -/
  | buddyRetryTimer (slot : Nat)
  /-- RUN_COMPLETE (R140). A run completes when every tile ends and its DMA is idle, charging energy and writing the reply. -/
  | runComplete (pass : Nat) (use : List TileUse) (cycles : Nat) (outs : List Nat)
  /-- RUN_WATCHDOG (R140). A tile exceeding MAX_CYCLES stops the run with FAULTED and sets WDOG. -/
  | runWatchdog (pass tile : Nat) (use : List TileUse)
  /-- RUN_ABORT_POINT (R140). A run reaches its abort point within 2 µs of the request, and issues no further descriptor. -/
  | runAbortPoint (pass seq : Nat) (use : List TileUse)
  /-- RUN_DEFER_TIMEOUT (R142). A run not begun within DEFER_LIMIT completes with ENERGY_DEFERRED. -/
  | runDeferTimeout (seq : Nat)
  /-- DMA_DESCRIPTOR_COMPLETE (R129). A tile DMA descriptor completes when every write is acknowledged, advancing the completion count. -/
  | dmaDescriptorComplete (d : DmaEv)
  /-- DMA_CHANNEL_STOP (R133). A refused or failed DMA request stops the channel and the run. -/
  | dmaChannelStop (d : DmaEv) (use : List TileUse)
  /-- POISON_CONSUMED (R127). A matrix or vector unit consumes poison, and the run stops with a UC fault. -/
  | poisonConsumed (pass tile off : Nat) (hit : List Nat) (use : List TileUse)
  /-- TILE_SRAM_SCRUB (R128). The tile patrol scrubber reads and checks a line in a free bank cycle. -/
  | tileSramScrub (tile off : Nat) (e : EccOutcome)
  /-- GROUP_GATE_IDLE (R302). In GLIDE a group idle for GATE_IDLE_US is gated in a paced step. -/
  | groupGateIdle
  /-- GROUP_WAKE_COMPLETE (R468). A tile group completes its wake within 20 µs of its step. -/
  | groupWakeComplete (group : Nat)
  /-- HBM_REQUEST_INGRESS (R151). A request enters a pseudo-channel queue after Jess and the crypt transform, or waits at ingress. -/
  | hbmRequestIngress (r : LineReq)
  /-- WRITE_DRAIN_AGE (R152). The oldest write waiting 2 µs starts a drain. -/
  | writeDrainAge (stack pc : Nat)
  /-- HBM_REQUEST_ISSUE (R157). The controller issues a request in its slot and completes it to its master. -/
  | hbmRequestIssue (stack pc : Nat) (notReady : List Nat) (wire : WireErr) (cells : CellErrs)
  /-- HBM_REFRESH_DUE (R159). A per-bank refresh falls due and issues, is postponed or forced. -/
  | hbmRefreshDue (stack pc bank : Nat)
  /-- PARITY_RETRY (R167). A parity error makes the controller reissue the command, at most three times. -/
  | parityRetry (stack pc req : Nat)
  /-- HBM_SPARE_CMD (R169). A write of GO to HBM_PC_SPARE_CMD spares the named row. -/
  | hbmSpareCmd (stack pc : Nat) (w : CsrWr)
  /-- SPARE_COPY_COMPLETE (R170). A sparing copy completes, and the row is served from the buffer. -/
  | spareCopyComplete (stack pc entry : Nat)
  /-- HBM_PATROL_SCRUB (R173). The HBM patrol scrubber reads a line in BULK class. -/
  | hbmPatrolScrub (stack pc loc : Nat) (wire : WireErr)
  /-- HBM_THERMAL_POLL (R174). Every 1 ms the complex reads the stack temperature and sets band and duty. -/
  | hbmThermalPoll (stack : Nat) (t : TempReading)
  /-- RH_WINDOW_CLEAR (R179). At each 32 ms boundary the THROTTLE activate counts clear. -/
  | rhWindowClear
  /-- HBM_SELF_REFRESH_ENTRY (R160). Controllers issue their queues and put the stack in self-refresh. -/
  | hbmSelfRefreshEntry (stack : Nat)
  /-- HBM_SELF_REFRESH_EXIT (R160). The stack leaves self-refresh with restored training values. -/
  | hbmSelfRefreshExit (stack : Nat)
  /-- ORDERED_CONTRIBUTION (R183). An ordered float add joins its line's slot accumulator. -/
  | orderedContribution (m : Master) (addr op src : Nat) (data : List Byte) (poison : Bool)
  /-- ORD_HOLD_EXPIRY (R184). ORD_HOLD after a slot's last contribution flushes it early. -/
  | ordHoldExpiry (addr : Nat)
  /-- HBM_GLB_LOC_WRITE (R149). A write of the locality map sets PENDING and propagates to every decoder. -/
  | hbmGlbLocWrite (hi : Bool) (w : CsrWr)
  /-- LOC_PROPAGATION_DONE (R149). PENDING clears once every decoder uses the new map. -/
  | locPropagationDone
  /-- HBM_PC_CFG_WRITE (R153). A write of HBM_PC_CFG is applied or ignored whole with BAD_CFG. -/
  | hbmPcCfgWrite (stack pc : Nat) (w : CsrWr)
  /-- HBM_STK_CFG_WRITE (R147). A write of RATE is accepted only while the stack is OFF. -/
  | hbmStkCfgWrite (stack : Nat) (w : CsrWr)
  /-- HBM_THERM_CFG_WRITE (R176). A thermal configuration write that breaks the bounds is ignored whole. -/
  | hbmThermCfgWrite (stack : Nat) (w : CsrWr)
  /-- ROOST_REQUEST_INGRESS (R195). A Roost request enters a sub-channel queue or waits at ingress. -/
  | roostRequestIngress (r : LineReq)
  /-- ROOST_DRAIN_AGE (R195). The oldest Roost write waiting 4 µs starts a drain. -/
  | roostDrainAge (ch sub : Nat)
  /-- ROOST_REQUEST_ISSUE (R197). A Roost controller issues a burst and decodes a read. -/
  | roostRequestIssue (ch sub : Nat) (notReady : List Nat) (wire : WireErr) (cells : CellErrs)
  /-- ROOST_REFRESH_DUE (R196). An all-bank refresh falls due per tREFI. -/
  | roostRefreshDue (ch sub : Nat)
  /-- ROOST_TEMP_READ (R196). Every 32 ms the controller reads the DRAM refresh-rate indication and sets tREFI. -/
  | roostTempRead (ch : Nat) (hot : List Bool)
  /-- ROOST_PATROL_SCRUB (R198). The Roost scrubber reads a line in a free slot. -/
  | roostPatrolScrub (ch sector line : Nat) (wire : WireErr)
  /-- ROOST_RH_WINDOW_CLEAR (R200). At each 64 ms boundary the Roost THROTTLE counts clear. -/
  | roostRhWindowClear
  /-- CA_PARITY_RETRY (R190). ALERT_N reports CA parity, and the bridge reissues the commands, at most twice. -/
  | caParityRetry (ch sub : Nat) (reqs : List Nat)
  /-- WR_CRC_RESEND (R191). A write burst failing CRC-8 is discarded and resent, at most twice. -/
  | wrCrcResend (ch sub req : Nat)
  /-- ROOST_RETRAIN_CHECK (R193). Every 128 ms a bridge compares its temperature and retrains its channels. -/
  | roostRetrainCheck (bridge temp : Nat) (failed : List Nat)
  /-- ROOST_SELF_REFRESH_ENTRY (R201). Roost channels enter self-refresh and bridges enter RETAIN. -/
  | roostSelfRefreshEntry
  /-- ROOST_SELF_REFRESH_EXIT (R201). Roost channels leave self-refresh with restored training. -/
  | roostSelfRefreshExit (failed : List Nat)
  /-- ROOST_CH_CFG_WRITE (R195). A ROOST_CH_CFG write breaking the bounds is ignored whole with BAD_CFG. -/
  | roostChCfgWrite (ch : Nat) (w : CsrWr)
  /-- CRYPT_ENABLE (R213). Setting CRYPT_CTRL.ENABLE starts the sector table zero-fill. -/
  | cryptEnable (w : CsrWr)
  /-- SECTOR_TABLE_FILL_DONE (R213). The zero-fill completes, and CRYPT_STATUS becomes READY. -/
  | sectorTableFillDone
  /-- SECTOR_LINE_READ (R216). A line read of a SECTOR sector is served from the merge buffer or unsealed and verified. -/
  | sectorLineRead (m : Master) (addr : Nat)
  /-- SECTOR_LINE_WRITE (R220). A line write merges into a merge entry, allocating one on a miss. -/
  | sectorLineWrite (m : Master) (addr : Nat) (data : List Byte)
  /-- MERGE_HOLD_EXPIRY (R220). MERGE_HOLD_NS expires: the sector read starts, or the dirty entry is sealed and written back. -/
  | mergeHoldExpiry (sector : Nat)
  /-- RAW_SECTOR_READ (R217). A raw read returns ciphertext and record to the Roost engine or Crypt class. -/
  | rawSectorRead (m : Master) (sector : Nat)
  /-- RAW_SECTOR_WRITE (R217). A raw write stores a given ciphertext and record. -/
  | rawSectorWrite (m : Master) (sector : Nat) (record : List Byte) (cipher : List Byte)
  /-- REKEY_SECTOR (R225). The rekey walk reseals one old-set sector of the domain under the new set. -/
  | rekeySector
  /-- JESS_STAGE_GO (R242). A GO write to JESS_STAGE_CMD validates and commits the staged region or refuses it. -/
  | jessStageGo (w : CsrWr)
  /-- JESS_CHECKER_APPLY (R245). A checker applies a committed region write within 2 µs. -/
  | jessCheckerApply (checker : Nat)
  /-- JESS_SYNC_GO (R246). A GO write to JESS_SYNC starts a numbered sync. -/
  | jessSyncGo (w : CsrWr)
  /-- JESS_SYNC_DONE (R246). A sync completes when every checker has applied earlier commits, and DONE_SEQ advances. -/
  | jessSyncDone
  /-- JESS_CHECKER_RELOAD (R248). A checker reloads the whole master table after its reset before accepting requests. -/
  | jessCheckerReload (checker : Nat)
  /-- FLIT_RECEIVE (R253). A Kettle flit is received: accepted, discarded, or starting a replay run, with ACK, NAK and credits applied. -/
  | flitReceive (link : Nat) (f : Flit)
  /-- REPLAY_REQUEST_TIMER (R254). Every 3.125 µs of a replay run a further replay is requested. -/
  | replayRequestTimer (link : Nat)
  /-- LINK_DOWN_TIMEOUT (R254). A replay run or lock loss lasting 50 µs declares the link down. -/
  | linkDownTimeout (link : Nat)
  /-- RD (R260). An RD request message is decoded, checked at Jess and answered with RD_DATA. -/
  | rd (link : Nat) (m : KMsg)
  /-- WR (R260). A WR message writes lines and is answered with ACK. -/
  | wr (link : Nat) (m : KMsg)
  /-- WR_MASK (R260). A WR_MASK message writes one masked line and is answered with ACK. -/
  | wrMask (link : Nat) (m : KMsg)
  /-- ADD (R260). An ADD message applies Kite adds and is acknowledged after they are applied. -/
  | add (link : Nat) (m : KMsg)
  /-- CMD (R467). A CMD message appends its entries to the push queue pair's SQ. -/
  | cmd (link : Nat) (m : KMsg)
  /-- FWD (R95). A FWD message executes the forwarded command on the home package. -/
  | fwd (link : Nat) (m : KMsg)
  /-- BUDDY_SEC (R54). A BUDDY_SEC message stores one ciphertext sector of a buddy copy. -/
  | buddySec (link : Nat) (m : KMsg)
  /-- BUDDY_COMMIT (R54). A BUDDY_COMMIT message stores the commit record in the buddy directory and is ACKed. -/
  | buddyCommit (link : Nat) (m : KMsg)
  /-- BUDDY_DEL (R51). A BUDDY_DEL message deletes the buddy copy of a handle. -/
  | buddyDel (link : Nat) (m : KMsg)
  /-- CLAIM (R55). A CLAIM message closes the live session of a recovered handle. -/
  | claim (link : Nat) (m : KMsg)
  /-- EXP_HDR (R108). An export header from the gateway begins an import. -/
  | expHdr (link : Nat) (m : KMsg)
  /-- EXP_SEC (R108). An export sector record is verified and stored for an import. -/
  | expSec (link : Nat) (m : KMsg)
  /-- IMP_REQ (R262). An IMP_REQ requests an export stream by STREAM_ID. -/
  | impReq (link : Nat) (m : KMsg)
  /-- RD_DATA (R256). An RD_DATA response completes an outstanding read, or is discarded when no request is outstanding. -/
  | rdData (link : Nat) (m : KMsg)
  /-- ACK (R260). An ACK response completes an outstanding write, add or export message. -/
  | ack (link : Nat) (m : KMsg)
  /-- REPLY (R467). A REPLY message delivers reply entries and the SQ head credit. -/
  | replyMsg (link : Nat) (m : KMsg)
  /-- FWD_REPLY (R36). A FWD_REPLY message is written as a reply into the submitter's RQ. -/
  | fwdReply (link : Nat) (m : KMsg)
  /-- RELAY_MESSAGE (R265). An intermediate forwards a VIA message on link DEST, or answers NO_ROUTE or LINK_LOST. -/
  | relayMessage (link : Nat) (m : KMsg)
  /-- PRESENCE (R275). A PRESENCE message updates a peer's state and, with a new nonce, errors outstanding requests. -/
  | presence (link : Nat) (m : KMsg)
  /-- LINKSTATE (R263). A LINKSTATE message updates a peer's link-up vector. -/
  | linkstate (link : Nat) (m : KMsg)
  /-- PROBE (R264). A PROBE is relayed toward its target, or ignored when RELAY_SERVE is 0. -/
  | probe (link : Nat) (m : KMsg)
  /-- PROBE_ACK (R264). A PROBE_ACK makes the lowest pending candidate the intermediate. -/
  | probeAck (link : Nat) (m : KMsg)
  /-- ROUTE_FENCE (R267). A ROUTE_FENCE is answered with FENCE_ACK over the old route. -/
  | routeFence (link : Nat) (m : KMsg)
  /-- FENCE_ACK (R267). A FENCE_ACK lets the router switch to the new route. -/
  | fenceAck (link : Nat) (m : KMsg)
  /-- LEAVE (R276). A LEAVE sets LEAVING for the peer and reroutes around it. -/
  | leave (link : Nat) (m : KMsg)
  /-- JOIN (R276). A JOIN clears LEAVING for the peer. -/
  | join (link : Nat) (m : KMsg)
  /-- DOWN_REQ (R272). A DOWN_REQ is answered with DOWN_ACK and the link goes to keeper mode. -/
  | downReq (link : Nat) (m : KMsg)
  /-- DOWN_ACK (R272). A DOWN_ACK lets the link be taken to keeper mode. -/
  | downAck (link : Nat) (m : KMsg)
  /-- SLOT_SYNC (R269). A SLOT_SYNC aligns the slot counter to the gateway. -/
  | slotSync (link : Nat) (m : KMsg)
  /-- TOD (R339). A TOD message labels the latest accepted edge, or is rejected. -/
  | tod (link : Nat) (m : KMsg)
  /-- WAKE (R306). A WAKE message on a keeper link starts a stoop wake. -/
  | wake (link : Nat) (m : KMsg)
  /-- READY (R81). A READY message reports a peer's or gateway partner's READY. -/
  | ready (link : Nat) (m : KMsg)
  /-- RESPONSE_TIMEOUT (R261). An RD, WR, WR_MASK or ADD with no response after 4 ms completes with an error. -/
  | responseTimeout (tag : Nat)
  /-- LINKSTATE_TIMER (R263). Every 100 µs LINKSTATE is sent on every up link. -/
  | linkstateTimer
  /-- PROBE_ROUND_TIMEOUT (R264). A 20 µs probe round ends unanswered, and the next round or NONE follows. -/
  | probeRoundTimeout (target : Nat)
  /-- STRANDED_HOLD_EXPIRY (R266). 1 ms after a route became NONE held messages complete as stranded. -/
  | strandedHoldExpiry (target : Nat)
  /-- REPROBE_TIMER (R266). Every 10 ms a NONE route is probed again. -/
  | reprobeTimer (target : Nat)
  /-- ROUTE_FENCE_TIMEOUT (R267). 200 µs without FENCE_ACK switches the route anyway. -/
  | routeFenceTimeout (target : Nat)
  /-- SLOT_SYNC_TIMEOUT (R269). After 1 s without SLOT_SYNC the package adopts a peer's phase or its own. -/
  | slotSyncTimeout
  /-- TRAINING_SLOT_START (R270). A link's slot starts and full-rate training begins when the conditions hold. -/
  | trainingSlotStart (link : Nat)
  /-- LINK_TRAINING_COMPLETE (R270). Training ends: the link becomes UP, or is found miswired, or fails. -/
  | linkTrainingComplete (link : Nat) (e : TrainEnd)
  /-- PRESENCE_TIMER (R275). Every 1 ms PRESENCE is sent on every link. -/
  | presenceTimer
  /-- PERCH_HOLD_EXPIRY (R274). After 50 ms messages held for a perched target complete as stranded. -/
  | perchHoldExpiry (target : Nat)
  /-- WAKE_RESEND_TIMER (R274). Every 10 ms WAKE is sent again to a perched target. -/
  | wakeResendTimer (target : Nat)
  /-- KTL_LINK_DISABLE (R272). Writing KTL_LINK_CTRL.ENABLE 0 acts as LINK_CONTROL DISABLE. -/
  | ktlLinkDisable (link : Nat) (w : CsrWr)
  /-- KTL_LINK_ENABLE (R272). Writing KTL_LINK_CTRL.ENABLE 1 acts as LINK_CONTROL ENABLE. -/
  | ktlLinkEnable (link : Nat) (w : CsrWr)
  /-- KTL_LINK_RETRAIN (R272). Writing KTL_LINK_CTRL.RETRAIN 1 acts as LINK_CONTROL RETRAIN. -/
  | ktlLinkRetrain (link : Nat) (w : CsrWr)
  /-- PCIE_CONFIG_REQUEST (R305). A PCIe configuration request is answered, or answered with Request Retry Status. -/
  | pcieConfigRequest (fn off : Nat)
  /-- PCIE_BAR0_READ (R305). A BAR0 read is answered, or returns all ones and wakes a perched package. -/
  | pcieBar0Read (off size : Nat)
  /-- PCIE_L1_EXIT (R306). A host-initiated L1 exit wakes a perched package. -/
  | pcieL1Exit
  /-- CORE_RELEASE (R281). A write of RELEASE starts a HALTED core at its vector in M-mode. -/
  | coreRelease (core : Nat) (w : CsrWr)
  /-- CORE_RESET (R282). A write of RESET block-resets a core after writing back its dirty lines. -/
  | coreReset (core : Nat) (w : CsrWr)
  /-- AMO (R292). A core atomic operation is performed at the Mews cache bank. -/
  | amo (op : AmoOp) (wide : Bool) (m : Master) (addr : Nat) (rs2 : Nat)
  /-- AMOFADD (R293). AMOFADD adds a floating-point operand to memory at the cache bank. -/
  | amofadd (wide : Bool) (m : Master) (addr : Nat) (rs2 : Nat)
  /-- LOAD_RESERVED (R294). LR sets a reservation on its line. -/
  | loadReserved (wide : Bool) (m : Master) (addr : Nat)
  /-- STORE_CONDITIONAL (R294). SC stores only while the reservation holds. -/
  | storeConditional (wide : Bool) (m : Master) (addr : Nat) (rs2 : Nat)
  /-- RESERVATION_TIMEOUT (R294). A reservation with no SC for 1,024 core cycles is broken. -/
  | reservationTimeout (core : Nat)
  /-- FENCE_W (R289). A FENCE with W completes when every earlier store is performed at its target. -/
  | fenceW (core : Nat)
  /-- CBO_CLEAN (R287). cbo.clean writes a dirty line back and keeps it. -/
  | cboClean (m : Master) (addr : Nat)
  /-- CBO_FLUSH (R287). cbo.flush writes back and evicts a line, or cleans it when locked. -/
  | cboFlush (m : Master) (addr : Nat)
  /-- CBO_INVAL (R287). cbo.inval acts as cbo.flush. -/
  | cboInval (m : Master) (addr : Nat)
  /-- CBO_ZERO (R287). cbo.zero writes a zero line. -/
  | cboZero (m : Master) (addr : Nat)
  /-- PREFETCH_HINT (R287). A Zicbop prefetch is issued or dropped. -/
  | prefetchHint (m : Master) (addr : Nat) (missQueue way : Nat)
  /-- CACHE_ACCESS (R285). A core, fetcher or mailbox access is checked at checker 0 and served or filled by the Mews cache. -/
  | cacheAccess (a : CacheAcc)
  /-- MEWS_LOCK_WRITE (R295). A write of MEWS_RING_POOL or MEWS_LOCK_i is validated whole and starts filling. -/
  | mewsLockWrite (idx : Nat) (w : CsrWr)
  /-- LOCK_FILL_COMPLETE (R295). A locked range becomes resident and FILLING clears. -/
  | lockFillComplete
  /-- CLEAN_ALL (R287). A write of CLEAN_ALL writes back every dirty line. -/
  | cleanAll (w : CsrWr)
  /-- IMSIC_SETEIPNUM (R297). A write to an interrupt file's seteipnum_le raises an identity. -/
  | imsicSeteipnum (core file : Nat) (w : CsrWr)
  /-- FLASH_READ (R299). Flash OP READ copies flash into an HBM buffer. -/
  | flashRead (w : CsrWr)
  /-- FLASH_PROGRAM (R299). Flash OP PROGRAM writes whole pages, refused on protected slots. -/
  | flashProgram (w : CsrWr)
  /-- FLASH_ERASE (R299). Flash OP ERASE erases 64 KiB blocks, refused on protected slots. -/
  | flashErase (w : CsrWr)
  /-- FLASH_COMMAND_DONE (R299). A flash command finishes, and STATE becomes DONE with ERR set. -/
  | flashCommandDone (deviceError : Bool)
  /-- FLASH_PROTECT_WRITE (R300). A W1S write protects a flash slot until COLD reset. -/
  | flashProtectWrite (w : CsrWr)
  /-- CREDIT_WINDOW_START (R311). At each 100 µs window the grant is computed, the bucket updated, work dispatched and clocks set. -/
  | creditWindowStart (win : WindowIn)
  /-- DIE_THERMAL_TRIP (R313). A die sensor reaching DIE_TRIP_C stops the die's passes with an FA fault. -/
  | dieThermalTrip (die : Nat) (tempDc : Nat)
  /-- PERCH_ENTRY_START (R304). 100 µs after the reply PERCH entry runs its steps to CORE_EN falling. -/
  | perchEntryStart
  /-- PERCH_ENTRY_TIMEOUT (R304). Commands still running 10 ms into entry abandon it. -/
  | perchEntryTimeout
  /-- WAKE_TIMER (R306). The elapsed counter reaching PWR_WAKE_AT with ENABLE starts a stoop wake. -/
  | wakeTimer
  /-- PWR_WAKE_AT_WRITE (R306). A write of PWR_WAKE_AT arms the timer, firing at once when already passed. -/
  | pwrWakeAtWrite (w : CsrWr)
  /-- PWR_CAP_WRITE (R315). A write of PWR_CAP clamps the values and applies from the next window. -/
  | pwrCapWrite (w : CsrWr)
  /-- PWR_CFG_WRITE (R332). A write of PWR_THERM_CFG, PWR_GOV_CFG or PWR_POLICY is applied or ignored with BAD_CFG. -/
  | pwrCfgWrite (which : PwrCfg) (w : CsrWr)
  /-- PPS_EDGE (R338). An RTIME_PPS edge is timestamped and accepted or rejected. -/
  | ppsEdge (jitter : Nat)
  /-- HOLDOVER_TIMEOUT (R342). No edge for 1.5 s or no label for 3 s enters HOLDOVER. -/
  | holdoverTimeout
  /-- SLEW_COMPLETE (R343). The slew correction reaches zero and quality becomes LOCKED. -/
  | slewComplete
  /-- PPS_OUT_RISE (R344). PPS_OUT rises at an integer rack second. -/
  | ppsOutRise
  /-- PPS_OUT_FALL (R344). PPS_OUT falls after PPS_WIDTH_US. -/
  | ppsOutFall
  /-- ANCHOR_UPDATE (R335). Every 1 ms the anchor pair is written. -/
  | anchorUpdate
  /-- TIME_ALARM_EXPIRY (R337). Epoch ns reaching TIME_ALARM sets ALARM and clears ENABLE. -/
  | timeAlarmExpiry
  /-- TIME_ALARM_WRITE (R337). A write of TIME_ALARM arms it, firing next cycle when already past. -/
  | timeAlarmWrite (w : CsrWr)
  /-- TIME_CAPTURE (R347). A GO write samples epoch and rack time, quality and uncertainty in one cycle. -/
  | timeCapture (w : CsrWr)
  /-- FAULT_EVENT (R351). A source reports an event: it is counted, logged and starts or raises a ladder. -/
  | faultEvent (evs : List FaultEv)
  /-- CE_WINDOW_ROLLOVER (R350). The CE counting window ends and the count restarts. -/
  | ceWindowRollover
  /-- GRACE_TIMER_EXPIRY (R352). A grace timer expires and the ladder takes its next step. -/
  | graceTimerExpiry (srcs : List Nat)
  /-- UNIT_RESET_END (R354). A unit leaves reset and RESET_END is logged. -/
  | unitResetEnd (unit : Nat)
  /-- RESET_OVERDUE (R354). A unit not out of reset in twice its limit becomes FAILED and a WARM reset is taken. -/
  | resetOverdue (unit : Nat)
  /-- SHADOW_WINDOW_CLOSE (R359). 50 µs after a unit leaves reset its shadow window closes. -/
  | shadowWindowClose (unit : Nat)
  /-- WARM_LIMIT_EXPIRY (R356). A Watch WARM reset without READY in WARM_LIMIT_MS takes TRAY_ALARM. -/
  | warmLimitExpiry
  /-- TIMEOUT_DETECTOR_FIRE (R362). A request with no response or hold notice for TMO_US errors and raises a UC event. -/
  | timeoutDetectorFire (det : Nat) (m : Master) (kind : AccKind) (addr : Nat)
  /-- ACK_HANDLED (R357). A WATCH_ACK HANDLED stops a running ladder. -/
  | ackHandled (w : CsrWr)
  /-- ACK_EXTEND (R357). A WATCH_ACK EXTEND restarts the grace timer, at most 3 times. -/
  | ackExtend (w : CsrWr)
  /-- ACK_ADVANCE (R357). A WATCH_ACK ADVANCE takes the next step at once. -/
  | ackAdvance (w : CsrWr)
  /-- ALARM_CLEAR (R356). A write of CLEAR to WATCH_ALARM_CLR releases FAULT_N. -/
  | alarmClear (w : CsrWr)
  /-- PENDING_CLEAR (R358). A write of 1 to PENDING clears it, and resets a non-running ladder. -/
  | pendingClear (src : Nat) (w : CsrWr)
  /-- SOURCE_CFG_WRITE (R366). A WATCH_SRC_n_CFG write is applied or ignored whole with BAD_CFG. -/
  | sourceCfgWrite (src : Nat) (w : CsrWr)
  /-- SOURCE_FORCE (R364). FORCE pulses one injected event on the source. -/
  | sourceForce (src : Nat) (w : CsrWr)
  /-- UNIT_RELEASE (R353). RELEASE in WATCH_RU_u_CFG ends quarantine. -/
  | unitRelease (unit : Nat) (w : CsrWr)
  /-- UNIT_RESET (R368). RESET in WATCH_RU_u_CFG requests a block reset as BLOCK_RESET does. -/
  | unitReset (unit : Nat) (w : CsrWr)
  /-- TAMPER_EVENT (R380). An unmasked sensor asserts: TAMPER latches, keys are zeroized and the package enters HOODED. -/
  | tamperEvent (sensors : Nat) (bankDone : Bool)
  /-- TRNG_HEALTH_FAIL (R378). A failed health test withholds TRNG output with a UC fault. -/
  | trngHealthFail
  /-- TRNG_HEALTH_RECOVER (R378). 1,024 passing samples resume TRNG output. -/
  | trngHealthRecover
  /-- SVN_ADVANCE (R372). A write of SEC_SVN_ADVANCE programs OTP SVN bits up to TARGET. -/
  | svnAdvance (w : CsrWr)
  /-- TAMPER_MASK_WRITE (R390). SEC_TAMPER_MASK accepts writes only while PORT_OPEN is 1. -/
  | tamperMaskWrite (w : CsrWr)
  /-- TAP_RESET (R451). TRST_N or five TMS-high cycles put the TAP in Test-Logic-Reset with IDCODE. -/
  | tapReset
  /-- TAP_EXTEST (R455). EXTEST drives the boundary cells, or is rejected while sealed. -/
  | tapExtest (pins update : Nat)
  /-- TAP_IDCODE (R453). IDCODE selects the 32-bit IDCODE register. -/
  | tapIdcode
  /-- TAP_SAMPLE_PRELOAD (R452). SAMPLE/PRELOAD samples and preloads the boundary register. -/
  | tapSamplePreload (pins update : Nat)
  /-- TAP_CLAMP (R455). CLAMP holds the outputs with bypass selected, or is rejected while sealed. -/
  | tapClamp
  /-- TAP_HIGHZ (R455). HIGHZ floats the outputs, or is rejected while sealed. -/
  | tapHighz
  /-- TAP_EXTEST_PULSE (R455). EXTEST_PULSE runs the IEEE 1149.6 pulse test on AC lanes. -/
  | tapExtestPulse (pins update : Nat)
  /-- TAP_EXTEST_TRAIN (R455). EXTEST_TRAIN runs the IEEE 1149.6 train test on AC lanes. -/
  | tapExtestTrain (pins update : Nat)
  /-- TAP_BYPASS (R452). BYPASS, or an unassigned code, selects the bypass register. -/
  | tapBypass
  /-- TAP_OPEN (R456). An Update-DR of the OPEN key starts the port-opening sequence. -/
  | tapOpen (value : Nat)
  /-- OPEN_COMPLETE (R389). OPEN finishes zeroizing and destroying the DUS bank and sets PORT_OPEN, or fails as tamper. -/
  | openComplete (ok : Bool)
  /-- TAP_DBG_MEM (R457). An Update-DR of DBG_MEM issues one 8 B debug access. -/
  | tapDbgMem (word : Nat)
  /-- TGT_STATUS (R400). The STATUS command returns the 24 B status block and clears CHANGED. -/
  | tgtStatus (code : Nat) (whole : Bool)
  /-- MBOX_STATUS (R396). The MBOX_STATUS command returns the mailbox status byte. -/
  | mboxStatus
  /-- SET_MODE (R404). The SET_MODE command sets NACK_BUSY or STRETCH from the next START. -/
  | setMode (data : Nat) (pec : Option Nat)
  /-- MBOX_WRITE (R401). The MBOX_WRITE command fills the write stage, or is busy, and wakes a perched package. -/
  | mboxWrite (count : Nat) (data : List Byte) (pec : Option Nat)
  /-- MBOX_READ (R402). The MBOX_READ command returns the staged reply. -/
  | mboxRead
  /-- MBOX_POP (R402). The MBOX_POP command clears REPLY_READY and advances the RQ head. -/
  | mboxPop (pec : Option Nat)
  /-- ALERT_RESPONSE (R403). An Alert Response Address read is answered with the target's address and ALERT clears. -/
  | alertResponse (won : Bool)
  /-- STRETCH_TIMEOUT (R398). After 10 ms of stretch the target releases SCL and NACKs with BUSY_NACK. -/
  | stretchTimeout
  /-- TARGET_BUS_TIMEOUT (R399). SCL or SDA low for 30 ms resets the target interface with a CE fault. -/
  | targetBusTimeout
  /-- MAILBOX_MOVE (R401). The mailbox engine moves the staged entry into queue pair 4,095's SQ. -/
  | mailboxMove
  /-- MAILBOX_REPLY_STAGE (R402). The engine copies the oldest unpopped reply into the reply stage and sets REPLY_READY. -/
  | mailboxReplyStage
  /-- MGMT_TGT_CFG_WRITE (R404). A firmware write of MGMT_TGT_CFG sets the mode from the next START. -/
  | mgmtTgtCfgWrite (w : CsrWr)
  /-- CONTROLLER_ROUND (R406). Every 1 ms the controller port polls the regulators and one sensor. -/
  | controllerRound (tries : List (Nat × CtlTry)) (meterMw : Nat)
  /-- MGMT_CTL_CFG_WRITE (R405). A write of MGMT_CTL_CFG or MGMT_CTL_DEV_i is applied or ignored with BAD_CFG. -/
  | mgmtCtlCfgWrite (dev : Option Nat) (w : CsrWr)
  /-- UART_RX_CHARACTER (R412). A received character is delivered or flagged as a framing, parity, break or overrun. -/
  | uartRxCharacter (n : Nat) (smp : List Bool)
  /-- UART_DATA_WRITE (R413). A write of MGMT_UARTn_DATA queues a byte, or drops it with TX_DROP. -/
  | uartDataWrite (n : Nat) (w : CsrWr)
  /-- UART_DATA_READ (R15). A read of MGMT_UARTn_DATA removes the oldest received byte. -/
  | uartDataRead (n : Nat) (m : Master) (size sub : Nat)
  /-- UART_TX_COMPLETE (R411). A character finishes on the line and the next is sent. -/
  | uartTxComplete (n : Nat)
  /-- SNAP_LOWER_READ (R10). A lower-half read of a SNAP register latches the upper half for the master. -/
  | snapLowerRead (m : Master) (addr : Nat)
  /-- SNAP_UPPER_READ (R11). An upper-half read returns and frees the latch, or the live value. -/
  | snapUpperRead (m : Master) (addr : Nat)
  /-- REGISTER_WRITE (R7). A write to a register with no row of its own updates its fields by their access codes. -/
  | registerWrite (addr : Nat) (w : CsrWr)
  /-- PERCH_POWER_LOSS (R301). Loss of the Perch supply takes the package from any state to OFF. -/
  | perchPowerLoss
  /-- PERCH_STARTUP_EXPIRY (R393). 2 ms after Perch power-on the target port may begin to answer, and a PWR_OK that rose earlier is acted on. -/
  | perchStartupExpiry
  /-- LOCK_LOSS (R254). A Kettle receiver loses PCS block lock or alignment-marker lock, which starts the 50 µs timer that declares the link down. -/
  | lockLoss (link : Nat)
  /-- KEEPER_UP (R270). A link's keeper comes up, so the link leaves ABSENT and may train in its slot. -/
  | keeperUp (link : Nat)
  /-- PCIE_LINK_UP (R420). The PCIe link finishes training, and configuration requests are answered normally from then on. -/
  | pcieLinkUp
  /-- CORE_WFI (R297). A core executes WFI and its STATE becomes WFI. -/
  | coreWfi (core : Nat)
  /-- PERCH_KEEPER_EXPIRY (R273). 1 ms after PRESENCE PERCH is sent, every link is taken to keeper mode during PERCH entry. -/
  | perchKeeperExpiry
  /-- LINK_WITHDRAW_EXPIRY (R272). 200 µs after LINKSTATE with the link down, DISABLE or RETRAIN sends DOWN_REQ. -/
  | linkWithdrawExpiry (link : Nat)
  /-- CORE_EN_LOW_EXPIRY (R308). Once CORE_EN has been low for 2 ms, a pending stoop wake raises CORE_EN. -/
  | coreEnLowExpiry
deriving DecidableEq, Repr

end Sys2Proof
end

