-- ==== Sys2Proof/Decode.lean ====
section
/-! DEFINITION. Words of the opcode table. No row of spec/opcode_table.json gives bits: its rows are events and register accesses, so no word spells a command. -/

namespace Sys2Proof

/-- The command that a word of the table spells: none, for the table gives its rows no bits. -/
def decodeTableWord (_nbits _w : Nat) : Option Instr := none

end Sys2Proof
end

