-- ==== Sys2Proof/Config.lean ====
section
/-! DEFINITION. What an implementation fixes and the spec leaves open: constants with no body, so that nothing proved of the model rests on a
value of theirs. -/

namespace Sys2Proof

/-- A byte of memory that holds undefined bits (R466), by draw and address. -/
opaque Config.freeByte : Nat → Nat → Byte

/-- The errors that the undefined check code of a lost line shows (R466), by count of losses and the key of the line. -/
opaque Config.lostErrs : Nat → Nat → List (Nat × Nat)

/-- PROB's 32-bit LFSR (R178): its next value, and whether a value fires. The spec gives neither its polynomial nor the values that fire, 2^21 of the 2^32. -/
opaque Config.lfsrNext : Nat → Nat
opaque Config.lfsrFires : Nat → Bool

/-- The way that the Mews cache's pseudo-LRU policy names, by draw and line (R285 names the policy only). -/
opaque Config.lruWay : Nat → Nat → Nat

/-- A one-bit outcome that the spec leaves unknown, by draw: whether a write that its retries gave up on was written (R168). -/
opaque Config.freeBit : Nat → Bool

/-- A random 64-bit draw of the TRNG (R333, R378), by draw. -/
opaque Config.trng : Nat → Word

/-- The epoch nonce of a draw, less 1: the TRNG draws again until the value is not 0 (R333). -/
opaque Config.epochNonce : Nat → Fin 18446744073709551615

/-- The fused values of TALON_DIE_BALLAST_MW and PWR_FUSE (R324, R468). -/
opaque Config.tileBallastMw : Nat
opaque Config.tileWorkMw : Nat
opaque Config.reserveUj : Nat

/-- The Tirlo firmware version that IDENTIFY returns (R109). -/
opaque Config.tirloVersion : Nat

/-- The binding of another package's queue pair, by package and queue pair, which a FWD message does not carry (R37, R93): its key domain, its PRIV and its PARTNER. -/
opaque Config.fwdDomain : Nat → Nat → Nat
opaque Config.fwdPriv : Nat → Nat → Nat
opaque Config.fwdPartner : Nat → Nat → Nat

/-- A die's scale s(f) · 32,768 at a clock below 2,000 MHz, as the power manager measures it, by die and MHz. -/
opaque Config.scaleAt : Nat → Nat → Nat

/-- The KV pool that Tirlo sets aside in HBM (R44): its first 64 KiB frame and its size in frames. -/
opaque Config.kvFirst : Nat
opaque Config.kvCount : Nat

/-- The power-state code that the STATUS block shows while only the Perch domain is up and no power state of its table holds. -/
opaque Config.powerCode : Nat

/-- The contents of the PCIe endpoint's configuration space, by function and offset. -/
opaque Config.pcieConfig : Nat → Nat → Nat

/-- The free frames of another package and whether its session table has a free slot, by draw and package: what a home package compares and asks for a new chunk (R56, R57), and no message tells. -/
opaque Config.peerFrames : Nat → Nat → Nat
opaque Config.peerSlot : Nat → Nat → Bool

/-- The HBM frame, of the package that holds a session's chunk, in which it keeps a page (R57, R132), by the session's handle and the page's key. -/
opaque Config.shardFrame : Nat → Nat → Nat

/-- Whether a plan of another package whose tile DMA reaches a tile of this one has the RACK_GROUP and key domain of one of the tile's plans (R131), which the message does not tell, by draw and the tile's
groups and domains. -/
opaque Config.peerGroup : Nat → List (Nat × Nat) → Bool

/-- The HBM area in which Tirlo places the session table and the page tables (R94): its first 64 KiB frame and its size in frames. -/
opaque Config.tabFirst : Nat
opaque Config.tabCount : Nat

/-- The operand pairs that a plan's code segment uses (R121), whose encoding belongs to the plan toolchain. -/
opaque Config.pairsOf : List Byte → List (ElemType × ElemType)

/-- A lane's result that R124 leaves open: which value within 2 ULP a quarter-rate function returns, by function and operand; a function's result where it has no exact value, the minimum or maximum of a NaN or of
zeros of both signs, a shift by 32 or more, by operation and operands. -/
opaque Config.vecUlp : VecOp → Nat → Nat
opaque Config.vecOpen : VecOp → Nat → Nat → Nat

/-- Where Tirlo places the rings of queue pair 4,095 in the ring pool: its SQ and its RQ. -/
opaque Config.mboxSq : Nat
opaque Config.mboxRq : Nat

/-- The OTP hashes of the boot public keys, and PROV_ID (table "OTP contents"). -/
opaque Config.bootHashEc : List Byte
opaque Config.bootHashMl : List Byte
opaque Config.provId : Nat

/-- ECDSA P-384 and ML-DSA-87 verification: public key, message, signature. -/
opaque Config.ecVerify : List Byte → List Byte → List Byte → Bool
opaque Config.mlVerify : List Byte → List Byte → List Byte → Bool

/-- The 80 bytes Z of a blob's unwrap (ECDH with TR_EC, then ML-KEM-1024 decapsulation), by DUS bank, EPH_EC and KEM_CT; none where EPH_EC is no point of P-384. -/
opaque Config.transportSecret : Nat → List Byte → List Byte → Option (List Byte)

/-- The transport public keys and the attestation signatures of a DUS bank. -/
opaque Config.trEcPub : Nat → List Byte
opaque Config.trKemPub : Nat → List Byte
opaque Config.attEcSign : Nat → List Byte → List Byte
opaque Config.attMlSign : Nat → List Byte → List Byte

end Sys2Proof
end

