-- ==== Sys2Proof/Machine/Regs.lean ====
section
/-! DEFINITION. The register map of the package: every register of the CSR space with its offset, its instances, its fields
with their access codes, its Reset column and its markings, taken from the register tables of chapters 01 to 17 of spec/.
An offset counts from 0x03F0_0000_0000 (R28). -/

namespace Sys2Proof.Machine

/-- The access codes of the table "Access codes" (00_scope.md). -/
inductive Access where
  | rw | ro | w1c | w1s | rc | wo
deriving DecidableEq, Repr

/-- A field of a register, or of each instance of an indexed register: the offset of instance (0,0,0), the strides of the
three indices, the lowest bit and the width. -/
structure RF where
  base : Nat
  s1 : Nat
  s2 : Nat
  s3 : Nat
  lo : Nat
  w : Nat
deriving DecidableEq, Repr

/-- The offset of the instance (i, j, k) of a field's register. -/
def RF.addr (f : RF) (i j k : Nat) : Nat := f.base + i * f.s1 + j * f.s2 + k * f.s3

/-- A row of the register map: where the register's instances lie, its Reset column, its markings (SNAP, W64, kept across
WARM reset, kept across BLOCK reset, in the Perch domain) and its fields (lowest bit, width, access code). A bit of no field is RSV. -/
structure RegInfo where
  base : Nat
  dims : List (Nat × Nat)
  reset : Word
  snap : Bool
  w64 : Bool
  warm : Bool
  block : Bool
  perch : Bool
  fields : List (Nat × Nat × Access)
deriving DecidableEq, Repr

/-- Whether the offset `o` from an indexed register's first instance is that of one of its instances. -/
def dimsCover : List (Nat × Nat) → Nat → Bool
  | [], o => o == 0
  | (n, s) :: r, o => decide (o / s < n) && dimsCover r (o % s)

/-- Whether `a` is the offset of an instance of the register. -/
def RegInfo.covers (r : RegInfo) (a : Nat) : Bool := decide (r.base ≤ a) && dimsCover r.dims (a - r.base)

/-- TOP_IDENT, chapter 01: the whole word. -/
def R.TOP_IDENT : RF := ⟨0x0, 0x0, 0x0, 0x0, 0, 64⟩
def R.TOP_IDENT.IDCODE : RF := ⟨0x0, 0x0, 0x0, 0x0, 0, 32⟩
def R.TOP_IDENT.STEPPING : RF := ⟨0x0, 0x0, 0x0, 0x0, 32, 8⟩
/-- TOP_POSITION, chapter 01: the whole word. -/
def R.TOP_POSITION : RF := ⟨0x8, 0x0, 0x0, 0x0, 0, 64⟩
def R.TOP_POSITION.PKG_ID : RF := ⟨0x8, 0x0, 0x0, 0x0, 0, 6⟩
def R.TOP_POSITION.TRAY : RF := ⟨0x8, 0x0, 0x0, 0x0, 6, 4⟩
def R.TOP_POSITION.POS : RF := ⟨0x8, 0x0, 0x0, 0x0, 10, 2⟩
def R.TOP_POSITION.STRAP_CHANGED : RF := ⟨0x8, 0x0, 0x0, 0x0, 12, 1⟩
/-- TOP_STRAP_CHG_CNT, chapter 01: the whole word. -/
def R.TOP_STRAP_CHG_CNT : RF := ⟨0x10, 0x0, 0x0, 0x0, 0, 64⟩
def R.TOP_STRAP_CHG_CNT.COUNT : RF := ⟨0x10, 0x0, 0x0, 0x0, 0, 32⟩
/-- TOP_D2D_STATUS, chapter 01: the whole word. -/
def R.TOP_D2D_STATUS : RF := ⟨0x18, 0x0, 0x0, 0x0, 0, 64⟩
def R.TOP_D2D_STATUS.LINK_UP : RF := ⟨0x18, 0x0, 0x0, 0x0, 0, 10⟩
def R.TOP_D2D_STATUS.LINK_FAILED : RF := ⟨0x18, 0x0, 0x0, 0x0, 16, 10⟩
def R.TOP_D2D_STATUS.DEGRADED_MEWS : RF := ⟨0x18, 0x0, 0x0, 0x0, 32, 4⟩
def R.TOP_D2D_STATUS.DEGRADED_RING : RF := ⟨0x18, 0x0, 0x0, 0x0, 36, 4⟩
def R.TOP_D2D_STATUS.DEGRADED_BRIDGE : RF := ⟨0x18, 0x0, 0x0, 0x0, 40, 2⟩
/-- TOP_SCRATCH, chapter 01: the whole word. -/
def R.TOP_SCRATCH : RF := ⟨0x20, 0x0, 0x0, 0x0, 0, 64⟩
/-- TOP_D2D_RETRY, chapter 01: the whole word. -/
def R.TOP_D2D_RETRY : RF := ⟨0x100, 0x8, 0x0, 0x0, 0, 64⟩
/-- TCI_STATUS, chapter 03: the whole word. -/
def R.TCI_STATUS : RF := ⟨0x1000000, 0x0, 0x0, 0x0, 0, 64⟩
def R.TCI_STATUS.READY : RF := ⟨0x1000000, 0x0, 0x0, 0x0, 0, 1⟩
def R.TCI_STATUS.ADMIN_LIVE : RF := ⟨0x1000000, 0x0, 0x0, 0x0, 1, 1⟩
def R.TCI_STATUS.STORM : RF := ⟨0x1000000, 0x0, 0x0, 0x0, 2, 1⟩
def R.TCI_STATUS.QP_LIVE : RF := ⟨0x1000000, 0x0, 0x0, 0x0, 16, 13⟩
/-- TCI_DB_DROPPED_CNT, chapter 03: the whole word. -/
def R.TCI_DB_DROPPED_CNT : RF := ⟨0x1000008, 0x0, 0x0, 0x0, 0, 64⟩
def R.TCI_DB_DROPPED_CNT.COUNT : RF := ⟨0x1000008, 0x0, 0x0, 0x0, 0, 32⟩
/-- TCI_INTAKE, chapter 03: the whole word. -/
def R.TCI_INTAKE : RF := ⟨0x1000010, 0x0, 0x0, 0x0, 0, 64⟩
def R.TCI_INTAKE.OCCUPANCY : RF := ⟨0x1000010, 0x0, 0x0, 0x0, 0, 15⟩
def R.TCI_INTAKE.REJECT_LEVEL : RF := ⟨0x1000010, 0x0, 0x0, 0x0, 16, 15⟩
/-- TCI_REJECT_CNT, chapter 03: the whole word. -/
def R.TCI_REJECT_CNT : RF := ⟨0x1000018, 0x0, 0x0, 0x0, 0, 64⟩
/-- TCI_EVENT, chapter 03: the whole word. -/
def R.TCI_EVENT : RF := ⟨0x1000020, 0x0, 0x0, 0x0, 0, 64⟩
def R.TCI_EVENT.STORM_ENTERED : RF := ⟨0x1000020, 0x0, 0x0, 0x0, 0, 1⟩
def R.TCI_EVENT.QP_ERROR : RF := ⟨0x1000020, 0x0, 0x0, 0x0, 1, 1⟩
def R.TCI_EVENT.PARTNER_MISMATCH : RF := ⟨0x1000020, 0x0, 0x0, 0x0, 2, 1⟩
/-- TCI_STORM_CNT, chapter 03: the whole word. -/
def R.TCI_STORM_CNT : RF := ⟨0x1000028, 0x0, 0x0, 0x0, 0, 64⟩
def R.TCI_STORM_CNT.COUNT : RF := ⟨0x1000028, 0x0, 0x0, 0x0, 0, 32⟩
/-- TCI_QP_ERROR_CNT, chapter 03: the whole word. -/
def R.TCI_QP_ERROR_CNT : RF := ⟨0x1000030, 0x0, 0x0, 0x0, 0, 64⟩
def R.TCI_QP_ERROR_CNT.COUNT : RF := ⟨0x1000030, 0x0, 0x0, 0x0, 0, 32⟩
/-- TCI_MISMATCH_CNT, chapter 03: the whole word. -/
def R.TCI_MISMATCH_CNT : RF := ⟨0x1000038, 0x0, 0x0, 0x0, 0, 64⟩
def R.TCI_MISMATCH_CNT.COUNT : RF := ⟨0x1000038, 0x0, 0x0, 0x0, 0, 32⟩
/-- TCI_FETCH_CFG, chapter 03: the whole word. -/
def R.TCI_FETCH_CFG : RF := ⟨0x1000040, 0x0, 0x0, 0x0, 0, 64⟩
def R.TCI_FETCH_CFG.FETCH_BURST : RF := ⟨0x1000040, 0x0, 0x0, 0x0, 0, 6⟩
/-- TCI_ADMIN_SQ_BASE, chapter 03: the whole word. -/
def R.TCI_ADMIN_SQ_BASE : RF := ⟨0x1000080, 0x0, 0x0, 0x0, 0, 64⟩
def R.TCI_ADMIN_SQ_BASE.BASE : RF := ⟨0x1000080, 0x0, 0x0, 0x0, 12, 52⟩
/-- TCI_ADMIN_RQ_BASE, chapter 03: the whole word. -/
def R.TCI_ADMIN_RQ_BASE : RF := ⟨0x1000088, 0x0, 0x0, 0x0, 0, 64⟩
def R.TCI_ADMIN_RQ_BASE.BASE : RF := ⟨0x1000088, 0x0, 0x0, 0x0, 12, 52⟩
/-- TCI_ADMIN_CFG, chapter 03: the whole word. -/
def R.TCI_ADMIN_CFG : RF := ⟨0x1000090, 0x0, 0x0, 0x0, 0, 64⟩
def R.TCI_ADMIN_CFG.ENABLE : RF := ⟨0x1000090, 0x0, 0x0, 0x0, 0, 1⟩
def R.TCI_ADMIN_CFG.SQ_LOG2 : RF := ⟨0x1000090, 0x0, 0x0, 0x0, 4, 5⟩
def R.TCI_ADMIN_CFG.RQ_LOG2 : RF := ⟨0x1000090, 0x0, 0x0, 0x0, 9, 5⟩
/-- TCI_DB_SQ, chapter 03: the whole word. -/
def R.TCI_DB_SQ : RF := ⟨0x1100000, 0x10, 0x0, 0x0, 0, 64⟩
def R.TCI_DB_SQ.INDEX : RF := ⟨0x1100000, 0x10, 0x0, 0x0, 0, 16⟩
/-- TCI_DB_RQ, chapter 03: the whole word. -/
def R.TCI_DB_RQ : RF := ⟨0x1100008, 0x10, 0x0, 0x0, 0, 64⟩
def R.TCI_DB_RQ.INDEX : RF := ⟨0x1100008, 0x10, 0x0, 0x0, 0, 16⟩
/-- TCI_QP_ATTR, chapter 03: the whole word. -/
def R.TCI_QP_ATTR : RF := ⟨0x1200000, 0x40, 0x0, 0x0, 0, 64⟩
def R.TCI_QP_ATTR.STATE : RF := ⟨0x1200000, 0x40, 0x0, 0x0, 0, 3⟩
def R.TCI_QP_ATTR.PARTNER : RF := ⟨0x1200000, 0x40, 0x0, 0x0, 3, 3⟩
def R.TCI_QP_ATTR.PRIV : RF := ⟨0x1200000, 0x40, 0x0, 0x0, 6, 2⟩
def R.TCI_QP_ATTR.PRIO : RF := ⟨0x1200000, 0x40, 0x0, 0x0, 8, 2⟩
def R.TCI_QP_ATTR.CRIT_OK : RF := ⟨0x1200000, 0x40, 0x0, 0x0, 10, 1⟩
def R.TCI_QP_ATTR.ONCE_EN : RF := ⟨0x1200000, 0x40, 0x0, 0x0, 11, 1⟩
def R.TCI_QP_ATTR.LOC : RF := ⟨0x1200000, 0x40, 0x0, 0x0, 12, 2⟩
def R.TCI_QP_ATTR.KEY_DOMAIN : RF := ⟨0x1200000, 0x40, 0x0, 0x0, 16, 12⟩
def R.TCI_QP_ATTR.CORE_MASK : RF := ⟨0x1200000, 0x40, 0x0, 0x0, 28, 12⟩
def R.TCI_QP_ATTR.PEER_PKG : RF := ⟨0x1200000, 0x40, 0x0, 0x0, 40, 6⟩
/-- TCI_QP_SQB, chapter 03: the whole word. -/
def R.TCI_QP_SQB : RF := ⟨0x1200008, 0x40, 0x0, 0x0, 0, 64⟩
/-- TCI_QP_RQB, chapter 03: the whole word. -/
def R.TCI_QP_RQB : RF := ⟨0x1200010, 0x40, 0x0, 0x0, 0, 64⟩
/-- TCI_QP_SIZE, chapter 03: the whole word. -/
def R.TCI_QP_SIZE : RF := ⟨0x1200018, 0x40, 0x0, 0x0, 0, 64⟩
def R.TCI_QP_SIZE.SQ_LOG2 : RF := ⟨0x1200018, 0x40, 0x0, 0x0, 0, 5⟩
def R.TCI_QP_SIZE.RQ_LOG2 : RF := ⟨0x1200018, 0x40, 0x0, 0x0, 5, 5⟩
def R.TCI_QP_SIZE.VECTOR : RF := ⟨0x1200018, 0x40, 0x0, 0x0, 10, 11⟩
def R.TCI_QP_SIZE.COAL_COUNT : RF := ⟨0x1200018, 0x40, 0x0, 0x0, 32, 16⟩
def R.TCI_QP_SIZE.COAL_TIME : RF := ⟨0x1200018, 0x40, 0x0, 0x0, 48, 16⟩
/-- TCI_QP_PTR, chapter 03: the whole word. -/
def R.TCI_QP_PTR : RF := ⟨0x1200020, 0x40, 0x0, 0x0, 0, 64⟩
def R.TCI_QP_PTR.SQ_HEAD : RF := ⟨0x1200020, 0x40, 0x0, 0x0, 0, 16⟩
def R.TCI_QP_PTR.SQ_TAIL : RF := ⟨0x1200020, 0x40, 0x0, 0x0, 16, 16⟩
def R.TCI_QP_PTR.RQ_TAIL : RF := ⟨0x1200020, 0x40, 0x0, 0x0, 32, 16⟩
def R.TCI_QP_PTR.RQ_HEAD : RF := ⟨0x1200020, 0x40, 0x0, 0x0, 48, 16⟩
/-- TCI_QP_CNT, chapter 03: the whole word. -/
def R.TCI_QP_CNT : RF := ⟨0x1200028, 0x40, 0x0, 0x0, 0, 64⟩
def R.TCI_QP_CNT.ADMITTED : RF := ⟨0x1200028, 0x40, 0x0, 0x0, 0, 32⟩
def R.TCI_QP_CNT.REJECTED : RF := ⟨0x1200028, 0x40, 0x0, 0x0, 32, 32⟩
/-- TCI_QP_RSV, chapter 03: the whole word. -/
def R.TCI_QP_RSV : RF := ⟨0x1200030, 0x40, 0x8, 0x0, 0, 64⟩
/-- TALON_TILE_STATUS, chapter 05: the whole word. -/
def R.TALON_TILE_STATUS : RF := ⟨0x10000000, 0x1000000, 0x10000, 0x0, 0, 64⟩
def R.TALON_TILE_STATUS.STATE : RF := ⟨0x10000000, 0x1000000, 0x10000, 0x0, 0, 3⟩
def R.TALON_TILE_STATUS.POISONED : RF := ⟨0x10000000, 0x1000000, 0x10000, 0x0, 3, 1⟩
def R.TALON_TILE_STATUS.PLAN : RF := ⟨0x10000000, 0x1000000, 0x10000, 0x0, 16, 16⟩
def R.TALON_TILE_STATUS.BATCH : RF := ⟨0x10000000, 0x1000000, 0x10000, 0x0, 32, 7⟩
/-- TALON_TILE_EVENT, chapter 05: the whole word. -/
def R.TALON_TILE_EVENT : RF := ⟨0x10000008, 0x1000000, 0x10000, 0x0, 0, 64⟩
def R.TALON_TILE_EVENT.UE : RF := ⟨0x10000008, 0x1000000, 0x10000, 0x0, 0, 1⟩
def R.TALON_TILE_EVENT.DMA_ERR : RF := ⟨0x10000008, 0x1000000, 0x10000, 0x0, 1, 1⟩
def R.TALON_TILE_EVENT.WDOG : RF := ⟨0x10000008, 0x1000000, 0x10000, 0x0, 2, 1⟩
/-- TALON_TILE_UE_CNT, chapter 05: the whole word. -/
def R.TALON_TILE_UE_CNT : RF := ⟨0x10000010, 0x1000000, 0x10000, 0x0, 0, 64⟩
def R.TALON_TILE_UE_CNT.COUNT : RF := ⟨0x10000010, 0x1000000, 0x10000, 0x0, 0, 32⟩
/-- TALON_TILE_DMA_ERR_CNT, chapter 05: the whole word. -/
def R.TALON_TILE_DMA_ERR_CNT : RF := ⟨0x10000018, 0x1000000, 0x10000, 0x0, 0, 64⟩
def R.TALON_TILE_DMA_ERR_CNT.COUNT : RF := ⟨0x10000018, 0x1000000, 0x10000, 0x0, 0, 32⟩
/-- TALON_TILE_WDOG_CNT, chapter 05: the whole word. -/
def R.TALON_TILE_WDOG_CNT : RF := ⟨0x10000020, 0x1000000, 0x10000, 0x0, 0, 64⟩
def R.TALON_TILE_WDOG_CNT.COUNT : RF := ⟨0x10000020, 0x1000000, 0x10000, 0x0, 0, 32⟩
/-- TALON_TILE_CE_CNT, chapter 05: the whole word. -/
def R.TALON_TILE_CE_CNT : RF := ⟨0x10000028, 0x1000000, 0x10000, 0x0, 0, 64⟩
def R.TALON_TILE_CE_CNT.COUNT : RF := ⟨0x10000028, 0x1000000, 0x10000, 0x0, 0, 32⟩
/-- TALON_TILE_ERR_ADDR, chapter 05: the whole word. -/
def R.TALON_TILE_ERR_ADDR : RF := ⟨0x10000030, 0x1000000, 0x10000, 0x0, 0, 64⟩
def R.TALON_TILE_ERR_ADDR.OFFSET : RF := ⟨0x10000030, 0x1000000, 0x10000, 0x0, 0, 22⟩
def R.TALON_TILE_ERR_ADDR.UNCORRECTED : RF := ⟨0x10000030, 0x1000000, 0x10000, 0x0, 22, 1⟩
/-- TALON_TILE_ENERGY, chapter 05: the whole word. -/
def R.TALON_TILE_ENERGY : RF := ⟨0x10000040, 0x1000000, 0x10000, 0x0, 0, 64⟩
/-- TALON_TILE_BALLAST_ENERGY, chapter 05: the whole word. -/
def R.TALON_TILE_BALLAST_ENERGY : RF := ⟨0x10000048, 0x1000000, 0x10000, 0x0, 0, 64⟩
/-- TALON_TILE_CYCLES, chapter 05: the whole word. -/
def R.TALON_TILE_CYCLES : RF := ⟨0x10000050, 0x1000000, 0x10000, 0x0, 0, 64⟩
/-- TALON_TILE_CONFLICT_CNT, chapter 05: the whole word. -/
def R.TALON_TILE_CONFLICT_CNT : RF := ⟨0x10000058, 0x1000000, 0x10000, 0x0, 0, 64⟩
/-- TALON_TILE_DMA, chapter 05: the whole word. -/
def R.TALON_TILE_DMA : RF := ⟨0x10000080, 0x1000000, 0x10000, 0x8, 0, 64⟩
def R.TALON_TILE_DMA.STATE : RF := ⟨0x10000080, 0x1000000, 0x10000, 0x8, 0, 2⟩
def R.TALON_TILE_DMA.ERR : RF := ⟨0x10000080, 0x1000000, 0x10000, 0x8, 2, 4⟩
def R.TALON_TILE_DMA.DONE : RF := ⟨0x10000080, 0x1000000, 0x10000, 0x8, 16, 32⟩
/-- TALON_DIE_CLOCK, chapter 05: the whole word. -/
def R.TALON_DIE_CLOCK : RF := ⟨0x10800000, 0x1000000, 0x0, 0x0, 0, 64⟩
def R.TALON_DIE_CLOCK.MHZ : RF := ⟨0x10800000, 0x1000000, 0x0, 0x0, 0, 12⟩
def R.TALON_DIE_CLOCK.CHANGING : RF := ⟨0x10800000, 0x1000000, 0x0, 0x0, 12, 1⟩
/-- TALON_DIE_GATE, chapter 05: the whole word. -/
def R.TALON_DIE_GATE : RF := ⟨0x10800008, 0x1000000, 0x0, 0x0, 0, 64⟩
def R.TALON_DIE_GATE.GATED : RF := ⟨0x10800008, 0x1000000, 0x0, 0x0, 0, 12⟩
def R.TALON_DIE_GATE.WAKING : RF := ⟨0x10800008, 0x1000000, 0x0, 0x0, 16, 12⟩
/-- TALON_DIE_BALLAST, chapter 05: the whole word. -/
def R.TALON_DIE_BALLAST : RF := ⟨0x10800010, 0x1000000, 0x0, 0x0, 0, 64⟩
def R.TALON_DIE_BALLAST.DUTY : RF := ⟨0x10800010, 0x1000000, 0x0, 0x0, 0, 7⟩
def R.TALON_DIE_BALLAST.ACTIVE : RF := ⟨0x10800010, 0x1000000, 0x0, 0x0, 7, 1⟩
/-- TALON_DIE_BALLAST_MW, chapter 05: the whole word. -/
def R.TALON_DIE_BALLAST_MW : RF := ⟨0x10800018, 0x1000000, 0x0, 0x0, 0, 64⟩
def R.TALON_DIE_BALLAST_MW.TILE_BALLAST_MW : RF := ⟨0x10800018, 0x1000000, 0x0, 0x0, 0, 16⟩
def R.TALON_DIE_BALLAST_MW.TILE_WORK_MW : RF := ⟨0x10800018, 0x1000000, 0x0, 0x0, 16, 16⟩
/-- TALON_DIE_SCRUB, chapter 05: the whole word. -/
def R.TALON_DIE_SCRUB : RF := ⟨0x10800020, 0x1000000, 0x0, 0x0, 0, 64⟩
def R.TALON_DIE_SCRUB.PERIOD_H : RF := ⟨0x10800020, 0x1000000, 0x0, 0x0, 0, 16⟩
/-- HBM_PC_STATUS, chapter 06: the whole word. -/
def R.HBM_PC_STATUS : RF := ⟨0x20000000, 0x1000000, 0x1000, 0x0, 0, 64⟩
def R.HBM_PC_STATUS.RQ_OCC : RF := ⟨0x20000000, 0x1000000, 0x1000, 0x0, 0, 7⟩
def R.HBM_PC_STATUS.WQ_OCC : RF := ⟨0x20000000, 0x1000000, 0x1000, 0x0, 8, 6⟩
def R.HBM_PC_STATUS.DRAIN : RF := ⟨0x20000000, 0x1000000, 0x1000, 0x0, 16, 2⟩
def R.HBM_PC_STATUS.BAND : RF := ⟨0x20000000, 0x1000000, 0x1000, 0x0, 18, 2⟩
def R.HBM_PC_STATUS.OWED : RF := ⟨0x20000000, 0x1000000, 0x1000, 0x0, 20, 5⟩
def R.HBM_PC_STATUS.SELF_REFRESH : RF := ⟨0x20000000, 0x1000000, 0x1000, 0x0, 25, 1⟩
def R.HBM_PC_STATUS.HOLD : RF := ⟨0x20000000, 0x1000000, 0x1000, 0x0, 26, 3⟩
/-- HBM_PC_CFG, chapter 06: the whole word. -/
def R.HBM_PC_CFG : RF := ⟨0x20000008, 0x1000000, 0x1000, 0x0, 0, 64⟩
def R.HBM_PC_CFG.WQ_HIGH : RF := ⟨0x20000008, 0x1000000, 0x1000, 0x0, 0, 6⟩
def R.HBM_PC_CFG.WQ_LOW : RF := ⟨0x20000008, 0x1000000, 0x1000, 0x0, 8, 6⟩
def R.HBM_PC_CFG.DRAIN_MAX : RF := ⟨0x20000008, 0x1000000, 0x1000, 0x0, 16, 6⟩
/-- HBM_PC_EVENT, chapter 06: the whole word. -/
def R.HBM_PC_EVENT : RF := ⟨0x20000010, 0x1000000, 0x1000, 0x0, 0, 64⟩
def R.HBM_PC_EVENT.BAD_CFG : RF := ⟨0x20000010, 0x1000000, 0x1000, 0x0, 0, 1⟩
/-- HBM_PC_BAD_CFG_CNT, chapter 06: the whole word. -/
def R.HBM_PC_BAD_CFG_CNT : RF := ⟨0x20000018, 0x1000000, 0x1000, 0x0, 0, 64⟩
def R.HBM_PC_BAD_CFG_CNT.COUNT : RF := ⟨0x20000018, 0x1000000, 0x1000, 0x0, 0, 32⟩
/-- HBM_PC_SLOTS, chapter 06: the whole word. -/
def R.HBM_PC_SLOTS : RF := ⟨0x20000020, 0x1000000, 0x1000, 0x0, 0, 64⟩
/-- HBM_PC_RD_CNT, chapter 06: the whole word. -/
def R.HBM_PC_RD_CNT : RF := ⟨0x20000028, 0x1000000, 0x1000, 0x0, 0, 64⟩
/-- HBM_PC_WR_CNT, chapter 06: the whole word. -/
def R.HBM_PC_WR_CNT : RF := ⟨0x20000030, 0x1000000, 0x1000, 0x0, 0, 64⟩
/-- HBM_PC_ACT_CNT, chapter 06: the whole word. -/
def R.HBM_PC_ACT_CNT : RF := ⟨0x20000038, 0x1000000, 0x1000, 0x0, 0, 64⟩
/-- HBM_PC_TURN_CNT, chapter 06: the whole word. -/
def R.HBM_PC_TURN_CNT : RF := ⟨0x20000058, 0x1000000, 0x1000, 0x0, 0, 64⟩
/-- HBM_PC_RAW_CNT, chapter 06: the whole word. -/
def R.HBM_PC_RAW_CNT : RF := ⟨0x20000060, 0x1000000, 0x1000, 0x0, 0, 64⟩
/-- HBM_PC_HOLD_NS, chapter 06: the whole word. -/
def R.HBM_PC_HOLD_NS : RF := ⟨0x20000068, 0x1000000, 0x1000, 0x0, 0, 64⟩
/-- HBM_PC_DRAIN_CNT, chapter 06: the whole word. -/
def R.HBM_PC_DRAIN_CNT : RF := ⟨0x20000070, 0x1000000, 0x1000, 0x0, 0, 64⟩
/-- HBM_PC_CLASS_CNT, chapter 06: the whole word. -/
def R.HBM_PC_CLASS_CNT : RF := ⟨0x20000040, 0x1000000, 0x1000, 0x8, 0, 64⟩
/-- HBM_STK_STATUS, chapter 06: the whole word. -/
def R.HBM_STK_STATUS : RF := ⟨0x20800000, 0x1000000, 0x0, 0x0, 0, 64⟩
def R.HBM_STK_STATUS.STATE : RF := ⟨0x20800000, 0x1000000, 0x0, 0x0, 0, 3⟩
def R.HBM_STK_STATUS.RATE_MBPS : RF := ⟨0x20800000, 0x1000000, 0x0, 0x0, 16, 16⟩
/-- HBM_STK_CFG, chapter 06: the whole word. -/
def R.HBM_STK_CFG : RF := ⟨0x20800008, 0x1000000, 0x0, 0x0, 0, 64⟩
def R.HBM_STK_CFG.RATE : RF := ⟨0x20800008, 0x1000000, 0x0, 0x0, 0, 2⟩
/-- HBM_GLB_LOC_LO, chapter 06: the whole word. -/
def R.HBM_GLB_LOC_LO : RF := ⟨0x20900000, 0x0, 0x0, 0x0, 0, 64⟩
/-- HBM_GLB_LOC_HI, chapter 06: the whole word. -/
def R.HBM_GLB_LOC_HI : RF := ⟨0x20900008, 0x0, 0x0, 0x0, 0, 64⟩
def R.HBM_GLB_LOC_HI.LOC : RF := ⟨0x20900008, 0x0, 0x0, 0x0, 0, 32⟩
/-- HBM_GLB_LOC_STATUS, chapter 06: the whole word. -/
def R.HBM_GLB_LOC_STATUS : RF := ⟨0x20900010, 0x0, 0x0, 0x0, 0, 64⟩
def R.HBM_GLB_LOC_STATUS.PENDING : RF := ⟨0x20900010, 0x0, 0x0, 0x0, 0, 1⟩
/-- HBM_PC_RAS_STATUS, chapter 07: the whole word. -/
def R.HBM_PC_RAS_STATUS : RF := ⟨0x20000100, 0x1000000, 0x1000, 0x0, 0, 64⟩
def R.HBM_PC_RAS_STATUS.SPARES_USED : RF := ⟨0x20000100, 0x1000000, 0x1000, 0x0, 0, 7⟩
def R.HBM_PC_RAS_STATUS.COPYING : RF := ⟨0x20000100, 0x1000000, 0x1000, 0x0, 7, 1⟩
/-- HBM_PC_RAS_EVENT, chapter 07: the whole word. -/
def R.HBM_PC_RAS_EVENT : RF := ⟨0x20000108, 0x1000000, 0x1000, 0x0, 0, 64⟩
def R.HBM_PC_RAS_EVENT.CE : RF := ⟨0x20000108, 0x1000000, 0x1000, 0x0, 0, 1⟩
def R.HBM_PC_RAS_EVENT.UE : RF := ⟨0x20000108, 0x1000000, 0x1000, 0x0, 1, 1⟩
def R.HBM_PC_RAS_EVENT.RETRY : RF := ⟨0x20000108, 0x1000000, 0x1000, 0x0, 2, 1⟩
def R.HBM_PC_RAS_EVENT.RETRY_FAIL : RF := ⟨0x20000108, 0x1000000, 0x1000, 0x0, 3, 1⟩
def R.HBM_PC_RAS_EVENT.SPARE_FULL : RF := ⟨0x20000108, 0x1000000, 0x1000, 0x0, 4, 1⟩
def R.HBM_PC_RAS_EVENT.RH_LIMIT : RF := ⟨0x20000108, 0x1000000, 0x1000, 0x0, 5, 1⟩
/-- HBM_PC_CE_CNT, chapter 07: the whole word. -/
def R.HBM_PC_CE_CNT : RF := ⟨0x20000110, 0x1000000, 0x1000, 0x0, 0, 64⟩
def R.HBM_PC_CE_CNT.COUNT : RF := ⟨0x20000110, 0x1000000, 0x1000, 0x0, 0, 32⟩
/-- HBM_PC_UE_CNT, chapter 07: the whole word. -/
def R.HBM_PC_UE_CNT : RF := ⟨0x20000118, 0x1000000, 0x1000, 0x0, 0, 64⟩
def R.HBM_PC_UE_CNT.COUNT : RF := ⟨0x20000118, 0x1000000, 0x1000, 0x0, 0, 32⟩
/-- HBM_PC_RETRY_CNT, chapter 07: the whole word. -/
def R.HBM_PC_RETRY_CNT : RF := ⟨0x20000120, 0x1000000, 0x1000, 0x0, 0, 64⟩
def R.HBM_PC_RETRY_CNT.COUNT : RF := ⟨0x20000120, 0x1000000, 0x1000, 0x0, 0, 32⟩
/-- HBM_PC_RETRY_FAIL_CNT, chapter 07: the whole word. -/
def R.HBM_PC_RETRY_FAIL_CNT : RF := ⟨0x20000128, 0x1000000, 0x1000, 0x0, 0, 64⟩
def R.HBM_PC_RETRY_FAIL_CNT.COUNT : RF := ⟨0x20000128, 0x1000000, 0x1000, 0x0, 0, 32⟩
/-- HBM_PC_SPARE_FULL_CNT, chapter 07: the whole word. -/
def R.HBM_PC_SPARE_FULL_CNT : RF := ⟨0x20000130, 0x1000000, 0x1000, 0x0, 0, 64⟩
def R.HBM_PC_SPARE_FULL_CNT.COUNT : RF := ⟨0x20000130, 0x1000000, 0x1000, 0x0, 0, 32⟩
/-- HBM_PC_RH_LIMIT_CNT, chapter 07: the whole word. -/
def R.HBM_PC_RH_LIMIT_CNT : RF := ⟨0x20000138, 0x1000000, 0x1000, 0x0, 0, 64⟩
def R.HBM_PC_RH_LIMIT_CNT.COUNT : RF := ⟨0x20000138, 0x1000000, 0x1000, 0x0, 0, 32⟩
/-- HBM_PC_ERR_ADDR, chapter 07: the whole word. -/
def R.HBM_PC_ERR_ADDR : RF := ⟨0x20000140, 0x1000000, 0x1000, 0x0, 0, 64⟩
def R.HBM_PC_ERR_ADDR.LOCAL : RF := ⟨0x20000140, 0x1000000, 0x1000, 0x0, 0, 30⟩
def R.HBM_PC_ERR_ADDR.KIND : RF := ⟨0x20000140, 0x1000000, 0x1000, 0x0, 30, 3⟩
def R.HBM_PC_ERR_ADDR.SYMBOL : RF := ⟨0x20000140, 0x1000000, 0x1000, 0x0, 33, 7⟩
/-- HBM_PC_RAS_CFG, chapter 07: the whole word. -/
def R.HBM_PC_RAS_CFG : RF := ⟨0x20000148, 0x1000000, 0x1000, 0x0, 0, 64⟩
def R.HBM_PC_RAS_CFG.AUTO_SPARE : RF := ⟨0x20000148, 0x1000000, 0x1000, 0x0, 0, 1⟩
def R.HBM_PC_RAS_CFG.SPARE_CE : RF := ⟨0x20000148, 0x1000000, 0x1000, 0x0, 1, 4⟩
/-- HBM_PC_ODECC_CNT, chapter 07: the whole word. -/
def R.HBM_PC_ODECC_CNT : RF := ⟨0x20000150, 0x1000000, 0x1000, 0x0, 0, 64⟩
/-- HBM_PC_NBR_CNT, chapter 07: the whole word. -/
def R.HBM_PC_NBR_CNT : RF := ⟨0x20000158, 0x1000000, 0x1000, 0x0, 0, 64⟩
/-- HBM_PC_SPARE_CMD, chapter 07: the whole word. -/
def R.HBM_PC_SPARE_CMD : RF := ⟨0x20000160, 0x1000000, 0x1000, 0x0, 0, 64⟩
def R.HBM_PC_SPARE_CMD.GO : RF := ⟨0x20000160, 0x1000000, 0x1000, 0x0, 0, 1⟩
def R.HBM_PC_SPARE_CMD.BANK : RF := ⟨0x20000160, 0x1000000, 0x1000, 0x0, 4, 4⟩
def R.HBM_PC_SPARE_CMD.ROW : RF := ⟨0x20000160, 0x1000000, 0x1000, 0x0, 8, 16⟩
/-- HBM_PC_SPARE, chapter 07: the whole word. -/
def R.HBM_PC_SPARE : RF := ⟨0x20000200, 0x1000000, 0x1000, 0x8, 0, 64⟩
def R.HBM_PC_SPARE.VALID : RF := ⟨0x20000200, 0x1000000, 0x1000, 0x8, 0, 1⟩
def R.HBM_PC_SPARE.COPYING : RF := ⟨0x20000200, 0x1000000, 0x1000, 0x8, 1, 1⟩
def R.HBM_PC_SPARE.ORIGIN : RF := ⟨0x20000200, 0x1000000, 0x1000, 0x8, 2, 1⟩
def R.HBM_PC_SPARE.BANK : RF := ⟨0x20000200, 0x1000000, 0x1000, 0x8, 4, 4⟩
def R.HBM_PC_SPARE.ROW : RF := ⟨0x20000200, 0x1000000, 0x1000, 0x8, 8, 16⟩
/-- HBM_STK_TEMP, chapter 07: the whole word. -/
def R.HBM_STK_TEMP : RF := ⟨0x20800100, 0x1000000, 0x0, 0x0, 0, 64⟩
def R.HBM_STK_TEMP.TEMP_C : RF := ⟨0x20800100, 0x1000000, 0x0, 0x0, 0, 8⟩
def R.HBM_STK_TEMP.BAND : RF := ⟨0x20800100, 0x1000000, 0x0, 0x0, 8, 2⟩
def R.HBM_STK_TEMP.DUTY : RF := ⟨0x20800100, 0x1000000, 0x0, 0x0, 10, 5⟩
def R.HBM_STK_TEMP.OVERTEMP : RF := ⟨0x20800100, 0x1000000, 0x0, 0x0, 15, 1⟩
def R.HBM_STK_TEMP.READ_FAIL : RF := ⟨0x20800100, 0x1000000, 0x0, 0x0, 16, 1⟩
/-- HBM_STK_THERM_CFG, chapter 07: the whole word. -/
def R.HBM_STK_THERM_CFG : RF := ⟨0x20800108, 0x1000000, 0x0, 0x0, 0, 64⟩
def R.HBM_STK_THERM_CFG.THROTTLE_C : RF := ⟨0x20800108, 0x1000000, 0x0, 0x0, 0, 8⟩
def R.HBM_STK_THERM_CFG.HYST : RF := ⟨0x20800108, 0x1000000, 0x0, 0x0, 8, 4⟩
def R.HBM_STK_THERM_CFG.STOP_C : RF := ⟨0x20800108, 0x1000000, 0x0, 0x0, 12, 8⟩
def R.HBM_STK_THERM_CFG.MIN_DUTY : RF := ⟨0x20800108, 0x1000000, 0x0, 0x0, 20, 4⟩
/-- HBM_STK_THERM_EVENT, chapter 07: the whole word. -/
def R.HBM_STK_THERM_EVENT : RF := ⟨0x20800110, 0x1000000, 0x0, 0x0, 0, 64⟩
def R.HBM_STK_THERM_EVENT.STEP_DOWN : RF := ⟨0x20800110, 0x1000000, 0x0, 0x0, 0, 1⟩
def R.HBM_STK_THERM_EVENT.OVERTEMP : RF := ⟨0x20800110, 0x1000000, 0x0, 0x0, 1, 1⟩
def R.HBM_STK_THERM_EVENT.READ_FAIL : RF := ⟨0x20800110, 0x1000000, 0x0, 0x0, 2, 1⟩
/-- HBM_STK_STEP_CNT, chapter 07: the whole word. -/
def R.HBM_STK_STEP_CNT : RF := ⟨0x20800118, 0x1000000, 0x0, 0x0, 0, 64⟩
def R.HBM_STK_STEP_CNT.COUNT : RF := ⟨0x20800118, 0x1000000, 0x0, 0x0, 0, 32⟩
/-- HBM_STK_OVERTEMP_CNT, chapter 07: the whole word. -/
def R.HBM_STK_OVERTEMP_CNT : RF := ⟨0x20800120, 0x1000000, 0x0, 0x0, 0, 64⟩
def R.HBM_STK_OVERTEMP_CNT.COUNT : RF := ⟨0x20800120, 0x1000000, 0x0, 0x0, 0, 32⟩
/-- HBM_STK_READ_FAIL_CNT, chapter 07: the whole word. -/
def R.HBM_STK_READ_FAIL_CNT : RF := ⟨0x20800128, 0x1000000, 0x0, 0x0, 0, 64⟩
def R.HBM_STK_READ_FAIL_CNT.COUNT : RF := ⟨0x20800128, 0x1000000, 0x0, 0x0, 0, 32⟩
/-- HBM_STK_RH_MODE, chapter 07: the whole word. -/
def R.HBM_STK_RH_MODE : RF := ⟨0x20800130, 0x1000000, 0x0, 0x0, 0, 64⟩
/-- HBM_STK_RH_CFG, chapter 07: the whole word. -/
def R.HBM_STK_RH_CFG : RF := ⟨0x20800138, 0x1000000, 0x0, 0x0, 0, 64⟩
def R.HBM_STK_RH_CFG.ACT_LIMIT : RF := ⟨0x20800138, 0x1000000, 0x0, 0x0, 0, 16⟩
def R.HBM_STK_RH_CFG.SPACING_NS : RF := ⟨0x20800138, 0x1000000, 0x0, 0x0, 16, 16⟩
/-- HBM_STK_SCRUB, chapter 07: the whole word. -/
def R.HBM_STK_SCRUB : RF := ⟨0x20800140, 0x1000000, 0x0, 0x0, 0, 64⟩
def R.HBM_STK_SCRUB.PERIOD_H : RF := ⟨0x20800140, 0x1000000, 0x0, 0x0, 0, 16⟩
/-- HBM_STK_PPR, chapter 07: the whole word. -/
def R.HBM_STK_PPR : RF := ⟨0x20800180, 0x1000000, 0x8, 0x0, 0, 64⟩
def R.HBM_STK_PPR.PC : RF := ⟨0x20800180, 0x1000000, 0x8, 0x0, 0, 6⟩
def R.HBM_STK_PPR.BANK : RF := ⟨0x20800180, 0x1000000, 0x8, 0x0, 6, 4⟩
def R.HBM_STK_PPR.ROW : RF := ⟨0x20800180, 0x1000000, 0x8, 0x0, 10, 16⟩
def R.HBM_STK_PPR.VALID : RF := ⟨0x20800180, 0x1000000, 0x8, 0x0, 26, 1⟩
def R.HBM_STK_PPR.RESULT : RF := ⟨0x20800180, 0x1000000, 0x8, 0x0, 28, 2⟩
/-- HBM_KITE_STATUS, chapter 07: the whole word. -/
def R.HBM_KITE_STATUS : RF := ⟨0x20800200, 0x1000000, 0x0, 0x0, 0, 64⟩
def R.HBM_KITE_STATUS.SLOTS_USED : RF := ⟨0x20800200, 0x1000000, 0x0, 0x0, 0, 12⟩
/-- HBM_KITE_CFG, chapter 07: the whole word. -/
def R.HBM_KITE_CFG : RF := ⟨0x20800208, 0x1000000, 0x0, 0x0, 0, 64⟩
def R.HBM_KITE_CFG.ORD_HOLD_US : RF := ⟨0x20800208, 0x1000000, 0x0, 0x0, 0, 20⟩
/-- HBM_KITE_EVENT, chapter 07: the whole word. -/
def R.HBM_KITE_EVENT : RF := ⟨0x20800210, 0x1000000, 0x0, 0x0, 0, 64⟩
def R.HBM_KITE_EVENT.EARLY_FLUSH : RF := ⟨0x20800210, 0x1000000, 0x0, 0x0, 0, 1⟩
def R.HBM_KITE_EVENT.REFUSED : RF := ⟨0x20800210, 0x1000000, 0x0, 0x0, 1, 1⟩
/-- HBM_KITE_EARLY_CNT, chapter 07: the whole word. -/
def R.HBM_KITE_EARLY_CNT : RF := ⟨0x20800218, 0x1000000, 0x0, 0x0, 0, 64⟩
def R.HBM_KITE_EARLY_CNT.COUNT : RF := ⟨0x20800218, 0x1000000, 0x0, 0x0, 0, 32⟩
/-- HBM_KITE_REFUSED_CNT, chapter 07: the whole word. -/
def R.HBM_KITE_REFUSED_CNT : RF := ⟨0x20800220, 0x1000000, 0x0, 0x0, 0, 64⟩
def R.HBM_KITE_REFUSED_CNT.COUNT : RF := ⟨0x20800220, 0x1000000, 0x0, 0x0, 0, 32⟩
/-- HBM_KITE_ADD_CNT, chapter 07: the whole word. -/
def R.HBM_KITE_ADD_CNT : RF := ⟨0x20800228, 0x1000000, 0x0, 0x0, 0, 64⟩
/-- HBM_KITE_ORD_CNT, chapter 07: the whole word. -/
def R.HBM_KITE_ORD_CNT : RF := ⟨0x20800230, 0x1000000, 0x0, 0x0, 0, 64⟩
/-- HBM_KITE_ERR_ADDR, chapter 07: the whole word. -/
def R.HBM_KITE_ERR_ADDR : RF := ⟨0x20800238, 0x1000000, 0x0, 0x0, 0, 64⟩
def R.HBM_KITE_ERR_ADDR.ADDR : RF := ⟨0x20800238, 0x1000000, 0x0, 0x0, 0, 39⟩
def R.HBM_KITE_ERR_ADDR.KIND : RF := ⟨0x20800238, 0x1000000, 0x0, 0x0, 39, 1⟩
/-- ROOST_BR_STATUS, chapter 08: the whole word. -/
def R.ROOST_BR_STATUS : RF := ⟨0x9000000, 0x100000, 0x0, 0x0, 0, 64⟩
def R.ROOST_BR_STATUS.STATE : RF := ⟨0x9000000, 0x100000, 0x0, 0x0, 0, 3⟩
def R.ROOST_BR_STATUS.TEMP_C : RF := ⟨0x9000000, 0x100000, 0x0, 0x0, 8, 8⟩
def R.ROOST_BR_STATUS.TRAIN_TEMP_C : RF := ⟨0x9000000, 0x100000, 0x0, 0x0, 16, 8⟩
def R.ROOST_BR_STATUS.CH_FAILED : RF := ⟨0x9000000, 0x100000, 0x0, 0x0, 24, 4⟩
/-- ROOST_BR_CFG, chapter 08: the whole word. -/
def R.ROOST_BR_CFG : RF := ⟨0x9000008, 0x100000, 0x0, 0x0, 0, 64⟩
def R.ROOST_BR_CFG.RETRAIN_DELTA_C : RF := ⟨0x9000008, 0x100000, 0x0, 0x0, 0, 8⟩
def R.ROOST_BR_CFG.RATE : RF := ⟨0x9000008, 0x100000, 0x0, 0x0, 8, 1⟩
/-- ROOST_BR_EVENT, chapter 08: the whole word. -/
def R.ROOST_BR_EVENT : RF := ⟨0x9000010, 0x100000, 0x0, 0x0, 0, 64⟩
def R.ROOST_BR_EVENT.CA_PARITY : RF := ⟨0x9000010, 0x100000, 0x0, 0x0, 0, 1⟩
def R.ROOST_BR_EVENT.CA_RETRY_FAIL : RF := ⟨0x9000010, 0x100000, 0x0, 0x0, 1, 1⟩
def R.ROOST_BR_EVENT.WR_CRC : RF := ⟨0x9000010, 0x100000, 0x0, 0x0, 2, 1⟩
def R.ROOST_BR_EVENT.WR_CRC_FAIL : RF := ⟨0x9000010, 0x100000, 0x0, 0x0, 3, 1⟩
def R.ROOST_BR_EVENT.RETRAIN : RF := ⟨0x9000010, 0x100000, 0x0, 0x0, 4, 1⟩
def R.ROOST_BR_EVENT.RETRAIN_FAIL : RF := ⟨0x9000010, 0x100000, 0x0, 0x0, 5, 1⟩
/-- ROOST_BR_CAPAR_CNT, chapter 08: the whole word. -/
def R.ROOST_BR_CAPAR_CNT : RF := ⟨0x9000018, 0x100000, 0x0, 0x0, 0, 64⟩
def R.ROOST_BR_CAPAR_CNT.COUNT : RF := ⟨0x9000018, 0x100000, 0x0, 0x0, 0, 32⟩
/-- ROOST_BR_CAFAIL_CNT, chapter 08: the whole word. -/
def R.ROOST_BR_CAFAIL_CNT : RF := ⟨0x9000020, 0x100000, 0x0, 0x0, 0, 64⟩
def R.ROOST_BR_CAFAIL_CNT.COUNT : RF := ⟨0x9000020, 0x100000, 0x0, 0x0, 0, 32⟩
/-- ROOST_BR_CRC_CNT, chapter 08: the whole word. -/
def R.ROOST_BR_CRC_CNT : RF := ⟨0x9000028, 0x100000, 0x0, 0x0, 0, 64⟩
def R.ROOST_BR_CRC_CNT.COUNT : RF := ⟨0x9000028, 0x100000, 0x0, 0x0, 0, 32⟩
/-- ROOST_BR_CRCFAIL_CNT, chapter 08: the whole word. -/
def R.ROOST_BR_CRCFAIL_CNT : RF := ⟨0x9000030, 0x100000, 0x0, 0x0, 0, 64⟩
def R.ROOST_BR_CRCFAIL_CNT.COUNT : RF := ⟨0x9000030, 0x100000, 0x0, 0x0, 0, 32⟩
/-- ROOST_BR_RETRAIN_CNT, chapter 08: the whole word. -/
def R.ROOST_BR_RETRAIN_CNT : RF := ⟨0x9000038, 0x100000, 0x0, 0x0, 0, 64⟩
def R.ROOST_BR_RETRAIN_CNT.COUNT : RF := ⟨0x9000038, 0x100000, 0x0, 0x0, 0, 32⟩
/-- ROOST_BR_RTFAIL_CNT, chapter 08: the whole word. -/
def R.ROOST_BR_RTFAIL_CNT : RF := ⟨0x9000040, 0x100000, 0x0, 0x0, 0, 64⟩
def R.ROOST_BR_RTFAIL_CNT.COUNT : RF := ⟨0x9000040, 0x100000, 0x0, 0x0, 0, 32⟩
/-- ROOST_BR_TRAIN, chapter 08: the whole word. -/
def R.ROOST_BR_TRAIN : RF := ⟨0x9000100, 0x100000, 0x8, 0x0, 0, 64⟩
def R.ROOST_BR_TRAIN.PASSED : RF := ⟨0x9000100, 0x100000, 0x8, 0x0, 0, 6⟩
def R.ROOST_BR_TRAIN.FAILED_NIBBLE : RF := ⟨0x9000100, 0x100000, 0x8, 0x0, 8, 8⟩
def R.ROOST_BR_TRAIN.TRAIN_US : RF := ⟨0x9000100, 0x100000, 0x8, 0x0, 16, 32⟩
/-- ROOST_CH_STATUS, chapter 08: the whole word. -/
def R.ROOST_CH_STATUS : RF := ⟨0x9400000, 0x10000, 0x0, 0x0, 0, 64⟩
def R.ROOST_CH_STATUS.RQ_OCC : RF := ⟨0x9400000, 0x10000, 0x0, 0x0, 0, 9⟩
def R.ROOST_CH_STATUS.WQ_OCC : RF := ⟨0x9400000, 0x10000, 0x0, 0x0, 9, 9⟩
def R.ROOST_CH_STATUS.SELF_REFRESH : RF := ⟨0x9400000, 0x10000, 0x0, 0x0, 18, 1⟩
def R.ROOST_CH_STATUS.TREFI_HALF : RF := ⟨0x9400000, 0x10000, 0x0, 0x0, 19, 1⟩
def R.ROOST_CH_STATUS.RETRAINING : RF := ⟨0x9400000, 0x10000, 0x0, 0x0, 20, 1⟩
def R.ROOST_CH_STATUS.HOLD : RF := ⟨0x9400000, 0x10000, 0x0, 0x0, 21, 3⟩
/-- ROOST_CH_CFG, chapter 08: the whole word. -/
def R.ROOST_CH_CFG : RF := ⟨0x9400008, 0x10000, 0x0, 0x0, 0, 64⟩
def R.ROOST_CH_CFG.RH_MODE : RF := ⟨0x9400008, 0x10000, 0x0, 0x0, 0, 2⟩
def R.ROOST_CH_CFG.ACT_LIMIT : RF := ⟨0x9400008, 0x10000, 0x0, 0x0, 2, 16⟩
def R.ROOST_CH_CFG.SPACING_NS : RF := ⟨0x9400008, 0x10000, 0x0, 0x0, 18, 16⟩
def R.ROOST_CH_CFG.MARK_CE : RF := ⟨0x9400008, 0x10000, 0x0, 0x0, 34, 6⟩
def R.ROOST_CH_CFG.WQ_HIGH : RF := ⟨0x9400008, 0x10000, 0x0, 0x0, 40, 8⟩
def R.ROOST_CH_CFG.WQ_LOW : RF := ⟨0x9400008, 0x10000, 0x0, 0x0, 48, 8⟩
def R.ROOST_CH_CFG.DRAIN_MAX : RF := ⟨0x9400008, 0x10000, 0x0, 0x0, 56, 8⟩
/-- ROOST_CH_EVENT, chapter 08: the whole word. -/
def R.ROOST_CH_EVENT : RF := ⟨0x9400010, 0x10000, 0x0, 0x0, 0, 64⟩
def R.ROOST_CH_EVENT.CE : RF := ⟨0x9400010, 0x10000, 0x0, 0x0, 0, 1⟩
def R.ROOST_CH_EVENT.UE : RF := ⟨0x9400010, 0x10000, 0x0, 0x0, 1, 1⟩
def R.ROOST_CH_EVENT.MARKED : RF := ⟨0x9400010, 0x10000, 0x0, 0x0, 2, 1⟩
def R.ROOST_CH_EVENT.RH_LIMIT : RF := ⟨0x9400010, 0x10000, 0x0, 0x0, 3, 1⟩
def R.ROOST_CH_EVENT.BAD_CFG : RF := ⟨0x9400010, 0x10000, 0x0, 0x0, 4, 1⟩
/-- ROOST_CH_CE_CNT, chapter 08: the whole word. -/
def R.ROOST_CH_CE_CNT : RF := ⟨0x9400018, 0x10000, 0x0, 0x0, 0, 64⟩
def R.ROOST_CH_CE_CNT.COUNT : RF := ⟨0x9400018, 0x10000, 0x0, 0x0, 0, 32⟩
/-- ROOST_CH_UE_CNT, chapter 08: the whole word. -/
def R.ROOST_CH_UE_CNT : RF := ⟨0x9400020, 0x10000, 0x0, 0x0, 0, 64⟩
def R.ROOST_CH_UE_CNT.COUNT : RF := ⟨0x9400020, 0x10000, 0x0, 0x0, 0, 32⟩
/-- ROOST_CH_MARK_CNT, chapter 08: the whole word. -/
def R.ROOST_CH_MARK_CNT : RF := ⟨0x9400028, 0x10000, 0x0, 0x0, 0, 64⟩
def R.ROOST_CH_MARK_CNT.COUNT : RF := ⟨0x9400028, 0x10000, 0x0, 0x0, 0, 32⟩
/-- ROOST_CH_RH_CNT, chapter 08: the whole word. -/
def R.ROOST_CH_RH_CNT : RF := ⟨0x9400030, 0x10000, 0x0, 0x0, 0, 64⟩
def R.ROOST_CH_RH_CNT.COUNT : RF := ⟨0x9400030, 0x10000, 0x0, 0x0, 0, 32⟩
/-- ROOST_CH_BAD_CFG_CNT, chapter 08: the whole word. -/
def R.ROOST_CH_BAD_CFG_CNT : RF := ⟨0x9400038, 0x10000, 0x0, 0x0, 0, 64⟩
def R.ROOST_CH_BAD_CFG_CNT.COUNT : RF := ⟨0x9400038, 0x10000, 0x0, 0x0, 0, 32⟩
/-- ROOST_CH_ERR_ADDR, chapter 08: the whole word. -/
def R.ROOST_CH_ERR_ADDR : RF := ⟨0x9400040, 0x10000, 0x0, 0x0, 0, 64⟩
def R.ROOST_CH_ERR_ADDR.CS : RF := ⟨0x9400040, 0x10000, 0x0, 0x0, 0, 25⟩
def R.ROOST_CH_ERR_ADDR.LINE : RF := ⟨0x9400040, 0x10000, 0x0, 0x0, 25, 6⟩
def R.ROOST_CH_ERR_ADDR.KIND : RF := ⟨0x9400040, 0x10000, 0x0, 0x0, 31, 3⟩
def R.ROOST_CH_ERR_ADDR.DEVICE : RF := ⟨0x9400040, 0x10000, 0x0, 0x0, 34, 4⟩
/-- ROOST_CH_MARKS, chapter 08: the whole word. -/
def R.ROOST_CH_MARKS : RF := ⟨0x9400048, 0x10000, 0x8, 0x0, 0, 64⟩
def R.ROOST_CH_MARKS.VALID : RF := ⟨0x9400048, 0x10000, 0x8, 0x0, 0, 1⟩
def R.ROOST_CH_MARKS.DEVICE : RF := ⟨0x9400048, 0x10000, 0x8, 0x0, 1, 4⟩
/-- ROOST_CH_SLOTS, chapter 08: the whole word. -/
def R.ROOST_CH_SLOTS : RF := ⟨0x9400080, 0x10000, 0x0, 0x0, 0, 64⟩
/-- ROOST_CH_RD_CNT, chapter 08: the whole word. -/
def R.ROOST_CH_RD_CNT : RF := ⟨0x9400088, 0x10000, 0x0, 0x0, 0, 64⟩
/-- ROOST_CH_WR_CNT, chapter 08: the whole word. -/
def R.ROOST_CH_WR_CNT : RF := ⟨0x9400090, 0x10000, 0x0, 0x0, 0, 64⟩
/-- ROOST_CH_ACT_CNT, chapter 08: the whole word. -/
def R.ROOST_CH_ACT_CNT : RF := ⟨0x9400098, 0x10000, 0x0, 0x0, 0, 64⟩
/-- ROOST_CH_SCRUB, chapter 08: the whole word. -/
def R.ROOST_CH_SCRUB : RF := ⟨0x94000A0, 0x10000, 0x0, 0x0, 0, 64⟩
def R.ROOST_CH_SCRUB.PERIOD_H : RF := ⟨0x94000A0, 0x10000, 0x0, 0x0, 0, 16⟩
/-- ROOST_ENG_STATUS, chapter 08: the whole word. -/
def R.ROOST_ENG_STATUS : RF := ⟨0x9800000, 0x0, 0x0, 0x0, 0, 64⟩
def R.ROOST_ENG_STATUS.STATE : RF := ⟨0x9800000, 0x0, 0x0, 0x0, 0, 2⟩
def R.ROOST_ENG_STATUS.QUEUED : RF := ⟨0x9800000, 0x0, 0x0, 0x0, 2, 7⟩
def R.ROOST_ENG_STATUS.RUNNING : RF := ⟨0x9800000, 0x0, 0x0, 0x0, 9, 4⟩
/-- ROOST_ENG_CFG, chapter 08: the whole word. -/
def R.ROOST_ENG_CFG : RF := ⟨0x9800008, 0x0, 0x0, 0x0, 0, 64⟩
def R.ROOST_ENG_CFG.RUN_MAX : RF := ⟨0x9800008, 0x0, 0x0, 0x0, 0, 4⟩
/-- ROOST_ENG_FRAMES, chapter 08: the whole word. -/
def R.ROOST_ENG_FRAMES : RF := ⟨0x9800010, 0x0, 0x0, 0x0, 0, 64⟩
def R.ROOST_ENG_FRAMES.FREE : RF := ⟨0x9800010, 0x0, 0x0, 0x0, 0, 25⟩
def R.ROOST_ENG_FRAMES.CLEAN : RF := ⟨0x9800010, 0x0, 0x0, 0x0, 32, 25⟩
/-- ROOST_ENG_EVENT, chapter 08: the whole word. -/
def R.ROOST_ENG_EVENT : RF := ⟨0x9800018, 0x0, 0x0, 0x0, 0, 64⟩
def R.ROOST_ENG_EVENT.QUEUE_FULL : RF := ⟨0x9800018, 0x0, 0x0, 0x0, 0, 1⟩
def R.ROOST_ENG_EVENT.DISPLACED : RF := ⟨0x9800018, 0x0, 0x0, 0x0, 1, 1⟩
def R.ROOST_ENG_EVENT.VERIFY_FAIL : RF := ⟨0x9800018, 0x0, 0x0, 0x0, 2, 1⟩
/-- ROOST_ENG_FULL_CNT, chapter 08: the whole word. -/
def R.ROOST_ENG_FULL_CNT : RF := ⟨0x9800020, 0x0, 0x0, 0x0, 0, 64⟩
def R.ROOST_ENG_FULL_CNT.COUNT : RF := ⟨0x9800020, 0x0, 0x0, 0x0, 0, 32⟩
/-- ROOST_ENG_DISP_CNT, chapter 08: the whole word. -/
def R.ROOST_ENG_DISP_CNT : RF := ⟨0x9800028, 0x0, 0x0, 0x0, 0, 64⟩
def R.ROOST_ENG_DISP_CNT.COUNT : RF := ⟨0x9800028, 0x0, 0x0, 0x0, 0, 32⟩
/-- ROOST_ENG_VERIFY_CNT, chapter 08: the whole word. -/
def R.ROOST_ENG_VERIFY_CNT : RF := ⟨0x9800030, 0x0, 0x0, 0x0, 0, 64⟩
def R.ROOST_ENG_VERIFY_CNT.COUNT : RF := ⟨0x9800030, 0x0, 0x0, 0x0, 0, 32⟩
/-- ROOST_ENG_BYTES, chapter 08: the whole word. -/
def R.ROOST_ENG_BYTES : RF := ⟨0x9800040, 0x0, 0x0, 0x0, 0, 64⟩
/-- CRYPT_STATUS, chapter 09: the whole word. -/
def R.CRYPT_STATUS : RF := ⟨0x8000000, 0x0, 0x0, 0x0, 0, 64⟩
def R.CRYPT_STATUS.STATE : RF := ⟨0x8000000, 0x0, 0x0, 0x0, 0, 2⟩
def R.CRYPT_STATUS.MERGE_USED : RF := ⟨0x8000000, 0x0, 0x0, 0x0, 2, 7⟩
def R.CRYPT_STATUS.REKEY : RF := ⟨0x8000000, 0x0, 0x0, 0x0, 9, 1⟩
/-- CRYPT_CTRL, chapter 09: the whole word. -/
def R.CRYPT_CTRL : RF := ⟨0x8000008, 0x0, 0x0, 0x0, 0, 64⟩
def R.CRYPT_CTRL.ENABLE : RF := ⟨0x8000008, 0x0, 0x0, 0x0, 0, 1⟩
/-- CRYPT_CFG, chapter 09: the whole word. -/
def R.CRYPT_CFG : RF := ⟨0x8000010, 0x0, 0x0, 0x0, 0, 64⟩
def R.CRYPT_CFG.MERGE_HOLD_NS : RF := ⟨0x8000010, 0x0, 0x0, 0x0, 0, 14⟩
/-- CRYPT_STBL_BASE, chapter 09: the whole word. -/
def R.CRYPT_STBL_BASE : RF := ⟨0x8000018, 0x0, 0x0, 0x0, 0, 64⟩
def R.CRYPT_STBL_BASE.BASE : RF := ⟨0x8000018, 0x0, 0x0, 0x0, 16, 23⟩
/-- CRYPT_EVENT, chapter 09: the whole word. -/
def R.CRYPT_EVENT : RF := ⟨0x8000020, 0x0, 0x0, 0x0, 0, 64⟩
def R.CRYPT_EVENT.TAG_FAIL : RF := ⟨0x8000020, 0x0, 0x0, 0x0, 0, 1⟩
def R.CRYPT_EVENT.CTR_WARN : RF := ⟨0x8000020, 0x0, 0x0, 0x0, 1, 1⟩
def R.CRYPT_EVENT.CTR_EXHAUST : RF := ⟨0x8000020, 0x0, 0x0, 0x0, 2, 1⟩
def R.CRYPT_EVENT.REFUSED : RF := ⟨0x8000020, 0x0, 0x0, 0x0, 3, 1⟩
/-- CRYPT_TAG_FAIL_CNT, chapter 09: the whole word. -/
def R.CRYPT_TAG_FAIL_CNT : RF := ⟨0x8000028, 0x0, 0x0, 0x0, 0, 64⟩
def R.CRYPT_TAG_FAIL_CNT.COUNT : RF := ⟨0x8000028, 0x0, 0x0, 0x0, 0, 32⟩
/-- CRYPT_WARN_CNT, chapter 09: the whole word. -/
def R.CRYPT_WARN_CNT : RF := ⟨0x8000030, 0x0, 0x0, 0x0, 0, 64⟩
def R.CRYPT_WARN_CNT.COUNT : RF := ⟨0x8000030, 0x0, 0x0, 0x0, 0, 32⟩
/-- CRYPT_EXHAUST_CNT, chapter 09: the whole word. -/
def R.CRYPT_EXHAUST_CNT : RF := ⟨0x8000038, 0x0, 0x0, 0x0, 0, 64⟩
def R.CRYPT_EXHAUST_CNT.COUNT : RF := ⟨0x8000038, 0x0, 0x0, 0x0, 0, 32⟩
/-- CRYPT_REFUSED_CNT, chapter 09: the whole word. -/
def R.CRYPT_REFUSED_CNT : RF := ⟨0x8000040, 0x0, 0x0, 0x0, 0, 64⟩
def R.CRYPT_REFUSED_CNT.COUNT : RF := ⟨0x8000040, 0x0, 0x0, 0x0, 0, 32⟩
/-- CRYPT_FAIL_ADDR, chapter 09: the whole word. -/
def R.CRYPT_FAIL_ADDR : RF := ⟨0x8000048, 0x0, 0x0, 0x0, 0, 64⟩
def R.CRYPT_FAIL_ADDR.SECTOR : RF := ⟨0x8000048, 0x0, 0x0, 0x0, 0, 28⟩
def R.CRYPT_FAIL_ADDR.KIND : RF := ⟨0x8000048, 0x0, 0x0, 0x0, 28, 2⟩
/-- CRYPT_JOURNAL, chapter 09: the whole word. -/
def R.CRYPT_JOURNAL : RF := ⟨0x8000050, 0x0, 0x0, 0x0, 0, 64⟩
def R.CRYPT_JOURNAL.BOUNDARY : RF := ⟨0x8000050, 0x0, 0x0, 0x0, 0, 28⟩
def R.CRYPT_JOURNAL.NEW_SET : RF := ⟨0x8000050, 0x0, 0x0, 0x0, 28, 1⟩
def R.CRYPT_JOURNAL.RUNNING : RF := ⟨0x8000050, 0x0, 0x0, 0x0, 29, 1⟩
def R.CRYPT_JOURNAL.DOMAIN : RF := ⟨0x8000050, 0x0, 0x0, 0x0, 30, 12⟩
def R.CRYPT_JOURNAL.SEQ : RF := ⟨0x8000050, 0x0, 0x0, 0x0, 42, 22⟩
/-- CRYPT_LOST, chapter 09: the whole word. -/
def R.CRYPT_LOST : RF := ⟨0x8000058, 0x0, 0x0, 0x0, 0, 64⟩
def R.CRYPT_LOST.DOMAIN : RF := ⟨0x8000058, 0x0, 0x0, 0x0, 0, 12⟩
def R.CRYPT_LOST.VALID : RF := ⟨0x8000058, 0x0, 0x0, 0x0, 12, 1⟩
/-- CRYPT_SEAL_CNT, chapter 09: the whole word. -/
def R.CRYPT_SEAL_CNT : RF := ⟨0x8000080, 0x0, 0x0, 0x0, 0, 64⟩
/-- CRYPT_UNSEAL_CNT, chapter 09: the whole word. -/
def R.CRYPT_UNSEAL_CNT : RF := ⟨0x8000088, 0x0, 0x0, 0x0, 0, 64⟩
/-- CRYPT_RMW_CNT, chapter 09: the whole word. -/
def R.CRYPT_RMW_CNT : RF := ⟨0x8000090, 0x0, 0x0, 0x0, 0, 64⟩
/-- CRYPT_BYTES, chapter 09: the whole word. -/
def R.CRYPT_BYTES : RF := ⟨0x8000098, 0x0, 0x0, 0x0, 0, 64⟩
/-- CRYPT_DOM, chapter 09: the whole word. -/
def R.CRYPT_DOM : RF := ⟨0x8010000, 0x8, 0x0, 0x0, 0, 64⟩
def R.CRYPT_DOM.STATE : RF := ⟨0x8010000, 0x8, 0x0, 0x0, 0, 3⟩
def R.CRYPT_DOM.CURRENT : RF := ⟨0x8010000, 0x8, 0x0, 0x0, 3, 1⟩
def R.CRYPT_DOM.HELD : RF := ⟨0x8010000, 0x8, 0x0, 0x0, 4, 2⟩
def R.CRYPT_DOM.WARN : RF := ⟨0x8010000, 0x8, 0x0, 0x0, 6, 1⟩
def R.CRYPT_DOM.FROZEN : RF := ⟨0x8010000, 0x8, 0x0, 0x0, 7, 1⟩
def R.CRYPT_DOM.HIGH_CTR : RF := ⟨0x8010000, 0x8, 0x0, 0x0, 32, 32⟩
/-- JESS_STATUS, chapter 10: the whole word. -/
def R.JESS_STATUS : RF := ⟨0x3000000, 0x0, 0x0, 0x0, 0, 64⟩
def R.JESS_STATUS.PENDING : RF := ⟨0x3000000, 0x0, 0x0, 0x0, 0, 15⟩
def R.JESS_STATUS.SYNC_BUSY : RF := ⟨0x3000000, 0x0, 0x0, 0x0, 15, 1⟩
def R.JESS_STATUS.ENABLED : RF := ⟨0x3000000, 0x0, 0x0, 0x0, 16, 9⟩
def R.JESS_STATUS.LOCKED : RF := ⟨0x3000000, 0x0, 0x0, 0x0, 25, 9⟩
/-- JESS_EVENT, chapter 10: the whole word. -/
def R.JESS_EVENT : RF := ⟨0x3000008, 0x0, 0x0, 0x0, 0, 64⟩
def R.JESS_EVENT.VIOLATION : RF := ⟨0x3000008, 0x0, 0x0, 0x0, 0, 1⟩
def R.JESS_EVENT.OVERLAP : RF := ⟨0x3000008, 0x0, 0x0, 0x0, 1, 1⟩
def R.JESS_EVENT.STAGE_ERR : RF := ⟨0x3000008, 0x0, 0x0, 0x0, 2, 1⟩
/-- JESS_VIOL_CNT, chapter 10: the whole word. -/
def R.JESS_VIOL_CNT : RF := ⟨0x3000010, 0x0, 0x0, 0x0, 0, 64⟩
def R.JESS_VIOL_CNT.COUNT : RF := ⟨0x3000010, 0x0, 0x0, 0x0, 0, 32⟩
/-- JESS_OVERLAP_CNT, chapter 10: the whole word. -/
def R.JESS_OVERLAP_CNT : RF := ⟨0x3000018, 0x0, 0x0, 0x0, 0, 64⟩
def R.JESS_OVERLAP_CNT.COUNT : RF := ⟨0x3000018, 0x0, 0x0, 0x0, 0, 32⟩
/-- JESS_STAGE_ERR_CNT, chapter 10: the whole word. -/
def R.JESS_STAGE_ERR_CNT : RF := ⟨0x3000020, 0x0, 0x0, 0x0, 0, 64⟩
def R.JESS_STAGE_ERR_CNT.COUNT : RF := ⟨0x3000020, 0x0, 0x0, 0x0, 0, 32⟩
/-- JESS_SYNC, chapter 10: the whole word. -/
def R.JESS_SYNC : RF := ⟨0x3000028, 0x0, 0x0, 0x0, 0, 64⟩
def R.JESS_SYNC.GO : RF := ⟨0x3000028, 0x0, 0x0, 0x0, 0, 1⟩
/-- JESS_SYNC_SEQ, chapter 10: the whole word. -/
def R.JESS_SYNC_SEQ : RF := ⟨0x3000030, 0x0, 0x0, 0x0, 0, 64⟩
def R.JESS_SYNC_SEQ.REQ_SEQ : RF := ⟨0x3000030, 0x0, 0x0, 0x0, 0, 32⟩
def R.JESS_SYNC_SEQ.DONE_SEQ : RF := ⟨0x3000030, 0x0, 0x0, 0x0, 32, 32⟩
/-- JESS_LOG_HEAD, chapter 10: the whole word. -/
def R.JESS_LOG_HEAD : RF := ⟨0x3000038, 0x0, 0x0, 0x0, 0, 64⟩
def R.JESS_LOG_HEAD.NEXT_SEQ : RF := ⟨0x3000038, 0x0, 0x0, 0x0, 0, 16⟩
/-- JESS_STAGE_START, chapter 10: the whole word. -/
def R.JESS_STAGE_START : RF := ⟨0x3000040, 0x0, 0x0, 0x0, 0, 64⟩
def R.JESS_STAGE_START.ADDR : RF := ⟨0x3000040, 0x0, 0x0, 0x0, 6, 44⟩
/-- JESS_STAGE_END, chapter 10: the whole word. -/
def R.JESS_STAGE_END : RF := ⟨0x3000048, 0x0, 0x0, 0x0, 0, 64⟩
def R.JESS_STAGE_END.LOW : RF := ⟨0x3000048, 0x0, 0x0, 0x0, 0, 6⟩
def R.JESS_STAGE_END.ADDR : RF := ⟨0x3000048, 0x0, 0x0, 0x0, 6, 44⟩
/-- JESS_STAGE_ATTR, chapter 10: the whole word. -/
def R.JESS_STAGE_ATTR : RF := ⟨0x3000050, 0x0, 0x0, 0x0, 0, 64⟩
def R.JESS_STAGE_ATTR.ENABLE : RF := ⟨0x3000050, 0x0, 0x0, 0x0, 0, 1⟩
def R.JESS_STAGE_ATTR.LOCK : RF := ⟨0x3000050, 0x0, 0x0, 0x0, 1, 1⟩
def R.JESS_STAGE_ATTR.F_RWX : RF := ⟨0x3000050, 0x0, 0x0, 0x0, 8, 3⟩
def R.JESS_STAGE_ATTR.S_RWX : RF := ⟨0x3000050, 0x0, 0x0, 0x0, 12, 3⟩
def R.JESS_STAGE_ATTR.U_RWX : RF := ⟨0x3000050, 0x0, 0x0, 0x0, 16, 3⟩
def R.JESS_STAGE_ATTR.CLASS_MASK : RF := ⟨0x3000050, 0x0, 0x0, 0x0, 20, 10⟩
def R.JESS_STAGE_ATTR.CRYPT_MODE : RF := ⟨0x3000050, 0x0, 0x0, 0x0, 32, 2⟩
def R.JESS_STAGE_ATTR.KEY_DOMAIN : RF := ⟨0x3000050, 0x0, 0x0, 0x0, 36, 12⟩
/-- JESS_STAGE_CMD, chapter 10: the whole word. -/
def R.JESS_STAGE_CMD : RF := ⟨0x3000058, 0x0, 0x0, 0x0, 0, 64⟩
def R.JESS_STAGE_CMD.REGION : RF := ⟨0x3000058, 0x0, 0x0, 0x0, 0, 8⟩
def R.JESS_STAGE_CMD.GO : RF := ⟨0x3000058, 0x0, 0x0, 0x0, 8, 1⟩
/-- JESS_STAGE_STATUS, chapter 10: the whole word. -/
def R.JESS_STAGE_STATUS : RF := ⟨0x3000060, 0x0, 0x0, 0x0, 0, 64⟩
def R.JESS_STAGE_STATUS.RESULT : RF := ⟨0x3000060, 0x0, 0x0, 0x0, 0, 3⟩
def R.JESS_STAGE_STATUS.COMMITS : RF := ⟨0x3000060, 0x0, 0x0, 0x0, 16, 32⟩
/-- JESS_REGION_START, chapter 10: the whole word. -/
def R.JESS_REGION_START : RF := ⟨0x3001000, 0x20, 0x0, 0x0, 0, 64⟩
def R.JESS_REGION_START.ADDR : RF := ⟨0x3001000, 0x20, 0x0, 0x0, 6, 44⟩
/-- JESS_REGION_END, chapter 10: the whole word. -/
def R.JESS_REGION_END : RF := ⟨0x3001008, 0x20, 0x0, 0x0, 0, 64⟩
def R.JESS_REGION_END.LOW : RF := ⟨0x3001008, 0x20, 0x0, 0x0, 0, 6⟩
def R.JESS_REGION_END.ADDR : RF := ⟨0x3001008, 0x20, 0x0, 0x0, 6, 44⟩
/-- JESS_REGION_ATTR, chapter 10: the whole word. -/
def R.JESS_REGION_ATTR : RF := ⟨0x3001010, 0x20, 0x0, 0x0, 0, 64⟩
def R.JESS_REGION_ATTR.ENABLE : RF := ⟨0x3001010, 0x20, 0x0, 0x0, 0, 1⟩
def R.JESS_REGION_ATTR.LOCK : RF := ⟨0x3001010, 0x20, 0x0, 0x0, 1, 1⟩
def R.JESS_REGION_ATTR.F_RWX : RF := ⟨0x3001010, 0x20, 0x0, 0x0, 8, 3⟩
def R.JESS_REGION_ATTR.S_RWX : RF := ⟨0x3001010, 0x20, 0x0, 0x0, 12, 3⟩
def R.JESS_REGION_ATTR.U_RWX : RF := ⟨0x3001010, 0x20, 0x0, 0x0, 16, 3⟩
def R.JESS_REGION_ATTR.CLASS_MASK : RF := ⟨0x3001010, 0x20, 0x0, 0x0, 20, 10⟩
def R.JESS_REGION_ATTR.CRYPT_MODE : RF := ⟨0x3001010, 0x20, 0x0, 0x0, 32, 2⟩
def R.JESS_REGION_ATTR.KEY_DOMAIN : RF := ⟨0x3001010, 0x20, 0x0, 0x0, 36, 12⟩
/-- JESS_LOG_ADDR, chapter 10: the whole word. -/
def R.JESS_LOG_ADDR : RF := ⟨0x3004000, 0x20, 0x0, 0x0, 0, 64⟩
def R.JESS_LOG_ADDR.ADDR : RF := ⟨0x3004000, 0x20, 0x0, 0x0, 0, 50⟩
/-- JESS_LOG_INFO, chapter 10: the whole word. -/
def R.JESS_LOG_INFO : RF := ⟨0x3004008, 0x20, 0x0, 0x0, 0, 64⟩
def R.JESS_LOG_INFO.MASTER_ID : RF := ⟨0x3004008, 0x20, 0x0, 0x0, 0, 16⟩
def R.JESS_LOG_INFO.PRIV : RF := ⟨0x3004008, 0x20, 0x0, 0x0, 16, 2⟩
def R.JESS_LOG_INFO.KIND : RF := ⟨0x3004008, 0x20, 0x0, 0x0, 18, 2⟩
def R.JESS_LOG_INFO.REGION_A : RF := ⟨0x3004008, 0x20, 0x0, 0x0, 20, 9⟩
def R.JESS_LOG_INFO.REGION_B : RF := ⟨0x3004008, 0x20, 0x0, 0x0, 29, 9⟩
def R.JESS_LOG_INFO.CHECKER : RF := ⟨0x3004008, 0x20, 0x0, 0x0, 38, 4⟩
def R.JESS_LOG_INFO.REASON : RF := ⟨0x3004008, 0x20, 0x0, 0x0, 42, 3⟩
def R.JESS_LOG_INFO.STRADDLE : RF := ⟨0x3004008, 0x20, 0x0, 0x0, 45, 1⟩
def R.JESS_LOG_INFO.REMOTE : RF := ⟨0x3004008, 0x20, 0x0, 0x0, 46, 1⟩
def R.JESS_LOG_INFO.SEQ : RF := ⟨0x3004008, 0x20, 0x0, 0x0, 48, 16⟩
/-- JESS_LOG_TIME, chapter 10: the whole word. -/
def R.JESS_LOG_TIME : RF := ⟨0x3004010, 0x20, 0x0, 0x0, 0, 64⟩
/-- KTL_LINK_STATUS, chapter 11: the whole word. -/
def R.KTL_LINK_STATUS : RF := ⟨0xA000000, 0x10000, 0x0, 0x0, 0, 64⟩
def R.KTL_LINK_STATUS.STATE : RF := ⟨0xA000000, 0x10000, 0x0, 0x0, 0, 3⟩
def R.KTL_LINK_STATUS.GATEWAY : RF := ⟨0xA000000, 0x10000, 0x0, 0x0, 3, 1⟩
def R.KTL_LINK_STATUS.PEER_PERCH : RF := ⟨0xA000000, 0x10000, 0x0, 0x0, 4, 1⟩
def R.KTL_LINK_STATUS.LEAVING : RF := ⟨0xA000000, 0x10000, 0x0, 0x0, 5, 1⟩
def R.KTL_LINK_STATUS.PEER_ID : RF := ⟨0xA000000, 0x10000, 0x0, 0x0, 6, 6⟩
def R.KTL_LINK_STATUS.LANES_LOCKED : RF := ⟨0xA000000, 0x10000, 0x0, 0x0, 12, 4⟩
def R.KTL_LINK_STATUS.SLOT : RF := ⟨0xA000000, 0x10000, 0x0, 0x0, 16, 6⟩
def R.KTL_LINK_STATUS.TRAIN_FAILS : RF := ⟨0xA000000, 0x10000, 0x0, 0x0, 24, 8⟩
def R.KTL_LINK_STATUS.UP_MS : RF := ⟨0xA000000, 0x10000, 0x0, 0x0, 32, 32⟩
/-- KTL_LINK_CTRL, chapter 11: the whole word. -/
def R.KTL_LINK_CTRL : RF := ⟨0xA000008, 0x10000, 0x0, 0x0, 0, 64⟩
def R.KTL_LINK_CTRL.ENABLE : RF := ⟨0xA000008, 0x10000, 0x0, 0x0, 0, 1⟩
def R.KTL_LINK_CTRL.RETRAIN : RF := ⟨0xA000008, 0x10000, 0x0, 0x0, 1, 1⟩
/-- KTL_LINK_EVENT, chapter 11: the whole word. -/
def R.KTL_LINK_EVENT : RF := ⟨0xA000010, 0x10000, 0x0, 0x0, 0, 64⟩
def R.KTL_LINK_EVENT.REPLAY : RF := ⟨0xA000010, 0x10000, 0x0, 0x0, 0, 1⟩
def R.KTL_LINK_EVENT.DOWN : RF := ⟨0xA000010, 0x10000, 0x0, 0x0, 1, 1⟩
def R.KTL_LINK_EVENT.MISWIRED : RF := ⟨0xA000010, 0x10000, 0x0, 0x0, 2, 1⟩
def R.KTL_LINK_EVENT.TRAIN_FAIL : RF := ⟨0xA000010, 0x10000, 0x0, 0x0, 3, 1⟩
def R.KTL_LINK_EVENT.PEER_EPOCH : RF := ⟨0xA000010, 0x10000, 0x0, 0x0, 4, 1⟩
def R.KTL_LINK_EVENT.ORIGIN_BAD : RF := ⟨0xA000010, 0x10000, 0x0, 0x0, 5, 1⟩
/-- KTL_LINK_RUN_CNT, chapter 11: the whole word. -/
def R.KTL_LINK_RUN_CNT : RF := ⟨0xA000018, 0x10000, 0x0, 0x0, 0, 64⟩
def R.KTL_LINK_RUN_CNT.COUNT : RF := ⟨0xA000018, 0x10000, 0x0, 0x0, 0, 32⟩
/-- KTL_LINK_DOWN_CNT, chapter 11: the whole word. -/
def R.KTL_LINK_DOWN_CNT : RF := ⟨0xA000020, 0x10000, 0x0, 0x0, 0, 64⟩
def R.KTL_LINK_DOWN_CNT.COUNT : RF := ⟨0xA000020, 0x10000, 0x0, 0x0, 0, 32⟩
/-- KTL_LINK_MISWIRE_CNT, chapter 11: the whole word. -/
def R.KTL_LINK_MISWIRE_CNT : RF := ⟨0xA000028, 0x10000, 0x0, 0x0, 0, 64⟩
def R.KTL_LINK_MISWIRE_CNT.COUNT : RF := ⟨0xA000028, 0x10000, 0x0, 0x0, 0, 32⟩
/-- KTL_LINK_TRAIN_FAIL_CNT, chapter 11: the whole word. -/
def R.KTL_LINK_TRAIN_FAIL_CNT : RF := ⟨0xA000030, 0x10000, 0x0, 0x0, 0, 64⟩
def R.KTL_LINK_TRAIN_FAIL_CNT.COUNT : RF := ⟨0xA000030, 0x10000, 0x0, 0x0, 0, 32⟩
/-- KTL_LINK_EPOCH_CNT, chapter 11: the whole word. -/
def R.KTL_LINK_EPOCH_CNT : RF := ⟨0xA000038, 0x10000, 0x0, 0x0, 0, 64⟩
def R.KTL_LINK_EPOCH_CNT.COUNT : RF := ⟨0xA000038, 0x10000, 0x0, 0x0, 0, 32⟩
/-- KTL_LINK_ORIGIN_CNT, chapter 11: the whole word. -/
def R.KTL_LINK_ORIGIN_CNT : RF := ⟨0xA000040, 0x10000, 0x0, 0x0, 0, 64⟩
def R.KTL_LINK_ORIGIN_CNT.COUNT : RF := ⟨0xA000040, 0x10000, 0x0, 0x0, 0, 32⟩
/-- KTL_LINK_REPLAYS, chapter 11: the whole word. -/
def R.KTL_LINK_REPLAYS : RF := ⟨0xA000080, 0x10000, 0x0, 0x0, 0, 64⟩
/-- KTL_LINK_FLITS_TX, chapter 11: the whole word. -/
def R.KTL_LINK_FLITS_TX : RF := ⟨0xA000088, 0x10000, 0x0, 0x0, 0, 64⟩
/-- KTL_LINK_FLITS_RX, chapter 11: the whole word. -/
def R.KTL_LINK_FLITS_RX : RF := ⟨0xA000090, 0x10000, 0x0, 0x0, 0, 64⟩
/-- KTL_LINK_FEC_CORR, chapter 11: the whole word. -/
def R.KTL_LINK_FEC_CORR : RF := ⟨0xA000098, 0x10000, 0x0, 0x0, 0, 64⟩
/-- KTL_LINK_FEC_UNCORR, chapter 11: the whole word. -/
def R.KTL_LINK_FEC_UNCORR : RF := ⟨0xA0000A0, 0x10000, 0x0, 0x0, 0, 64⟩
/-- KTL_LINK_SLOTS_TX, chapter 11: the whole word. -/
def R.KTL_LINK_SLOTS_TX : RF := ⟨0xA0000A8, 0x10000, 0x0, 0x0, 0, 64⟩
/-- KTL_LINK_EQ, chapter 11: the whole word. -/
def R.KTL_LINK_EQ : RF := ⟨0xA000100, 0x10000, 0x8, 0x0, 0, 64⟩
def R.KTL_LINK_EQ.C_M2 : RF := ⟨0xA000100, 0x10000, 0x8, 0x0, 0, 6⟩
def R.KTL_LINK_EQ.C_M1 : RF := ⟨0xA000100, 0x10000, 0x8, 0x0, 6, 6⟩
def R.KTL_LINK_EQ.C_0 : RF := ⟨0xA000100, 0x10000, 0x8, 0x0, 12, 6⟩
def R.KTL_LINK_EQ.C_1 : RF := ⟨0xA000100, 0x10000, 0x8, 0x0, 18, 6⟩
def R.KTL_LINK_EQ.CTLE : RF := ⟨0xA000100, 0x10000, 0x8, 0x0, 24, 8⟩
def R.KTL_LINK_EQ.VALID : RF := ⟨0xA000100, 0x10000, 0x8, 0x0, 32, 1⟩
/-- KTL_GLB_STATUS, chapter 11: the whole word. -/
def R.KTL_GLB_STATUS : RF := ⟨0xA800000, 0x0, 0x0, 0x0, 0, 64⟩
def R.KTL_GLB_STATUS.UP_LINKS : RF := ⟨0xA800000, 0x0, 0x0, 0x0, 0, 7⟩
def R.KTL_GLB_STATUS.SLOT : RF := ⟨0xA800000, 0x0, 0x0, 0x0, 7, 6⟩
def R.KTL_GLB_STATUS.ALIGNED : RF := ⟨0xA800000, 0x0, 0x0, 0x0, 13, 1⟩
def R.KTL_GLB_STATUS.ALIGN_SRC : RF := ⟨0xA800000, 0x0, 0x0, 0x0, 14, 2⟩
def R.KTL_GLB_STATUS.ALIGN_PEER : RF := ⟨0xA800000, 0x0, 0x0, 0x0, 16, 6⟩
def R.KTL_GLB_STATUS.KEEPER_ALL : RF := ⟨0xA800000, 0x0, 0x0, 0x0, 22, 1⟩
def R.KTL_GLB_STATUS.TRAIN_LINK : RF := ⟨0xA800000, 0x0, 0x0, 0x0, 23, 6⟩
def R.KTL_GLB_STATUS.TRAINING : RF := ⟨0xA800000, 0x0, 0x0, 0x0, 29, 1⟩
/-- KTL_GLB_CFG, chapter 11: the whole word. -/
def R.KTL_GLB_CFG : RF := ⟨0xA800008, 0x0, 0x0, 0x0, 0, 64⟩
def R.KTL_GLB_CFG.RELAY_USE : RF := ⟨0xA800008, 0x0, 0x0, 0x0, 0, 1⟩
def R.KTL_GLB_CFG.RELAY_SERVE : RF := ⟨0xA800008, 0x0, 0x0, 0x0, 1, 1⟩
/-- KTL_GLB_EVENT, chapter 11: the whole word. -/
def R.KTL_GLB_EVENT : RF := ⟨0xA800010, 0x0, 0x0, 0x0, 0, 64⟩
def R.KTL_GLB_EVENT.NO_ROUTE : RF := ⟨0xA800010, 0x0, 0x0, 0x0, 0, 1⟩
def R.KTL_GLB_EVENT.REROUTE : RF := ⟨0xA800010, 0x0, 0x0, 0x0, 1, 1⟩
def R.KTL_GLB_EVENT.STRANDED : RF := ⟨0xA800010, 0x0, 0x0, 0x0, 2, 1⟩
def R.KTL_GLB_EVENT.RESP_TIMEOUT : RF := ⟨0xA800010, 0x0, 0x0, 0x0, 3, 1⟩
/-- KTL_GLB_NOROUTE_CNT, chapter 11: the whole word. -/
def R.KTL_GLB_NOROUTE_CNT : RF := ⟨0xA800018, 0x0, 0x0, 0x0, 0, 64⟩
def R.KTL_GLB_NOROUTE_CNT.COUNT : RF := ⟨0xA800018, 0x0, 0x0, 0x0, 0, 32⟩
/-- KTL_GLB_REROUTE_CNT, chapter 11: the whole word. -/
def R.KTL_GLB_REROUTE_CNT : RF := ⟨0xA800020, 0x0, 0x0, 0x0, 0, 64⟩
def R.KTL_GLB_REROUTE_CNT.COUNT : RF := ⟨0xA800020, 0x0, 0x0, 0x0, 0, 32⟩
/-- KTL_GLB_STRAND_CNT, chapter 11: the whole word. -/
def R.KTL_GLB_STRAND_CNT : RF := ⟨0xA800028, 0x0, 0x0, 0x0, 0, 64⟩
def R.KTL_GLB_STRAND_CNT.COUNT : RF := ⟨0xA800028, 0x0, 0x0, 0x0, 0, 32⟩
/-- KTL_GLB_RESPTO_CNT, chapter 11: the whole word. -/
def R.KTL_GLB_RESPTO_CNT : RF := ⟨0xA800030, 0x0, 0x0, 0x0, 0, 64⟩
def R.KTL_GLB_RESPTO_CNT.COUNT : RF := ⟨0xA800030, 0x0, 0x0, 0x0, 0, 32⟩
/-- KTL_ROUTE, chapter 11: the whole word. -/
def R.KTL_ROUTE : RF := ⟨0xA801000, 0x8, 0x0, 0x0, 0, 64⟩
def R.KTL_ROUTE.KIND : RF := ⟨0xA801000, 0x8, 0x0, 0x0, 0, 2⟩
def R.KTL_ROUTE.HOLD : RF := ⟨0xA801000, 0x8, 0x0, 0x0, 2, 1⟩
def R.KTL_ROUTE.PERCHED : RF := ⟨0xA801000, 0x8, 0x0, 0x0, 3, 1⟩
def R.KTL_ROUTE.VIA : RF := ⟨0xA801000, 0x8, 0x0, 0x0, 4, 7⟩
def R.KTL_ROUTE.NONE_MS : RF := ⟨0xA801000, 0x8, 0x0, 0x0, 32, 32⟩
/-- KTL_PEER_LINKS, chapter 11: the whole word. -/
def R.KTL_PEER_LINKS : RF := ⟨0xA802000, 0x8, 0x0, 0x0, 0, 64⟩
/-- MEWS_STATUS, chapter 12: the whole word. -/
def R.MEWS_STATUS : RF := ⟨0xB000000, 0x0, 0x0, 0x0, 0, 64⟩
def R.MEWS_STATUS.CACHE_READY : RF := ⟨0xB000000, 0x0, 0x0, 0x0, 0, 1⟩
def R.MEWS_STATUS.FILLING : RF := ⟨0xB000000, 0x0, 0x0, 0x0, 1, 1⟩
def R.MEWS_STATUS.DIRTY : RF := ⟨0xB000000, 0x0, 0x0, 0x0, 2, 21⟩
/-- MEWS_EVENT, chapter 12: the whole word. -/
def R.MEWS_EVENT : RF := ⟨0xB000008, 0x0, 0x0, 0x0, 0, 64⟩
def R.MEWS_EVENT.CE : RF := ⟨0xB000008, 0x0, 0x0, 0x0, 0, 1⟩
def R.MEWS_EVENT.UE : RF := ⟨0xB000008, 0x0, 0x0, 0x0, 1, 1⟩
def R.MEWS_EVENT.POISON_USE : RF := ⟨0xB000008, 0x0, 0x0, 0x0, 2, 1⟩
def R.MEWS_EVENT.LOCK_REFUSED : RF := ⟨0xB000008, 0x0, 0x0, 0x0, 3, 1⟩
def R.MEWS_EVENT.FLASH_ERR : RF := ⟨0xB000008, 0x0, 0x0, 0x0, 4, 1⟩
/-- MEWS_CE_CNT, chapter 12: the whole word. -/
def R.MEWS_CE_CNT : RF := ⟨0xB000010, 0x0, 0x0, 0x0, 0, 64⟩
def R.MEWS_CE_CNT.COUNT : RF := ⟨0xB000010, 0x0, 0x0, 0x0, 0, 32⟩
/-- MEWS_UE_CNT, chapter 12: the whole word. -/
def R.MEWS_UE_CNT : RF := ⟨0xB000018, 0x0, 0x0, 0x0, 0, 64⟩
def R.MEWS_UE_CNT.COUNT : RF := ⟨0xB000018, 0x0, 0x0, 0x0, 0, 32⟩
/-- MEWS_POISON_CNT, chapter 12: the whole word. -/
def R.MEWS_POISON_CNT : RF := ⟨0xB000020, 0x0, 0x0, 0x0, 0, 64⟩
def R.MEWS_POISON_CNT.COUNT : RF := ⟨0xB000020, 0x0, 0x0, 0x0, 0, 32⟩
/-- MEWS_LOCK_REF_CNT, chapter 12: the whole word. -/
def R.MEWS_LOCK_REF_CNT : RF := ⟨0xB000028, 0x0, 0x0, 0x0, 0, 64⟩
def R.MEWS_LOCK_REF_CNT.COUNT : RF := ⟨0xB000028, 0x0, 0x0, 0x0, 0, 32⟩
/-- MEWS_FLASH_ERR_CNT, chapter 12: the whole word. -/
def R.MEWS_FLASH_ERR_CNT : RF := ⟨0xB000030, 0x0, 0x0, 0x0, 0, 64⟩
def R.MEWS_FLASH_ERR_CNT.COUNT : RF := ⟨0xB000030, 0x0, 0x0, 0x0, 0, 32⟩
/-- MEWS_CACHE_CFG, chapter 12: the whole word. -/
def R.MEWS_CACHE_CFG : RF := ⟨0xB000040, 0x0, 0x0, 0x0, 0, 64⟩
def R.MEWS_CACHE_CFG.TENANT_WAYS : RF := ⟨0xB000040, 0x0, 0x0, 0x0, 0, 4⟩
/-- MEWS_CACHE_MAINT, chapter 12: the whole word. -/
def R.MEWS_CACHE_MAINT : RF := ⟨0xB000048, 0x0, 0x0, 0x0, 0, 64⟩
def R.MEWS_CACHE_MAINT.CLEAN_ALL : RF := ⟨0xB000048, 0x0, 0x0, 0x0, 0, 1⟩
def R.MEWS_CACHE_MAINT.BUSY : RF := ⟨0xB000048, 0x0, 0x0, 0x0, 1, 1⟩
/-- MEWS_RING_POOL, chapter 12: the whole word. -/
def R.MEWS_RING_POOL : RF := ⟨0xB000050, 0x0, 0x0, 0x0, 0, 64⟩
def R.MEWS_RING_POOL.ENABLE : RF := ⟨0xB000050, 0x0, 0x0, 0x0, 0, 1⟩
def R.MEWS_RING_POOL.BASE : RF := ⟨0xB000050, 0x0, 0x0, 0x0, 16, 25⟩
def R.MEWS_RING_POOL.SIZE : RF := ⟨0xB000050, 0x0, 0x0, 0x0, 48, 8⟩
/-- MEWS_LOCK, chapter 12: the whole word. -/
def R.MEWS_LOCK : RF := ⟨0xB000058, 0x8, 0x0, 0x0, 0, 64⟩
def R.MEWS_LOCK.ENABLE : RF := ⟨0xB000058, 0x8, 0x0, 0x0, 0, 1⟩
def R.MEWS_LOCK.BASE : RF := ⟨0xB000058, 0x8, 0x0, 0x0, 16, 25⟩
def R.MEWS_LOCK.SIZE : RF := ⟨0xB000058, 0x8, 0x0, 0x0, 48, 8⟩
/-- MEWS_HITS, chapter 12: the whole word. -/
def R.MEWS_HITS : RF := ⟨0xB0000A0, 0x0, 0x0, 0x0, 0, 64⟩
/-- MEWS_MISSES, chapter 12: the whole word. -/
def R.MEWS_MISSES : RF := ⟨0xB0000A8, 0x0, 0x0, 0x0, 0, 64⟩
/-- MEWS_RECALLS, chapter 12: the whole word. -/
def R.MEWS_RECALLS : RF := ⟨0xB0000B0, 0x0, 0x0, 0x0, 0, 64⟩
/-- MEWS_ATOMICS, chapter 12: the whole word. -/
def R.MEWS_ATOMICS : RF := ⟨0xB0000B8, 0x0, 0x0, 0x0, 0, 64⟩
/-- MEWS_IRQ_ROUTE, chapter 12: the whole word. -/
def R.MEWS_IRQ_ROUTE : RF := ⟨0xB000100, 0x8, 0x0, 0x0, 0, 64⟩
def R.MEWS_IRQ_ROUTE.WARDEN_MASK : RF := ⟨0xB000100, 0x8, 0x0, 0x0, 0, 4⟩
/-- MEWS_CORE_CTRL, chapter 12: the whole word. -/
def R.MEWS_CORE_CTRL : RF := ⟨0xB000200, 0x20, 0x0, 0x0, 0, 64⟩
def R.MEWS_CORE_CTRL.RELEASE : RF := ⟨0xB000200, 0x20, 0x0, 0x0, 0, 1⟩
def R.MEWS_CORE_CTRL.RESET : RF := ⟨0xB000200, 0x20, 0x0, 0x0, 1, 1⟩
/-- MEWS_CORE_STATUS, chapter 12: the whole word. -/
def R.MEWS_CORE_STATUS : RF := ⟨0xB000208, 0x20, 0x0, 0x0, 0, 64⟩
def R.MEWS_CORE_STATUS.STATE : RF := ⟨0xB000208, 0x20, 0x0, 0x0, 0, 3⟩
/-- MEWS_CORE_VECTOR, chapter 12: the whole word. -/
def R.MEWS_CORE_VECTOR : RF := ⟨0xB000210, 0x20, 0x0, 0x0, 0, 64⟩
def R.MEWS_CORE_VECTOR.VECTOR : RF := ⟨0xB000210, 0x20, 0x0, 0x0, 2, 54⟩
/-- MEWS_IMSIC, chapter 12: the whole word. -/
def R.MEWS_IMSIC : RF := ⟨0xB100000, 0x8000, 0x1000, 0x0, 0, 64⟩
def R.MEWS_IMSIC.SETEIPNUM_LE : RF := ⟨0xB100000, 0x8000, 0x1000, 0x0, 0, 32⟩
def R.MEWS_IMSIC.SETEIPNUM_BE : RF := ⟨0xB100000, 0x8000, 0x1000, 0x0, 32, 32⟩
/-- MEWS_FLASH_CMD, chapter 12: the whole word. -/
def R.MEWS_FLASH_CMD : RF := ⟨0xB000400, 0x0, 0x0, 0x0, 0, 64⟩
def R.MEWS_FLASH_CMD.OP : RF := ⟨0xB000400, 0x0, 0x0, 0x0, 0, 2⟩
def R.MEWS_FLASH_CMD.GO : RF := ⟨0xB000400, 0x0, 0x0, 0x0, 2, 1⟩
/-- MEWS_FLASH_ADDR, chapter 12: the whole word. -/
def R.MEWS_FLASH_ADDR : RF := ⟨0xB000408, 0x0, 0x0, 0x0, 0, 64⟩
def R.MEWS_FLASH_ADDR.ADDR : RF := ⟨0xB000408, 0x0, 0x0, 0x0, 0, 32⟩
/-- MEWS_FLASH_BUF, chapter 12: the whole word. -/
def R.MEWS_FLASH_BUF : RF := ⟨0xB000410, 0x0, 0x0, 0x0, 0, 64⟩
def R.MEWS_FLASH_BUF.BUF : RF := ⟨0xB000410, 0x0, 0x0, 0x0, 6, 33⟩
/-- MEWS_FLASH_LEN, chapter 12: the whole word. -/
def R.MEWS_FLASH_LEN : RF := ⟨0xB000418, 0x0, 0x0, 0x0, 0, 64⟩
def R.MEWS_FLASH_LEN.LEN : RF := ⟨0xB000418, 0x0, 0x0, 0x0, 0, 29⟩
/-- MEWS_FLASH_STATUS, chapter 12: the whole word. -/
def R.MEWS_FLASH_STATUS : RF := ⟨0xB000420, 0x0, 0x0, 0x0, 0, 64⟩
def R.MEWS_FLASH_STATUS.BUSY : RF := ⟨0xB000420, 0x0, 0x0, 0x0, 0, 1⟩
def R.MEWS_FLASH_STATUS.ERR : RF := ⟨0xB000420, 0x0, 0x0, 0x0, 1, 3⟩
def R.MEWS_FLASH_STATUS.STATE : RF := ⟨0xB000420, 0x0, 0x0, 0x0, 4, 2⟩
/-- MEWS_FLASH_PROTECT, chapter 12: the whole word. -/
def R.MEWS_FLASH_PROTECT : RF := ⟨0xB000428, 0x0, 0x0, 0x0, 0, 64⟩
def R.MEWS_FLASH_PROTECT.PROTECT : RF := ⟨0xB000428, 0x0, 0x0, 0x0, 0, 2⟩
/-- PWR_STATUS, chapter 13: the whole word. -/
def R.PWR_STATUS : RF := ⟨0x4000000, 0x0, 0x0, 0x0, 0, 64⟩
def R.PWR_STATUS.STATE : RF := ⟨0x4000000, 0x0, 0x0, 0x0, 0, 3⟩
def R.PWR_STATUS.CLOCK_LIMITED : RF := ⟨0x4000000, 0x0, 0x0, 0x0, 3, 1⟩
def R.PWR_STATUS.BURST : RF := ⟨0x4000000, 0x0, 0x0, 0x0, 4, 1⟩
def R.PWR_STATUS.LIMIT : RF := ⟨0x4000000, 0x0, 0x0, 0x0, 5, 2⟩
def R.PWR_STATUS.VR_FALLBACK : RF := ⟨0x4000000, 0x0, 0x0, 0x0, 7, 1⟩
def R.PWR_STATUS.RAMPING : RF := ⟨0x4000000, 0x0, 0x0, 0x0, 8, 1⟩
/-- PWR_CAP, chapter 13: the whole word. -/
def R.PWR_CAP : RF := ⟨0x4000008, 0x0, 0x0, 0x0, 0, 64⟩
def R.PWR_CAP.CAP_W : RF := ⟨0x4000008, 0x0, 0x0, 0x0, 0, 12⟩
def R.PWR_CAP.BURST_W : RF := ⟨0x4000008, 0x0, 0x0, 0x0, 12, 12⟩
def R.PWR_CAP.BUCKET_MS : RF := ⟨0x4000008, 0x0, 0x0, 0x0, 24, 8⟩
/-- PWR_WINDOW, chapter 13: the whole word. -/
def R.PWR_WINDOW : RF := ⟨0x4000010, 0x0, 0x0, 0x0, 0, 64⟩
/-- PWR_GRANT, chapter 13: the whole word. -/
def R.PWR_GRANT : RF := ⟨0x4000018, 0x0, 0x0, 0x0, 0, 64⟩
def R.PWR_GRANT.GRANT : RF := ⟨0x4000018, 0x0, 0x0, 0x0, 0, 19⟩
def R.PWR_GRANT.BOOKED : RF := ⟨0x4000018, 0x0, 0x0, 0x0, 32, 19⟩
/-- PWR_LAST, chapter 13: the whole word. -/
def R.PWR_LAST : RF := ⟨0x4000020, 0x0, 0x0, 0x0, 0, 64⟩
def R.PWR_LAST.POWER_W : RF := ⟨0x4000020, 0x0, 0x0, 0x0, 0, 12⟩
def R.PWR_LAST.BALLAST : RF := ⟨0x4000020, 0x0, 0x0, 0x0, 32, 19⟩
/-- PWR_BUCKET, chapter 13: the whole word. -/
def R.PWR_BUCKET : RF := ⟨0x4000028, 0x0, 0x0, 0x0, 0, 64⟩
def R.PWR_BUCKET.LEVEL_MJ : RF := ⟨0x4000028, 0x0, 0x0, 0x0, 0, 32⟩
/-- PWR_THERM_CFG, chapter 13: the whole word. -/
def R.PWR_THERM_CFG : RF := ⟨0x4000030, 0x0, 0x0, 0x0, 0, 64⟩
def R.PWR_THERM_CFG.DIE_LIMIT_C : RF := ⟨0x4000030, 0x0, 0x0, 0x0, 0, 8⟩
def R.PWR_THERM_CFG.DIE_TRIP_C : RF := ⟨0x4000030, 0x0, 0x0, 0x0, 8, 8⟩
def R.PWR_THERM_CFG.BURST_HEADROOM_C : RF := ⟨0x4000030, 0x0, 0x0, 0x0, 16, 8⟩
def R.PWR_THERM_CFG.THERM_GAIN : RF := ⟨0x4000030, 0x0, 0x0, 0x0, 24, 12⟩
def R.PWR_THERM_CFG.STACK_MARGIN_C : RF := ⟨0x4000030, 0x0, 0x0, 0x0, 40, 4⟩
/-- PWR_GOV_CFG, chapter 13: the whole word. -/
def R.PWR_GOV_CFG : RF := ⟨0x4000038, 0x0, 0x0, 0x0, 0, 64⟩
def R.PWR_GOV_CFG.RAMP_W_PER_US : RF := ⟨0x4000038, 0x0, 0x0, 0x0, 0, 5⟩
def R.PWR_GOV_CFG.STEP_FREE_W : RF := ⟨0x4000038, 0x0, 0x0, 0x0, 8, 8⟩
def R.PWR_GOV_CFG.TAU_US : RF := ⟨0x4000038, 0x0, 0x0, 0x0, 16, 8⟩
/-- PWR_GOV_STATUS, chapter 13: the whole word. -/
def R.PWR_GOV_STATUS : RF := ⟨0x4000040, 0x0, 0x0, 0x0, 0, 64⟩
def R.PWR_GOV_STATUS.P_REF_W : RF := ⟨0x4000040, 0x0, 0x0, 0x0, 0, 12⟩
def R.PWR_GOV_STATUS.LOAD_W : RF := ⟨0x4000040, 0x0, 0x0, 0x0, 16, 12⟩
def R.PWR_GOV_STATUS.RESERVE : RF := ⟨0x4000040, 0x0, 0x0, 0x0, 32, 16⟩
def R.PWR_GOV_STATUS.BALLAST_W : RF := ⟨0x4000040, 0x0, 0x0, 0x0, 48, 12⟩
/-- PWR_FUSE, chapter 13: the whole word. -/
def R.PWR_FUSE : RF := ⟨0x4000048, 0x0, 0x0, 0x0, 0, 64⟩
def R.PWR_FUSE.RESERVE_UJ : RF := ⟨0x4000048, 0x0, 0x0, 0x0, 0, 16⟩
/-- PWR_CLOCK_CFG, chapter 13: the whole word. -/
def R.PWR_CLOCK_CFG : RF := ⟨0x4000050, 0x0, 0x0, 0x0, 0, 64⟩
def R.PWR_CLOCK_CFG.CLOCK_MIN_MHZ : RF := ⟨0x4000050, 0x0, 0x0, 0x0, 0, 12⟩
/-- PWR_POLICY, chapter 13: the whole word. -/
def R.PWR_POLICY : RF := ⟨0x4000058, 0x0, 0x0, 0x0, 0, 64⟩
def R.PWR_POLICY.PARK_SLACK_PCT : RF := ⟨0x4000058, 0x0, 0x0, 0x0, 0, 7⟩
def R.PWR_POLICY.PARK_FREE_PCT : RF := ⟨0x4000058, 0x0, 0x0, 0x0, 8, 7⟩
def R.PWR_POLICY.PARK_REQ_MAX : RF := ⟨0x4000058, 0x0, 0x0, 0x0, 16, 8⟩
def R.PWR_POLICY.GATE_IDLE_US : RF := ⟨0x4000058, 0x0, 0x0, 0x0, 32, 16⟩
/-- PWR_VR_CFG, chapter 13: the whole word. -/
def R.PWR_VR_CFG : RF := ⟨0x4000060, 0x0, 0x0, 0x0, 0, 64⟩
def R.PWR_VR_CFG.VR_LIMIT_W : RF := ⟨0x4000060, 0x0, 0x0, 0x0, 0, 12⟩
def R.PWR_VR_CFG.XFER_W : RF := ⟨0x4000060, 0x0, 0x0, 0x0, 12, 12⟩
def R.PWR_VR_CFG.PAGE_UJ : RF := ⟨0x4000060, 0x0, 0x0, 0x0, 24, 16⟩
/-- PWR_VR_STATUS, chapter 13: the whole word. -/
def R.PWR_VR_STATUS : RF := ⟨0x4000068, 0x0, 0x0, 0x0, 0, 64⟩
def R.PWR_VR_STATUS.CAL : RF := ⟨0x4000068, 0x0, 0x0, 0x0, 0, 16⟩
def R.PWR_VR_STATUS.WARNING : RF := ⟨0x4000068, 0x0, 0x0, 0x0, 16, 1⟩
def R.PWR_VR_STATUS.ABSENT : RF := ⟨0x4000068, 0x0, 0x0, 0x0, 24, 8⟩
/-- PWR_EVENT, chapter 13: the whole word. -/
def R.PWR_EVENT : RF := ⟨0x4000070, 0x0, 0x0, 0x0, 0, 64⟩
def R.PWR_EVENT.CLOCK_LIMITED : RF := ⟨0x4000070, 0x0, 0x0, 0x0, 0, 1⟩
def R.PWR_EVENT.THERM_TRIP : RF := ⟨0x4000070, 0x0, 0x0, 0x0, 1, 1⟩
def R.PWR_EVENT.VR_FALLBACK : RF := ⟨0x4000070, 0x0, 0x0, 0x0, 2, 1⟩
def R.PWR_EVENT.PERCH_ABORT : RF := ⟨0x4000070, 0x0, 0x0, 0x0, 3, 1⟩
def R.PWR_EVENT.RESERVE_LIMIT : RF := ⟨0x4000070, 0x0, 0x0, 0x0, 4, 1⟩
def R.PWR_EVENT.DEFERRED : RF := ⟨0x4000070, 0x0, 0x0, 0x0, 5, 1⟩
def R.PWR_EVENT.BAD_CFG : RF := ⟨0x4000070, 0x0, 0x0, 0x0, 6, 1⟩
/-- PWR_CLK_CNT, chapter 13: the whole word. -/
def R.PWR_CLK_CNT : RF := ⟨0x4000078, 0x0, 0x0, 0x0, 0, 64⟩
def R.PWR_CLK_CNT.COUNT : RF := ⟨0x4000078, 0x0, 0x0, 0x0, 0, 32⟩
/-- PWR_TRIP_CNT, chapter 13: the whole word. -/
def R.PWR_TRIP_CNT : RF := ⟨0x4000080, 0x0, 0x0, 0x0, 0, 64⟩
def R.PWR_TRIP_CNT.COUNT : RF := ⟨0x4000080, 0x0, 0x0, 0x0, 0, 32⟩
/-- PWR_FALLBACK_CNT, chapter 13: the whole word. -/
def R.PWR_FALLBACK_CNT : RF := ⟨0x4000088, 0x0, 0x0, 0x0, 0, 64⟩
def R.PWR_FALLBACK_CNT.COUNT : RF := ⟨0x4000088, 0x0, 0x0, 0x0, 0, 32⟩
/-- PWR_ABORT_CNT, chapter 13: the whole word. -/
def R.PWR_ABORT_CNT : RF := ⟨0x4000090, 0x0, 0x0, 0x0, 0, 64⟩
def R.PWR_ABORT_CNT.COUNT : RF := ⟨0x4000090, 0x0, 0x0, 0x0, 0, 32⟩
/-- PWR_RESLIM_CNT, chapter 13: the whole word. -/
def R.PWR_RESLIM_CNT : RF := ⟨0x4000098, 0x0, 0x0, 0x0, 0, 64⟩
def R.PWR_RESLIM_CNT.COUNT : RF := ⟨0x4000098, 0x0, 0x0, 0x0, 0, 32⟩
/-- PWR_DEFER_CNT, chapter 13: the whole word. -/
def R.PWR_DEFER_CNT : RF := ⟨0x40000A0, 0x0, 0x0, 0x0, 0, 64⟩
def R.PWR_DEFER_CNT.COUNT : RF := ⟨0x40000A0, 0x0, 0x0, 0x0, 0, 32⟩
/-- PWR_BADCFG_CNT, chapter 13: the whole word. -/
def R.PWR_BADCFG_CNT : RF := ⟨0x40000A8, 0x0, 0x0, 0x0, 0, 64⟩
def R.PWR_BADCFG_CNT.COUNT : RF := ⟨0x40000A8, 0x0, 0x0, 0x0, 0, 32⟩
/-- PWR_ENERGY, chapter 13: the whole word. -/
def R.PWR_ENERGY : RF := ⟨0x40000C0, 0x0, 0x0, 0x0, 0, 64⟩
/-- PWR_BALLAST_ENERGY, chapter 13: the whole word. -/
def R.PWR_BALLAST_ENERGY : RF := ⟨0x40000C8, 0x0, 0x0, 0x0, 0, 64⟩
/-- PWR_DIE, chapter 13: the whole word. -/
def R.PWR_DIE : RF := ⟨0x4000100, 0x8, 0x0, 0x0, 0, 64⟩
def R.PWR_DIE.TEMP_DC : RF := ⟨0x4000100, 0x8, 0x0, 0x0, 0, 12⟩
def R.PWR_DIE.CLOCK_MHZ : RF := ⟨0x4000100, 0x8, 0x0, 0x0, 16, 12⟩
def R.PWR_DIE.SCALE : RF := ⟨0x4000100, 0x8, 0x0, 0x0, 32, 16⟩
/-- PWR_PERCH_STATE, chapter 13: the whole word. -/
def R.PWR_PERCH_STATE : RF := ⟨0x4800000, 0x0, 0x0, 0x0, 0, 64⟩
def R.PWR_PERCH_STATE.PRIOR : RF := ⟨0x4800000, 0x0, 0x0, 0x0, 0, 1⟩
def R.PWR_PERCH_STATE.CORE_EN : RF := ⟨0x4800000, 0x0, 0x0, 0x0, 1, 1⟩
def R.PWR_PERCH_STATE.ROOST_HELD : RF := ⟨0x4800000, 0x0, 0x0, 0x0, 2, 1⟩
/-- PWR_WAKE_AT, chapter 13: the whole word. -/
def R.PWR_WAKE_AT : RF := ⟨0x4800008, 0x0, 0x0, 0x0, 0, 64⟩
def R.PWR_WAKE_AT.TICK : RF := ⟨0x4800008, 0x0, 0x0, 0x0, 0, 48⟩
def R.PWR_WAKE_AT.ENABLE : RF := ⟨0x4800008, 0x0, 0x0, 0x0, 63, 1⟩
/-- PWR_WAKE_CAUSE, chapter 13: the whole word. -/
def R.PWR_WAKE_CAUSE : RF := ⟨0x4800010, 0x0, 0x0, 0x0, 0, 64⟩
def R.PWR_WAKE_CAUSE.KETTLE : RF := ⟨0x4800010, 0x0, 0x0, 0x0, 0, 1⟩
def R.PWR_WAKE_CAUSE.PCIE : RF := ⟨0x4800010, 0x0, 0x0, 0x0, 1, 1⟩
def R.PWR_WAKE_CAUSE.MGMT : RF := ⟨0x4800010, 0x0, 0x0, 0x0, 2, 1⟩
def R.PWR_WAKE_CAUSE.TIMER : RF := ⟨0x4800010, 0x0, 0x0, 0x0, 3, 1⟩
def R.PWR_WAKE_CAUSE.LINK : RF := ⟨0x4800010, 0x0, 0x0, 0x0, 8, 6⟩
/-- TIME_STATUS, chapter 14: the whole word. -/
def R.TIME_STATUS : RF := ⟨0x5000000, 0x0, 0x0, 0x0, 0, 64⟩
def R.TIME_STATUS.QUALITY : RF := ⟨0x5000000, 0x0, 0x0, 0x0, 0, 3⟩
def R.TIME_STATUS.PPS_OUT_ACTIVE : RF := ⟨0x5000000, 0x0, 0x0, 0x0, 3, 1⟩
def R.TIME_STATUS.UNC_NS : RF := ⟨0x5000000, 0x0, 0x0, 0x0, 32, 32⟩
/-- TIME_CFG, chapter 14: the whole word. -/
def R.TIME_CFG : RF := ⟨0x5000008, 0x0, 0x0, 0x0, 0, 64⟩
def R.TIME_CFG.PPS_OUT_EN : RF := ⟨0x5000008, 0x0, 0x0, 0x0, 0, 1⟩
def R.TIME_CFG.PPS_WIDTH_US : RF := ⟨0x5000008, 0x0, 0x0, 0x0, 4, 10⟩
def R.TIME_CFG.SLEW_PPM : RF := ⟨0x5000008, 0x0, 0x0, 0x0, 16, 8⟩
/-- TIME_EVENT, chapter 14: the whole word. -/
def R.TIME_EVENT : RF := ⟨0x5000010, 0x0, 0x0, 0x0, 0, 64⟩
def R.TIME_EVENT.LOCKED : RF := ⟨0x5000010, 0x0, 0x0, 0x0, 0, 1⟩
def R.TIME_EVENT.LOST : RF := ⟨0x5000010, 0x0, 0x0, 0x0, 1, 1⟩
def R.TIME_EVENT.STEP : RF := ⟨0x5000010, 0x0, 0x0, 0x0, 2, 1⟩
def R.TIME_EVENT.PPS_REJECT : RF := ⟨0x5000010, 0x0, 0x0, 0x0, 3, 1⟩
def R.TIME_EVENT.TOD_REJECT : RF := ⟨0x5000010, 0x0, 0x0, 0x0, 4, 1⟩
def R.TIME_EVENT.ALARM : RF := ⟨0x5000010, 0x0, 0x0, 0x0, 5, 1⟩
/-- TIME_LOCK_CNT, chapter 14: the whole word. -/
def R.TIME_LOCK_CNT : RF := ⟨0x5000018, 0x0, 0x0, 0x0, 0, 64⟩
def R.TIME_LOCK_CNT.COUNT : RF := ⟨0x5000018, 0x0, 0x0, 0x0, 0, 32⟩
/-- TIME_LOSS_CNT, chapter 14: the whole word. -/
def R.TIME_LOSS_CNT : RF := ⟨0x5000020, 0x0, 0x0, 0x0, 0, 64⟩
def R.TIME_LOSS_CNT.COUNT : RF := ⟨0x5000020, 0x0, 0x0, 0x0, 0, 32⟩
/-- TIME_STEP_CNT, chapter 14: the whole word. -/
def R.TIME_STEP_CNT : RF := ⟨0x5000028, 0x0, 0x0, 0x0, 0, 64⟩
def R.TIME_STEP_CNT.COUNT : RF := ⟨0x5000028, 0x0, 0x0, 0x0, 0, 32⟩
/-- TIME_PPSREJ_CNT, chapter 14: the whole word. -/
def R.TIME_PPSREJ_CNT : RF := ⟨0x5000030, 0x0, 0x0, 0x0, 0, 64⟩
def R.TIME_PPSREJ_CNT.COUNT : RF := ⟨0x5000030, 0x0, 0x0, 0x0, 0, 32⟩
/-- TIME_TODREJ_CNT, chapter 14: the whole word. -/
def R.TIME_TODREJ_CNT : RF := ⟨0x5000038, 0x0, 0x0, 0x0, 0, 64⟩
def R.TIME_TODREJ_CNT.COUNT : RF := ⟨0x5000038, 0x0, 0x0, 0x0, 0, 32⟩
/-- TIME_ALARM_CNT, chapter 14: the whole word. -/
def R.TIME_ALARM_CNT : RF := ⟨0x5000040, 0x0, 0x0, 0x0, 0, 64⟩
def R.TIME_ALARM_CNT.COUNT : RF := ⟨0x5000040, 0x0, 0x0, 0x0, 0, 32⟩
/-- TIME_EVENT_EN, chapter 14: the whole word. -/
def R.TIME_EVENT_EN : RF := ⟨0x5000048, 0x0, 0x0, 0x0, 0, 64⟩
def R.TIME_EVENT_EN.EN : RF := ⟨0x5000048, 0x0, 0x0, 0x0, 0, 6⟩
/-- TIME_EPOCH_NS, chapter 14: the whole word. -/
def R.TIME_EPOCH_NS : RF := ⟨0x5000050, 0x0, 0x0, 0x0, 0, 64⟩
/-- TIME_RACK_NS, chapter 14: the whole word. -/
def R.TIME_RACK_NS : RF := ⟨0x5000058, 0x0, 0x0, 0x0, 0, 64⟩
/-- TIME_PPS_STAMP, chapter 14: the whole word. -/
def R.TIME_PPS_STAMP : RF := ⟨0x5000060, 0x0, 0x0, 0x0, 0, 64⟩
/-- TIME_ALARM, chapter 14: the whole word. -/
def R.TIME_ALARM : RF := ⟨0x5000068, 0x0, 0x0, 0x0, 0, 64⟩
def R.TIME_ALARM.NS : RF := ⟨0x5000068, 0x0, 0x0, 0x0, 0, 63⟩
def R.TIME_ALARM.ENABLE : RF := ⟨0x5000068, 0x0, 0x0, 0x0, 63, 1⟩
/-- TIME_CAPTURE, chapter 14: the whole word. -/
def R.TIME_CAPTURE : RF := ⟨0x5000070, 0x0, 0x0, 0x0, 0, 64⟩
def R.TIME_CAPTURE.GO : RF := ⟨0x5000070, 0x0, 0x0, 0x0, 0, 1⟩
/-- TIME_CAP_EPOCH, chapter 14: the whole word. -/
def R.TIME_CAP_EPOCH : RF := ⟨0x5000078, 0x0, 0x0, 0x0, 0, 64⟩
/-- TIME_CAP_RACK, chapter 14: the whole word. -/
def R.TIME_CAP_RACK : RF := ⟨0x5000080, 0x0, 0x0, 0x0, 0, 64⟩
/-- TIME_CAP_STATUS, chapter 14: the whole word. -/
def R.TIME_CAP_STATUS : RF := ⟨0x5000088, 0x0, 0x0, 0x0, 0, 64⟩
def R.TIME_CAP_STATUS.QUALITY : RF := ⟨0x5000088, 0x0, 0x0, 0x0, 0, 3⟩
def R.TIME_CAP_STATUS.PPS_OUT_ACTIVE : RF := ⟨0x5000088, 0x0, 0x0, 0x0, 3, 1⟩
def R.TIME_CAP_STATUS.UNC_NS : RF := ⟨0x5000088, 0x0, 0x0, 0x0, 32, 32⟩
/-- TIME_NONCE, chapter 14: the whole word. -/
def R.TIME_NONCE : RF := ⟨0x5800000, 0x0, 0x0, 0x0, 0, 64⟩
/-- TIME_ELAPSED, chapter 14: the whole word. -/
def R.TIME_ELAPSED : RF := ⟨0x5800008, 0x0, 0x0, 0x0, 0, 64⟩
def R.TIME_ELAPSED.TICKS : RF := ⟨0x5800008, 0x0, 0x0, 0x0, 0, 48⟩
/-- TIME_ANCHOR_TICKS, chapter 14: the whole word. -/
def R.TIME_ANCHOR_TICKS : RF := ⟨0x5800010, 0x0, 0x0, 0x0, 0, 64⟩
def R.TIME_ANCHOR_TICKS.TICKS : RF := ⟨0x5800010, 0x0, 0x0, 0x0, 0, 48⟩
/-- TIME_ANCHOR_NS, chapter 14: the whole word. -/
def R.TIME_ANCHOR_NS : RF := ⟨0x5800018, 0x0, 0x0, 0x0, 0, 64⟩
/-- WATCH_STATUS, chapter 15: the whole word. -/
def R.WATCH_STATUS : RF := ⟨0x2000000, 0x0, 0x0, 0x0, 0, 64⟩
def R.WATCH_STATUS.PENDING_SRCS : RF := ⟨0x2000000, 0x0, 0x0, 0x0, 0, 10⟩
def R.WATCH_STATUS.ALARM : RF := ⟨0x2000000, 0x0, 0x0, 0x0, 10, 1⟩
def R.WATCH_STATUS.WARM_WATCH : RF := ⟨0x2000000, 0x0, 0x0, 0x0, 11, 1⟩
def R.WATCH_STATUS.WARM_SHADOW : RF := ⟨0x2000000, 0x0, 0x0, 0x0, 12, 1⟩
def R.WATCH_STATUS.SHADOWS_OPEN : RF := ⟨0x2000000, 0x0, 0x0, 0x0, 13, 9⟩
/-- WATCH_GRACE, chapter 15: the whole word. -/
def R.WATCH_GRACE : RF := ⟨0x2000008, 0x0, 0x0, 0x0, 0, 64⟩
def R.WATCH_GRACE.FA_US : RF := ⟨0x2000008, 0x0, 0x0, 0x0, 0, 14⟩
def R.WATCH_GRACE.UC_MS : RF := ⟨0x2000008, 0x0, 0x0, 0x0, 16, 10⟩
def R.WATCH_GRACE.DE_MS : RF := ⟨0x2000008, 0x0, 0x0, 0x0, 32, 14⟩
/-- WATCH_CFG, chapter 15: the whole word. -/
def R.WATCH_CFG : RF := ⟨0x2000010, 0x0, 0x0, 0x0, 0, 64⟩
def R.WATCH_CFG.CE_THRESH : RF := ⟨0x2000010, 0x0, 0x0, 0x0, 0, 16⟩
def R.WATCH_CFG.CE_WINDOW_S : RF := ⟨0x2000010, 0x0, 0x0, 0x0, 16, 8⟩
def R.WATCH_CFG.TMO_US : RF := ⟨0x2000010, 0x0, 0x0, 0x0, 24, 6⟩
def R.WATCH_CFG.WARM_LIMIT_MS : RF := ⟨0x2000010, 0x0, 0x0, 0x0, 32, 14⟩
def R.WATCH_CFG.REPEAT_WARM_S : RF := ⟨0x2000010, 0x0, 0x0, 0x0, 48, 8⟩
/-- WATCH_EVENT, chapter 15: the whole word. -/
def R.WATCH_EVENT : RF := ⟨0x2000018, 0x0, 0x0, 0x0, 0, 64⟩
def R.WATCH_EVENT.FAULT : RF := ⟨0x2000018, 0x0, 0x0, 0x0, 0, 1⟩
def R.WATCH_EVENT.STEP : RF := ⟨0x2000018, 0x0, 0x0, 0x0, 1, 1⟩
def R.WATCH_EVENT.ACK_STRAY : RF := ⟨0x2000018, 0x0, 0x0, 0x0, 2, 1⟩
def R.WATCH_EVENT.ALARM : RF := ⟨0x2000018, 0x0, 0x0, 0x0, 3, 1⟩
def R.WATCH_EVENT.BAD_CFG : RF := ⟨0x2000018, 0x0, 0x0, 0x0, 4, 1⟩
/-- WATCH_FAULT_CNT, chapter 15: the whole word. -/
def R.WATCH_FAULT_CNT : RF := ⟨0x2000020, 0x0, 0x0, 0x0, 0, 64⟩
def R.WATCH_FAULT_CNT.COUNT : RF := ⟨0x2000020, 0x0, 0x0, 0x0, 0, 32⟩
/-- WATCH_STEP_CNT, chapter 15: the whole word. -/
def R.WATCH_STEP_CNT : RF := ⟨0x2000028, 0x0, 0x0, 0x0, 0, 64⟩
def R.WATCH_STEP_CNT.COUNT : RF := ⟨0x2000028, 0x0, 0x0, 0x0, 0, 32⟩
/-- WATCH_STRAY_CNT, chapter 15: the whole word. -/
def R.WATCH_STRAY_CNT : RF := ⟨0x2000030, 0x0, 0x0, 0x0, 0, 64⟩
def R.WATCH_STRAY_CNT.COUNT : RF := ⟨0x2000030, 0x0, 0x0, 0x0, 0, 32⟩
/-- WATCH_ALARM_CNT, chapter 15: the whole word. -/
def R.WATCH_ALARM_CNT : RF := ⟨0x2000038, 0x0, 0x0, 0x0, 0, 64⟩
def R.WATCH_ALARM_CNT.COUNT : RF := ⟨0x2000038, 0x0, 0x0, 0x0, 0, 32⟩
/-- WATCH_BADCFG_CNT, chapter 15: the whole word. -/
def R.WATCH_BADCFG_CNT : RF := ⟨0x2000040, 0x0, 0x0, 0x0, 0, 64⟩
def R.WATCH_BADCFG_CNT.COUNT : RF := ⟨0x2000040, 0x0, 0x0, 0x0, 0, 32⟩
/-- WATCH_ACK, chapter 15: the whole word. -/
def R.WATCH_ACK : RF := ⟨0x2000048, 0x0, 0x0, 0x0, 0, 64⟩
def R.WATCH_ACK.SOURCE : RF := ⟨0x2000048, 0x0, 0x0, 0x0, 0, 9⟩
def R.WATCH_ACK.CODE : RF := ⟨0x2000048, 0x0, 0x0, 0x0, 9, 3⟩
/-- WATCH_ALARM_CLR, chapter 15: the whole word. -/
def R.WATCH_ALARM_CLR : RF := ⟨0x2000050, 0x0, 0x0, 0x0, 0, 64⟩
def R.WATCH_ALARM_CLR.CLEAR : RF := ⟨0x2000050, 0x0, 0x0, 0x0, 0, 1⟩
/-- WATCH_LOG_HEAD, chapter 15: the whole word. -/
def R.WATCH_LOG_HEAD : RF := ⟨0x2000058, 0x0, 0x0, 0x0, 0, 64⟩
def R.WATCH_LOG_HEAD.NEXT_SEQ : RF := ⟨0x2000058, 0x0, 0x0, 0x0, 0, 16⟩
/-- WATCH_LOG_LO, chapter 15: the whole word. -/
def R.WATCH_LOG_LO : RF := ⟨0x2008000, 0x10, 0x0, 0x0, 0, 64⟩
/-- WATCH_LOG_HI, chapter 15: the whole word. -/
def R.WATCH_LOG_HI : RF := ⟨0x2008008, 0x10, 0x0, 0x0, 0, 64⟩
/-- WATCH_SRC_STATUS, chapter 15: the whole word. -/
def R.WATCH_SRC_STATUS : RF := ⟨0x2010000, 0x20, 0x0, 0x0, 0, 64⟩
def R.WATCH_SRC_STATUS.PENDING : RF := ⟨0x2010000, 0x20, 0x0, 0x0, 0, 1⟩
def R.WATCH_SRC_STATUS.CLASS : RF := ⟨0x2010000, 0x20, 0x0, 0x0, 1, 3⟩
def R.WATCH_SRC_STATUS.STEP : RF := ⟨0x2010000, 0x20, 0x0, 0x0, 4, 3⟩
def R.WATCH_SRC_STATUS.LADDER : RF := ⟨0x2010000, 0x20, 0x0, 0x0, 7, 2⟩
def R.WATCH_SRC_STATUS.EXTENDS : RF := ⟨0x2010000, 0x20, 0x0, 0x0, 9, 2⟩
def R.WATCH_SRC_STATUS.CONSEQ_LAST : RF := ⟨0x2010000, 0x20, 0x0, 0x0, 11, 1⟩
def R.WATCH_SRC_STATUS.PRIMARY_SEQ : RF := ⟨0x2010000, 0x20, 0x0, 0x0, 16, 16⟩
def R.WATCH_SRC_STATUS.LAST_CODE : RF := ⟨0x2010000, 0x20, 0x0, 0x0, 32, 8⟩
def R.WATCH_SRC_STATUS.RU : RF := ⟨0x2010000, 0x20, 0x0, 0x0, 40, 8⟩
/-- WATCH_SRC_CFG, chapter 15: the whole word. -/
def R.WATCH_SRC_CFG : RF := ⟨0x2010008, 0x20, 0x0, 0x0, 0, 64⟩
def R.WATCH_SRC_CFG.ENABLE : RF := ⟨0x2010008, 0x20, 0x0, 0x0, 0, 1⟩
def R.WATCH_SRC_CFG.OVR : RF := ⟨0x2010008, 0x20, 0x0, 0x0, 1, 3⟩
def R.WATCH_SRC_CFG.FIRST_STEP : RF := ⟨0x2010008, 0x20, 0x0, 0x0, 4, 3⟩
def R.WATCH_SRC_CFG.MAX_STEP : RF := ⟨0x2010008, 0x20, 0x0, 0x0, 7, 3⟩
def R.WATCH_SRC_CFG.INJ_CLASS : RF := ⟨0x2010008, 0x20, 0x0, 0x0, 10, 3⟩
def R.WATCH_SRC_CFG.LOG_CE : RF := ⟨0x2010008, 0x20, 0x0, 0x0, 13, 1⟩
def R.WATCH_SRC_CFG.FORCE : RF := ⟨0x2010008, 0x20, 0x0, 0x0, 14, 1⟩
/-- WATCH_SRC_EVENT_CNT, chapter 15: the whole word. -/
def R.WATCH_SRC_EVENT_CNT : RF := ⟨0x2010010, 0x20, 0x0, 0x0, 0, 64⟩
def R.WATCH_SRC_EVENT_CNT.COUNT : RF := ⟨0x2010010, 0x20, 0x0, 0x0, 0, 32⟩
/-- WATCH_SRC_CE_CNT, chapter 15: the whole word. -/
def R.WATCH_SRC_CE_CNT : RF := ⟨0x2010018, 0x20, 0x0, 0x0, 0, 64⟩
def R.WATCH_SRC_CE_CNT.COUNT : RF := ⟨0x2010018, 0x20, 0x0, 0x0, 0, 32⟩
/-- WATCH_RU_STATUS, chapter 15: the whole word. -/
def R.WATCH_RU_STATUS : RF := ⟨0x2020000, 0x10, 0x0, 0x0, 0, 64⟩
def R.WATCH_RU_STATUS.STATE : RF := ⟨0x2020000, 0x10, 0x0, 0x0, 0, 2⟩
def R.WATCH_RU_STATUS.SHADOW : RF := ⟨0x2020000, 0x10, 0x0, 0x0, 2, 1⟩
def R.WATCH_RU_STATUS.UNUSED : RF := ⟨0x2020000, 0x10, 0x0, 0x0, 3, 1⟩
def R.WATCH_RU_STATUS.SHADOW_CONSEQ : RF := ⟨0x2020000, 0x10, 0x0, 0x0, 16, 16⟩
def R.WATCH_RU_STATUS.LAST_RESET_MS : RF := ⟨0x2020000, 0x10, 0x0, 0x0, 32, 32⟩
/-- WATCH_RU_CFG, chapter 15: the whole word. -/
def R.WATCH_RU_CFG : RF := ⟨0x2020008, 0x10, 0x0, 0x0, 0, 64⟩
def R.WATCH_RU_CFG.CONSEQ_TMO : RF := ⟨0x2020008, 0x10, 0x0, 0x0, 0, 5⟩
def R.WATCH_RU_CFG.CONSEQ_RAIL : RF := ⟨0x2020008, 0x10, 0x0, 0x0, 5, 1⟩
def R.WATCH_RU_CFG.RELEASE : RF := ⟨0x2020008, 0x10, 0x0, 0x0, 8, 1⟩
def R.WATCH_RU_CFG.RESET : RF := ⟨0x2020008, 0x10, 0x0, 0x0, 9, 1⟩
/-- SEC_STATUS, chapter 16: the whole word. -/
def R.SEC_STATUS : RF := ⟨0x6000000, 0x0, 0x0, 0x0, 0, 64⟩
def R.SEC_STATUS.MODE : RF := ⟨0x6000000, 0x0, 0x0, 0x0, 0, 3⟩
def R.SEC_STATUS.BOOT_SLOT : RF := ⟨0x6000000, 0x0, 0x0, 0x0, 3, 1⟩
def R.SEC_STATUS.DUS_BANK : RF := ⟨0x6000000, 0x0, 0x0, 0x0, 4, 2⟩
def R.SEC_STATUS.DERIVED : RF := ⟨0x6000000, 0x0, 0x0, 0x0, 6, 1⟩
def R.SEC_STATUS.OTP_SVN : RF := ⟨0x6000000, 0x0, 0x0, 0x0, 8, 7⟩
def R.SEC_STATUS.IMAGE_SVN : RF := ⟨0x6000000, 0x0, 0x0, 0x0, 16, 32⟩
/-- SEC_EVENT, chapter 16: the whole word. -/
def R.SEC_EVENT : RF := ⟨0x6000008, 0x0, 0x0, 0x0, 0, 64⟩
def R.SEC_EVENT.TRNG_HEALTH : RF := ⟨0x6000008, 0x0, 0x0, 0x0, 0, 1⟩
def R.SEC_EVENT.SEALED_REJECT : RF := ⟨0x6000008, 0x0, 0x0, 0x0, 1, 1⟩
def R.SEC_EVENT.BOOT_FALLBACK : RF := ⟨0x6000008, 0x0, 0x0, 0x0, 2, 1⟩
def R.SEC_EVENT.KEY_FAIL : RF := ⟨0x6000008, 0x0, 0x0, 0x0, 3, 1⟩
/-- SEC_TRNG_CNT, chapter 16: the whole word. -/
def R.SEC_TRNG_CNT : RF := ⟨0x6000010, 0x0, 0x0, 0x0, 0, 64⟩
def R.SEC_TRNG_CNT.COUNT : RF := ⟨0x6000010, 0x0, 0x0, 0x0, 0, 32⟩
/-- SEC_SEALED_CNT, chapter 16: the whole word. -/
def R.SEC_SEALED_CNT : RF := ⟨0x6000018, 0x0, 0x0, 0x0, 0, 64⟩
def R.SEC_SEALED_CNT.COUNT : RF := ⟨0x6000018, 0x0, 0x0, 0x0, 0, 32⟩
/-- SEC_FALLBACK_CNT, chapter 16: the whole word. -/
def R.SEC_FALLBACK_CNT : RF := ⟨0x6000020, 0x0, 0x0, 0x0, 0, 64⟩
def R.SEC_FALLBACK_CNT.COUNT : RF := ⟨0x6000020, 0x0, 0x0, 0x0, 0, 32⟩
/-- SEC_KEYFAIL_CNT, chapter 16: the whole word. -/
def R.SEC_KEYFAIL_CNT : RF := ⟨0x6000028, 0x0, 0x0, 0x0, 0, 64⟩
def R.SEC_KEYFAIL_CNT.COUNT : RF := ⟨0x6000028, 0x0, 0x0, 0x0, 0, 32⟩
/-- SEC_MEASURE, chapter 16: the whole word. -/
def R.SEC_MEASURE : RF := ⟨0x6000030, 0x8, 0x0, 0x0, 0, 64⟩
/-- SEC_SVN_ADVANCE, chapter 16: the whole word. -/
def R.SEC_SVN_ADVANCE : RF := ⟨0x6000060, 0x0, 0x0, 0x0, 0, 64⟩
def R.SEC_SVN_ADVANCE.TARGET : RF := ⟨0x6000060, 0x0, 0x0, 0x0, 0, 7⟩
/-- SEC_KEYSTORE, chapter 16: the whole word. -/
def R.SEC_KEYSTORE : RF := ⟨0x6000068, 0x0, 0x0, 0x0, 0, 64⟩
def R.SEC_KEYSTORE.CACHE_USED : RF := ⟨0x6000068, 0x0, 0x0, 0x0, 0, 7⟩
def R.SEC_KEYSTORE.TABLE_KEY_VALID : RF := ⟨0x6000068, 0x0, 0x0, 0x0, 7, 1⟩
/-- SEC_TAMPER, chapter 16: the whole word. -/
def R.SEC_TAMPER : RF := ⟨0x6800000, 0x0, 0x0, 0x0, 0, 64⟩
def R.SEC_TAMPER.SENSORS : RF := ⟨0x6800000, 0x0, 0x0, 0x0, 0, 5⟩
def R.SEC_TAMPER.FIRST : RF := ⟨0x6800000, 0x0, 0x0, 0x0, 5, 3⟩
def R.SEC_TAMPER.TAMPER : RF := ⟨0x6800000, 0x0, 0x0, 0x0, 8, 1⟩
def R.SEC_TAMPER.LIVE : RF := ⟨0x6800000, 0x0, 0x0, 0x0, 9, 5⟩
/-- SEC_TAMPER_TIME, chapter 16: the whole word. -/
def R.SEC_TAMPER_TIME : RF := ⟨0x6800008, 0x0, 0x0, 0x0, 0, 64⟩
def R.SEC_TAMPER_TIME.TICKS : RF := ⟨0x6800008, 0x0, 0x0, 0x0, 0, 48⟩
/-- SEC_TAMPER_GEN, chapter 16: the whole word. -/
def R.SEC_TAMPER_GEN : RF := ⟨0x6800010, 0x0, 0x0, 0x0, 0, 64⟩
def R.SEC_TAMPER_GEN.GEN : RF := ⟨0x6800010, 0x0, 0x0, 0x0, 0, 42⟩
/-- SEC_TAMPER_MASK, chapter 16: the whole word. -/
def R.SEC_TAMPER_MASK : RF := ⟨0x6800018, 0x0, 0x0, 0x0, 0, 64⟩
def R.SEC_TAMPER_MASK.MASK : RF := ⟨0x6800018, 0x0, 0x0, 0x0, 0, 5⟩
/-- SEC_PORT, chapter 16: the whole word. -/
def R.SEC_PORT : RF := ⟨0x6800020, 0x0, 0x0, 0x0, 0, 64⟩
def R.SEC_PORT.PORT_OPEN : RF := ⟨0x6800020, 0x0, 0x0, 0x0, 0, 1⟩
def R.SEC_PORT.OPEN_BUSY : RF := ⟨0x6800020, 0x0, 0x0, 0x0, 1, 1⟩
def R.SEC_PORT.OPEN_FAIL : RF := ⟨0x6800020, 0x0, 0x0, 0x0, 2, 1⟩
/-- MGMT_CTL_CFG, chapter 17: the whole word. -/
def R.MGMT_CTL_CFG : RF := ⟨0x7000000, 0x0, 0x0, 0x0, 0, 64⟩
def R.MGMT_CTL_CFG.ENABLE : RF := ⟨0x7000000, 0x0, 0x0, 0x0, 0, 1⟩
def R.MGMT_CTL_CFG.RATE : RF := ⟨0x7000000, 0x0, 0x0, 0x0, 1, 1⟩
/-- MGMT_CTL_STATUS, chapter 17: the whole word. -/
def R.MGMT_CTL_STATUS : RF := ⟨0x7000008, 0x0, 0x0, 0x0, 0, 64⟩
def R.MGMT_CTL_STATUS.ABSENT : RF := ⟨0x7000008, 0x0, 0x0, 0x0, 0, 16⟩
def R.MGMT_CTL_STATUS.STUCK : RF := ⟨0x7000008, 0x0, 0x0, 0x0, 16, 1⟩
def R.MGMT_CTL_STATUS.LATE : RF := ⟨0x7000008, 0x0, 0x0, 0x0, 17, 1⟩
/-- MGMT_CTL_EVENT, chapter 17: the whole word. -/
def R.MGMT_CTL_EVENT : RF := ⟨0x7000010, 0x0, 0x0, 0x0, 0, 64⟩
def R.MGMT_CTL_EVENT.ABSENT : RF := ⟨0x7000010, 0x0, 0x0, 0x0, 0, 1⟩
def R.MGMT_CTL_EVENT.RETRY : RF := ⟨0x7000010, 0x0, 0x0, 0x0, 1, 1⟩
def R.MGMT_CTL_EVENT.ARB_LOST : RF := ⟨0x7000010, 0x0, 0x0, 0x0, 2, 1⟩
def R.MGMT_CTL_EVENT.STUCK : RF := ⟨0x7000010, 0x0, 0x0, 0x0, 3, 1⟩
def R.MGMT_CTL_EVENT.BAD_CFG : RF := ⟨0x7000010, 0x0, 0x0, 0x0, 4, 1⟩
/-- MGMT_CTL_ABS_CNT, chapter 17: the whole word. -/
def R.MGMT_CTL_ABS_CNT : RF := ⟨0x7000018, 0x0, 0x0, 0x0, 0, 64⟩
def R.MGMT_CTL_ABS_CNT.COUNT : RF := ⟨0x7000018, 0x0, 0x0, 0x0, 0, 32⟩
/-- MGMT_CTL_RETRY_CNT, chapter 17: the whole word. -/
def R.MGMT_CTL_RETRY_CNT : RF := ⟨0x7000020, 0x0, 0x0, 0x0, 0, 64⟩
def R.MGMT_CTL_RETRY_CNT.COUNT : RF := ⟨0x7000020, 0x0, 0x0, 0x0, 0, 32⟩
/-- MGMT_CTL_ARB_CNT, chapter 17: the whole word. -/
def R.MGMT_CTL_ARB_CNT : RF := ⟨0x7000028, 0x0, 0x0, 0x0, 0, 64⟩
def R.MGMT_CTL_ARB_CNT.COUNT : RF := ⟨0x7000028, 0x0, 0x0, 0x0, 0, 32⟩
/-- MGMT_CTL_STUCK_CNT, chapter 17: the whole word. -/
def R.MGMT_CTL_STUCK_CNT : RF := ⟨0x7000030, 0x0, 0x0, 0x0, 0, 64⟩
def R.MGMT_CTL_STUCK_CNT.COUNT : RF := ⟨0x7000030, 0x0, 0x0, 0x0, 0, 32⟩
/-- MGMT_CTL_BADCFG_CNT, chapter 17: the whole word. -/
def R.MGMT_CTL_BADCFG_CNT : RF := ⟨0x7000038, 0x0, 0x0, 0x0, 0, 64⟩
def R.MGMT_CTL_BADCFG_CNT.COUNT : RF := ⟨0x7000038, 0x0, 0x0, 0x0, 0, 32⟩
/-- MGMT_CTL_DEV, chapter 17: the whole word. -/
def R.MGMT_CTL_DEV : RF := ⟨0x7000100, 0x8, 0x0, 0x0, 0, 64⟩
def R.MGMT_CTL_DEV.ADDR : RF := ⟨0x7000100, 0x8, 0x0, 0x0, 0, 7⟩
def R.MGMT_CTL_DEV.ENABLE : RF := ⟨0x7000100, 0x8, 0x0, 0x0, 7, 1⟩
def R.MGMT_CTL_DEV.PEC_EN : RF := ⟨0x7000100, 0x8, 0x0, 0x0, 8, 1⟩
def R.MGMT_CTL_DEV.CMD : RF := ⟨0x7000100, 0x8, 0x0, 0x0, 16, 8⟩
/-- MGMT_CTL_VAL, chapter 17: the whole word. -/
def R.MGMT_CTL_VAL : RF := ⟨0x7000200, 0x8, 0x0, 0x0, 0, 64⟩
def R.MGMT_CTL_VAL.VALUE : RF := ⟨0x7000200, 0x8, 0x0, 0x0, 0, 32⟩
def R.MGMT_CTL_VAL.STATUS_WORD : RF := ⟨0x7000200, 0x8, 0x0, 0x0, 32, 16⟩
def R.MGMT_CTL_VAL.AGE_MS : RF := ⟨0x7000200, 0x8, 0x0, 0x0, 48, 16⟩
/-- MGMT_UART_CFG, chapter 17: the whole word. -/
def R.MGMT_UART_CFG : RF := ⟨0x7001000, 0x1000, 0x0, 0x0, 0, 64⟩
def R.MGMT_UART_CFG.DIVQ : RF := ⟨0x7001000, 0x1000, 0x0, 0x0, 0, 20⟩
def R.MGMT_UART_CFG.PARITY_EN : RF := ⟨0x7001000, 0x1000, 0x0, 0x0, 20, 1⟩
def R.MGMT_UART_CFG.ENABLE : RF := ⟨0x7001000, 0x1000, 0x0, 0x0, 21, 1⟩
def R.MGMT_UART_CFG.CORE : RF := ⟨0x7001000, 0x1000, 0x0, 0x0, 22, 4⟩
def R.MGMT_UART_CFG.IRQ_EN : RF := ⟨0x7001000, 0x1000, 0x0, 0x0, 26, 3⟩
/-- MGMT_UART_STATUS, chapter 17: the whole word. -/
def R.MGMT_UART_STATUS : RF := ⟨0x7001008, 0x1000, 0x0, 0x0, 0, 64⟩
def R.MGMT_UART_STATUS.RX_LEVEL : RF := ⟨0x7001008, 0x1000, 0x0, 0x0, 0, 7⟩
def R.MGMT_UART_STATUS.TX_LEVEL : RF := ⟨0x7001008, 0x1000, 0x0, 0x0, 8, 7⟩
def R.MGMT_UART_STATUS.TX_BUSY : RF := ⟨0x7001008, 0x1000, 0x0, 0x0, 15, 1⟩
/-- MGMT_UART_DATA, chapter 17: the whole word. -/
def R.MGMT_UART_DATA : RF := ⟨0x7001010, 0x1000, 0x0, 0x0, 0, 64⟩
def R.MGMT_UART_DATA.BYTE : RF := ⟨0x7001010, 0x1000, 0x0, 0x0, 0, 8⟩
def R.MGMT_UART_DATA.VALID : RF := ⟨0x7001010, 0x1000, 0x0, 0x0, 8, 1⟩
/-- MGMT_UART_EVENT, chapter 17: the whole word. -/
def R.MGMT_UART_EVENT : RF := ⟨0x7001018, 0x1000, 0x0, 0x0, 0, 64⟩
def R.MGMT_UART_EVENT.FRAMING : RF := ⟨0x7001018, 0x1000, 0x0, 0x0, 0, 1⟩
def R.MGMT_UART_EVENT.PARITY : RF := ⟨0x7001018, 0x1000, 0x0, 0x0, 1, 1⟩
def R.MGMT_UART_EVENT.OVERRUN : RF := ⟨0x7001018, 0x1000, 0x0, 0x0, 2, 1⟩
def R.MGMT_UART_EVENT.BREAK : RF := ⟨0x7001018, 0x1000, 0x0, 0x0, 3, 1⟩
def R.MGMT_UART_EVENT.TX_DROP : RF := ⟨0x7001018, 0x1000, 0x0, 0x0, 4, 1⟩
/-- MGMT_UART_FRM_CNT, chapter 17: the whole word. -/
def R.MGMT_UART_FRM_CNT : RF := ⟨0x7001020, 0x1000, 0x0, 0x0, 0, 64⟩
def R.MGMT_UART_FRM_CNT.COUNT : RF := ⟨0x7001020, 0x1000, 0x0, 0x0, 0, 32⟩
/-- MGMT_UART_PAR_CNT, chapter 17: the whole word. -/
def R.MGMT_UART_PAR_CNT : RF := ⟨0x7001028, 0x1000, 0x0, 0x0, 0, 64⟩
def R.MGMT_UART_PAR_CNT.COUNT : RF := ⟨0x7001028, 0x1000, 0x0, 0x0, 0, 32⟩
/-- MGMT_UART_OVR_CNT, chapter 17: the whole word. -/
def R.MGMT_UART_OVR_CNT : RF := ⟨0x7001030, 0x1000, 0x0, 0x0, 0, 64⟩
def R.MGMT_UART_OVR_CNT.COUNT : RF := ⟨0x7001030, 0x1000, 0x0, 0x0, 0, 32⟩
/-- MGMT_UART_BRK_CNT, chapter 17: the whole word. -/
def R.MGMT_UART_BRK_CNT : RF := ⟨0x7001038, 0x1000, 0x0, 0x0, 0, 64⟩
def R.MGMT_UART_BRK_CNT.COUNT : RF := ⟨0x7001038, 0x1000, 0x0, 0x0, 0, 32⟩
/-- MGMT_UART_DROP_CNT, chapter 17: the whole word. -/
def R.MGMT_UART_DROP_CNT : RF := ⟨0x7001040, 0x1000, 0x0, 0x0, 0, 64⟩
def R.MGMT_UART_DROP_CNT.COUNT : RF := ⟨0x7001040, 0x1000, 0x0, 0x0, 0, 32⟩
/-- MGMT_TGT_CFG, chapter 17: the whole word. -/
def R.MGMT_TGT_CFG : RF := ⟨0x7800000, 0x0, 0x0, 0x0, 0, 64⟩
def R.MGMT_TGT_CFG.MODE : RF := ⟨0x7800000, 0x0, 0x0, 0x0, 0, 1⟩
def R.MGMT_TGT_CFG.PEC_REQ : RF := ⟨0x7800000, 0x0, 0x0, 0x0, 1, 1⟩
/-- MGMT_TGT_STATUS, chapter 17: the whole word. -/
def R.MGMT_TGT_STATUS : RF := ⟨0x7800008, 0x0, 0x0, 0x0, 0, 64⟩
def R.MGMT_TGT_STATUS.SLOT : RF := ⟨0x7800008, 0x0, 0x0, 0x0, 0, 2⟩
def R.MGMT_TGT_STATUS.STAGE_FULL : RF := ⟨0x7800008, 0x0, 0x0, 0x0, 2, 1⟩
def R.MGMT_TGT_STATUS.REPLY_READY : RF := ⟨0x7800008, 0x0, 0x0, 0x0, 3, 1⟩
def R.MGMT_TGT_STATUS.ALERT : RF := ⟨0x7800008, 0x0, 0x0, 0x0, 4, 1⟩
def R.MGMT_TGT_STATUS.STRETCHING : RF := ⟨0x7800008, 0x0, 0x0, 0x0, 5, 1⟩
def R.MGMT_TGT_STATUS.MBOX_LIVE : RF := ⟨0x7800008, 0x0, 0x0, 0x0, 6, 1⟩
def R.MGMT_TGT_STATUS.REPLIES : RF := ⟨0x7800008, 0x0, 0x0, 0x0, 7, 4⟩
/-- MGMT_TGT_EVENT, chapter 17: the whole word. -/
def R.MGMT_TGT_EVENT : RF := ⟨0x7800010, 0x0, 0x0, 0x0, 0, 64⟩
def R.MGMT_TGT_EVENT.BAD_CMD : RF := ⟨0x7800010, 0x0, 0x0, 0x0, 0, 1⟩
def R.MGMT_TGT_EVENT.PEC_ERR : RF := ⟨0x7800010, 0x0, 0x0, 0x0, 1, 1⟩
def R.MGMT_TGT_EVENT.BUSY_NACK : RF := ⟨0x7800010, 0x0, 0x0, 0x0, 2, 1⟩
def R.MGMT_TGT_EVENT.TIMEOUT : RF := ⟨0x7800010, 0x0, 0x0, 0x0, 3, 1⟩
/-- MGMT_TGT_BADCMD_CNT, chapter 17: the whole word. -/
def R.MGMT_TGT_BADCMD_CNT : RF := ⟨0x7800018, 0x0, 0x0, 0x0, 0, 64⟩
def R.MGMT_TGT_BADCMD_CNT.COUNT : RF := ⟨0x7800018, 0x0, 0x0, 0x0, 0, 32⟩
/-- MGMT_TGT_PEC_CNT, chapter 17: the whole word. -/
def R.MGMT_TGT_PEC_CNT : RF := ⟨0x7800020, 0x0, 0x0, 0x0, 0, 64⟩
def R.MGMT_TGT_PEC_CNT.COUNT : RF := ⟨0x7800020, 0x0, 0x0, 0x0, 0, 32⟩
/-- MGMT_TGT_BUSY_CNT, chapter 17: the whole word. -/
def R.MGMT_TGT_BUSY_CNT : RF := ⟨0x7800028, 0x0, 0x0, 0x0, 0, 64⟩
def R.MGMT_TGT_BUSY_CNT.COUNT : RF := ⟨0x7800028, 0x0, 0x0, 0x0, 0, 32⟩
/-- MGMT_TGT_TMO_CNT, chapter 17: the whole word. -/
def R.MGMT_TGT_TMO_CNT : RF := ⟨0x7800030, 0x0, 0x0, 0x0, 0, 64⟩
def R.MGMT_TGT_TMO_CNT.COUNT : RF := ⟨0x7800030, 0x0, 0x0, 0x0, 0, 32⟩

/-- The registers of the block TOP, part 1. -/
def mapTop1 : List RegInfo := [
  ⟨0x0, [], 0xB004800C9F, false, false, false, false, false, [(0, 32, .ro), (32, 8, .ro)]⟩,
  ⟨0x8, [], 0x0, false, false, false, false, false, [(0, 6, .ro), (6, 4, .ro), (10, 2, .ro), (12, 1, .w1c)]⟩,
  ⟨0x10, [], 0x0, false, false, true, true, false, [(0, 32, .ro)]⟩,
  ⟨0x18, [], 0x0, false, false, false, false, false, [(0, 10, .ro), (16, 10, .ro), (32, 4, .ro), (36, 4, .ro), (40, 2, .ro)]⟩,
  ⟨0x20, [], 0x0, false, false, true, false, false, [(0, 64, .rw)]⟩,
  ⟨0x100, [(10, 0x8)], 0x0, true, false, false, false, false, [(0, 64, .ro)]⟩]
def mapTop : List RegInfo := mapTop1

/-- The registers of the block TCI, part 1. -/
def mapTci1 : List RegInfo := [
  ⟨0x1000000, [], 0x0, false, false, false, false, false, [(0, 1, .ro), (1, 1, .ro), (2, 1, .ro), (16, 13, .ro)]⟩,
  ⟨0x1000008, [], 0x0, false, false, false, false, false, [(0, 32, .ro)]⟩,
  ⟨0x1000010, [], 0x30000000, false, false, false, false, false, [(0, 15, .ro), (16, 15, .rw)]⟩,
  ⟨0x1000018, [], 0x0, true, false, false, false, false, [(0, 64, .ro)]⟩,
  ⟨0x1000020, [], 0x0, false, false, false, false, false, [(0, 1, .w1c), (1, 1, .w1c), (2, 1, .w1c)]⟩,
  ⟨0x1000028, [], 0x0, false, false, true, true, false, [(0, 32, .ro)]⟩,
  ⟨0x1000030, [], 0x0, false, false, true, true, false, [(0, 32, .ro)]⟩,
  ⟨0x1000038, [], 0x0, false, false, true, true, false, [(0, 32, .ro)]⟩,
  ⟨0x1000040, [], 0x8, false, false, false, false, false, [(0, 6, .rw)]⟩,
  ⟨0x1000080, [], 0x0, false, true, false, false, false, [(12, 52, .rw)]⟩,
  ⟨0x1000088, [], 0x0, false, true, false, false, false, [(12, 52, .rw)]⟩,
  ⟨0x1000090, [], 0xC60, false, false, false, false, false, [(0, 1, .rw), (4, 5, .rw), (9, 5, .rw)]⟩,
  ⟨0x1100000, [(4096, 0x10)], 0x0, false, false, false, false, false, [(0, 16, .wo)]⟩,
  ⟨0x1100008, [(4096, 0x10)], 0x0, false, false, false, false, false, [(0, 16, .wo)]⟩,
  ⟨0x1200000, [(4096, 0x40)], 0x0, false, false, false, false, false, [(0, 3, .ro), (3, 3, .ro), (6, 2, .ro), (8, 2, .ro), (10, 1, .ro), (11, 1, .ro), (12, 2, .ro), (16, 12, .ro), (28, 12, .ro), (40, 6, .ro)]⟩,
  ⟨0x1200008, [(4096, 0x40)], 0x0, false, false, false, false, false, [(0, 64, .ro)]⟩]
/-- The registers of the block TCI, part 2. -/
def mapTci2 : List RegInfo := [
  ⟨0x1200010, [(4096, 0x40)], 0x0, false, false, false, false, false, [(0, 64, .ro)]⟩,
  ⟨0x1200018, [(4096, 0x40)], 0x0, false, false, false, false, false, [(0, 5, .ro), (5, 5, .ro), (10, 11, .ro), (32, 16, .ro), (48, 16, .ro)]⟩,
  ⟨0x1200020, [(4096, 0x40)], 0x0, false, false, false, false, false, [(0, 16, .ro), (16, 16, .ro), (32, 16, .ro), (48, 16, .ro)]⟩,
  ⟨0x1200028, [(4096, 0x40)], 0x0, false, false, false, false, false, [(0, 32, .ro), (32, 32, .ro)]⟩,
  ⟨0x1200030, [(4096, 0x40), (2, 0x8)], 0x0, false, false, false, false, false, []⟩]
def mapTci : List RegInfo := mapTci1 ++ mapTci2

/-- The registers of the block TALON, part 1. -/
def mapTalon1 : List RegInfo := [
  ⟨0x10000000, [(4, 0x1000000), (96, 0x10000)], 0x0, false, false, false, false, false, [(0, 3, .ro), (3, 1, .ro), (16, 16, .ro), (32, 7, .ro)]⟩,
  ⟨0x10000008, [(4, 0x1000000), (96, 0x10000)], 0x0, false, false, false, false, false, [(0, 1, .w1c), (1, 1, .w1c), (2, 1, .w1c)]⟩,
  ⟨0x10000010, [(4, 0x1000000), (96, 0x10000)], 0x0, false, false, true, true, false, [(0, 32, .ro)]⟩,
  ⟨0x10000018, [(4, 0x1000000), (96, 0x10000)], 0x0, false, false, true, true, false, [(0, 32, .ro)]⟩,
  ⟨0x10000020, [(4, 0x1000000), (96, 0x10000)], 0x0, false, false, true, true, false, [(0, 32, .ro)]⟩,
  ⟨0x10000028, [(4, 0x1000000), (96, 0x10000)], 0x0, false, false, false, false, false, [(0, 32, .ro)]⟩,
  ⟨0x10000030, [(4, 0x1000000), (96, 0x10000)], 0x0, false, false, false, false, false, [(0, 22, .ro), (22, 1, .ro)]⟩,
  ⟨0x10000040, [(4, 0x1000000), (96, 0x10000)], 0x0, true, false, false, true, false, [(0, 64, .ro)]⟩,
  ⟨0x10000048, [(4, 0x1000000), (96, 0x10000)], 0x0, true, false, false, true, false, [(0, 64, .ro)]⟩,
  ⟨0x10000050, [(4, 0x1000000), (96, 0x10000)], 0x0, true, false, false, true, false, [(0, 64, .ro)]⟩,
  ⟨0x10000058, [(4, 0x1000000), (96, 0x10000)], 0x0, true, false, false, true, false, [(0, 64, .ro)]⟩,
  ⟨0x10000080, [(4, 0x1000000), (96, 0x10000), (4, 0x8)], 0x0, false, false, false, false, false, [(0, 2, .ro), (2, 4, .ro), (16, 32, .ro)]⟩,
  ⟨0x10800000, [(4, 0x1000000)], 0x0, false, false, false, false, false, [(0, 12, .ro), (12, 1, .ro)]⟩,
  ⟨0x10800008, [(4, 0x1000000)], 0xFFF, false, false, false, false, false, [(0, 12, .ro), (16, 12, .ro)]⟩,
  ⟨0x10800010, [(4, 0x1000000)], 0x0, false, false, false, false, false, [(0, 7, .ro), (7, 1, .ro)]⟩,
  ⟨0x10800018, [(4, 0x1000000)], 0x0, false, false, false, false, false, [(0, 16, .ro), (16, 16, .ro)]⟩]
/-- The registers of the block TALON, part 2. -/
def mapTalon2 : List RegInfo := [
  ⟨0x10800020, [(4, 0x1000000)], 0x18, false, false, false, false, false, [(0, 16, .rw)]⟩]
def mapTalon : List RegInfo := mapTalon1 ++ mapTalon2

/-- The registers of the block HBM, part 1. -/
def mapHbm1 : List RegInfo := [
  ⟨0x20000000, [(8, 0x1000000), (64, 0x1000)], 0x0, false, false, false, false, false, [(0, 7, .ro), (8, 6, .ro), (16, 2, .ro), (18, 2, .ro), (20, 5, .ro), (25, 1, .ro), (26, 3, .ro)]⟩,
  ⟨0x20000008, [(8, 0x1000000), (64, 0x1000)], 0x200818, false, false, false, true, false, [(0, 6, .rw), (8, 6, .rw), (16, 6, .rw)]⟩,
  ⟨0x20000010, [(8, 0x1000000), (64, 0x1000)], 0x0, false, false, false, false, false, [(0, 1, .w1c)]⟩,
  ⟨0x20000018, [(8, 0x1000000), (64, 0x1000)], 0x0, false, false, true, true, false, [(0, 32, .ro)]⟩,
  ⟨0x20000020, [(8, 0x1000000), (64, 0x1000)], 0x0, true, false, false, true, false, [(0, 64, .ro)]⟩,
  ⟨0x20000028, [(8, 0x1000000), (64, 0x1000)], 0x0, true, false, false, true, false, [(0, 64, .ro)]⟩,
  ⟨0x20000030, [(8, 0x1000000), (64, 0x1000)], 0x0, true, false, false, true, false, [(0, 64, .ro)]⟩,
  ⟨0x20000038, [(8, 0x1000000), (64, 0x1000)], 0x0, true, false, false, true, false, [(0, 64, .ro)]⟩,
  ⟨0x20000058, [(8, 0x1000000), (64, 0x1000)], 0x0, true, false, false, true, false, [(0, 64, .ro)]⟩,
  ⟨0x20000060, [(8, 0x1000000), (64, 0x1000)], 0x0, true, false, false, true, false, [(0, 64, .ro)]⟩,
  ⟨0x20000068, [(8, 0x1000000), (64, 0x1000)], 0x0, true, false, false, true, false, [(0, 64, .ro)]⟩,
  ⟨0x20000070, [(8, 0x1000000), (64, 0x1000)], 0x0, true, false, false, true, false, [(0, 64, .ro)]⟩,
  ⟨0x20000040, [(8, 0x1000000), (64, 0x1000), (3, 0x8)], 0x0, true, false, false, true, false, [(0, 64, .ro)]⟩,
  ⟨0x20800000, [(8, 0x1000000)], 0x0, false, false, false, false, false, [(0, 3, .ro), (16, 16, .ro)]⟩,
  ⟨0x20800008, [(8, 0x1000000)], 0x2, false, false, false, false, false, [(0, 2, .rw)]⟩,
  ⟨0x20900000, [], 0x0, false, true, false, false, false, [(0, 64, .rw)]⟩]
/-- The registers of the block HBM, part 2. -/
def mapHbm2 : List RegInfo := [
  ⟨0x20900008, [], 0x0, false, true, false, false, false, [(0, 32, .rw)]⟩,
  ⟨0x20900010, [], 0x0, false, false, false, false, false, [(0, 1, .ro)]⟩,
  ⟨0x20000100, [(8, 0x1000000), (64, 0x1000)], 0x0, false, false, false, false, false, [(0, 7, .ro), (7, 1, .ro)]⟩,
  ⟨0x20000108, [(8, 0x1000000), (64, 0x1000)], 0x0, false, false, false, false, false, [(0, 1, .w1c), (1, 1, .w1c), (2, 1, .w1c), (3, 1, .w1c), (4, 1, .w1c), (5, 1, .w1c)]⟩,
  ⟨0x20000110, [(8, 0x1000000), (64, 0x1000)], 0x0, false, false, true, true, false, [(0, 32, .ro)]⟩,
  ⟨0x20000118, [(8, 0x1000000), (64, 0x1000)], 0x0, false, false, true, true, false, [(0, 32, .ro)]⟩,
  ⟨0x20000120, [(8, 0x1000000), (64, 0x1000)], 0x0, false, false, true, true, false, [(0, 32, .ro)]⟩,
  ⟨0x20000128, [(8, 0x1000000), (64, 0x1000)], 0x0, false, false, true, true, false, [(0, 32, .ro)]⟩,
  ⟨0x20000130, [(8, 0x1000000), (64, 0x1000)], 0x0, false, false, true, true, false, [(0, 32, .ro)]⟩,
  ⟨0x20000138, [(8, 0x1000000), (64, 0x1000)], 0x0, false, false, true, true, false, [(0, 32, .ro)]⟩,
  ⟨0x20000140, [(8, 0x1000000), (64, 0x1000)], 0x0, false, false, false, false, false, [(0, 30, .ro), (30, 3, .ro), (33, 7, .ro)]⟩,
  ⟨0x20000148, [(8, 0x1000000), (64, 0x1000)], 0x9, false, false, false, true, false, [(0, 1, .rw), (1, 4, .rw)]⟩,
  ⟨0x20000150, [(8, 0x1000000), (64, 0x1000)], 0x0, true, false, false, false, false, [(0, 64, .ro)]⟩,
  ⟨0x20000158, [(8, 0x1000000), (64, 0x1000)], 0x0, true, false, false, false, false, [(0, 64, .ro)]⟩,
  ⟨0x20000160, [(8, 0x1000000), (64, 0x1000)], 0x0, false, false, false, false, false, [(0, 1, .wo), (4, 4, .wo), (8, 16, .wo)]⟩,
  ⟨0x20000200, [(8, 0x1000000), (64, 0x1000), (64, 0x8)], 0x0, false, false, true, true, false, [(0, 1, .ro), (1, 1, .ro), (2, 1, .ro), (4, 4, .ro), (8, 16, .ro)]⟩]
/-- The registers of the block HBM, part 3. -/
def mapHbm3 : List RegInfo := [
  ⟨0x20800100, [(8, 0x1000000)], 0x4000, false, false, false, false, false, [(0, 8, .ro), (8, 2, .ro), (10, 5, .ro), (15, 1, .ro), (16, 1, .ro)]⟩,
  ⟨0x20800108, [(8, 0x1000000)], 0x473369, false, false, false, true, false, [(0, 8, .rw), (8, 4, .rw), (12, 8, .rw), (20, 4, .rw)]⟩,
  ⟨0x20800110, [(8, 0x1000000)], 0x0, false, false, false, false, false, [(0, 1, .w1c), (1, 1, .w1c), (2, 1, .w1c)]⟩,
  ⟨0x20800118, [(8, 0x1000000)], 0x0, false, false, true, true, false, [(0, 32, .ro)]⟩,
  ⟨0x20800120, [(8, 0x1000000)], 0x0, false, false, true, true, false, [(0, 32, .ro)]⟩,
  ⟨0x20800128, [(8, 0x1000000)], 0x0, false, false, true, true, false, [(0, 32, .ro)]⟩,
  ⟨0x20800130, [(8, 0x1000000)], 0x0, false, false, false, true, false, [(0, 64, .rw)]⟩,
  ⟨0x20800138, [(8, 0x1000000)], 0x1F42000, false, false, false, true, false, [(0, 16, .rw), (16, 16, .rw)]⟩,
  ⟨0x20800140, [(8, 0x1000000)], 0x18, false, false, false, true, false, [(0, 16, .rw)]⟩,
  ⟨0x20800180, [(8, 0x1000000), (16, 0x8)], 0x0, false, false, true, true, false, [(0, 6, .rw), (6, 4, .rw), (10, 16, .rw), (26, 1, .rw), (28, 2, .ro)]⟩,
  ⟨0x20800200, [(8, 0x1000000)], 0x0, false, false, false, false, false, [(0, 12, .ro)]⟩,
  ⟨0x20800208, [(8, 0x1000000)], 0x2710, false, false, false, true, false, [(0, 20, .rw)]⟩,
  ⟨0x20800210, [(8, 0x1000000)], 0x0, false, false, false, false, false, [(0, 1, .w1c), (1, 1, .w1c)]⟩,
  ⟨0x20800218, [(8, 0x1000000)], 0x0, false, false, true, true, false, [(0, 32, .ro)]⟩,
  ⟨0x20800220, [(8, 0x1000000)], 0x0, false, false, true, true, false, [(0, 32, .ro)]⟩,
  ⟨0x20800228, [(8, 0x1000000)], 0x0, true, false, false, false, false, [(0, 64, .ro)]⟩]
/-- The registers of the block HBM, part 4. -/
def mapHbm4 : List RegInfo := [
  ⟨0x20800230, [(8, 0x1000000)], 0x0, true, false, false, false, false, [(0, 64, .ro)]⟩,
  ⟨0x20800238, [(8, 0x1000000)], 0x0, false, false, false, false, false, [(0, 39, .ro), (39, 1, .ro)]⟩]
def mapHbm : List RegInfo := mapHbm1 ++ mapHbm2 ++ mapHbm3 ++ mapHbm4

/-- The registers of the block ROOST, part 1. -/
def mapRoost1 : List RegInfo := [
  ⟨0x9000000, [(2, 0x100000)], 0x0, false, false, false, false, false, [(0, 3, .ro), (8, 8, .ro), (16, 8, .ro), (24, 4, .ro)]⟩,
  ⟨0x9000008, [(2, 0x100000)], 0xA, false, false, false, true, false, [(0, 8, .rw), (8, 1, .rw)]⟩,
  ⟨0x9000010, [(2, 0x100000)], 0x0, false, false, false, false, false, [(0, 1, .w1c), (1, 1, .w1c), (2, 1, .w1c), (3, 1, .w1c), (4, 1, .w1c), (5, 1, .w1c)]⟩,
  ⟨0x9000018, [(2, 0x100000)], 0x0, false, false, true, true, false, [(0, 32, .ro)]⟩,
  ⟨0x9000020, [(2, 0x100000)], 0x0, false, false, true, true, false, [(0, 32, .ro)]⟩,
  ⟨0x9000028, [(2, 0x100000)], 0x0, false, false, true, true, false, [(0, 32, .ro)]⟩,
  ⟨0x9000030, [(2, 0x100000)], 0x0, false, false, true, true, false, [(0, 32, .ro)]⟩,
  ⟨0x9000038, [(2, 0x100000)], 0x0, false, false, true, true, false, [(0, 32, .ro)]⟩,
  ⟨0x9000040, [(2, 0x100000)], 0x0, false, false, true, true, false, [(0, 32, .ro)]⟩,
  ⟨0x9000100, [(2, 0x100000), (4, 0x8)], 0xFF00, false, false, true, true, false, [(0, 6, .ro), (8, 8, .ro), (16, 32, .ro)]⟩,
  ⟨0x9400000, [(8, 0x10000)], 0x0, false, false, false, false, false, [(0, 9, .ro), (9, 9, .ro), (18, 1, .ro), (19, 1, .ro), (20, 1, .ro), (21, 3, .ro)]⟩,
  ⟨0x9400008, [(8, 0x10000)], 0x800080801F408001, false, false, false, true, false, [(0, 2, .rw), (2, 16, .rw), (18, 16, .rw), (34, 6, .rw), (40, 8, .rw), (48, 8, .rw), (56, 8, .rw)]⟩,
  ⟨0x9400010, [(8, 0x10000)], 0x0, false, false, false, false, false, [(0, 1, .w1c), (1, 1, .w1c), (2, 1, .w1c), (3, 1, .w1c), (4, 1, .w1c)]⟩,
  ⟨0x9400018, [(8, 0x10000)], 0x0, false, false, true, true, false, [(0, 32, .ro)]⟩,
  ⟨0x9400020, [(8, 0x10000)], 0x0, false, false, true, true, false, [(0, 32, .ro)]⟩,
  ⟨0x9400028, [(8, 0x10000)], 0x0, false, false, true, true, false, [(0, 32, .ro)]⟩]
/-- The registers of the block ROOST, part 2. -/
def mapRoost2 : List RegInfo := [
  ⟨0x9400030, [(8, 0x10000)], 0x0, false, false, true, true, false, [(0, 32, .ro)]⟩,
  ⟨0x9400038, [(8, 0x10000)], 0x0, false, false, true, true, false, [(0, 32, .ro)]⟩,
  ⟨0x9400040, [(8, 0x10000)], 0x0, false, false, false, false, false, [(0, 25, .ro), (25, 6, .ro), (31, 3, .ro), (34, 4, .ro)]⟩,
  ⟨0x9400048, [(8, 0x10000), (4, 0x8)], 0x0, false, false, true, true, false, [(0, 1, .ro), (1, 4, .ro)]⟩,
  ⟨0x9400080, [(8, 0x10000)], 0x0, true, false, false, true, false, [(0, 64, .ro)]⟩,
  ⟨0x9400088, [(8, 0x10000)], 0x0, true, false, false, true, false, [(0, 64, .ro)]⟩,
  ⟨0x9400090, [(8, 0x10000)], 0x0, true, false, false, true, false, [(0, 64, .ro)]⟩,
  ⟨0x9400098, [(8, 0x10000)], 0x0, true, false, false, true, false, [(0, 64, .ro)]⟩,
  ⟨0x94000A0, [(8, 0x10000)], 0x18, false, false, false, true, false, [(0, 16, .rw)]⟩,
  ⟨0x9800000, [], 0x0, false, false, false, false, false, [(0, 2, .ro), (2, 7, .ro), (9, 4, .ro)]⟩,
  ⟨0x9800008, [], 0x4, false, false, false, false, false, [(0, 4, .rw)]⟩,
  ⟨0x9800010, [], 0x0, false, false, false, false, false, [(0, 25, .ro), (32, 25, .ro)]⟩,
  ⟨0x9800018, [], 0x0, false, false, false, false, false, [(0, 1, .w1c), (1, 1, .w1c), (2, 1, .w1c)]⟩,
  ⟨0x9800020, [], 0x0, false, false, true, true, false, [(0, 32, .ro)]⟩,
  ⟨0x9800028, [], 0x0, false, false, true, true, false, [(0, 32, .ro)]⟩,
  ⟨0x9800030, [], 0x0, false, false, true, true, false, [(0, 32, .ro)]⟩]
/-- The registers of the block ROOST, part 3. -/
def mapRoost3 : List RegInfo := [
  ⟨0x9800040, [], 0x0, true, false, false, true, false, [(0, 64, .ro)]⟩]
def mapRoost : List RegInfo := mapRoost1 ++ mapRoost2 ++ mapRoost3

/-- The registers of the block CRYPT, part 1. -/
def mapCrypt1 : List RegInfo := [
  ⟨0x8000000, [], 0x0, false, false, false, false, false, [(0, 2, .ro), (2, 7, .ro), (9, 1, .ro)]⟩,
  ⟨0x8000008, [], 0x0, false, false, true, true, false, [(0, 1, .rw)]⟩,
  ⟨0x8000010, [], 0x320, false, false, true, true, false, [(0, 14, .rw)]⟩,
  ⟨0x8000018, [], 0x0, false, true, true, true, false, [(16, 23, .rw)]⟩,
  ⟨0x8000020, [], 0x0, false, false, false, false, false, [(0, 1, .w1c), (1, 1, .w1c), (2, 1, .w1c), (3, 1, .w1c)]⟩,
  ⟨0x8000028, [], 0x0, false, false, true, true, false, [(0, 32, .ro)]⟩,
  ⟨0x8000030, [], 0x0, false, false, true, true, false, [(0, 32, .ro)]⟩,
  ⟨0x8000038, [], 0x0, false, false, true, true, false, [(0, 32, .ro)]⟩,
  ⟨0x8000040, [], 0x0, false, false, true, true, false, [(0, 32, .ro)]⟩,
  ⟨0x8000048, [], 0x0, false, false, false, false, false, [(0, 28, .ro), (28, 2, .ro)]⟩,
  ⟨0x8000050, [], 0x0, false, false, false, false, true, [(0, 28, .ro), (28, 1, .ro), (29, 1, .ro), (30, 12, .ro), (42, 22, .ro)]⟩,
  ⟨0x8000058, [], 0x0, false, false, true, true, false, [(0, 12, .ro), (12, 1, .ro)]⟩,
  ⟨0x8000080, [], 0x0, true, false, false, false, false, [(0, 64, .ro)]⟩,
  ⟨0x8000088, [], 0x0, true, false, false, false, false, [(0, 64, .ro)]⟩,
  ⟨0x8000090, [], 0x0, true, false, false, false, false, [(0, 64, .ro)]⟩,
  ⟨0x8000098, [], 0x0, true, false, false, false, false, [(0, 64, .ro)]⟩]
/-- The registers of the block CRYPT, part 2. -/
def mapCrypt2 : List RegInfo := [
  ⟨0x8010000, [(4096, 0x8)], 0x0, false, false, true, true, false, [(0, 3, .ro), (3, 1, .ro), (4, 2, .ro), (6, 1, .ro), (7, 1, .ro), (32, 32, .ro)]⟩]
def mapCrypt : List RegInfo := mapCrypt1 ++ mapCrypt2

/-- The registers of the block JESS, part 1. -/
def mapJess1 : List RegInfo := [
  ⟨0x3000000, [], 0x0, false, false, false, false, false, [(0, 15, .ro), (15, 1, .ro), (16, 9, .ro), (25, 9, .ro)]⟩,
  ⟨0x3000008, [], 0x0, false, false, false, false, false, [(0, 1, .w1c), (1, 1, .w1c), (2, 1, .w1c)]⟩,
  ⟨0x3000010, [], 0x0, false, false, true, true, false, [(0, 32, .ro)]⟩,
  ⟨0x3000018, [], 0x0, false, false, true, true, false, [(0, 32, .ro)]⟩,
  ⟨0x3000020, [], 0x0, false, false, true, true, false, [(0, 32, .ro)]⟩,
  ⟨0x3000028, [], 0x0, false, false, true, true, false, [(0, 1, .wo)]⟩,
  ⟨0x3000030, [], 0x0, false, false, true, true, false, [(0, 32, .ro), (32, 32, .ro)]⟩,
  ⟨0x3000038, [], 0x0, false, false, true, true, false, [(0, 16, .ro)]⟩,
  ⟨0x3000040, [], 0x0, false, false, true, true, false, [(6, 44, .rw)]⟩,
  ⟨0x3000048, [], 0x3F, false, false, true, true, false, [(0, 6, .ro), (6, 44, .rw)]⟩,
  ⟨0x3000050, [], 0x0, false, false, true, true, false, [(0, 1, .rw), (1, 1, .rw), (8, 3, .rw), (12, 3, .rw), (16, 3, .rw), (20, 10, .rw), (32, 2, .rw), (36, 12, .rw)]⟩,
  ⟨0x3000058, [], 0x0, false, false, true, true, false, [(0, 8, .wo), (8, 1, .wo)]⟩,
  ⟨0x3000060, [], 0x0, false, false, true, true, false, [(0, 3, .ro), (16, 32, .ro)]⟩,
  ⟨0x3001000, [(256, 0x20)], 0x0, false, false, true, true, false, [(6, 44, .ro)]⟩,
  ⟨0x3001008, [(256, 0x20)], 0x3F, false, false, true, true, false, [(0, 6, .ro), (6, 44, .ro)]⟩,
  ⟨0x3001010, [(256, 0x20)], 0x0, false, false, true, true, false, [(0, 1, .ro), (1, 1, .ro), (8, 3, .ro), (12, 3, .ro), (16, 3, .ro), (20, 10, .ro), (32, 2, .ro), (36, 12, .ro)]⟩]
/-- The registers of the block JESS, part 2. -/
def mapJess2 : List RegInfo := [
  ⟨0x3004000, [(32, 0x20)], 0x0, false, false, true, true, false, [(0, 50, .ro)]⟩,
  ⟨0x3004008, [(32, 0x20)], 0x2010000000, false, false, true, true, false, [(0, 16, .ro), (16, 2, .ro), (18, 2, .ro), (20, 9, .ro), (29, 9, .ro), (38, 4, .ro), (42, 3, .ro), (45, 1, .ro), (46, 1, .ro), (48, 16, .ro)]⟩,
  ⟨0x3004010, [(32, 0x20)], 0x0, false, false, true, true, false, [(0, 64, .ro)]⟩]
def mapJess : List RegInfo := mapJess1 ++ mapJess2

/-- The registers of the block KTL, part 1. -/
def mapKtl1 : List RegInfo := [
  ⟨0xA000000, [(64, 0x10000)], 0x1, false, false, false, false, false, [(0, 3, .ro), (3, 1, .ro), (4, 1, .ro), (5, 1, .ro), (6, 6, .ro), (12, 4, .ro), (16, 6, .ro), (24, 8, .ro), (32, 32, .ro)]⟩,
  ⟨0xA000008, [(64, 0x10000)], 0x1, false, false, true, false, false, [(0, 1, .rw), (1, 1, .wo)]⟩,
  ⟨0xA000010, [(64, 0x10000)], 0x0, false, false, false, false, false, [(0, 1, .w1c), (1, 1, .w1c), (2, 1, .w1c), (3, 1, .w1c), (4, 1, .w1c), (5, 1, .w1c)]⟩,
  ⟨0xA000018, [(64, 0x10000)], 0x0, false, false, true, true, false, [(0, 32, .ro)]⟩,
  ⟨0xA000020, [(64, 0x10000)], 0x0, false, false, true, true, false, [(0, 32, .ro)]⟩,
  ⟨0xA000028, [(64, 0x10000)], 0x0, false, false, true, true, false, [(0, 32, .ro)]⟩,
  ⟨0xA000030, [(64, 0x10000)], 0x0, false, false, true, true, false, [(0, 32, .ro)]⟩,
  ⟨0xA000038, [(64, 0x10000)], 0x0, false, false, true, true, false, [(0, 32, .ro)]⟩,
  ⟨0xA000040, [(64, 0x10000)], 0x0, false, false, true, true, false, [(0, 32, .ro)]⟩,
  ⟨0xA000080, [(64, 0x10000)], 0x0, true, false, false, true, false, [(0, 64, .ro)]⟩,
  ⟨0xA000088, [(64, 0x10000)], 0x0, true, false, false, true, false, [(0, 64, .ro)]⟩,
  ⟨0xA000090, [(64, 0x10000)], 0x0, true, false, false, true, false, [(0, 64, .ro)]⟩,
  ⟨0xA000098, [(64, 0x10000)], 0x0, true, false, false, true, false, [(0, 64, .ro)]⟩,
  ⟨0xA0000A0, [(64, 0x10000)], 0x0, true, false, false, true, false, [(0, 64, .ro)]⟩,
  ⟨0xA0000A8, [(64, 0x10000)], 0x0, true, false, false, true, false, [(0, 64, .ro)]⟩,
  ⟨0xA000100, [(64, 0x10000), (4, 0x8)], 0x0, false, false, true, true, false, [(0, 6, .ro), (6, 6, .ro), (12, 6, .ro), (18, 6, .ro), (24, 8, .ro), (32, 1, .ro)]⟩]
/-- The registers of the block KTL, part 2. -/
def mapKtl2 : List RegInfo := [
  ⟨0xA800000, [], 0x0, false, false, false, false, false, [(0, 7, .ro), (7, 6, .ro), (13, 1, .ro), (14, 2, .ro), (16, 6, .ro), (22, 1, .ro), (23, 6, .ro), (29, 1, .ro)]⟩,
  ⟨0xA800008, [], 0x3, false, false, true, false, false, [(0, 1, .rw), (1, 1, .rw)]⟩,
  ⟨0xA800010, [], 0x0, false, false, false, false, false, [(0, 1, .w1c), (1, 1, .w1c), (2, 1, .w1c), (3, 1, .w1c)]⟩,
  ⟨0xA800018, [], 0x0, false, false, true, true, false, [(0, 32, .ro)]⟩,
  ⟨0xA800020, [], 0x0, false, false, true, true, false, [(0, 32, .ro)]⟩,
  ⟨0xA800028, [], 0x0, false, false, true, true, false, [(0, 32, .ro)]⟩,
  ⟨0xA800030, [], 0x0, false, false, true, true, false, [(0, 32, .ro)]⟩,
  ⟨0xA801000, [(64, 0x8)], 0x7F0, false, false, false, false, false, [(0, 2, .ro), (2, 1, .ro), (3, 1, .ro), (4, 7, .ro), (32, 32, .ro)]⟩,
  ⟨0xA802000, [(64, 0x8)], 0x0, false, false, false, false, false, [(0, 64, .ro)]⟩]
def mapKtl : List RegInfo := mapKtl1 ++ mapKtl2

/-- The registers of the block MEWS, part 1. -/
def mapMews1 : List RegInfo := [
  ⟨0xB000000, [], 0x0, false, false, false, false, false, [(0, 1, .ro), (1, 1, .ro), (2, 21, .ro)]⟩,
  ⟨0xB000008, [], 0x0, false, false, false, false, false, [(0, 1, .w1c), (1, 1, .w1c), (2, 1, .w1c), (3, 1, .w1c), (4, 1, .w1c)]⟩,
  ⟨0xB000010, [], 0x0, false, false, true, true, false, [(0, 32, .ro)]⟩,
  ⟨0xB000018, [], 0x0, false, false, true, true, false, [(0, 32, .ro)]⟩,
  ⟨0xB000020, [], 0x0, false, false, true, true, false, [(0, 32, .ro)]⟩,
  ⟨0xB000028, [], 0x0, false, false, true, true, false, [(0, 32, .ro)]⟩,
  ⟨0xB000030, [], 0x0, false, false, true, true, false, [(0, 32, .ro)]⟩,
  ⟨0xB000040, [], 0x8, false, false, true, false, false, [(0, 4, .rw)]⟩,
  ⟨0xB000048, [], 0x0, false, false, false, false, false, [(0, 1, .wo), (1, 1, .ro)]⟩,
  ⟨0xB000050, [], 0x0, false, true, true, false, false, [(0, 1, .rw), (16, 25, .rw), (48, 8, .rw)]⟩,
  ⟨0xB000058, [(8, 0x8)], 0x0, false, true, true, false, false, [(0, 1, .rw), (16, 25, .rw), (48, 8, .rw)]⟩,
  ⟨0xB0000A0, [], 0x0, true, false, false, false, false, [(0, 64, .ro)]⟩,
  ⟨0xB0000A8, [], 0x0, true, false, false, false, false, [(0, 64, .ro)]⟩,
  ⟨0xB0000B0, [], 0x0, true, false, false, false, false, [(0, 64, .ro)]⟩,
  ⟨0xB0000B8, [], 0x0, true, false, false, false, false, [(0, 64, .ro)]⟩,
  ⟨0xB000108, [(15, 0x8)], 0xF, false, false, true, false, false, [(0, 4, .rw)]⟩]
/-- The registers of the block MEWS, part 2. -/
def mapMews2 : List RegInfo := [
  ⟨0xB000200, [(16, 0x20)], 0x0, false, false, false, false, false, [(0, 1, .wo), (1, 1, .wo)]⟩,
  ⟨0xB000208, [(16, 0x20)], 0x0, false, false, false, false, false, [(0, 3, .ro)]⟩,
  ⟨0xB000210, [(16, 0x20)], 0x0, false, true, false, false, false, [(2, 54, .rw)]⟩,
  ⟨0xB100000, [(16, 0x8000), (6, 0x1000)], 0x0, false, false, false, false, false, [(0, 32, .wo), (32, 32, .wo)]⟩,
  ⟨0xB000400, [], 0x0, false, false, false, false, false, [(0, 2, .wo), (2, 1, .wo)]⟩,
  ⟨0xB000408, [], 0x0, false, false, false, false, false, [(0, 32, .rw)]⟩,
  ⟨0xB000410, [], 0x0, false, false, false, false, false, [(6, 33, .rw)]⟩,
  ⟨0xB000418, [], 0x0, false, false, false, false, false, [(0, 29, .rw)]⟩,
  ⟨0xB000420, [], 0x0, false, false, false, false, false, [(0, 1, .ro), (1, 3, .ro), (4, 2, .ro)]⟩,
  ⟨0xB000428, [], 0x0, false, false, false, false, false, [(0, 2, .w1s)]⟩]
def mapMews : List RegInfo := mapMews1 ++ mapMews2

/-- The registers of the block PWR, part 1. -/
def mapPwr1 : List RegInfo := [
  ⟨0x4000000, [], 0x1, false, false, false, false, false, [(0, 3, .ro), (3, 1, .ro), (4, 1, .ro), (5, 2, .ro), (7, 1, .ro), (8, 1, .ro)]⟩,
  ⟨0x4000008, [], 0xAB54960, false, false, true, false, false, [(0, 12, .rw), (12, 12, .rw), (24, 8, .rw)]⟩,
  ⟨0x4000010, [], 0x0, true, false, false, false, false, [(0, 64, .ro)]⟩,
  ⟨0x4000018, [], 0x0, false, false, false, false, false, [(0, 19, .ro), (32, 19, .ro)]⟩,
  ⟨0x4000020, [], 0x0, false, false, false, false, false, [(0, 12, .ro), (32, 19, .ro)]⟩,
  ⟨0x4000028, [], 0x0, false, false, false, false, false, [(0, 32, .ro)]⟩,
  ⟨0x4000030, [], 0x20064087869, false, false, true, false, false, [(0, 8, .rw), (8, 8, .rw), (16, 8, .rw), (24, 12, .rw), (40, 4, .rw)]⟩,
  ⟨0x4000038, [], 0x146418, false, false, true, false, false, [(0, 5, .rw), (8, 8, .rw), (16, 8, .rw)]⟩,
  ⟨0x4000040, [], 0x0, false, false, false, false, false, [(0, 12, .ro), (16, 12, .ro), (32, 16, .ro), (48, 12, .ro)]⟩,
  ⟨0x4000048, [], 0x0, false, false, false, false, false, [(0, 16, .ro)]⟩,
  ⟨0x4000050, [], 0x320, false, false, true, false, false, [(0, 12, .rw)]⟩,
  ⟨0x4000058, [], 0x1F400081E14, false, false, true, false, false, [(0, 7, .rw), (8, 7, .rw), (16, 8, .rw), (32, 16, .rw)]⟩,
  ⟨0x4000060, [], 0xE050BB8, false, false, true, false, false, [(0, 12, .rw), (12, 12, .rw), (24, 16, .rw)]⟩,
  ⟨0x4000068, [], 0x8000, false, false, false, false, false, [(0, 16, .ro), (16, 1, .ro), (24, 8, .ro)]⟩,
  ⟨0x4000070, [], 0x0, false, false, false, false, false, [(0, 1, .w1c), (1, 1, .w1c), (2, 1, .w1c), (3, 1, .w1c), (4, 1, .w1c), (5, 1, .w1c), (6, 1, .w1c)]⟩,
  ⟨0x4000078, [], 0x0, false, false, true, true, false, [(0, 32, .ro)]⟩]
/-- The registers of the block PWR, part 2. -/
def mapPwr2 : List RegInfo := [
  ⟨0x4000080, [], 0x0, false, false, true, true, false, [(0, 32, .ro)]⟩,
  ⟨0x4000088, [], 0x0, false, false, true, true, false, [(0, 32, .ro)]⟩,
  ⟨0x4000090, [], 0x0, false, false, true, true, false, [(0, 32, .ro)]⟩,
  ⟨0x4000098, [], 0x0, false, false, true, true, false, [(0, 32, .ro)]⟩,
  ⟨0x40000A0, [], 0x0, false, false, true, true, false, [(0, 32, .ro)]⟩,
  ⟨0x40000A8, [], 0x0, false, false, true, true, false, [(0, 32, .ro)]⟩,
  ⟨0x40000C0, [], 0x0, true, false, false, false, false, [(0, 64, .ro)]⟩,
  ⟨0x40000C8, [], 0x0, true, false, false, false, false, [(0, 64, .ro)]⟩,
  ⟨0x4000100, [(4, 0x8)], 0x800000000000, false, false, false, false, false, [(0, 12, .ro), (16, 12, .ro), (32, 16, .ro)]⟩,
  ⟨0x4800000, [], 0x0, false, false, false, false, true, [(0, 1, .ro), (1, 1, .ro), (2, 1, .ro)]⟩,
  ⟨0x4800008, [], 0x0, false, true, false, false, true, [(0, 48, .rw), (63, 1, .rw)]⟩,
  ⟨0x4800010, [], 0x0, false, false, false, false, true, [(0, 1, .w1c), (1, 1, .w1c), (2, 1, .w1c), (3, 1, .w1c), (8, 6, .ro)]⟩]
def mapPwr : List RegInfo := mapPwr1 ++ mapPwr2

/-- The registers of the block TIME, part 1. -/
def mapTime1 : List RegInfo := [
  ⟨0x5000000, [], 0xFFFFFFFF00000000, false, false, false, false, false, [(0, 3, .ro), (3, 1, .ro), (32, 32, .ro)]⟩,
  ⟨0x5000008, [], 0xC80641, false, false, true, false, false, [(0, 1, .rw), (4, 10, .rw), (16, 8, .rw)]⟩,
  ⟨0x5000010, [], 0x0, false, false, false, false, false, [(0, 1, .w1c), (1, 1, .w1c), (2, 1, .w1c), (3, 1, .w1c), (4, 1, .w1c), (5, 1, .w1c)]⟩,
  ⟨0x5000018, [], 0x0, false, false, true, true, false, [(0, 32, .ro)]⟩,
  ⟨0x5000020, [], 0x0, false, false, true, true, false, [(0, 32, .ro)]⟩,
  ⟨0x5000028, [], 0x0, false, false, true, true, false, [(0, 32, .ro)]⟩,
  ⟨0x5000030, [], 0x0, false, false, true, true, false, [(0, 32, .ro)]⟩,
  ⟨0x5000038, [], 0x0, false, false, true, true, false, [(0, 32, .ro)]⟩,
  ⟨0x5000040, [], 0x0, false, false, true, true, false, [(0, 32, .ro)]⟩,
  ⟨0x5000048, [], 0x7, false, false, true, false, false, [(0, 6, .rw)]⟩,
  ⟨0x5000050, [], 0x0, true, false, false, false, false, [(0, 64, .ro)]⟩,
  ⟨0x5000058, [], 0x0, true, false, false, false, false, [(0, 64, .ro)]⟩,
  ⟨0x5000060, [], 0x0, true, false, false, false, false, [(0, 64, .ro)]⟩,
  ⟨0x5000068, [], 0x0, false, true, false, false, false, [(0, 63, .rw), (63, 1, .rw)]⟩,
  ⟨0x5000070, [], 0x0, false, false, false, false, false, [(0, 1, .wo)]⟩,
  ⟨0x5000078, [], 0x0, false, false, false, false, false, [(0, 64, .ro)]⟩]
/-- The registers of the block TIME, part 2. -/
def mapTime2 : List RegInfo := [
  ⟨0x5000080, [], 0x0, false, false, false, false, false, [(0, 64, .ro)]⟩,
  ⟨0x5000088, [], 0xFFFFFFFF00000000, false, false, false, false, false, [(0, 3, .ro), (3, 1, .ro), (32, 32, .ro)]⟩,
  ⟨0x5800000, [], 0x0, false, false, false, false, true, [(0, 64, .ro)]⟩,
  ⟨0x5800008, [], 0x0, true, false, false, false, true, [(0, 48, .ro)]⟩,
  ⟨0x5800010, [], 0x0, false, false, false, false, true, [(0, 48, .ro)]⟩,
  ⟨0x5800018, [], 0x0, false, false, false, false, true, [(0, 64, .ro)]⟩]
def mapTime : List RegInfo := mapTime1 ++ mapTime2

/-- The registers of the block WATCH, part 1. -/
def mapWatch1 : List RegInfo := [
  ⟨0x2000000, [], 0x0, false, false, true, true, false, [(0, 10, .ro), (10, 1, .ro), (11, 1, .ro), (12, 1, .ro), (13, 9, .ro)]⟩,
  ⟨0x2000008, [], 0x64000500C8, false, false, true, true, false, [(0, 14, .rw), (16, 10, .rw), (32, 14, .rw)]⟩,
  ⟨0x2000010, [], 0x3C07D0283C03E8, false, false, true, true, false, [(0, 16, .rw), (16, 8, .rw), (24, 6, .rw), (32, 14, .rw), (48, 8, .rw)]⟩,
  ⟨0x2000018, [], 0x0, false, false, true, true, false, [(0, 1, .w1c), (1, 1, .w1c), (2, 1, .w1c), (3, 1, .w1c), (4, 1, .w1c)]⟩,
  ⟨0x2000020, [], 0x0, false, false, true, true, false, [(0, 32, .ro)]⟩,
  ⟨0x2000028, [], 0x0, false, false, true, true, false, [(0, 32, .ro)]⟩,
  ⟨0x2000030, [], 0x0, false, false, true, true, false, [(0, 32, .ro)]⟩,
  ⟨0x2000038, [], 0x0, false, false, true, true, false, [(0, 32, .ro)]⟩,
  ⟨0x2000040, [], 0x0, false, false, true, true, false, [(0, 32, .ro)]⟩,
  ⟨0x2000048, [], 0x0, false, false, true, true, false, [(0, 9, .wo), (9, 3, .wo)]⟩,
  ⟨0x2000050, [], 0x0, false, false, true, true, false, [(0, 1, .wo)]⟩,
  ⟨0x2000058, [], 0x0, false, false, true, true, false, [(0, 16, .ro)]⟩,
  ⟨0x2008000, [(1024, 0x10)], 0x0, false, false, true, true, false, [(0, 64, .ro)]⟩,
  ⟨0x2008008, [(1024, 0x10)], 0x0, false, false, true, true, false, [(0, 64, .ro)]⟩,
  ⟨0x2010000, [(512, 0x20)], 0x0, false, false, true, true, false, [(0, 1, .w1c), (1, 3, .ro), (4, 3, .ro), (7, 2, .ro), (9, 2, .ro), (11, 1, .ro), (16, 16, .ro), (32, 8, .ro), (40, 8, .ro)]⟩,
  ⟨0x2010008, [(512, 0x20)], 0xE91, false, false, true, true, false, [(0, 1, .rw), (1, 3, .rw), (4, 3, .rw), (7, 3, .rw), (10, 3, .rw), (13, 1, .rw), (14, 1, .wo)]⟩]
/-- The registers of the block WATCH, part 2. -/
def mapWatch2 : List RegInfo := [
  ⟨0x2010010, [(512, 0x20)], 0x0, false, false, true, true, false, [(0, 32, .ro)]⟩,
  ⟨0x2010018, [(512, 0x20)], 0x0, false, false, true, true, false, [(0, 32, .ro)]⟩,
  ⟨0x2020000, [(256, 0x10)], 0x0, false, false, true, true, false, [(0, 2, .ro), (2, 1, .ro), (3, 1, .ro), (16, 16, .ro), (32, 32, .ro)]⟩,
  ⟨0x2020008, [(256, 0x10)], 0x3F, false, false, true, true, false, [(0, 5, .rw), (5, 1, .rw), (8, 1, .wo), (9, 1, .wo)]⟩]
def mapWatch : List RegInfo := mapWatch1 ++ mapWatch2

/-- The registers of the block SEC, part 1. -/
def mapSec1 : List RegInfo := [
  ⟨0x6000000, [], 0x0, false, false, false, false, false, [(0, 3, .ro), (3, 1, .ro), (4, 2, .ro), (6, 1, .ro), (8, 7, .ro), (16, 32, .ro)]⟩,
  ⟨0x6000008, [], 0x0, false, false, false, false, false, [(0, 1, .w1c), (1, 1, .w1c), (2, 1, .w1c), (3, 1, .w1c)]⟩,
  ⟨0x6000010, [], 0x0, false, false, true, true, false, [(0, 32, .ro)]⟩,
  ⟨0x6000018, [], 0x0, false, false, true, true, false, [(0, 32, .ro)]⟩,
  ⟨0x6000020, [], 0x0, false, false, true, true, false, [(0, 32, .ro)]⟩,
  ⟨0x6000028, [], 0x0, false, false, true, true, false, [(0, 32, .ro)]⟩,
  ⟨0x6000030, [(6, 0x8)], 0x0, false, false, false, false, false, [(0, 64, .ro)]⟩,
  ⟨0x6000060, [], 0x0, false, false, false, false, false, [(0, 7, .wo)]⟩,
  ⟨0x6000068, [], 0x0, false, false, false, false, false, [(0, 7, .ro), (7, 1, .ro)]⟩,
  ⟨0x6800000, [], 0x0, false, false, false, false, true, [(0, 5, .ro), (5, 3, .ro), (8, 1, .ro), (9, 5, .ro)]⟩,
  ⟨0x6800008, [], 0x0, false, false, false, false, true, [(0, 48, .ro)]⟩,
  ⟨0x6800010, [], 0x0, false, false, false, false, true, [(0, 42, .ro)]⟩,
  ⟨0x6800018, [], 0x0, false, false, false, false, true, [(0, 5, .rw)]⟩,
  ⟨0x6800020, [], 0x0, false, false, false, false, true, [(0, 1, .ro), (1, 1, .ro), (2, 1, .ro)]⟩]
def mapSec : List RegInfo := mapSec1

/-- The registers of the block MGMT, part 1. -/
def mapMgmt1 : List RegInfo := [
  ⟨0x7000000, [], 0x0, false, false, true, false, false, [(0, 1, .rw), (1, 1, .rw)]⟩,
  ⟨0x7000008, [], 0x0, false, false, false, false, false, [(0, 16, .ro), (16, 1, .ro), (17, 1, .ro)]⟩,
  ⟨0x7000010, [], 0x0, false, false, false, false, false, [(0, 1, .w1c), (1, 1, .w1c), (2, 1, .w1c), (3, 1, .w1c), (4, 1, .w1c)]⟩,
  ⟨0x7000018, [], 0x0, false, false, true, true, false, [(0, 32, .ro)]⟩,
  ⟨0x7000020, [], 0x0, false, false, true, true, false, [(0, 32, .ro)]⟩,
  ⟨0x7000028, [], 0x0, false, false, true, true, false, [(0, 32, .ro)]⟩,
  ⟨0x7000030, [], 0x0, false, false, true, true, false, [(0, 32, .ro)]⟩,
  ⟨0x7000038, [], 0x0, false, false, true, true, false, [(0, 32, .ro)]⟩,
  ⟨0x7000100, [(16, 0x8)], 0x8D0100, false, false, true, false, false, [(0, 7, .rw), (7, 1, .rw), (8, 1, .rw), (16, 8, .rw)]⟩,
  ⟨0x7000200, [(16, 0x8)], 0xFFFF000000000000, false, false, false, false, false, [(0, 32, .ro), (32, 16, .ro), (48, 16, .ro)]⟩,
  ⟨0x7001000, [], 0x683, false, false, true, false, false, [(0, 20, .rw), (20, 1, .rw), (21, 1, .rw), (26, 3, .rw)]⟩,
  ⟨0x7002000, [], 0x1000683, false, false, true, false, false, [(0, 20, .rw), (20, 1, .rw), (21, 1, .rw), (22, 4, .rw), (26, 3, .rw)]⟩,
  ⟨0x7001008, [(2, 0x1000)], 0x0, false, false, false, false, false, [(0, 7, .ro), (8, 7, .ro), (15, 1, .ro)]⟩,
  ⟨0x7001010, [(2, 0x1000)], 0x0, false, false, false, false, false, [(0, 8, .ro), (8, 1, .ro)]⟩,
  ⟨0x7001018, [(2, 0x1000)], 0x0, false, false, false, false, false, [(0, 1, .w1c), (1, 1, .w1c), (2, 1, .w1c), (3, 1, .w1c), (4, 1, .w1c)]⟩,
  ⟨0x7001020, [(2, 0x1000)], 0x0, false, false, true, true, false, [(0, 32, .ro)]⟩,
  ⟨0x7001028, [(2, 0x1000)], 0x0, false, false, true, true, false, [(0, 32, .ro)]⟩]
/-- The registers of the block MGMT, part 2. -/
def mapMgmt2 : List RegInfo := [
  ⟨0x7001030, [(2, 0x1000)], 0x0, false, false, true, true, false, [(0, 32, .ro)]⟩,
  ⟨0x7001038, [(2, 0x1000)], 0x0, false, false, true, true, false, [(0, 32, .ro)]⟩,
  ⟨0x7001040, [(2, 0x1000)], 0x0, false, false, true, true, false, [(0, 32, .ro)]⟩,
  ⟨0x7800000, [], 0x0, false, false, false, false, true, [(0, 1, .rw), (1, 1, .rw)]⟩,
  ⟨0x7800008, [], 0x0, false, false, false, false, true, [(0, 2, .ro), (2, 1, .ro), (3, 1, .ro), (4, 1, .ro), (5, 1, .ro), (6, 1, .ro), (7, 4, .ro)]⟩,
  ⟨0x7800010, [], 0x0, false, false, false, false, true, [(0, 1, .w1c), (1, 1, .w1c), (2, 1, .w1c), (3, 1, .w1c)]⟩,
  ⟨0x7800018, [], 0x0, false, false, true, true, true, [(0, 32, .ro)]⟩,
  ⟨0x7800020, [], 0x0, false, false, true, true, true, [(0, 32, .ro)]⟩,
  ⟨0x7800028, [], 0x0, false, false, true, true, true, [(0, 32, .ro)]⟩,
  ⟨0x7800030, [], 0x0, false, false, true, true, true, [(0, 32, .ro)]⟩]
def mapMgmt : List RegInfo := mapMgmt1 ++ mapMgmt2

/-- The blocks of the table "CSR block bases" (01_machine.md), by the number offset / 16 MiB. -/
def blockMap (n : Nat) : List RegInfo :=
  match n with
  | 0 => mapTop | 1 => mapTci | 2 => mapWatch | 3 => mapJess | 4 => mapPwr | 5 => mapTime | 6 => mapSec | 7 => mapMgmt
  | 8 => mapCrypt | 9 => mapRoost | 10 => mapKtl | 11 => mapMews
  | _ => if 16 ≤ n ∧ n < 20 then mapTalon else if 32 ≤ n ∧ n < 40 then mapHbm else []

/-- The row of the register map that the offset `a` belongs to, if it is the offset of a register (R28: every other offset is reserved). -/
def findReg (a : Nat) : Option RegInfo := (blockMap (a / 0x1000000)).find? (fun r => r.covers a)

/-- The Reset column's value of the register at offset `a`, before the values that depend on the instance (see resetWord). -/
def resetColumn (a : Nat) : Word :=
  let n := a / 0x1000000
  if n = 0 then
    if 0x0 ≤ a && dimsCover [] (a - 0x0) then 0xB004800C9F else
    0
  else
  if n = 1 then
    if 0x1000010 ≤ a && dimsCover [] (a - 0x1000010) then 0x30000000 else
    if 0x1000040 ≤ a && dimsCover [] (a - 0x1000040) then 0x8 else
    if 0x1000090 ≤ a && dimsCover [] (a - 0x1000090) then 0xC60 else
    0
  else
  if 16 ≤ n ∧ n < 20 then
    if 0x10800008 ≤ a && dimsCover [(4, 0x1000000)] (a - 0x10800008) then 0xFFF else
    if 0x10800020 ≤ a && dimsCover [(4, 0x1000000)] (a - 0x10800020) then 0x18 else
    0
  else
  if 32 ≤ n ∧ n < 40 then
    if 0x20000008 ≤ a && dimsCover [(8, 0x1000000), (64, 0x1000)] (a - 0x20000008) then 0x200818 else
    if 0x20800008 ≤ a && dimsCover [(8, 0x1000000)] (a - 0x20800008) then 0x2 else
    if 0x20000148 ≤ a && dimsCover [(8, 0x1000000), (64, 0x1000)] (a - 0x20000148) then 0x9 else
    if 0x20800100 ≤ a && dimsCover [(8, 0x1000000)] (a - 0x20800100) then 0x4000 else
    if 0x20800108 ≤ a && dimsCover [(8, 0x1000000)] (a - 0x20800108) then 0x473369 else
    if 0x20800138 ≤ a && dimsCover [(8, 0x1000000)] (a - 0x20800138) then 0x1F42000 else
    if 0x20800140 ≤ a && dimsCover [(8, 0x1000000)] (a - 0x20800140) then 0x18 else
    if 0x20800208 ≤ a && dimsCover [(8, 0x1000000)] (a - 0x20800208) then 0x2710 else
    0
  else
  if n = 9 then
    if 0x9000008 ≤ a && dimsCover [(2, 0x100000)] (a - 0x9000008) then 0xA else
    if 0x9000100 ≤ a && dimsCover [(2, 0x100000), (4, 0x8)] (a - 0x9000100) then 0xFF00 else
    if 0x9400008 ≤ a && dimsCover [(8, 0x10000)] (a - 0x9400008) then 0x800080801F408001 else
    if 0x94000A0 ≤ a && dimsCover [(8, 0x10000)] (a - 0x94000A0) then 0x18 else
    if 0x9800008 ≤ a && dimsCover [] (a - 0x9800008) then 0x4 else
    0
  else
  if n = 8 then
    if 0x8000010 ≤ a && dimsCover [] (a - 0x8000010) then 0x320 else
    0
  else
  if n = 3 then
    if 0x3000048 ≤ a && dimsCover [] (a - 0x3000048) then 0x3F else
    if 0x3001008 ≤ a && dimsCover [(256, 0x20)] (a - 0x3001008) then 0x3F else
    if 0x3004008 ≤ a && dimsCover [(32, 0x20)] (a - 0x3004008) then 0x2010000000 else
    0
  else
  if n = 10 then
    if 0xA000000 ≤ a && dimsCover [(64, 0x10000)] (a - 0xA000000) then 0x1 else
    if 0xA000008 ≤ a && dimsCover [(64, 0x10000)] (a - 0xA000008) then 0x1 else
    if 0xA800008 ≤ a && dimsCover [] (a - 0xA800008) then 0x3 else
    if 0xA801000 ≤ a && dimsCover [(64, 0x8)] (a - 0xA801000) then 0x7F0 else
    0
  else
  if n = 11 then
    if 0xB000040 ≤ a && dimsCover [] (a - 0xB000040) then 0x8 else
    if 0xB000108 ≤ a && dimsCover [(15, 0x8)] (a - 0xB000108) then 0xF else
    0
  else
  if n = 4 then
    if 0x4000000 ≤ a && dimsCover [] (a - 0x4000000) then 0x1 else
    if 0x4000008 ≤ a && dimsCover [] (a - 0x4000008) then 0xAB54960 else
    if 0x4000030 ≤ a && dimsCover [] (a - 0x4000030) then 0x20064087869 else
    if 0x4000038 ≤ a && dimsCover [] (a - 0x4000038) then 0x146418 else
    if 0x4000050 ≤ a && dimsCover [] (a - 0x4000050) then 0x320 else
    if 0x4000058 ≤ a && dimsCover [] (a - 0x4000058) then 0x1F400081E14 else
    if 0x4000060 ≤ a && dimsCover [] (a - 0x4000060) then 0xE050BB8 else
    if 0x4000068 ≤ a && dimsCover [] (a - 0x4000068) then 0x8000 else
    if 0x4000100 ≤ a && dimsCover [(4, 0x8)] (a - 0x4000100) then 0x800000000000 else
    0
  else
  if n = 5 then
    if 0x5000000 ≤ a && dimsCover [] (a - 0x5000000) then 0xFFFFFFFF00000000 else
    if 0x5000008 ≤ a && dimsCover [] (a - 0x5000008) then 0xC80641 else
    if 0x5000048 ≤ a && dimsCover [] (a - 0x5000048) then 0x7 else
    if 0x5000088 ≤ a && dimsCover [] (a - 0x5000088) then 0xFFFFFFFF00000000 else
    0
  else
  if n = 2 then
    if 0x2000008 ≤ a && dimsCover [] (a - 0x2000008) then 0x64000500C8 else
    if 0x2000010 ≤ a && dimsCover [] (a - 0x2000010) then 0x3C07D0283C03E8 else
    if 0x2010008 ≤ a && dimsCover [(512, 0x20)] (a - 0x2010008) then 0xE91 else
    if 0x2020008 ≤ a && dimsCover [(256, 0x10)] (a - 0x2020008) then 0x3F else
    0
  else
  if n = 7 then
    if 0x7000100 ≤ a && dimsCover [(16, 0x8)] (a - 0x7000100) then 0x8D0100 else
    if 0x7000200 ≤ a && dimsCover [(16, 0x8)] (a - 0x7000200) then 0xFFFF000000000000 else
    if a = 0x7001000 then 0x683 else
    if a = 0x7002000 then 0x1000683 else
    0
  else
  0

end Sys2Proof.Machine
end

