-- ==== Sys2Proof/Machine/State.lean ====
section
/-! DEFINITION. The state of the package as plain data: the registers of the CSR space in one sparse file, the memories, and every
piece of state that the spec gives the blocks beside their registers; the queue of waiting commands; the faults and refusals; the
state after reset. -/

namespace Sys2Proof.Machine

/-- A sparse table keyed by a natural number, in one canonical form: keys strictly rising. A key that is not listed has the
table's default value. -/
abbrev Tab (α : Type) := List (Nat × α)

/-- A filled SNAP latch (R10): the CSR block's number (offset / 16 MiB), the register's offset, the reading master, the upper half. -/
structure SnapLatch where
  block : Nat
  reg : Nat
  master : Nat
  upper : Nat
deriving DecidableEq, Repr

/-- A die-to-die link's replay run (R18): failed replays so far, and when the run began. -/
structure D2dRun where
  fails : Nat
  start : Nat
deriving DecidableEq, Repr

/-- The identity, die-to-die links and straps (01_machine.md). `trayPins` and `selPins` are the strap levels as driven now; `idValid`: the identity has been latched since Perch power-on; -/
structure TopState where
  trayPins : Nat
  selPins : Nat
  idValid : Bool
  runs : Tab D2dRun
deriving DecidableEq, Repr

/-- Session states (table "Session states"). CLOSED is a free slot. -/
inductive SState where
  | new | active | waiting | parked | exported
deriving DecidableEq, Repr

def SState.code : SState → Nat
  | .new => 0 | .active => 1 | .waiting => 2 | .parked => 3 | .exported => 4

/-- BUDDY_STATE (R54). -/
inductive BuddySt where
  | none_ | pending | held | stale
deriving DecidableEq, Repr

def BuddySt.code : BuddySt → Nat
  | .none_ => 0 | .pending => 1 | .held => 2 | .stale => 3

/-- A level-2 entry (table "Level-2 entry"): TIER (0 none, 1 HBM, 2 Roost), CLEAN, BUDDY, and the frame numbers in HBM and in Roost. -/
structure PageEnt where
  tier : Nat
  clean : Bool
  buddy : Bool
  hbm : Nat
  roost : Nat
deriving DecidableEq, Repr

/-- What is kept of a commit record that has been written (R46): its sequence, its position (false A, true B), the Roost frames of its page-table image. -/
structure CommitRec where
  seq : Nat
  posB : Bool
  pt : List Nat
deriving DecidableEq, Repr

/-- A session table entry with what Tirlo keeps of it (02_sessions.md). Pages are keyed by 65,536 · layer group + page number. `newFrames`:
Roost frames that the running park has taken, by page; `ptFrames`: those of its page-table image; `hbmFreed`: the HBM frames of a PARKED session have been freed; `lastCommit`: the sequence of the last commit
the descriptor holds; `recs`: its commit records; `shards`: the package of each chunk that another package holds (R56); `under`: an export runs; `notBefore`: not eligible before (R48); `runnableAt`: when the session became RUNNABLE; `framesAt`: when its unpark
was found short of HBM frames; `crit`: a waiting command carries CRIT; `closing`: a close runs; `buddyTryAt`: when the buddy copy was last sent; `buddyDue`: a buddy copy is to be sent. -/
structure Session where
  handle : Nat
  st : SState
  parking : Bool
  unparking : Bool
  runnable : Bool
  damaged : Bool
  tampered : Bool
  groups : Nat
  length : Nat
  domain : Nat
  parkAfter : Nat
  idleAt : Nat
  buddyPkg : Nat
  buddy : BuddySt
  pages : Tab PageEnt
  newFrames : Tab Nat
  ptFrames : List Nat
  hbmFreed : Bool
  lastCommit : Nat
  recs : List CommitRec
  under : Bool
  notBefore : Nat
  runnableAt : Nat
  framesAt : Option Nat
  crit : Bool
  closing : Bool
  buddyTryAt : Nat
  shards : Tab Nat
  buddyDue : Bool
deriving DecidableEq, Repr

/-- A buddy directory entry (R54): its place in the directory, the home handle, the home package, the held commit record's 64 bytes, and the frames of the copy in the order received (pages in page-table
order, then the page-table image). -/
structure BuddyEnt where
  idx : Nat := 0
  handle : Nat
  home : Nat
  record : List Byte
  frames : List Nat
deriving DecidableEq, Repr

/-- The buddy copies being received from one home package: the home's frames, told by the logical sector numbers, each with the frame taken for it, in the order in which they came. -/
structure BuddyIn where
  frames : List (Nat × Nat)
deriving DecidableEq, Repr

/-- An import in progress (R108): its stream, its command's number, its key domain and buddy package; once the header has come, its LAYER_GROUPS, LENGTH, PT_SECTORS and SECTORS; the records received, and the frames
taken. -/
structure ImportSt where
  stream : Nat
  seq : Nat
  domain : Nat
  buddyPkg : Nat
  header : Bool
  groups : Nat
  length : Nat
  pt : Nat
  sectors : Nat
  got : Nat
  frames : List Nat
deriving DecidableEq, Repr

/-- The session table, the generation counter (Perch domain), the buddy directory with the copies being received by home package, the HBM frames of the KV pool in use, running imports, whether the package drains (R113),
the KV pool (its first frame and its size in frames), the home and new handles of which a CLAIM is owed (R55), the slots that hold shards of other packages' sessions with the home of each (R57), and
where in HBM Tirlo has placed the session table and the page tables (first frame and frames, R94). -/
structure SessState where
  table : Tab Session
  gen : Nat
  buddies : List BuddyEnt
  incoming : Tab BuddyIn
  hbmUsed : List Nat
  imports : List ImportSt
  draining : Bool
  kvFirst : Nat
  kvCount : Nat
  claims : List (Nat × Nat)
  shardSlots : Tab Nat
  tabFirst : Nat
  tabCount : Nat
deriving DecidableEq, Repr

/-- An admitted command: the command, its number in admission order, its admission in epoch ns and its deadline (R77), whether its CRIT was
dropped (R70), for a forwarded one the FWD message that it answers, and for one that a CMD message brought the link on which it came (R105). -/
structure ICmd where
  c : Cmd
  link : Option Nat := none
  seq : Nat
  at_ : Nat
  deadline : Nat
  critDropped : Bool
  fwd : Option KMsg
deriving DecidableEq, Repr

/-- What a dispatched command that has not replied waits for. `arg` and `arg2` carry the object (a session slot, a unit, a
sync number, a link, a plan ...). -/
inductive Wait where
  | none_
  | original
  | park | unpark | run | export_ | import_ | close
  | draw
  | sync | unitReset | link | plan | drain | counter | rekey | forwarded | queueDrain | reduce | power | warm | fetch
deriving DecidableEq, Repr

/-- A dispatched command that has not ended: what it waits for and on which object; `dead`: its TIMEOUT reply has been written and its work is still to stop (R77). -/
structure Run where
  i : ICmd
  wait : Wait
  arg : Nat
  arg2 : Nat
  dead : Bool
deriving DecidableEq, Repr

/-- The state of a remembered request ID (R74, R75). -/
inductive DupSt where
  | running
  | inDoubt (acrossReset : Bool)
  | final (status r0 r1 doneNs : Nat)
deriving DecidableEq, Repr

/-- A remembered request ID: the ID, its admission in epoch ns, its state. -/
structure DupEnt where
  rid : Nat
  at_ : Nat
  st : DupSt
deriving DecidableEq, Repr

/-- The TCI hardware beyond its registers (03_tci_transport.md). `pendingMap`: queue pairs with their bit set; `rr`: the last
queue pair served in each PRIO class; `waits`: turns since each class was last served; `reserved`: RQ slots reserved per queue
pair; `phase0`: queue pairs whose next reply carries PHASE 0; `intake`: admitted commands not yet dispatched, oldest first;
`running`: dispatched commands with no reply; `dup`: duplicate memory per queue pair (forwarded commands under
4096 · (package + 1) + queue pair), newest first; `unsig`: unsignalled replies per queue pair (count, epoch ns of the first); `blocks`: extended blocks of entries that a push queue pair's SQ holds, by 65,536 · queue pair + slot; `links`: the links on which those entries came; `srcs`: what the reads of a command's source buffer on another package have brought, by admission number; `seq`: admissions so far; `adminService`: Tirlo's admin service has started. -/
structure TciState where
  pendingMap : List Nat
  rr : List Nat
  waits : List Nat
  reserved : Tab Nat
  phase0 : List Nat
  intake : List ICmd
  running : List Run
  dup : Tab (List DupEnt)
  unsig : Tab (Nat × Nat)
  blocks : Tab (List Byte)
  links : Tab Nat
  srcs : Tab ExtRead
  seq : Nat
  adminService : Bool
deriving DecidableEq, Repr

/-- An entry point of a plan (table "Entry table entry"), its argument kinds decoded. -/
structure PlanEntry where
  pc : Nat
  session : Bool
  batchable : Bool
  batchMax : Nat
  kinds : List Nat
  energyBase : Nat
  energyPer : Nat
  deferLimit : Nat
  maxCycles : Nat
deriving DecidableEq, Repr

/-- A loaded plan (R134 to R136): its entries, the bytes of each area, RACK_GROUP, its key domain (R131), the physical tile of each logical tile and the start of its span in that
tile's plan area, and whether it is being unloaded. -/
structure Plan where
  entries : List PlanEntry
  weight : Nat
  code : Nat
  scratch : Nat
  group : Nat
  domain : Nat
  tiles : List Nat
  offs : List Nat
  unloading : Bool
deriving DecidableEq, Repr

/-- A run (one execution of an entry for one command): the command's admission number, its plan and entry, its arguments, its positions, the slot of its session with LENGTH at dispatch and the KV write window
[lo, hi), whether its command is CRIT, when it was admitted, the bytes written to argument buffers, whether it is to stop at its abort point and with which status. -/
structure TileRun where
  seq : Nat
  plan : Nat
  entry : Nat
  args : List Nat
  positions : Nat
  slot : Option Nat
  len : Nat
  lo : Nat
  hi : Nat
  crit : Bool
  at_ : Nat
  wrote : Nat
  stop : Option Nat
deriving DecidableEq, Repr

/-- A dispatched pass: its number, plan and entry, its runs, its full-power energy so far in nJ and the time up to which that is counted (R318), when it was dispatched, the gated groups it waits for, whether it has started, and whether it holds a CRIT run; the tile cycles that it waited for groups to wake (R120), the energy in nJ that its tiles have drawn so far, what of it has been charged to credits in µJ (R143), and the positions of the runs that have left it (R141). -/
structure Pass where
  id : Nat
  plan : Nat
  entry : Nat
  runs : List TileRun
  full : Nat
  since : Nat
  at_ : Nat
  wakes : List Nat
  started : Bool
  crit : Bool
  waited : Nat := 0
  drawn : Nat := 0
  charged : Nat := 0
  left : List Nat := []
deriving DecidableEq, Repr

/-- The units of a tile (table "Parts of one Talon tile"): the accumulators (1,024 · set + place) and vector registers (512 lanes each) that hold another value than 0, as FP32 codes, and the lane mask that
the last comparison left. -/
structure TileUnits where
  accs : Tab Nat
  regs : Tab (List Nat)
  mask : List Bool
deriving DecidableEq, Repr

/-- A descriptor that a DMA channel has taken (R129): its number, tile and channel, its run's command, its 32 bytes, how many of its lines are done, and whether a read of its next line on another package is under
way. -/
structure DmaJob where
  id : Nat
  tile : Nat
  ch : Nat
  seq : Nat
  desc : List Byte
  pos : Nat
  reading : Bool
deriving DecidableEq, Repr

/-- The Talon tiles beyond their registers: loaded plans, runs that wait for dispatch in admission order, dispatched passes, passes so far, tiles marked FAULTED by the self-test (R425), tiles whose private area
was cleared by a reset (R145), the tiles' units, the descriptors that their channels have taken and not completed, oldest first, and descriptors so far. -/
structure TalonState where
  plans : Tab Plan
  ready : List TileRun
  passes : List Pass
  next : Nat
  faulty : List Nat
  cleared : List Nat
  units : Tab TileUnits
  dma : List DmaJob
  jobs : Nat
deriving DecidableEq, Repr

/-- A request in a controller queue or at its ingress (R151): its number in arrival order, the request, when it arrived, the crypt mode
that Jess handed on (0 PLAIN, 1 SCRAMBLE), where the map that its decoder used puts it (R149: the key of its stored bytes, its local address, bank and row; for Roost the bank counts both ranks' banks),
its number in order of queue entry (R154), and whether its completion goes to no master of its own (a write on behalf of a step that has ended). -/
structure QReq where
  id : Nat
  r : LineReq
  at_ : Nat
  mode : Nat
  key : Nat
  lcl : Nat
  bank : Nat
  row : Nat
  ent : Nat
  quiet : Bool
deriving DecidableEq, Repr

/-- A row tracker entry (R169): bank, row, corrected errors, when last updated. -/
structure TrackEnt where
  bank : Nat
  row : Nat
  count : Nat
  upd : Nat
deriving DecidableEq, Repr

/-- A masked write between its internal read and its write (R150): the request's number, the line as the read delivered it and its poison. -/
structure Rmw where
  req : Nat
  old : List Byte
  poison : Bool
deriving DecidableEq, Repr

/-- The queues of an HBM pseudo-channel controller or of a Roost sub-channel: read queue and write queue in order of entry, requests held at ingress, oldest first; `next`: entries so far; `drain`,
`drained`: a drain runs and the writes issued in it; `drains`, `raws`: drains started and reads that found their line among the writes, in all; `slot`: the slot within the window of 16; `duty`: the
issue duty of this window (R174); `moved`: a forced write took slot 14 while NORM's floor was owed; `served`: what each class has been served in the window; `since`: slots since the last data access,
and `lastWrite` its direction; `rmw`: a masked write whose internal read has issued; `openRow`, `actAt`: the open rows by bank and when each was activated; `owed`: the refreshes owed by bank;
`dueAt`: from when the next refresh of a bank falls due, in units of 0.5 ns; `track`: the row tracker; `retry`, `crc`: retries so far of a request's command and of its write burst, by request
number; `acts`: the activate counts of the disturbance window by key; `limited`: each limited key with the time of its last activate, and `spacedOnce`: those whose first spaced activate has come;
`lfsr`: PROB's register (R178); `heldAt`: when ingress began to hold. -/
structure MQueue where
  rq : List QReq
  wq : List QReq
  held : List QReq
  next : Nat
  drain : Bool
  drained : Nat
  drains : Nat
  raws : Nat
  slot : Nat
  duty : Nat
  moved : Bool
  served : List Nat
  since : Nat
  lastWrite : Bool
  rmw : Option Rmw
  openRow : Tab Nat
  actAt : Tab Nat
  owed : Tab Nat
  dueAt : Tab Nat
  track : List TrackEnt
  retry : Tab Nat
  crc : Tab Nat
  acts : Tab Nat
  limited : Tab Nat
  spacedOnce : List Nat
  lfsr : Nat
  heldAt : Option Nat
deriving DecidableEq, Repr

/-- An ordered slot of a Kite base die (R183): its line, its operation, the accumulators by source package, whether a poisoned operand came, and the epoch ns of its
last contribution. -/
structure OrdSlot where
  op : Nat
  accs : Tab (List Byte)
  poison : Bool
  last : Nat
deriving DecidableEq, Repr

/-- For what an outstanding request was sent: a master's own access, with its kind and address and the bytes of the line that a load wants; a forwarded command, bytes from an offset on of a buffer, a read of a REDUCE_WAIT counter of the running command with that admission number; a read of `n` bytes of its source buffer from an offset on; the read or the write of a line of a descriptor; a CLAIM of an old handle by a new one; a buddy message of a session's slot; a BUDDY_DEL; an export message of a session's slot; the IMP_REQ of a stream. -/
inductive OutFor where
  | access (k : AccKind) (addr off len : Nat)
  | fwd (seq : Nat)
  | reduce (seq off : Nat)
  | counter (seq : Nat)
  | src (seq off n : Nat)
  | dma (job line : Nat) (rd : Bool)
  | claim (old new : Nat)
  | buddy (slot : Nat)
  | buddyDel
  | export_ (slot : Nat)
  | imp (stream : Nat)
deriving DecidableEq, Repr

/-- An ordered contribution (R183): its number and class, master, line address, operation, source package, operand; for a line of an ADD message, the message to acknowledge; for a REDUCE or a descriptor of this package, what it was sent for. -/
structure OrdReq where
  id : Nat := 0
  cls : ReqClass := .norm
  m : Master
  addr : Nat
  op : Nat
  src : Nat
  data : List Byte
  poison : Bool
  reply : Option KMsg
  run : Option OutFor
deriving DecidableEq, Repr

/-- The HBM controllers and Kite base dies beyond their registers. `pcs`: by 64 · stack + pseudo-channel; `ords`: open ordered slots by line address; `ordWait`: ordered
contributions that wait for a slot; `loc`: the locality map that every decoder uses; `readyAt`: when each stack became READY; `rhWin`: the
disturbance window; `scrubAt`: when each pseudo-channel was last scrubbed; `seq`: requests so far. -/
structure HbmState where
  pcs : Tab MQueue
  ords : Tab OrdSlot
  ordWait : List OrdReq
  loc : Nat
  readyAt : Tab Nat
  rhWin : Nat
  scrubAt : Tab Nat
  seq : Nat
deriving DecidableEq, Repr

/-- The kinds of a Roost engine transfer (R206). -/
inductive XKind where
  | park | unpark | export_ | import_ | buddySend | buddyRecv
deriving DecidableEq, Repr

/-- A transfer of the Roost engine: its kind, its session's slot (for an import its stream, for a buddy receipt the home package), its class (R206), its number in arrival order, the pages still to move, the frames of the page-table image still to move,
sectors sent so far, whether it runs, whether its commit record has been written (park) or its last message sent. -/
structure Transfer where
  kind : XKind
  obj : Nat
  cls : Nat
  seq : Nat
  pages : List Nat
  ptLeft : Nat
  sent : Nat
  running : Bool
  committed : Bool
deriving DecidableEq, Repr

/-- A bridge's retraining (R193): the channels still to run, oldest first, when the first of them began, which of them fail, the temperature of the check, and whether every channel so far has passed. -/
structure Retrain where
  todo : List Nat
  since : Nat
  failed : List Nat
  temp : Nat
  ok : Bool
deriving DecidableEq, Repr

/-- The Roost tier beyond its registers. `subs`: by 2 · channel + sub-channel; `fixes`: corrections per device, by ((2 · channel + sub) · 2 + rank) · 10 + device; `rtFails`:
consecutive retraining failures by channel; `hot`: channels whose last reading of the DRAM's refresh-rate indication was above 85 °C, and `tempAt`: when each was read; `retrain`: the retraining that
a bridge runs; `owing`: channels whose retraining a self-refresh put off; `checkAt`: the 128 ms period of epoch time in which a bridge was last checked; `scrubAt`: when each channel was last scrubbed; `frames`: the frame map (0 FREE, not listed; 1 USED, 2 CLEAN, 3 BAD); `badSeen`: frames in which a read was uncorrectable; `fit`: the next-fit pointer; `xfers`: the
transfer queue, oldest first; `msgs`: messages of imports and buddy receipts, with their links, that wait for their transfer to run (R59, R202); `rr`: the transfer that moved a page last; `rhWin`: the disturbance window; `seq`, `xseq`: requests and transfers so far; `upAt`: from when the
command slots of ROOST_CH_SLOTS are counted. -/
structure RoostState where
  subs : Tab MQueue
  fixes : Tab Nat
  rtFails : Tab Nat
  hot : List Nat
  tempAt : Tab Nat
  retrain : Tab Retrain
  owing : List Nat
  checkAt : Tab Nat
  scrubAt : Tab Nat
  frames : Tab Nat
  badSeen : List Nat
  fit : Nat
  xfers : List Transfer
  msgs : List (Nat × KMsg)
  rr : Nat
  rhWin : Nat
  seq : Nat
  xseq : Nat
  upAt : Nat
deriving DecidableEq, Repr

/-- The six 256-bit keys of a key set (table "Key set of a domain"), with its KEY_VERSION. -/
structure KeySet where
  xts1 : Nat
  xts2 : Nat
  tag : Nat
  ex1 : Nat
  ex2 : Nat
  exTag : Nat
  version : Nat
deriving DecidableEq, Repr

/-- A key domain's sets A and B as the sealed key table holds them. -/
structure DomKeys where
  a : Option KeySet
  b : Option KeySet
deriving DecidableEq, Repr

/-- A sector record (table "Sector record"). -/
structure SecRec where
  tag : List Byte
  sealCtr : Nat
  nextCtr : Nat
  lsn : Nat
  domain : Nat
  setB : Bool
  valid : Bool
  worn : Bool
  failed : Bool
deriving DecidableEq, Repr

/-- Who waits for a merged write to be written back (R220): a master, or the Kettle request to be answered on a link. -/
inductive Waiter where
  | master (m : Master)
  | kettle (link : Nat) (m : KMsg)
deriving DecidableEq, Repr

/-- A merge buffer entry (R220): its sector, the lines written and not yet sealed, the plaintext once the sector has been read, the first write's time, when it was last
used, and those whose writes wait for the write-back; its key domain; the class of the access that it was last touched by. -/
structure Merge where
  sector : Nat
  domain : Nat
  lines : Tab (List Byte)
  plain : Option (List Byte)
  firstAt : Nat
  used : Nat
  waiters : List Waiter
  cls : ReqClass
deriving DecidableEq, Repr

/-- A rekey walk (R225): its domain, the next sector, sectors resealed, sectors that failed, whether it runs (a MIXED domain's walk stops at a reset), the boundary last
journaled. -/
structure Rekey where
  domain : Nat
  next : Nat
  resealed : Nat
  failed : List Nat
  running : Bool
deriving DecidableEq, Repr

/-- The Crypt engine beyond its registers: the sector table, the merge buffer, the key sets, the rekey, the scramble key, the use counter of the merge buffer's LRU choice; `marker`: the
rekey marker of the boot flash (R230); `ended`: Kettle requests (link, message) whose merged writes have ended, well or not, and are to be answered. -/
structure CryptState where
  recs : Tab SecRec
  merge : List Merge
  keys : Tab DomKeys
  rekey : Option Rekey
  marker : Option Nat
  scramble : Word
  use : Nat
  ended : List (Nat × KMsg × Bool)
deriving DecidableEq, Repr

/-- The contents of a Jess region: start, inclusive end, attribute word. -/
structure RegionW where
  start : Nat
  stop : Nat
  attr : Nat
deriving DecidableEq, Repr

/-- One Jess checker (R235, R245): its replica of the table, the committed writes it has not applied yet (oldest first: region
and contents), how many commits it has applied, and whether it must reload before it accepts a request (R248). -/
structure Checker where
  replica : Tab RegionW
  queue : List (Nat × RegionW)
  applied : Nat
  reloading : Bool
deriving DecidableEq, Repr

/-- Jess beyond its registers: the checkers, the commits made in all, and the syncs not yet complete (number, commits each needs). -/
structure JessState where
  checkers : Tab Checker
  commits : Nat
  syncs : List (Nat × Nat)
deriving DecidableEq, Repr

/-- A replay run of a receiver (R253, R254): its start and how many replays it has requested. -/
structure ReplayRun where
  start : Nat
  asked : Nat
deriving DecidableEq, Repr

/-- A Kettle link beyond its registers. `keeperUp`: its keeper runs at both ends; `exp`: the SEQ
expected next; `next`: the SEQ to assign next; `lastAck`: the last SEQ the peer acknowledged; `unacked`: messages in unacknowledged flits, with the SEQ of
their last flit; `txWait`: messages that wait for credits or the replay window, in order; `credits`: slots free in the
peer's eight pools; `run`: a replay run; `lockLost`: when lock was lost; `withdraw`: a DISABLE or RETRAIN in progress (true: RETRAIN)
and when LINKSTATE was sent; `downSent`, `downAcked`: DOWN_REQ sent, DOWN_ACK received; `upAt`: when the link became UP; `sinceBulk`: message starts since one
of class BULK, while one was ready; `lastRed`: the last NORM request started was an ADD; `lastRelay`: the last message started was a relayed one. -/
structure LinkState where
  keeperUp : Bool
  exp : Nat
  next : Nat
  lastAck : Nat
  unacked : List (Nat × KMsg)
  txWait : List KMsg
  credits : List Nat
  run : Option ReplayRun
  lockLost : Option Nat
  withdraw : Option (Bool × Nat)
  downSent : Bool
  downAcked : Bool
  upAt : Nat
  sinceBulk : Nat
  lastRed : Bool
  lastRelay : Bool
deriving DecidableEq, Repr

/-- What is known of a peer package: its last PRESENCE (epoch nonce, STATE, ALIGNED, and the time of a start of slot 0 that its SLOT and µs give), whether its READY was reported. -/
structure PeerState where
  present : Bool
  nonce : Nat
  st : Nat
  aligned : Bool
  phase : Nat
  readySeen : Bool
deriving DecidableEq, Repr

/-- An outstanding request of this package (R256, R261): its tag, target package (64 for the gateway), kind, when its header was sent (none: it waits for its route or its credits), its master, and
for what it was sent. -/
structure OutReq where
  tag : Nat
  target : Nat
  kind : KKind
  sentAt : Option Nat
  m : Master
  for_ : OutFor
deriving DecidableEq, Repr

/-- A reroute search to a target (R264): the candidates not yet probed, the round's candidates, when the round began, whether the
route was NONE before. -/
structure Probe where
  rest : List Nat
  round : List Nat
  acked : List Nat
  start : Nat
deriving DecidableEq, Repr

/-- A route's state beyond KTL_ROUTE_T. `held`: messages that wait for it; `probe`: a running search; `fence`: the new (KIND, VIA) and when
the fence was sent; `noneAt`: when it became NONE; `lostAt`: when the last usable route was lost, from which the hold of R266 counts; `stranded`: that hold has ended; `perchBack`: its links have returned while its PRESENCE still shows PERCH; `perchAt`: when holding for a perched target
began; `perchDone`: that hold has ended. -/
structure RouteState where
  held : List KMsg
  probe : Option Probe
  fence : Option (Nat × Nat × Nat)
  noneAt : Option Nat
  lostAt : Option Nat
  stranded : Bool
  perchAt : Option Nat
  perchDone : Bool
  perchBack : Bool
deriving DecidableEq, Repr

/-- The Kettle router and ports (11_kettle_fabric.md). `slotBase`: physical time of a start of slot 0; `syncAt`: when a SLOT_SYNC was last
received; `nextTag`: the next transaction tag; `lsSeq`: LINKSTATE messages sent; `lsSeen`: each package's last LINKSTATE sequence; `draining`: LEAVE has been sent; `todo`: requests
that have ended, with their response if one came, and that their user has still to act on. -/
structure KettleState where
  links : Tab LinkState
  peers : Tab PeerState
  routes : Tab RouteState
  outst : List OutReq
  nextTag : Nat
  slotBase : Nat
  syncAt : Option Nat
  lsSeq : Nat
  lsSeen : Tab Nat
  draining : Bool
  todo : List (OutReq × Option KMsg)
deriving DecidableEq, Repr

/-- A line of the Mews cache: its 64 bytes, dirty, poisoned, the lock range that holds it (0 none, 1 ring pool, 2 + i lock range i), its way. -/
structure CLine where
  data : List Byte
  dirty : Bool
  poison : Bool
  lock : Nat
  way : Nat
deriving DecidableEq, Repr

/-- A flash command: 0 READ, 1 PROGRAM, 2 ERASE; flash address, buffer, length. -/
structure FlashCmd where
  op : Nat
  addr : Nat
  buf : Nat
  len : Nat
deriving DecidableEq, Repr

/-- The cores and the Mews cache beyond their registers (12_mews_cores.md). `cache`: the lines held, by package-local line
address; `filling`: locked ranges still filling; `resv`: each core's reservation (line, when it is broken); `imsic`: the
identities pending in each interrupt file (16 · core + file; file 0 machine, 1 supervisor, 2 to 5 guest); `tenantIrq`: tenant
interrupts that wait for a core (core mask, vector); `flash`: the boot flash's contents; `flashCmd`: the command that runs;
`fences`: cores with a FENCE that waits. -/
structure MewsState where
  cache : Tab CLine
  filling : List Nat
  resv : Tab (Nat × Nat)
  imsic : Tab (List Nat)
  tenantIrq : List (Nat × Nat)
  flash : List Host.Cell
  flashCmd : Option FlashCmd
  fences : List Nat
deriving DecidableEq, Repr

/-- What the power manager and the Perch domain make of the package (table "Power states", with the PWR_STATUS codes ENTERING and
WAKING): FLIGHT, GLIDE, entering PERCH, PERCH, waking, HOODED, no PWR_OK (only the Perch domain runs), OFF. -/
inductive PState where
  | flight | glide | entering | perch | waking | hooded | noPwr | off
deriving DecidableEq, Repr

/-- The power manager, the ramp governor and the power pins (13_power_energy.md, 18_bringup_reset.md). `level`: the bucket in
credits; `capW`, `burstW`, `bucketMs`: the values in force since the last window (R315); `windows`: windows since the last
start; `baseHist`: metered minus charged energy of the last windows in credits, newest first; `slackHist`: (unused, grant) of the last
windows; `charged`: credits charged in this window, and `workUj` those of them for tile work; `freeCr`: credits of this window not claimed; `terms`: the least grant term but the bucket's; `baseEst`: base in credits; `pRef`: P_ref in mW;
`reserve`: S in units of 10 pJ; `limited`: S stands at its bound; `stepAt`: when the governor last lowered or raised a clock; `ballast`: each die's ballast in mW; `other`: the load that is neither tile work nor ballast, in mW; `target`: the clock that the credits allow each die in MHz; `tripped`: dies at or above
DIE_TRIP_C since their trip; `ratios`: the ratios of an entry's last 16 passes in 1/32,768 (by 65,536 · plan + entry), `durs`: their durations in µs; `entryStep`: PERCH
entry steps taken; `entryAt`: when entry began; `perchAt`: when entry is to begin after the reply (R103); `perchHoldAt`: when links go to keeper in an entry; `wakePend`: a stoop wake waits for
CORE_EN to have been low for 2 ms; `coreLowAt`: when CORE_EN fell; `warmAt`: when the WARM reset of RESET_WARM begins; `warmHold`: RESET_N holds warden core 0; pins PWR_OK, CORE_PG, RESET_N, PERST_N by level;
`groupIdle`: when each tile group (12 · die + group) last ran a pass; `gateStep`: when groups were last gated or began to wake; `groupAt`: when each waking group began to wake; `parkReqs`: energy-policy park
requests not yet served; `pwrOkPend`: a PWR_OK rise waits for 2 ms after Perch power-on; `perchUpAt`: Perch power-on. -/
structure PowerState where
  pstate : PState
  level : Int
  capW : Nat
  burstW : Nat
  bucketMs : Nat
  windows : Nat
  baseHist : List Int
  slackHist : List (Nat × Nat)
  charged : Nat
  workUj : Nat := 0
  freeCr : Int
  terms : Nat
  baseEst : Int
  pRef : Nat
  reserve : Int
  limited : Bool
  stepAt : Nat
  ballast : List Nat
  other : Nat
  target : List Nat
  tripped : List Nat
  ratios : Tab (List Nat)
  durs : Tab (List Nat)
  entryStep : Nat
  entryAt : Nat
  perchAt : Option Nat
  perchHoldAt : Option Nat
  wakePend : Bool
  coreLowAt : Option Nat
  warmAt : Option Nat
  warmHold : Bool
  pwrOk : Bool
  corePg : Bool
  resetN : Bool
  perstN : Bool
  groupIdle : Tab Nat
  groupAt : Tab Nat
  gateStep : Nat
  parkReqs : Nat
  pwrOkPend : Bool
  perchUpAt : Nat
deriving DecidableEq, Repr

/-- Rack time quality (table "Rack time quality"). -/
inductive Quality where
  | unset | locked | holdover | slewing
deriving DecidableEq, Repr

def Quality.code : Quality → Nat
  | .unset => 0 | .locked => 1 | .holdover => 2 | .slewing => 3

/-- A slew in progress (R343): the epoch ns at which it began, the correction in ns and its sign (true: rack time is to move
forward), and the rate in ppm. -/
structure Slew where
  start : Nat
  mag : Nat
  fwd : Bool
  ppm : Nat
deriving DecidableEq, Repr

/-- The time unit (14_time_base.md). `fastRun`: the fast counter runs. `fast`: its value. `frac`: the crystal's phase, in units
of 1/10^9 tick. Rack time is `baseR + (epoch − baseE) · num / den`, plus the slew's progress. `edge`: the latest accepted edge;
`prevEdge`: the one before it; `labelled`: whether the latest edge has its label; `labelAt`: when a label was last accepted;
`unc`: the latest UNC_NS; `uncEdge`: the uncertainty at the latest accepted edge. `ppsHigh`, `ppsEnd`, `ppsRise`, `ppsSkip`: PPS_OUT's level,
when its pulse ends, its last rise (epoch ns, rack second) and whether R345 governs the next rise. -/
structure TimeState where
  fastRun : Bool
  fast : Nat
  ticks : Nat
  frac : Nat
  quality : Quality
  baseE : Nat
  baseR : Nat
  num : Nat
  den : Nat
  slew : Option Slew
  edge : Option Nat
  prevEdge : Option Nat
  labelled : Bool
  labelAt : Nat
  unc : Nat
  uncEdge : Nat
  ppsHigh : Bool
  ppsEnd : Nat
  ppsRise : Option (Nat × Nat)
  ppsSkip : Bool
deriving DecidableEq, Repr

/-- An open reaction-shadow window (R359, R360): its unit (256 for the package-wide window of a WARM reset), the SEQ of the
entry that opened it, how many CONSEQUENT events it has logged, and when it closes once that is known. -/
structure Shadow where
  unit : Nat
  link : Nat
  logged : Nat
  closeAt : Option Nat
deriving DecidableEq, Repr

/-- Who a reset that runs was started by: a ladder of the source, a BLOCK_RESET command, or a RESET write (R354, R368). -/
inductive ResetBy where
  | ladder (src : Nat)
  | command
  | register
deriving DecidableEq, Repr

/-- What started a WARM reset (R355, R360, R426). -/
inductive WarmBy where
  | watch | command | resetN
deriving DecidableEq, Repr

/-- An action that Watch has decided on and that the package's blocks still have to carry out (R353 to R356). -/
inductive Act where
  | quarantine (unit : Nat)
  | blockReset (unit : Nat)
  | release (unit : Nat)
  | warm (origin : WarmBy)
  | resetEnded (unit : Nat)
deriving DecidableEq, Repr

/-- Watch (15_watch_faults.md). `cls`: the class a running ladder works under; `timers`: when each running ladder's grace timer
expires; `ce`: each source's CE events in the window `ceWin`; `unitBy`, `unitAt`: for each unit in reset, who reset it and when;
`lastReset`: epoch ns of each unit's last reset start; `shadows`: open windows in opening order; `lastWarm`: epoch ns of the
last WARM reset Watch started; `warmAt`: when the armed warm watch runs out; `acts`: actions decided and not yet carried out. -/
structure WatchState where
  cls : Tab Nat
  timers : Tab Nat
  ce : Tab Nat
  ceWin : Nat
  unitBy : Tab ResetBy
  unitAt : Tab Nat
  lastReset : Tab Nat
  shadows : List Shadow
  lastWarm : Option Nat
  warmAt : Option Nat
  acts : List Act
deriving DecidableEq, Repr

/-- The booted image: LOAD_ADDR, IMAGE_LENGTH and ENTRY of its header. -/
structure ImageAt where
  load : Nat
  len : Nat
  entry : Nat
deriving DecidableEq, Repr

/-- Keys, OTP and the entropy source (16_security.md). `banks`: DUS_STATE of the four banks (0 blank, 1 valid, 2 destroyed); `svn`: the SVN bits programmed; `tableKey`: TABLE_KEY while slot 0 is filled;
`groups`: the key sets (2 · domain + set) in the cache groups, most recently used first; `trngFail`: the entropy source withholds its output; `nonceWait`: the draw of the epoch nonce waits for it; `scrWait`: that of the scramble key does; `opening`: OPEN runs; `image`: the
booted image. -/
structure SecState where
  banks : List Nat
  svn : Nat
  tableKey : Option Nat
  groups : List Nat
  trngFail : Bool
  nonceWait : Bool
  scrWait : Bool
  opening : Bool
  image : Option ImageAt
deriving DecidableEq, Repr


/-- A UART beyond its registers: the receive and transmit FIFOs, oldest first, the character on the line, and which enabled interrupt conditions held last. -/
structure Uart where
  rx : List Nat
  tx : List Nat
  line : Option Nat
  conds : Nat
deriving DecidableEq, Repr

/-- An MBOX_WRITE that holds SCL under R398: when its command code byte completed, its byte count, the entry it brings and its PEC byte. -/
structure Stretch where
  since : Nat
  count : Nat
  entry : List Byte
  pec : Option Nat
deriving DecidableEq, Repr

/-- The two-wire ports and the UARTs beyond their registers (17_management_buses.md). `answers`: the target answers (R393); `stage`: the write stage's entry; `reply`: the reply stage's entry; `pops`: pops not yet applied to the RQ head;
`stretch`: a stretched write; `changed`: CHANGED; `seen`: STAGE, TAMPER, PORT_OPEN, ALARM and the power state as CHANGED last saw them; `retries`: failed attempts of each controller entry in a row (1 to 3, 4 when absent), `tryAt`: the round in which an absent entry is tried next;
`round`: rounds so far; `sensor`: the sensor entry read last; `valAt`: when each entry's value was read. -/
structure MgmtState where
  answers : Bool
  stage : Option (List Byte)
  reply : Option (List Byte)
  pops : Nat
  stretch : Option Stretch
  changed : Bool
  seen : List Nat
  retries : Tab Nat
  tryAt : Tab Nat
  round : Nat
  roundMs : Nat
  sensor : Nat
  valAt : Tab Nat
  uart0 : Uart
  uart1 : Uart
deriving DecidableEq, Repr


/-- How far bring-up has come (the STAGE of the two-wire STATUS block). -/
inductive Stage where
  | waitPwr | rom | tirlo | ready | resetting | hooded | perch | bootFail | off
deriving DecidableEq, Repr

/-- Bring-up (18_bringup_reset.md): the stage; whether the first READY since the last COLD reset has come (R429); which conditions of R423 hold: the key table rebuilt, the tile self-test
ended, the links that have had their slot; `warm`: a WARM reset runs; `reval`: it still owes its revalidation; whether the PCIe link is up, whether Tirlo has released the configuration space; whether Tirlo runs, and on which path the boot ROM
starts next; whether the fast PLLs have locked; trainings of each stack so far. -/
structure BootState where
  stage : Stage
  everReady : Bool
  keyTable : Bool
  selfTest : Bool
  slotsHad : List Nat
  warm : Bool
  reval : Bool
  pcieUp : Bool
  cfgReleased : Bool
  tirloRuns : Bool
  pllLocked : Bool
  trainTries : Tab Nat
deriving DecidableEq, Repr

/-- The test access port (19_electrical_test.md). `up`: CORE_PG has risen since Perch power-on (R451); `ir`: the instruction; `bound`: the boundary register's update latches, cell 0 in bit 0; `res`, `data`: the result and the read data
of the last DBG_MEM access. -/
structure TapState where
  up : Bool
  ir : Nat
  bound : Nat
  res : Nat
  data : Nat
deriving DecidableEq, Repr


/-- What the package presents outside, in the order it happens: a completion to a master (with data, or an error response), a write to
host memory over PCIe, an MSI-X vector, a Kettle message or link event on a link, a pin's level, an access fault taken by a core. -/
inductive Out where
  | done (m : Master) (data : List Nat)
  | poisoned (m : Master) (data : List Nat)
  | error (m : Master)
  | hostWrite (addr : Nat) (data : List Nat)
  | reply (qp : Nat) (r : Rep)
  | msix (vector : Nat)
  | kettle (link : Nat) (m : KMsg)
  | pin (name : String) (level : Bool)
  | coreFault (core : Nat) (kind : AccKind) (addr : Nat)
  | coreMisaligned (core : Nat) (addr : Nat)
  | bytes (port : String) (data : List Nat)
deriving DecidableEq, Repr

/-- The package. `pending`: the commands that wait, first in, first out. `now`: physical time in ns since the model began (it moves when the
queue is empty). `csr`: every register of the CSR space whose value differs from its Reset column, by offset (R4, R9, R28). `mem`: the bytes of
HBM, Roost and the tile SRAM windows that have been written, as the devices store them, by package-local address. `poison`: the lines of memory that are marked
poisoned, by line address. `cells`: the errors that stand in the cells of lines since these were last written, by the key of the line's bytes (as WireErr gives errors). `free`: the model's own counter that the free values are drawn with. `memGen`: the model's own count of losses of memory contents, with which the undefined bits of a lost line are drawn. `out`: what the package has presented outside, newest first. -/
structure State where
  pending : List Instr
  now : Nat
  csr : Tab Word
  mem : List Host.Cell
  poison : List Nat
  cells : Tab (List (Nat × Nat))
  free : Nat
  memGen : Nat
  out : List Out
  snap : List SnapLatch
  top : TopState
  ses : SessState
  tci : TciState
  talon : TalonState
  jess : JessState
  ktl : KettleState
  mews : MewsState
  hbm : HbmState
  roost : RoostState
  crypt : CryptState
  pwr : PowerState
  time : TimeState
  watch : WatchState
  boot : BootState
  sec : SecState
  bus : MgmtState
  tap : TapState
deriving DecidableEq, Repr

/-- Why a step can fault. -/
inductive Fault where
  /-- Raised by no meaning: the spec answers an access to an address that does not exist with an error response (R25, R26, R28), which is an output, not a stop. Safe. -/
  | noSuchAddress (addr : Nat)
deriving DecidableEq, Repr

/-- Why a step can be refused. -/
inductive Refusal where
  /-- Raised by no arm: every command has its meaning. Safe: the model would stop. -/
  | notModelled (mnemonic : String)
deriving DecidableEq, Repr

/-- The time unit before the first start: quality UNSET, nothing measured. -/
def TimeState.reset : TimeState :=
  { fastRun := false, fast := 0, ticks := 0, frac := 0, quality := .unset, baseE := 0, baseR := 0, num := 1, den := 1, slew := none,
    edge := none, prevEdge := none, labelled := false, labelAt := 0, unc := 0, uncEdge := 0, ppsHigh := false, ppsEnd := 0,
    ppsRise := none, ppsSkip := false }

/-- Watch after COLD reset: no ladder, no window. -/
def WatchState.reset : WatchState :=
  { cls := [], timers := [], ce := [], ceWin := 0, unitBy := [], unitAt := [], lastReset := [], shadows := [], lastWarm := none,
    warmAt := none, acts := [] }

/-- A checker with no enabled region. -/
def Checker.reset : Checker := { replica := [], queue := [], applied := 0, reloading := false }

def JessState.reset : JessState := { checkers := [], commits := 0, syncs := [] }

def MewsState.reset : MewsState :=
  { cache := [], filling := [], resv := [], imsic := [], tenantIrq := [], flash := [], flashCmd := none, fences := [] }

def TciState.reset : TciState :=
  { pendingMap := [], rr := [0, 0, 0, 0], waits := [0, 0, 0, 0], reserved := [], phase0 := [], intake := [], running := [], dup := [],
    unsig := [], blocks := [], links := [], srcs := [], seq := 0, adminService := false }

def LinkState.reset : LinkState :=
  { keeperUp := false, exp := 0, next := 0, lastAck := 255, unacked := [], txWait := [],
    credits := [2048, 1024, 2048, 1024, 2048, 1024, 256, 64], run := none, lockLost := none, withdraw := none, downSent := false,
    downAcked := false, upAt := 0, sinceBulk := 0, lastRed := false, lastRelay := false }

def PeerState.reset : PeerState := { present := false, nonce := 0, st := 0, aligned := false, phase := 0, readySeen := false }

def RouteState.reset : RouteState :=
  { held := [], probe := none, fence := none, noneAt := none, lostAt := none, stranded := false, perchAt := none, perchDone := false, perchBack := false }

def KettleState.reset : KettleState :=
  { links := [], peers := [], routes := [], outst := [], nextTag := 0, slotBase := 0, syncAt := none, lsSeq := 0, lsSeen := [],
    draining := false, todo := [] }

/-- The session table is empty; the generation counter holds 1 (R34). -/
def SessState.reset : SessState :=
  { table := [], gen := 1, buddies := [], incoming := [], hbmUsed := [], imports := [], draining := false, kvFirst := 0, kvCount := 0, claims := [], shardSlots := [], tabFirst := 0, tabCount := 0 }

def TalonState.reset : TalonState := { plans := [], ready := [], passes := [], next := 0, faulty := [], cleared := [], units := [], dma := [], jobs := 0 }

def TileUnits.reset : TileUnits := { accs := [], regs := [], mask := [] }

def BootState.reset : BootState :=
  { stage := .off, everReady := false, keyTable := false, selfTest := false, slotsHad := [], warm := false, reval := false, pcieUp := false,
    cfgReleased := false, tirloRuns := false, pllLocked := false, trainTries := [] }

/-- A package as it is shipped: bank 0 is valid (R458). -/
def SecState.reset : SecState :=
  { banks := [1, 0, 0, 0], svn := 0, tableKey := none, groups := [], trngFail := false, nonceWait := false, scrWait := false, opening := false, image := none }

def Uart.reset : Uart := { rx := [], tx := [], line := none, conds := 0 }

def MgmtState.reset : MgmtState :=
  { answers := false, stage := none, reply := none, pops := 0, stretch := none, changed := false, seen := [], retries := [], tryAt := [], round := 0, roundMs := 0,
    sensor := 15, valAt := [], uart0 := .reset, uart1 := .reset }

/-- Test-Logic-Reset: IDCODE is selected. -/
def TapState.reset : TapState := { up := false, ir := 1, bound := 0, res := 0, data := 0 }

/-- No supply: nothing runs; the pins that come from the tray are low. -/
def PowerState.reset : PowerState :=
  { pstate := .off, level := 0, capW := 2400, burstW := 2900, bucketMs := 10, windows := 0, baseHist := [], slackHist := [], charged := 0, freeCr := 0,
    terms := 0, baseEst := 0, pRef := 0, reserve := 0, limited := false, stepAt := 0, ballast := [0, 0, 0, 0], other := 0, target := [0, 0, 0, 0], tripped := [],
    ratios := [], durs := [], entryStep := 0, entryAt := 0, perchAt := none, perchHoldAt := none, wakePend := false, coreLowAt := none,
    warmAt := none, warmHold := false, pwrOk := false, corePg := false, resetN := true, perstN := true, groupIdle := [], groupAt := [],
    gateStep := 0, parkReqs := 0, pwrOkPend := false, perchUpAt := 0 }

def TopState.reset : TopState := { trayPins := 0, selPins := 0, idValid := false, runs := [] }

def MQueue.reset : MQueue :=
  { rq := [], wq := [], held := [], next := 0, drain := false, drained := 0, drains := 0, raws := 0, slot := 0, duty := 16, moved := false, served := [0, 0, 0], since := 16,
    lastWrite := false, rmw := none, openRow := [], actAt := [], owed := [], dueAt := [], track := [], retry := [], crc := [], acts := [], limited := [], spacedOnce := [],
    lfsr := 0, heldAt := none }

def HbmState.reset : HbmState :=
  { pcs := [], ords := [], ordWait := [], loc := 0, readyAt := [], rhWin := 0, scrubAt := [], seq := 0 }

def RoostState.reset : RoostState :=
  { subs := [], fixes := [], rtFails := [], hot := [], tempAt := [], retrain := [], owing := [], checkAt := [], scrubAt := [], frames := [], badSeen := [], fit := 1024, xfers := [], msgs := [], rr := 0, rhWin := 0, seq := 0, xseq := 0, upAt := 0 }

def SecRec.zero : SecRec :=
  { tag := List.replicate 16 0, sealCtr := 0, nextCtr := 0, lsn := 0, domain := 0, setB := false, valid := false, worn := false, failed := false }

def CryptState.reset : CryptState :=
  { recs := [], merge := [], keys := [], rekey := none, marker := none, scramble := 0, use := 0, ended := [] }

/-- The package before its first Perch power-on: OFF (R301), every register at its Reset column, no memory written, no command waiting. -/
def State.reset : State :=
  { pending := [], now := 0, csr := [], mem := [], poison := [], cells := [], free := 0, memGen := 0, out := [], snap := [], top := .reset, ses := .reset, tci := .reset, talon := .reset,
    jess := .reset, ktl := .reset, mews := .reset, hbm := .reset, roost := .reset, crypt := .reset, pwr := .reset, time := .reset, watch := .reset, boot := .reset, sec := .reset, bus := .reset,
    tap := .reset }

end Sys2Proof.Machine
end

