-- ==== Sys2Proof/Machine/Ops.lean ====
section
/-! DEFINITION. The named operations over the state that every meaning is built from: sparse tables, the register file, memory, physical and epoch
time, outputs, interrupts. -/

namespace Sys2Proof.Machine

/-! ### Sparse tables -/

/-- What the table holds under a key, if anything. -/
def Tab.get? {α : Type} : Tab α → Nat → Option α
  | [], _ => none
  | (k', v) :: r, k => if k' = k then some v else if k < k' then none else Tab.get? r k

/-- What the table holds under a key, or the default. -/
def Tab.get {α : Type} (t : Tab α) (k : Nat) (d : α) : α := (Tab.get? t k).getD d

/-- The table with `v` under `k`. -/
def Tab.put {α : Type} : Tab α → Nat → α → Tab α
  | [], k, v => [(k, v)]
  | (k', v') :: r, k, v => if k' = k then (k, v) :: r else if k < k' then (k, v) :: (k', v') :: r else (k', v') :: Tab.put r k v

/-- The table with nothing under `k`. -/
def Tab.del {α : Type} : Tab α → Nat → Tab α
  | [], _ => []
  | (k', v') :: r, k => if k' = k then r else if k < k' then (k', v') :: r else (k', v') :: Tab.del r k

/-- The table with `f` applied to what it holds under `k` (to the default where it holds nothing). -/
def Tab.upd {α : Type} (t : Tab α) (k : Nat) (d : α) (f : α → α) : Tab α := Tab.put t k (f (Tab.get t k d))

/-- The canonical form: keys strictly rising. -/
def Tab.wf {α : Type} : Tab α → Bool
  | [] => true
  | [_] => true
  | (k, _) :: (k', v) :: r => decide (k < k') && Tab.wf ((k', v) :: r)

/-- Memory's one form: addresses strictly rising. No byte is left out for its value, since what an unwritten byte reads as is a free value. -/
def Memory.wf (m : List Host.Cell) : Bool := Tab.wf m

/-- A rising list of numbers without repeats. -/
def setWf : List Nat → Bool
  | [] => true
  | [_] => true
  | a :: b :: r => decide (a < b) && setWf (b :: r)

/-- Insert into a strictly rising list of numbers. -/
def sinsert : List Nat → Nat → List Nat
  | [], k => [k]
  | k' :: r, k => if k' = k then k' :: r else if k < k' then k :: k' :: r else k' :: sinsert r k

/-- The list with its element at index `i` replaced. -/
def lset {α : Type} (l : List α) (i : Nat) (v : α) : List α := l.set i v

/-- The element at index `i`, or the default. -/
def lget {α : Type} (l : List α) (i : Nat) (d : α) : α := (l[i]?).getD d

/-! ### The register file -/

/-- The reset unit of a Watch source (table "Source map", 15_watch_faults.md); 0xFF for none. -/
def srcUnit (n : Nat) : Nat :=
  if n < 48 then n
  else if n < 99 then 0xFF
  else if n < 163 then 48 + (n - 99) / 8
  else if n < 171 then 48 + (n - 163)
  else if n < 179 then 48 + (n - 171)
  else if n < 187 then 58 + (n - 179)
  else if n = 187 then 66
  else if n < 191 then 67
  else if n < 206 then (if 192 ≤ n ∧ n ≤ 199 then 47 + (n - 191) else 0xFF)
  else if n = 206 then 0xFF
  else if n < 271 then 68 + (n - 207)
  else if n < 273 then 0xFF
  else if n < 289 then 132 + (n - 273)
  else 0xFF

/-- Sources 310 to 511 are unused (table "Source map"). -/
def srcUsed (n : Nat) : Bool := decide (n < 310)

/-- Units 148 to 255 are unused (table "Reset units"). -/
def unitUsed (u : Nat) : Bool := decide (u < 148)

/-- LOG_CE resets to 0 on the TILE_GRP, HBM_MEM and ROOST_CH sources and to 1 on every other source (R350). -/
def logCeReset (n : Nat) : Bool := !(decide (n < 48) || (decide (99 ≤ n) && decide (n < 163)) || (decide (179 ≤ n) && decide (n < 187)))

/-- The reset value of the register at offset `a`: its Reset column, and for the registers whose Reset column names a map or fuses, the
value of that instance (R9, R348, R350). -/
def resetWord (a : Nat) : Word :=
  if 0x2010000 ≤ a ∧ a < 0x2014000 then
    let n := (a - 0x2010000) / 0x20
    if srcUsed n then
      (if (a - 0x2010000) % 0x20 = 0 then BitVec.ofNat 64 (srcUnit n <<< 40)
       else if (a - 0x2010000) % 0x20 = 8 then resetColumn a ||| BitVec.ofNat 64 (b2n (logCeReset n) <<< 13) else resetColumn a)
    else 0
  else if 0x2020000 ≤ a ∧ a < 0x2021000 then
    let u := (a - 0x2020000) / 0x10
    if unitUsed u then resetColumn a else if (a - 0x2020000) % 0x10 = 0 then 8 else 0
  else resetColumn a

/-- The 64-bit value of the register at offset `a`. -/
def State.csrAt (s : State) (a : Nat) : Word := (Tab.get? s.csr a).getD (resetWord a)

/-- The state with the register at offset `a` holding `v`. A register at its reset value is not listed. -/
def State.csrPut (s : State) (a : Nat) (v : Word) : State :=
  { s with csr := if v = resetWord a then Tab.del s.csr a else Tab.put s.csr a v }

/-- A field of a register's instance. -/
def State.rd (s : State) (f : RF) (i : Nat := 0) (j : Nat := 0) (k : Nat := 0) : Nat :=
  (s.csrAt (f.addr i j k)).field f.lo f.w

/-- The state with a field of a register's instance set. -/
def State.wr (s : State) (f : RF) (v : Nat) (i : Nat := 0) (j : Nat := 0) (k : Nat := 0) : State :=
  s.csrPut (f.addr i j k) ((s.csrAt (f.addr i j k)).setField f.lo f.w v)

/-- The state with a counter field advanced, wrapping at its width. -/
def State.bump (s : State) (f : RF) (n : Nat := 1) (i : Nat := 0) (j : Nat := 0) (k : Nat := 0) : State :=
  s.wr f (s.rd f i j k + n) i j k

/-- A hardware set of a status bit (R13): the bit becomes 1 and its paired counter advances, whether or not the bit was already 1. -/
def State.flag (s : State) (f cnt : RF) (i : Nat := 0) (j : Nat := 0) (k : Nat := 0) : State :=
  (s.wr f 1 i j k).bump cnt 1 i j k

/-! ### Time -/

/-- Elapsed nanoseconds of `t` crystal ticks of 1/32,768 s, rounded down (table "Time sources"). -/
def ticksNs (t : Nat) : Nat := t * 1000000000 / 32768

/-- Epoch ns as the anchor and the elapsed counter give it ("Epoch time", 14_time_base.md). -/
def State.anchorNs (s : State) : Nat :=
  let a := s.rd R.TIME_ANCHOR_NS
  let v := a + ticksNs (s.time.ticks - s.rd R.TIME_ANCHOR_TICKS)
  if v < a + 1000000 then a + 1000000 else v

/-- Epoch ns now: the fast counter while it runs; while it is stopped, the value that a start would load (R335, R336). -/
def State.epoch (s : State) : Nat := if s.time.fastRun then s.time.fast else s.anchorNs

/-! ### Outputs and free values -/

def State.emit (s : State) (o : Out) : State := { s with out := o :: s.out }

def State.emits (s : State) (l : List Out) : State := { s with out := l.reverse ++ s.out }

/-- A completion with an error response to the master of a request. -/
def State.errTo (s : State) (m : Master) : State := s.emit (.error m)

/-- The state after one draw of a free value. -/
def State.draw (s : State) : State := { s with free := s.free + 1 }

/-! ### Master identities (table "Master classes, instances and privileges") -/

/-- The TCI fetcher and reply writer: WARDEN_CORE, instance 0x100, privilege F. -/
def fetcher : Master := ⟨0x0100, .f, false⟩
/-- The boot flash engine: WARDEN_CORE, instance 0x101, privilege F (R299). -/
def flashEngine : Master := ⟨0x0101, .f, false⟩
/-- The Roost engine. -/
def roostEngine : Master := ⟨0x3000, .f, false⟩
/-- The two-wire mailbox engine. -/
def mailboxEngine : Master := ⟨0x7000, .f, false⟩
/-- The Crypt engine. -/
def cryptMaster : Master := ⟨0x8000, .f, false⟩
/-- Warden core 0 in machine mode, as which Tirlo acts. -/
def tirlo : Master := ⟨0x0000, .f, false⟩

/-- The package's own ID (R21). -/
def State.pkg (s : State) : Nat := s.rd R.TOP_POSITION.PKG_ID

/-! ### Memory -/

/-- A byte of memory as the devices store it, if it has been written. -/
def State.byte? (s : State) (a : Nat) : Option Byte := Tab.get? s.mem a

/-- The Roost metadata area's frame map and buddy directory (table "Roost metadata area"). -/
def mapBase : Nat := 0x10000800000
def dirBase : Nat := 0x10001000000

/-- Whether the bytes around `a` that nothing has written since hold zeros: the private area of a tile that a reset has cleared (R145), the plan areas after the tile self-test (R426), the commit records
and the buddy directory once Tirlo has zero-filled them, and the frame map once the engine has rewritten it (R204, R209). -/
def State.zeroed (s : State) (a : Nat) : Bool :=
  let o := a - 0x30000000000
  if 0x30000000000 ≤ a ∧ a < 0x30060000000 then (if 0x3C0000 ≤ o % 0x400000 then s.talon.cleared.contains (o / 0x400000) else s.boot.selfTest)
  else ((decide (0x10000000000 ≤ a) && decide (a < mapBase + 0x400000)) || (decide (dirBase ≤ a) && decide (a < dirBase + 0x1000000))) && s.boot.keyTable

/-- What a byte of memory that nothing has written reads as: 0 where memory has been zeroed, else an undefined bit pattern (R466). -/
def State.blankAt (s : State) (a : Nat) : Byte := if s.zeroed a then 0 else Config.freeByte s.memGen a

/-- A byte of memory as a read finds it. -/
def State.byteAt (s : State) (a : Nat) : Byte := (s.byte? a).getD (s.blankAt a)

/-- `n` bytes of memory from address `a`. -/
def State.bytesAt (s : State) (a n : Nat) : List Byte := (List.range n).map (fun i => s.byteAt (a + i))

/-- Memory with the bytes `l` stored from address `a`. -/
def memPut : List Host.Cell → Nat → List Byte → List Host.Cell
  | m, _, [] => m
  | m, a, b :: r => memPut (Tab.put m a b) (a + 1) r

/-- The state with the bytes `l` stored from address `a`. -/
def State.store (s : State) (a : Nat) (l : List Byte) : State := { s with mem := memPut s.mem a l }

/-- The value of little-endian bytes. -/
def leNat : List Byte → Nat
  | [] => 0
  | b :: r => b.toNat + 256 * leNat r

/-- `n` little-endian bytes of a value. -/
def leBytes : Nat → Nat → List Byte
  | 0, _ => []
  | n + 1, v => BitVec.ofNat 8 (v % 256) :: leBytes n (v / 256)

/-- `n` bytes of `l` from index `i`. -/
def slice {α : Type} (l : List α) (i n : Nat) : List α := (l.drop i).take n

/-- Whether a line of memory is marked poisoned. -/
def State.poisoned (s : State) (line : Nat) : Bool := s.poison.contains line

def State.setPoison (s : State) (line : Nat) (p : Bool) : State :=
  { s with poison := if p then sinsert s.poison line else s.poison.filter (· != line) }

/-! ### Ranges of the package-local map (table "Package-local map", R26 to R28) -/

inductive Range where
  | hbm | roost | tile | csr | reserved
deriving DecidableEq, Repr

def hbmEnd : Nat := 0x6000000000
def roostBase : Nat := 0x10000000000
def roostEnd : Nat := 0x20000000000
def tileBase : Nat := 0x30000000000
def tileEnd : Nat := 0x30060000000
def csrBase : Nat := 0x3F000000000
def csrEnd : Nat := 0x3F100000000

/-- The range of a package-local address. -/
def rangeOf (a : Nat) : Range :=
  if a < hbmEnd then .hbm
  else if roostBase ≤ a ∧ a < roostEnd then .roost
  else if tileBase ≤ a ∧ a < tileEnd then .tile
  else if csrBase ≤ a ∧ a < csrEnd then .csr
  else .reserved

/-- R26: a request of `n` bytes at `a` lies wholly in one range of the map that is not reserved. -/
def decodes (a n : Nat) : Bool := rangeOf a != .reserved && rangeOf a == rangeOf (a + n - 1)

/-! ### Interrupts (R297) -/

/-- The identities pending in interrupt file `f` of core `c` (0 machine, 1 supervisor, 2 to 5 guest). -/
def State.pendingIds (s : State) (c f : Nat) : List Nat := Tab.get s.mews.imsic (16 * c + f) []

/-- Raise an identity in an interrupt file; an identity already pending is raised once. A core in WFI runs again. -/
def State.raiseAt (s : State) (c f id : Nat) : State :=
  if id = 0 ∨ 2047 < id then s
  else
    let s := if s.rd R.MEWS_CORE_STATUS.STATE c = 2 then s.wr R.MEWS_CORE_STATUS.STATE 1 c else s
    { s with mews := { s.mews with imsic := Tab.put s.mews.imsic (16 * c + f) (sinsert (s.pendingIds c f) id) } }

/-- Raise a fixed warden identity in the machine file of every warden core of its MEWS_IRQ_ROUTE mask. -/
def State.raiseWarden (s : State) (id : Nat) : State :=
  let mask := s.rd R.MEWS_IRQ_ROUTE.WARDEN_MASK id
  (List.range 4).foldl (fun s c => if natBit mask c then s.raiseAt c 0 id else s) s

/-- Core states of MEWS_CORE_c_STATUS. -/
def coreHalted : Nat := 0
def coreRunning : Nat := 1
def coreWfiSt : Nat := 2
def coreInReset : Nat := 3
def coreOff : Nat := 4

/-- Raise a tenant queue pair's VECTOR in the supervisor file of the lowest core of its mask that is RUNNING or WFI; with none, the
interrupt waits. VECTOR 0 to 15 raise nothing (R297). -/
def State.raiseTenant (s : State) (mask vector : Nat) : State :=
  if vector < 16 then s
  else
    match (List.range 12).find? (fun i => natBit mask i &&
        (s.rd R.MEWS_CORE_STATUS.STATE (4 + i) == coreRunning || s.rd R.MEWS_CORE_STATUS.STATE (4 + i) == coreWfiSt)) with
    | some i => s.raiseAt (4 + i) 1 vector
    | none => { s with mews := { s.mews with tenantIrq := s.mews.tenantIrq ++ [(mask, vector)] } }

/-! ### Sub-state updates -/

def State.updTime (s : State) (f : TimeState → TimeState) : State := { s with time := f s.time }
def State.updWatch (s : State) (f : WatchState → WatchState) : State := { s with watch := f s.watch }
def State.updTci (s : State) (f : TciState → TciState) : State := { s with tci := f s.tci }
def State.updSes (s : State) (f : SessState → SessState) : State := { s with ses := f s.ses }
def State.updJess (s : State) (f : JessState → JessState) : State := { s with jess := f s.jess }
def State.updKtl (s : State) (f : KettleState → KettleState) : State := { s with ktl := f s.ktl }
def State.updMews (s : State) (f : MewsState → MewsState) : State := { s with mews := f s.mews }
def State.updPwr (s : State) (f : PowerState → PowerState) : State := { s with pwr := f s.pwr }
def State.updTop (s : State) (f : TopState → TopState) : State := { s with top := f s.top }
def State.updHbm (s : State) (f : HbmState → HbmState) : State := { s with hbm := f s.hbm }
def State.updRoost (s : State) (f : RoostState → RoostState) : State := { s with roost := f s.roost }
def State.updCrypt (s : State) (f : CryptState → CryptState) : State := { s with crypt := f s.crypt }
def State.updBoot (s : State) (f : BootState → BootState) : State := { s with boot := f s.boot }

/-- Whether the Mews die and the fast clocks run: not before PWR_OK, nor in PERCH, HOODED or OFF (R303, R418); in a stoop wake from the PLLs' lock on (R307). -/
def State.coreOn (s : State) : Bool :=
  match s.pwr.pstate with
  | .flight | .glide | .entering => true
  | .waking => s.time.fastRun
  | _ => false

/-- A deadline on physical time has been reached. -/
def State.due (s : State) (t : Nat) : Bool := decide (t ≤ s.now)

end Sys2Proof.Machine
end

