-- ==== Sys2Proof/Machine/Codes.lean ====
section
/-! DEFINITION. The codes and arithmetic that the memories use: the symbol codes of HBM and Roost lines, the SCRAMBLE mask, AES-256 with XTS and CMAC, the adds of the
Kite adders. -/

namespace Sys2Proof.Machine

/-! ### GF(2^8) -/

/-- Multiplication in GF(2^8) with the field polynomial `poly` (its low byte), over the low `n` bits of `b`. -/
def gfMulN (poly : Nat) : Nat → Nat → Nat → Nat
  | 0, _, _ => 0
  | n + 1, a, b =>
    let r := if b % 2 = 1 then a else 0
    let a2 := if 128 ≤ a % 256 then (a % 128 * 2) ^^^ poly else a % 128 * 2
    r ^^^ gfMulN poly n a2 (b / 2)

/-- The field of the line codes: x^8 + x^4 + x^3 + x^2 + 1. -/
def rsMul (a b : Nat) : Nat := gfMulN 0x1D 8 a b

/-- α^n, with α = 0x02. -/
def rsPow : Nat → Nat
  | 0 => 1
  | n + 1 => rsMul (rsPow n) 2

/-- Σ e · α^(i · (top − j)) over an error pattern. -/
def syndrome (top i : Nat) (errs : List (Nat × Nat)) : Nat :=
  errs.foldl (fun a e => a ^^^ rsMul (e.2 % 256) (rsPow (i * (top - e.1)))) 0

/-- What a decoder makes of an error pattern. -/
inductive Decoded where
  | clean
  | fixed (sym err : Nat)
  | bad
deriving DecidableEq, Repr

/-- RS(72,68), the controller code of an HBM line: corrects one symbol. -/
def decode72 (errs : List (Nat × Nat)) : Decoded :=
  let s0 := syndrome 71 0 errs
  let s1 := syndrome 71 1 errs
  let s2 := syndrome 71 2 errs
  let s3 := syndrome 71 3 errs
  if s0 = 0 ∧ s1 = 0 ∧ s2 = 0 ∧ s3 = 0 then .clean
  else
    match (List.range 72).find? (fun j => let b := rsPow (71 - j)
        s0 != 0 && s1 == rsMul s0 b && s2 == rsMul s1 b && s3 == rsMul s2 b) with
    | some j => .fixed j s0
    | none => .bad

/-- The data bits of a line that symbol `j`'s error byte flips, as a 512-bit mask ("The line on the wire"). -/
def hbmSymMask (j e : Nat) : Nat :=
  if 64 ≤ j then 0
  else ((List.range 8).filter (fun m => natBit e m)).foldl (fun a m => a ^^^ 2 ^ ((8 * (j % 2) + m) * 32 + j / 2)) 0

/-- A line with a mask of its bits flipped. -/
def flipBits (l : List Byte) (mask : Nat) : List Byte := leBytes 64 (leNat l ^^^ mask)

def errMask (symMask : Nat → Nat → Nat) (errs : List (Nat × Nat)) : Nat := errs.foldl (fun a e => a ^^^ symMask e.1 e.2) 0

/-- RS(10,8) on one codeword of a Roost line, with its rank's marked device if any. -/
def decode10 (marked : Option Nat) (errs : List (Nat × Nat)) : Decoded :=
  let s0 := syndrome 9 0 errs
  let s1 := syndrome 9 1 errs
  if s0 = 0 ∧ s1 = 0 then .clean
  else
    match marked with
    | some k => if s1 = rsMul s0 (rsPow (9 - k)) then .fixed k s0 else .bad
    | none =>
      match (List.range 10).find? (fun k => s0 != 0 && s1 == rsMul s0 (rsPow (9 - k))) with
      | some k => .fixed k s0
      | none => .bad

/-- The whole Roost line: eight codewords, and every codeword that corrects must name one device. The pattern's errors are (codeword · 10 + device, byte). On a
correction the error pattern left over is given. -/
def decodeRoost (marked : Option Nat) (errs : List (Nat × Nat)) : Decoded × List (Nat × Nat) :=
  let per := (List.range 8).map (fun i => (i, decode10 marked ((errs.filter (fun e => e.1 / 10 = i)).map (fun e => (e.1 % 10, e.2)))))
  let devs := per.filterMap (fun p => match p.2 with | .fixed k _ => some k | _ => none)
  let fixes := per.filterMap (fun p => match p.2 with | .fixed k e => some (p.1 * 10 + k, e) | _ => none)
  if per.any (fun p => p.2 == .bad) then (.bad, errs)
  else
    match devs with
    | [] => (.clean, errs)
    | k :: r => if r.all (· == k) then (.fixed k 0, errs ++ fixes) else (.bad, errs)

/-- The data bits that an error byte of codeword · 10 + device flips ("The line code"). -/
def roostSymMask (j e : Nat) : Nat :=
  if 8 ≤ j % 10 then 0
  else ((List.range 8).filter (fun m => natBit e m)).foldl
    (fun a m => a ^^^ 2 ^ ((2 * (j / 10) + m / 4) * 32 + 4 * (j % 10) + m % 4)) 0

/-! ### SCRAMBLE (09_inline_crypt.md) -/

def xorshift (x : Word) : Word :=
  let x := x ^^^ (x <<< 13)
  let x := x ^^^ (x >>> 7)
  x ^^^ (x <<< 17)

def scrambleWords : Nat → Word → List Word
  | 0, _ => []
  | n + 1, x => let y := xorshift x; y :: scrambleWords n y

/-- The mask of the 64 B line at package-local address `a`. -/
def scrambleMask (key : Word) (a : Nat) : List Byte :=
  let x := key ^^^ BitVec.ofNat 64 (a / 64 * 0x9E3779B97F4A7C15)
  let x := if x = 0 then 0x9E3779B97F4A7C15 else x
  (scrambleWords 8 x).flatMap (fun w => leBytes 8 w.toNat)

def xorBytes (a b : List Byte) : List Byte := List.zipWith (· ^^^ ·) a b

/-- The line transform of PLAIN (0) and SCRAMBLE (1). -/
def lineTransform (key : Word) (mode a : Nat) (l : List Byte) : List Byte :=
  if mode = 1 then xorBytes l (scrambleMask key a) else l

/-! ### AES-256 (FIPS 197), XTS (IEEE 1619), CMAC (SP 800-38B), as the table "Key set of a domain" names them -/

def aesMul (a b : Nat) : Nat := gfMulN 0x1B 8 a b

/-- The inverse in the AES field: the 254th power. -/
def aesInv (a : Nat) : Nat :=
  let a2 := aesMul a a
  let a4 := aesMul a2 a2
  let a8 := aesMul a4 a4
  let a16 := aesMul a8 a8
  let a32 := aesMul a16 a16
  let a64 := aesMul a32 a32
  let a128 := aesMul a64 a64
  aesMul a128 (aesMul a64 (aesMul a32 (aesMul a16 (aesMul a8 (aesMul a4 a2)))))

def rotl8 (a n : Nat) : Nat := (a * 2 ^ n % 256) + a / 2 ^ (8 - n)

def aesSbox (a : Nat) : Nat :=
  let b := aesInv a
  b ^^^ rotl8 b 1 ^^^ rotl8 b 2 ^^^ rotl8 b 3 ^^^ rotl8 b 4 ^^^ 0x63

def aesInvSbox (a : Nat) : Nat := aesInv (rotl8 a 1 ^^^ rotl8 a 3 ^^^ rotl8 a 6 ^^^ 5)

/-- The expanded key's words from index `i` on; the words so far stand newest first. -/
def aesExpand : Nat → Nat → Nat → List (List Nat) → List (List Nat)
  | 0, _, _, ws => ws.reverse
  | n + 1, i, rcon, ws =>
    let prev := ws.headD []
    let old := (ws[7]?).getD []
    let t :=
      if i % 8 = 0 then List.zipWith (· ^^^ ·) (((prev.drop 1) ++ prev.take 1).map aesSbox) [rcon, 0, 0, 0]
      else if i % 8 = 4 then prev.map aesSbox else prev
    aesExpand n (i + 1) (if i % 8 = 0 then aesMul rcon 2 else rcon) (List.zipWith (· ^^^ ·) old t :: ws)

/-- Big-endian bytes of a value. -/
def beBytes (n v : Nat) : List Nat := ((leBytes n v).map BitVec.toNat).reverse

/-- The 15 round keys, 16 bytes each. -/
def aesRoundKeys (key : Nat) : List (List Nat) :=
  let kb := beBytes 32 key
  let ws := (List.range 8).map (fun i => slice kb (4 * i) 4)
  let all := aesExpand 52 8 1 ws.reverse
  (List.range 15).map (fun r => (slice all (4 * r) 4).flatten)

def xorN (a b : List Nat) : List Nat := List.zipWith (· ^^^ ·) a b

def aesShift (inv : Bool) (st : List Nat) : List Nat :=
  (List.range 16).map (fun i => let c := i / 4; let r := i % 4
    (st[4 * ((if inv then c + 4 - r else c + r) % 4) + r]?).getD 0)

def aesMix (m : List Nat) (st : List Nat) : List Nat :=
  (List.range 16).map (fun i => let c := i / 4; let r := i % 4
    (List.range 4).foldl (fun a k => a ^^^ aesMul ((st[4 * c + k]?).getD 0) ((m[(k + 4 - r) % 4]?).getD 0)) 0)

def aesEncRounds : List (List Nat) → List Nat → List Nat
  | [], st => st
  | [k], st => xorN (aesShift false (st.map aesSbox)) k
  | k :: ks, st => aesEncRounds ks (xorN (aesMix [2, 3, 1, 1] (aesShift false (st.map aesSbox))) k)

/-- One AES-256 block encryption. -/
def aesEnc (key : Nat) (blk : List Nat) : List Nat :=
  match aesRoundKeys key with
  | [] => blk
  | k :: ks => aesEncRounds ks (xorN blk k)

def aesDecRounds : List (List Nat) → List Nat → List Nat
  | [], st => st
  | [k], st => xorN ((aesShift true st).map aesInvSbox) k
  | k :: ks, st => aesDecRounds ks (aesMix [14, 11, 13, 9] (xorN ((aesShift true st).map aesInvSbox) k))

/-- One AES-256 block decryption. -/
def aesDec (key : Nat) (blk : List Nat) : List Nat :=
  match (aesRoundKeys key).reverse with
  | [] => blk
  | k :: ks => aesDecRounds ks (xorN blk k)

/-- The tweak's multiplication by α (little-endian). -/
def xtsNext (t : Nat) : Nat := (t * 2 % 2 ^ 128) ^^^ (if t / 2 ^ 127 % 2 = 1 then 0x87 else 0)

def bytesN (l : List Byte) : List Nat := l.map BitVec.toNat
def nBytes (l : List Nat) : List Byte := l.map (BitVec.ofNat 8)

def xtsBlocks (f : List Nat → List Nat) : Nat → Nat → List Byte → List Byte
  | 0, _, _ => []
  | n + 1, t, l =>
    let tb := bytesN (leBytes 16 t)
    nBytes (xorN (f (xorN (bytesN (l.take 16)) tb)) tb) ++ xtsBlocks f n (xtsNext t) (l.drop 16)

def xtsTweak (k2 seq : Nat) : Nat := leNat (nBytes (aesEnc k2 (bytesN (leBytes 16 seq))))

/-- XTS-AES-256 of a data unit of whole blocks. -/
def xtsEnc (k1 k2 seq : Nat) (l : List Byte) : List Byte := xtsBlocks (aesEnc k1) (l.length / 16) (xtsTweak k2 seq) l
def xtsDec (k1 k2 seq : Nat) (l : List Byte) : List Byte := xtsBlocks (aesDec k1) (l.length / 16) (xtsTweak k2 seq) l

def beNat (l : List Nat) : Nat := l.foldl (fun a b => a * 256 + b) 0

def cmacChain (key : Nat) : Nat → List Nat → List Nat → List Nat
  | 0, c, _ => c
  | n + 1, c, l => cmacChain key n (aesEnc key (xorN c (l.take 16))) (l.drop 16)

/-- AES-256-CMAC of a message of whole blocks. -/
def cmac (key : Nat) (msg : List Byte) : List Byte :=
  let dbl := fun v : Nat => (v * 2 % 2 ^ 128) ^^^ (if v / 2 ^ 127 % 2 = 1 then 0x87 else 0)
  let k1 := dbl (beNat (aesEnc key (List.replicate 16 0)))
  let m := bytesN msg
  let n := m.length / 16
  let c := cmacChain key (n - 1) (List.replicate 16 0) m
  nBytes (aesEnc key (xorN (xorN c (m.drop (16 * (n - 1)))) (beBytes 16 k1)))

/-- The tag messages of the table "Tag messages". -/
def sectorTag (k : KeySet) (lsn ctr dom : Nat) (cipher : List Byte) : List Byte :=
  cmac k.tag (leBytes 8 lsn ++ leBytes 4 ctr ++ leBytes 2 dom ++ leBytes 2 0 ++ cipher)
def commitTag (k : KeySet) (rec_ : List Byte) : List Byte := cmac k.tag (List.replicate 16 0xFF ++ rec_)
def exportHeaderTag (k : KeySet) (hdr : List Byte) : List Byte := cmac k.exTag (List.replicate 16 0xFE ++ hdr)
def exportSectorTag (k : KeySet) (stream idx : Nat) (cipher : List Byte) : List Byte :=
  cmac k.exTag (leBytes 4 stream ++ leBytes 8 idx ++ leBytes 4 0 ++ cipher)

/-! ### IEEE 754 addition, round to nearest even, subnormals kept (R180) -/

/-- A finite value's magnitude in units of the least subnormal. -/
def fpMag (mb x : Nat) (eb : Nat) : Nat :=
  let e := x / 2 ^ mb % 2 ^ eb
  let f := x % 2 ^ mb
  if e = 0 then f else (2 ^ mb + f) * 2 ^ (e - 1)

/-- The encoding of a magnitude in units of the least subnormal, rounded to nearest even; infinity on overflow. -/
def fpRound (eb mb : Nat) (sign mag : Nat) : Nat :=
  let bits := if mag = 0 then 0 else Nat.log2 mag + 1
  let sh := bits - (mb + 1)
  let q := mag / 2 ^ sh
  let rem := mag % 2 ^ sh
  let half := if sh = 0 then 1 else 2 ^ (sh - 1)
  let q := if rem > half ∨ (rem = half ∧ q % 2 = 1) then q + 1 else q
  let v := if q < 2 ^ mb then q else sh * 2 ^ mb + q
  let inf := (2 ^ eb - 1) * 2 ^ mb
  sign * 2 ^ (eb + mb) + (if inf ≤ v then inf else v)

/-- The sum of two encodings with `eb` exponent and `mb` fraction bits. A NaN result is the quiet NaN with the top fraction bit alone; +0 + −0 is +0. -/
def fpAdd (eb mb a b : Nat) : Nat :=
  let emax := 2 ^ eb - 1
  let sa := a / 2 ^ (eb + mb) % 2
  let sb := b / 2 ^ (eb + mb) % 2
  let ea := a / 2 ^ mb % 2 ^ eb
  let eb_ := b / 2 ^ mb % 2 ^ eb
  let nan := emax * 2 ^ mb + 2 ^ (mb - 1)
  if (ea = emax ∧ a % 2 ^ mb ≠ 0) ∨ (eb_ = emax ∧ b % 2 ^ mb ≠ 0) then nan
  else if ea = emax ∧ eb_ = emax then (if sa = sb then a % 2 ^ (1 + eb + mb) else nan)
  else if ea = emax then a % 2 ^ (1 + eb + mb)
  else if eb_ = emax then b % 2 ^ (1 + eb + mb)
  else
    let ma : Int := if sa = 1 then -(fpMag mb a eb : Nat) else (fpMag mb a eb : Nat)
    let mb_ : Int := if sb = 1 then -(fpMag mb b eb : Nat) else (fpMag mb b eb : Nat)
    let sum := ma + mb_
    if sum = 0 then (if sa = 1 ∧ sb = 1 then 2 ^ (eb + mb) else 0)
    else fpRound eb mb (if sum < 0 then 1 else 0) sum.natAbs

/-- One element's add (table "Kite add operations"): its width in bytes and its sum. -/
def kiteWidth (op : Nat) : Nat := if op = 0 then 4 else if op = 1 then 2 else if op = 2 then 2 else if op = 3 then 4 else 8

def kiteElem (op a b : Nat) : Nat :=
  if op = 0 then fpAdd 8 23 a b
  else if op = 1 then fpAdd 8 7 a b
  else if op = 2 then fpAdd 5 10 a b
  else if op = 3 then (a + b) % 2 ^ 32
  else (a + b) % 2 ^ 64

/-- The add of a whole line, element by element from byte 0. -/
def kiteAdd (op : Nat) (line operand : List Byte) : List Byte :=
  let w := kiteWidth op
  (List.range (64 / w)).flatMap (fun i => leBytes w (kiteElem op (leNat (slice line (i * w) w)) (leNat (slice operand (i * w) w))))

end Sys2Proof.Machine
end

