-- ==== Sys2Proof/Machine/Numerics.lean ====
section
/-! DEFINITION. The arithmetic of the Talon tiles (R121 to R125): the element types, the dot product of MX blocks, FP32 results of the vector unit, its bounded functions, its sum, and the conversion to MX blocks. -/

namespace Sys2Proof
open Machine

/-! ### Formats (table "Element types") -/

/-- A binary floating format: exponent and fraction bits, bias, and how its highest exponent is used (0: finite values only; 1: one NaN, the code of all ones; 2: infinity and NaN as in IEEE 754). -/
structure Fmt where
  eb : Nat
  mb : Nat
  bias : Nat
  top : Nat
deriving DecidableEq, Repr

def fp32 : Fmt := ⟨8, 23, 127, 2⟩
def fmtBf16 : Fmt := ⟨8, 7, 127, 2⟩
def fmtFp16 : Fmt := ⟨5, 10, 15, 2⟩

/-- The format of a float element type; none for MXINT8. -/
def ElemType.fmt : ElemType → Option Fmt
  | .fp4 => some ⟨2, 1, 1, 0⟩
  | .fp6e2 => some ⟨2, 3, 1, 0⟩
  | .fp6e3 => some ⟨3, 2, 3, 0⟩
  | .fp8e4 => some ⟨4, 3, 7, 1⟩
  | .fp8e5 => some ⟨5, 2, 15, 2⟩
  | .int8 => none
  | .bf16 => some fmtBf16

/-- emax of a type. -/
def ElemType.emax : ElemType → Nat
  | .fp4 | .fp6e2 => 2
  | .fp6e3 => 4
  | .fp8e4 => 8
  | .fp8e5 => 15
  | .int8 => 0
  | .bf16 => 127

/-- The code of a type's largest magnitude. -/
def ElemType.maxCode : ElemType → Nat
  | .fp4 => 0x7
  | .fp6e2 | .fp6e3 => 0x1F
  | .fp8e4 => 0x7E
  | .fp8e5 => 0x7B
  | .int8 => 127
  | .bf16 => 0x7F7F

/-- An MX float type. -/
def ElemType.mxFloat (t : ElemType) : Bool := t != .int8 && t != .bf16

/-- R121: an operand pair that the matrix engine accepts. -/
def pairOk (a b : ElemType) : Bool := (a.mxFloat && b.mxFloat) || (a == b && !a.mxFloat)

/-- What an encoding stands for: NaN, an infinity, or (−1)^neg · m · 2^e. -/
inductive FVal where
  | nan
  | inf (neg : Bool)
  | fin (neg : Bool) (m : Nat) (e : Int)
deriving DecidableEq, Repr

def Fmt.val (f : Fmt) (x : Nat) : FVal :=
  let neg := natBit x (f.eb + f.mb)
  let e := x / 2 ^ f.mb % 2 ^ f.eb
  let m := x % 2 ^ f.mb
  let last := 2 ^ f.eb - 1
  if f.top = 2 ∧ e = last then (if m = 0 then .inf neg else .nan)
  else if f.top = 1 ∧ e = last ∧ m = 2 ^ f.mb - 1 then .nan
  else if e = 0 then .fin neg m (1 - f.bias - f.mb)
  else .fin neg (2 ^ f.mb + m) (e - f.bias - f.mb)

/-- The value of an element; an MXINT8 element is its two's complement times 2^−6 (R123: −128 stands for −2.0). -/
def ElemType.val (t : ElemType) (x : Nat) : FVal :=
  match t.fmt with
  | some f => f.val x
  | none => let v := x % 256; if 128 ≤ v then .fin true (256 - v) (-6) else .fin false v (-6)

/-! ### Rounding -/

/-- `m` · 2^−sh for a positive `sh`, to the nearest integer, ties to even. -/
def rneShift (m sh : Nat) : Nat :=
  let q := m / 2 ^ sh
  let r := 2 * (m % 2 ^ sh)
  if r > 2 ^ sh ∨ (r = 2 ^ sh ∧ q % 2 = 1) then q + 1 else q

/-- The magnitude code of m · 2^e in a format, rounded to nearest even with no bound above. -/
def Fmt.magCode (f : Fmt) (m : Nat) (e : Int) : Nat :=
  if m = 0 then 0
  else
    let low : Int := 1 - f.bias - f.mb
    let sh : Int := max (low - e) (Nat.log2 m + 1 - (f.mb + 1))
    let q := if sh ≤ 0 then m * 2 ^ (-sh).toNat else rneShift m sh.toNat
    if q < 2 ^ f.mb then q else (e + sh - low).toNat * 2 ^ f.mb + q

/-- The code of infinity, where the format has one. -/
def Fmt.infCode (f : Fmt) : Nat := (2 ^ f.eb - 1) * 2 ^ f.mb

def Fmt.sign (f : Fmt) (neg : Bool) : Nat := b2n neg * 2 ^ (f.eb + f.mb)

/-- The quiet NaN: 0x7FC0_0000 in FP32 (R123, R124). -/
def Fmt.nanCode (f : Fmt) : Nat := f.infCode + 2 ^ (f.mb - 1)

/-- A value in an IEEE format: overflow gives infinity of the right sign, subnormals are kept, NaN is the quiet NaN (R123, R124). -/
def Fmt.enc (f : Fmt) : FVal → Nat
  | .nan => f.nanCode
  | .inf neg => f.sign neg + f.infCode
  | .fin neg m e => f.sign neg + min f.infCode (f.magCode m e)

/-! ### Exact arithmetic -/

/-- The exact sum of finite values, as an integer and the exponent of 2 that it counts. -/
def exactSum (l : List (Bool × Nat × Int)) : Int × Int :=
  let low := l.foldl (fun a x => min a x.2.2) 0
  (l.foldl (fun a x => let v : Int := x.2.1 * 2 ^ (x.2.2 - low).toNat; if x.1 then a - v else a + v) 0, low)

/-- An integer times 2^e as a value; the exact 0 is +0. -/
def ofExact (x : Int × Int) : FVal := .fin (decide (x.1 < 0)) x.1.natAbs x.2

def FVal.mul : FVal → FVal → FVal
  | .nan, _ | _, .nan => .nan
  | .inf a, .inf b => .inf (a != b)
  | .inf a, .fin b m _ | .fin b m _, .inf a => if m = 0 then .nan else .inf (a != b)
  | .fin a m e, .fin b n g => .fin (a != b) (m * n) (e + g)

/-- The exact sum of values: infinities of both signs give NaN. -/
def sumVals (l : List FVal) : FVal :=
  if l.contains .nan ∨ (l.contains (.inf true) ∧ l.contains (.inf false)) then .nan
  else if l.contains (.inf true) then .inf true
  else if l.contains (.inf false) then .inf false
  else ofExact (exactSum (l.filterMap (fun v => match v with | .fin s m e => some (s, m, e) | _ => none)))

/-- Sum of two values as IEEE 754 adds: zeros of one sign keep it. -/
def FVal.add (a b : FVal) : FVal :=
  match a, b with
  | .fin s 0 e, .fin t 0 _ => .fin (s && t) 0 e
  | a, b => sumVals [a, b]

/-! ### The matrix engine (R122, R123) -/

/-- A value times the power of 2 of an E8M0 scale. -/
def FVal.scaled (v : FVal) (scale : Nat) : FVal := match v with | .fin s m e => .fin s m (e + scale - 127) | v => v

/-- A block's contribution: the exact sum of its products, times both scales, rounded once to FP32. A scale of 0xFF or a NaN element makes it NaN. -/
def blockDot (ta tb : ElemType) (a b : MxBlock) : Nat :=
  if a.scale = 0xFF ∨ b.scale = 0xFF then fp32.nanCode
  else fp32.enc (((sumVals ((List.range 32).map (fun i => (ta.val (lget a.elems i 0)).mul (tb.val (lget b.elems i 0))))).scaled a.scale).scaled b.scale)

/-- The blocks along K, in ascending order, are added to an accumulator, each with one further rounding. -/
def dotInto (ta tb : ElemType) (acc : Nat) (k : List (MxBlock × MxBlock)) : Nat := k.foldl (fun c x => fpAdd 8 23 c (blockDot ta tb x.1 x.2)) acc

/-! ### The vector unit (R124) -/

/-- ⌊√n⌋ by its bits from bit `k` down. -/
def isqrtBits (n : Nat) : Nat → Nat → Nat
  | 0, r => r
  | k + 1, r => let t := r + 2 ^ k; isqrtBits n k (if t * t ≤ n then t else r)

def isqrt (n : Nat) : Nat := isqrtBits n (Nat.log2 n / 2 + 1) 0

/-- 2^(f · 2^−64) · 2^128 for a fraction f of 64 bits, root by root from its top bit. -/
def pow2Frac : Nat → Nat → Nat → Nat → Nat
  | 0, _, _, acc => acc
  | n + 1, f, root, acc => pow2Frac n f (isqrt (root * 2 ^ 128)) (if natBit f n then acc * root / 2 ^ 128 else acc)

/-- The first 64 fraction bits of log2 of y · 2^−256, for y from 2^256 to below 2^257. -/
def log2Frac : Nat → Nat → Nat → Nat
  | 0, _, acc => acc
  | n + 1, y, acc => let z := y * y / 2 ^ 256; if 2 ^ 257 ≤ z then log2Frac n (z / 2) (2 * acc + 1) else log2Frac n z (2 * acc)

/-- The exact value of a quarter-rate function of a finite operand, to more than 40 bits beyond FP32's; none where it has none. -/
def VecOp.exact (op : VecOp) (neg : Bool) (m : Nat) (e : Int) : Option FVal :=
  match op with
  | .exp2 =>
    let x : Int := if 8 ≤ e + Nat.log2 m then 256 * 2 ^ 64 else if 0 ≤ e + 64 then m * 2 ^ (e + 64).toNat else m / 2 ^ (-(e + 64)).toNat
    let x := if m = 0 then 0 else if neg then -x else x
    some (.fin false (pow2Frac 64 (x % 2 ^ 64).toNat (isqrt (2 ^ 257)) (2 ^ 128)) (x / 2 ^ 64 - 128))
  | .log2 =>
    if neg ∨ m = 0 then none
    else
      let n := Nat.log2 m
      let v : Int := (e + n) * 2 ^ 64 + log2Frac 64 (m * 2 ^ (256 - n)) 0
      some (ofExact (v, -64))
  | .recip => if m = 0 then none else some (.fin neg (2 ^ 128 / m) (-128 - e))
  | .rsqrt =>
    if neg ∨ m = 0 then none
    else
      let odd := e % 2
      some (.fin false (isqrt (2 ^ 256 / (m * 2 ^ odd.toNat))) (-128 - (e - odd) / 2))
  | _ => none

/-- FP32's code `c` lies within 2 ULP of m · 2^e. -/
def within2 (m : Nat) (e : Int) (c : Nat) : Bool :=
  match fp32.val c with
  | .fin _ n g =>
    let low := min e (min g (-149))
    let a := m * 2 ^ (e - low).toNat
    let b := n * 2 ^ (g - low).toNat
    let ulp := 2 ^ ((max (-149) (e + Nat.log2 m - 23)) - low).toNat
    decide (max a b - min a b ≤ 2 * ulp)
  | _ => false

/-- A quarter-rate function's result: some FP32 value within 2 ULP of the exact one. -/
def VecOp.bounded (op : VecOp) (x : Nat) : Nat :=
  match fp32.val x with
  | .fin neg m e =>
    (match op.exact neg m e with
      | some (.fin s m e) =>
        let c := Nat.min fp32.infCode (fp32.magCode m e)
        let y := c + Config.vecUlp op x % 5 - 2
        fp32.sign s + (if within2 m e y then y else c)
      | _ => Config.vecOpen op x 0 % 2 ^ 32)
  | _ => Config.vecOpen op x 0 % 2 ^ 32

/-- An order key of finite or infinite FP32 values. -/
def fpKey (x : Nat) : Int := if 2 ^ 31 ≤ x then -((x - 2 ^ 31 : Nat) : Int) else x

def isNan32 (x : Nat) : Bool := fp32.val x == .nan

/-- One of two values by their order; open for a NaN and for zeros of both signs. -/
def fpPick (op : VecOp) (first : Bool) (a b : Nat) : Nat :=
  if isNan32 a ∨ isNan32 b ∨ (fpKey a = fpKey b ∧ a ≠ b) then Config.vecOpen op a b % 2 ^ 32
  else if decide (fpKey a ≤ fpKey b) = first then a else b

/-- A 32-bit shift; open for 32 and more. -/
def shift32 (op : VecOp) (a b v : Nat) : Nat := if b < 32 then v % 2 ^ 32 else Config.vecOpen op a b % 2 ^ 32

/-- A lane of an operation. -/
def VecOp.lane (op : VecOp) (a b c : Nat) : Nat :=
  match op with
  | .fma => fp32.enc (((fp32.val a).mul (fp32.val b)).add (fp32.val c))
  | .add => fpAdd 8 23 a b
  | .mul => fp32.enc ((fp32.val a).mul (fp32.val b))
  | .min => fpPick op true a b
  | .max => fpPick op false a b
  | .iadd => (a + b) % 2 ^ 32
  | .and => a &&& b
  | .or => a ||| b
  | .xor => a ^^^ b
  | .shl => shift32 op a b (a * 2 ^ b)
  | .shr => shift32 op a b (a / 2 ^ b)
  | .sar => shift32 op a b (if 2 ^ 31 ≤ a then 2 ^ 32 - 1 - (2 ^ 32 - 1 - a) / 2 ^ b else a / 2 ^ b)
  | .toBf16 => fmtBf16.enc (fp32.val a)
  | .ofBf16 => fp32.enc (fmtBf16.val (a % 2 ^ 16))
  | .toFp16 => fmtFp16.enc (fp32.val a)
  | .ofFp16 => fp32.enc (fmtFp16.val (a % 2 ^ 16))
  | .exp2 | .log2 | .recip | .rsqrt => op.bounded a

/-- A comparison; false with a NaN. -/
def VecRel.holds (r : VecRel) (a b : Nat) : Bool :=
  !isNan32 a && !isNan32 b && (match r with | .lt => decide (fpKey a < fpKey b) | .le => decide (fpKey a ≤ fpKey b) | .eq => fpKey a == fpKey b)

/-- Sums of neighbours, with a rounding each: one level of the tree. -/
def addPairs : List Nat → List Nat
  | a :: b :: r => fpAdd 8 23 a b :: addPairs r
  | l => l

/-- The sum of 2^n lanes in a fixed binary tree over lane order. -/
def treeSum : Nat → List Nat → Nat
  | 0, l => l.headD 0
  | n + 1, l => treeSum n (addPairs l)

/-! ### MX blocks (R125) -/

/-- An element: x · 2^−(scale − 127) in a type, to nearest even, saturated at the type's largest magnitude; MXINT8 after scaling by 2^6, from −128 to 127. -/
def mxElem (t : ElemType) (scale : Nat) (x : Nat) : Nat :=
  match fp32.val x with
  | .fin neg m e =>
    let e := e - (scale - 127)
    (match t.fmt with
      | some f => f.sign neg + min t.maxCode (f.magCode m e)
      | none =>
        let e := e + 6
        let q := if 0 ≤ e then m * 2 ^ e.toNat else rneShift m (-e).toNat
        if neg then (256 - min q 128) % 256 else min q 127)
  | _ => 0

/-- ⌊log2⌋ of a finite non-zero magnitude. -/
def floorLog2 (v : FVal) : Int := match v with | .fin _ m e => e + Nat.log2 m | _ => 0

/-- 32 FP32 values as a block of a type. -/
def toMx (t : ElemType) (x : List Nat) : MxBlock :=
  let big := x.foldl (fun a v => max a (v % 2 ^ 31)) 0
  if fp32.infCode ≤ big then { elems := x.map (fun _ => 0), scale := 0xFF }
  else if big = 0 then { elems := x.map (fun _ => 0), scale := 0 }
  else
    let sc := (max 0 (min 254 (floorLog2 (fp32.val big) - t.emax + 127))).toNat
    { elems := x.map (mxElem t sc), scale := sc }

/-- An element of a block as FP32. -/
def ofMx (t : ElemType) (scale x : Nat) : Nat := if scale = 0xFF then fp32.nanCode else fp32.enc ((t.val x).scaled scale)

/-! ### The banks of a tile's SRAM (R126) -/

def bankRow (off : Nat) : Nat := off / 2 ^ 13 % 512
def bankOf (off : Nat) : Nat := ((off / 2 ^ 7) ^^^ (off / 2 ^ 13)) % 64


/-- How many cycles a requester waits at most before it is served ahead of others: the tile DMA 15 (R126), the scrubber those of 1 ms (R128). -/
def bankPatience (perMs : Nat) (who : Nat) : Option Nat := if who = 3 then some 15 else if who = 4 then some perMs else none

/-- The requester that a bank serves in a cycle, of those that wait (request, cycles waited): one whose patience has ended, else the first in the order of R126. -/
def bankPick (perMs : Nat) (l : List (BankReq × Nat)) : Option (BankReq × Nat) :=
  match l.find? (fun x => match bankPatience perMs x.1.who with | some n => decide (n ≤ x.2) | none => false) with
  | some x => some x
  | none => l.foldl (fun a x => match a with | none => some x | some y => if x.1.who < y.1.who then some x else some y) none

/-- The waits of a bank's requests: `todo` in order of cycle, `wait` those that wait at cycle `t`. -/
def bankWaits (perMs : Nat) : Nat → Nat → List (BankReq × Nat) → List BankReq → Nat → Nat
  | 0, _, _, _, n => n
  | k + 1, t, wait, todo, n =>
    let now := wait ++ (todo.filter (fun r => decide (r.cycle ≤ t))).map (fun r => (r, 0))
    let todo := todo.filter (fun r => decide (t < r.cycle))
    match bankPick perMs now with
    | none => match todo.foldl (fun a r => match a with | none => some r.cycle | some c => some (min c r.cycle)) none with | none => n | some c => bankWaits perMs k c [] todo n
    | some x =>
      let rest := (now.erase x).map (fun y => (y.1, y.2 + 1))
      bankWaits perMs k (t + 1) rest todo (n + rest.length)

/-- The waits of a tile's accesses, bank by bank. -/
def tileWaits (perMs : Nat) (l : List BankReq) : Nat :=
  ((List.range 64).map (fun b => let r := l.filter (fun x => bankOf x.off == b); bankWaits perMs (2 * r.length) 0 [] r 0)).sum

/-! ### The SECDED code of a tile's SRAM -/

/-- What a word's code makes of its bits in error: none, the one bit that it corrects, or more than it can correct. -/
def wordErr (errs : List (Nat × Nat)) (w : Nat) : List Nat :=
  (List.range 72).filter (fun b => (errs.filter (fun e => e.1 == w && e.2 == b)).length % 2 == 1)

end Sys2Proof
end

