-- ==== Sys2Proof/Machine/WatchOps.lean ====
section
/-! DEFINITION. Watch as a shared operation (15_watch_faults.md): events, the log, the ladder, reset units, reaction-shadow windows. What Watch decides on
for another block (quarantine, reset, WARM reset) is left in watch.acts; the operation settle of Resets.lean carries it out at the end of the same step. -/

namespace Sys2Proof.Machine

/-! ### Classes and cause codes (tables "Classes", "Cause codes") -/

def Cls.ce : Nat := 1
def Cls.de : Nat := 2
def Cls.uc : Nat := 3
def Cls.fa : Nat := 4

def Cause.corrected : Nat := 0x01
def Cause.uncorrected : Nat := 0x02
def Cause.poisonConsumed : Nat := 0x03
def Cause.retryExhausted : Nat := 0x04
def Cause.linkFailed : Nat := 0x05
def Cause.trainFailed : Nat := 0x06
def Cause.miswire : Nat := 0x07
def Cause.addrDecode : Nat := 0x08
def Cause.csrAccess : Nat := 0x09
def Cause.accessViolation : Nat := 0x0A
def Cause.overlap : Nat := 0x0B
def Cause.timeout : Nat := 0x0C
def Cause.thermalReadFail : Nat := 0x0D
def Cause.overtemp : Nat := 0x0E
def Cause.thermalTrip : Nat := 0x0F
def Cause.resourceFull : Nat := 0x10
def Cause.deviceMarked : Nat := 0x11
def Cause.tierFailed : Nat := 0x12
def Cause.tagFail : Nat := 0x13
def Cause.ctrWarn : Nat := 0x14
def Cause.ctrExhaust : Nat := 0x15
def Cause.refused : Nat := 0x16
def Cause.linkDown : Nat := 0x17
def Cause.planned : Nat := 0x18
def Cause.originBad : Nat := 0x19
def Cause.respTimeout : Nat := 0x1A
def Cause.partnerMismatch : Nat := 0x1B
def Cause.qpError : Nat := 0x1C
def Cause.partnerAbsent : Nat := 0x1D
def Cause.trngHealth : Nat := 0x20
def Cause.tamper : Nat := 0x21
def Cause.ceStorm : Nat := 0x30
def Cause.injected : Nat := 0x31
def Cause.watchInternal : Nat := 0x3F

/-! ### Source numbers (table "Source map") -/

def Src.tileGrp (d t : Nat) : Nat := 12 * d + t % 12
def Src.dieTherm (d : Nat) : Nat := 48 + d
def Src.dieTmo (d : Nat) : Nat := 52 + d
def Src.mewsTmo : Nat := 56
def Src.d2d (n : Nat) : Nat := 57 + n
def Src.addrDecDie (d : Nat) : Nat := 67 + d
def Src.addrDecCore : Nat := 71
def Src.addrDecPcie : Nat := 72
def Src.addrDecKettle : Nat := 73
def Src.addrDecRoost : Nat := 74
def Src.hbmMem (st p : Nat) : Nat := 99 + 8 * st + p / 8
def Src.hbmTherm (st : Nat) : Nat := 163 + st
def Src.kite (st : Nat) : Nat := 171 + st
def Src.roostCh (c : Nat) : Nat := 179 + c
def Src.roostEng : Nat := 187
def Src.cryptAcc : Nat := 188
def Src.cryptVerify : Nat := 189
def Src.cryptCtr : Nat := 190
def Src.jess (k : Nat) : Nat := 191 + k
def Src.tci : Nat := 206
def Src.ktlLink (n : Nat) : Nat := 207 + n
def Src.ktlRoute : Nat := 271
def Src.mewsCache : Nat := 272
def Src.core (c : Nat) : Nat := 273 + c
def Src.mgmtCtl : Nat := 289
def Src.mgmtTgt : Nat := 290
def Src.railDroop (r : Nat) : Nat := 291 + 2 * r
def Src.railOver (r : Nat) : Nat := 292 + 2 * r
def Src.secTrng : Nat := 307
def Src.secTamper : Nat := 308
def Src.watchSelf : Nat := 309

/-- SOURCE of a log entry that stands for a command or register request. -/
def noSource : Nat := 0x1FF
/-- No reset unit. -/
def noUnit : Nat := 0xFF
/-- The reaction-shadow window of a WARM reset (R360) in watch.shadows. -/
def packageWindow : Nat := 256

/-- The time within which a unit's reset completes, in ns (table "Reset units"). -/
def unitLimitNs (u : Nat) : Nat :=
  if u < 48 then 10000
  else if u < 56 then 220000
  else if u < 66 then 2000000
  else if u = 66 then 100000
  else if u = 67 then 500000
  else if u < 132 then 10000
  else 5000

/-- The grace timer of a class, in ns (WATCH_GRACE). -/
def State.grace (s : State) (cls : Nat) : Nat :=
  if cls = Cls.fa then s.rd R.WATCH_GRACE.FA_US * 1000
  else if cls = Cls.uc then s.rd R.WATCH_GRACE.UC_MS * 1000000
  else s.rd R.WATCH_GRACE.DE_MS * 1000000

/-! ### The log (R365) -/

/-- Write a log entry; LINK none means its own SEQ. -/
def State.wlog (s : State) (src cls : Nat) (ovr conseq : Bool) (kind code : Nat) (link : Option Nat) (detail : Nat) : State :=
  let seq := s.rd R.WATCH_LOG_HEAD.NEXT_SEQ
  let lo := seq + src % 512 * 2 ^ 16 + cls % 8 * 2 ^ 25 + b2n ovr * 2 ^ 28 + b2n conseq * 2 ^ 29 + kind % 8 * 2 ^ 30 + code % 256 * 2 ^ 33
    + (link.getD seq) % 65536 * 2 ^ 41
  let hi := detail % 2 ^ 32 + s.epoch / 1000 % 2 ^ 32 * 2 ^ 32
  ((s.wr R.WATCH_LOG_HI hi (seq % 1024)).wr R.WATCH_LOG_LO lo (seq % 1024)).wr R.WATCH_LOG_HEAD.NEXT_SEQ (seq + 1)

/-! ### Ladder bookkeeping -/

def Ladder.idle : Nat := 0
def Ladder.running : Nat := 1
def Ladder.handled : Nat := 2
def Ladder.resolved : Nat := 3

def State.ladder (s : State) (n : Nat) : Nat := s.rd R.WATCH_SRC_STATUS.LADDER n

/-- End a running ladder in the state `l`; another ladder is left. -/
def State.endLadder (s : State) (l n : Nat) : State :=
  if s.ladder n = Ladder.running then
    (s.wr R.WATCH_SRC_STATUS.LADDER l n).updWatch (fun w => { w with timers := Tab.del w.timers n, cls := Tab.del w.cls n })
  else s

/-- End as RESOLVED every running ladder that `p` selects. -/
def State.resolveLadders (s : State) (p : Nat → Bool) : State :=
  (s.watch.timers.map (·.1) ++ s.watch.cls.map (·.1)).foldl (fun s n => if p n then s.endLadder Ladder.resolved n else s) s

/-- Whether the previous reset of a unit started less than 1 s ago (R361). -/
def State.resetWithin1s (s : State) (u : Nat) : Bool :=
  match Tab.get? s.watch.lastReset u with
  | some t => decide (s.epoch < t + 1000000000)
  | none => false

/-- Whether Watch started a WARM reset within REPEAT_WARM_S (R356). -/
def State.warmWithin (s : State) : Bool :=
  match s.watch.lastWarm with
  | some t => decide (s.epoch < t + s.rd R.WATCH_CFG.REPEAT_WARM_S * 1000000000)
  | none => false

def State.act (s : State) (a : Act) : State := s.updWatch (fun w => { w with acts := w.acts ++ [a] })

/-- The STEP bookkeeping that every step taken has (R352): event and counter, log entry, identity 1. -/
def State.logStep (s : State) (src cls step : Nat) (link : Option Nat) (unit : Nat) : State :=
  ((s.flag R.WATCH_EVENT.STEP R.WATCH_STEP_CNT.COUNT).wlog src cls false false 1 step link unit).raiseWarden 1

/-- Unit states of WATCH_RU_u_STATUS. -/
def Unit.normal : Nat := 0
def Unit.quarantined : Nat := 1
def Unit.resetting : Nat := 2
def Unit.failed : Nat := 3

def State.unitState (s : State) (u : Nat) : Nat := s.rd R.WATCH_RU_STATUS.STATE u

/-- QUARANTINE of a unit (R353): it is recorded, and the block carries it out. -/
def State.quarantineUnit (s : State) (u : Nat) : State :=
  if s.unitState u = Unit.normal then (s.wr R.WATCH_RU_STATUS.STATE Unit.quarantined u).act (.quarantine u) else s

/-- The start of a BLOCK reset of a unit (R354, R359): ladders of its sources resolve but for the one that caused it, the window opens, the
start is remembered, and the block is reset. `link` is the SEQ of the STEP entry. -/
def State.startUnitReset (s : State) (u : Nat) (by_ : ResetBy) (link : Nat) : State :=
  let keep := match by_ with | .ladder n => some n | _ => none
  let s := s.resolveLadders (fun n => srcUnit n == u && some n != keep)
  let s := s.wr R.WATCH_RU_STATUS.STATE Unit.resetting u
  let s := (s.wr R.WATCH_RU_STATUS.SHADOW 1 u).wr R.WATCH_RU_STATUS.SHADOW_CONSEQ 0 u
  let s := s.wr R.WATCH_RU_STATUS.LAST_RESET_MS (s.epoch / 1000000) u
  let s := s.updWatch (fun w => { w with
    shadows := w.shadows.filter (fun x => x.unit != u) ++ [{ unit := u, link := link, logged := 0, closeAt := none }],
    unitBy := Tab.put w.unitBy u by_, unitAt := Tab.put w.unitAt u s.now, lastReset := Tab.put w.lastReset u s.epoch })
  s.act (.blockReset u)

/-- The start of a WARM reset as Watch sees it (R355, R360): every running ladder resolves, quarantines and unit resets end, the package-wide window opens;
a WARM reset that Watch started arms the warm watch. -/
def State.startWarm (s : State) (origin : WarmBy) (link : Nat) : State :=
  let s := s.resolveLadders (fun _ => true)
  let s := (List.range 148).foldl (fun s u => if s.unitState u = Unit.normal then s else s.wr R.WATCH_RU_STATUS.STATE Unit.normal u) s
  let arm := match origin with | .watch => true | _ => false
  let s := s.updWatch (fun w => { w with
    shadows := (w.shadows.filter (fun x => x.unit != packageWindow)).map (fun x => if x.closeAt.isNone then { x with closeAt := some (s.now + 50000) } else x)
      ++ [{ unit := packageWindow, link := link, logged := 0, closeAt := none }],
    unitBy := [], unitAt := [],
    lastWarm := if arm then some s.epoch else w.lastWarm,
    warmAt := if arm then some (s.now + s.rd R.WATCH_CFG.WARM_LIMIT_MS * 1000000) else w.warmAt })
  let s := if arm then s.wr R.WATCH_STATUS.WARM_WATCH 1 else s
  (s.wr R.WATCH_STATUS.WARM_SHADOW 1).act (.warm origin)

/-- TRAY_ALARM (R356): FAULT_N low, ALARM set. -/
def State.trayAlarm (s : State) : State :=
  ((s.wr R.WATCH_STATUS.ALARM 1).flag R.WATCH_EVENT.ALARM R.WATCH_ALARM_CNT.COUNT).emit (.pin "FAULT_N" false)

/-- PACKAGE_WARM_RESET, or TRAY_ALARM in its place (R356): the step to take. -/
def State.warmOrAlarm (s : State) : Nat := if s.warmWithin then 5 else 4

/-! ### The ladder (pseudocode "The ladder") -/

/-- A step that the ladder skips because its source has no reset unit. -/
def skipStep (ru k : Nat) : Nat := if ru = noUnit ∧ (k = 2 ∨ k = 3) then 4 else k

/-- Perform step `k` of source `n`'s ladder: bookkeeping, effect, timer. -/
def State.performStep (s : State) (n k : Nat) : State :=
  let ru := s.rd R.WATCH_SRC_STATUS.RU n
  let cls := Tab.get s.watch.cls n Cls.de
  let seq := s.rd R.WATCH_LOG_HEAD.NEXT_SEQ
  let s := s.logStep n cls k (some (s.rd R.WATCH_SRC_STATUS.PRIMARY_SEQ n)) ru
  let s := (s.wr R.WATCH_SRC_STATUS.STEP k n).updWatch (fun w => { w with timers := Tab.put w.timers n (s.now + s.grace cls) })
  if k = 2 then s.quarantineUnit ru
  else if k = 3 then s.startUnitReset ru (.ladder n) seq
  else if k = 4 then s.startWarm .watch seq
  else if k = 5 then s.trayAlarm
  else s

/-- take(k) of source `n`'s ladder: skips, MAX_STEP, and the replacements of R361 and R356. -/
def State.takeStep (s : State) (n k : Nat) : State :=
  let ru := s.rd R.WATCH_SRC_STATUS.RU n
  let k := skipStep ru k
  if s.rd R.WATCH_SRC_CFG.MAX_STEP n < k then s.updWatch (fun w => { w with timers := Tab.del w.timers n })
  else
    let k := if k = 3 ∧ s.resetWithin1s ru then 4 else k
    s.performStep n (if k = 4 then s.warmOrAlarm else k)

/-- A ladder's start or rise at a DE, UC or FA event of class `cls` whose log entry has SEQ `seq`; `force`: the step that R354 has it take at once,
whatever MAX_STEP. -/
def State.ladderEvent (s : State) (n cls seq : Nat) (force : Option Nat) : State :=
  if s.ladder n = Ladder.running then
    let s := if Tab.get s.watch.cls n Cls.de < cls then
        s.updWatch (fun w => { w with
          cls := Tab.put w.cls n cls,
          timers := match Tab.get? w.timers n with | some t => Tab.put w.timers n (min t (s.now + s.grace cls)) | none => w.timers })
      else s
    match force with | some k => s.performStep n k | none => s
  else
    let s := ((s.wr R.WATCH_SRC_STATUS.LADDER Ladder.running n).wr R.WATCH_SRC_STATUS.EXTENDS 0 n).wr R.WATCH_SRC_STATUS.PRIMARY_SEQ seq n
    let s := s.updWatch (fun w => { w with cls := Tab.put w.cls n cls })
    let s := s.flag R.WATCH_EVENT.FAULT R.WATCH_FAULT_CNT.COUNT
    match force with | some k => s.performStep n k | none => s.takeStep n (s.rd R.WATCH_SRC_CFG.FIRST_STEP n)

/-! ### Events -/

/-- Whether source `n` is in the consequence set of unit `u` ("Cascades"); every source is in the package-wide one. -/
def State.inConsequence (s : State) (u n : Nat) : Bool :=
  u == packageWindow || srcUnit n == u
    || (decide (52 ≤ n) && decide (n ≤ 56) && natBit (s.rd R.WATCH_RU_CFG.CONSEQ_TMO u) (n - 52))
    || (decide (291 ≤ n) && decide (n ≤ 306) && s.rd R.WATCH_RU_CFG.CONSEQ_RAIL u == 1)

/-- The open window that an event of source `n` falls into: the one that opened first (R359). -/
def State.shadowOf (s : State) (n : Nat) : Option Shadow :=
  s.watch.shadows.find? (fun x => s.inConsequence x.unit n && (match x.closeAt with | some t => decide (s.now < t) | none => true))

/-- The class that OVR gives an event (R349). -/
def State.srcClass (s : State) (n cls : Nat) : Nat :=
  let o := s.rd R.WATCH_SRC_CFG.OVR n
  if 1 ≤ o ∧ o ≤ 4 then o else cls

/-- A CONSEQUENT event (R359). -/
def State.consequent (s : State) (e : FaultEv) (cls : Nat) (ovr : Bool) (x : Shadow) : State :=
  let s := (s.wr R.WATCH_SRC_STATUS.CONSEQ_LAST 1 e.src).wr R.WATCH_SRC_STATUS.LAST_CODE e.cause e.src
  let s := if x.unit < packageWindow then
      s.wr R.WATCH_RU_STATUS.SHADOW_CONSEQ (min 0xFFFF (s.rd R.WATCH_RU_STATUS.SHADOW_CONSEQ x.unit + 1)) x.unit else s
  let s := if cls = Cls.ce then s.bump R.WATCH_SRC_CE_CNT.COUNT 1 e.src else s
  if x.logged < 16 ∧ (cls ≠ Cls.ce ∨ s.rd R.WATCH_SRC_CFG.LOG_CE e.src = 1) then
    (s.wlog e.src cls ovr true 0 e.cause (some x.link) e.detail).updWatch (fun w => { w with
      shadows := w.shadows.map (fun y => if y.unit = x.unit then { y with logged := y.logged + 1 } else y) })
  else s

/-- A DE, UC or FA event that is not CONSEQUENT (R351). -/
def State.seriousEvent (s : State) (e : FaultEv) (cls : Nat) (ovr : Bool) (force : Option Nat) : State :=
  let n := e.src
  let seq := s.rd R.WATCH_LOG_HEAD.NEXT_SEQ
  let s := (s.wr R.WATCH_SRC_STATUS.CONSEQ_LAST 0 n).wr R.WATCH_SRC_STATUS.LAST_CODE e.cause n
  let s := (s.wr R.WATCH_SRC_STATUS.PENDING 1 n).bump R.WATCH_SRC_EVENT_CNT.COUNT 1 n
  let s := s.wr R.WATCH_SRC_STATUS.CLASS (max (s.rd R.WATCH_SRC_STATUS.CLASS n) cls) n
  (s.wlog n cls ovr false 0 e.cause none e.detail).ladderEvent n cls seq force

/-- A CE event that is not CONSEQUENT, without the promotion of R350. -/
def State.ceCount (s : State) (e : FaultEv) (ovr : Bool) : State :=
  let n := e.src
  let s := ((s.wr R.WATCH_SRC_STATUS.CONSEQ_LAST 0 n).wr R.WATCH_SRC_STATUS.LAST_CODE e.cause n).bump R.WATCH_SRC_CE_CNT.COUNT 1 n
  if s.rd R.WATCH_SRC_CFG.LOG_CE n = 1 then s.wlog n Cls.ce ovr false 0 e.cause none e.detail else s

/-- The number of the CE window that runs (R350). -/
def State.ceWindow (s : State) : Nat := s.epoch / (s.rd R.WATCH_CFG.CE_WINDOW_S * 1000000000)

/-- CE counts of an earlier window are dropped. -/
def State.ceRoll (s : State) : State :=
  if s.ceWindow = s.watch.ceWin then s else s.updWatch (fun w => { w with ce := [], ceWin := s.ceWindow })

/-- A CE event that is not CONSEQUENT (R350). -/
def State.ceEvent (s : State) (e : FaultEv) (ovr : Bool) : State :=
  let s := (s.ceCount e ovr).ceRoll
  let k := Tab.get s.watch.ce e.src 0 + 1
  if s.rd R.WATCH_CFG.CE_THRESH ≤ k then
    let s := s.updWatch (fun w => { w with ce := Tab.del w.ce e.src })
    let d : FaultEv := ⟨e.src, Cls.de, Cause.ceStorm, 0⟩
    if s.srcClass e.src Cls.de = Cls.ce then s.ceCount d true
    else s.seriousEvent d (s.srcClass e.src Cls.de) (s.srcClass e.src Cls.de != Cls.de || ovr) none
  else s.updWatch (fun w => { w with ce := Tab.put w.ce e.src k })

/-- One event on a Watch source (R348 to R351, R359). In PERCH no event arises (R367); unused sources raise none. `force`: the step
that R354 has the ladder take at once. -/
def State.reportAt (s : State) (e : FaultEv) (force : Option Nat) : State :=
  if !srcUsed e.src || !s.coreOn then s
  else
    let cls := s.srcClass e.src e.cls
    let o := s.rd R.WATCH_SRC_CFG.OVR e.src
    let ovr := decide (1 ≤ o ∧ o ≤ 4)
    if s.rd R.WATCH_SRC_CFG.ENABLE e.src = 0 then
      if cls = Cls.ce then s.bump R.WATCH_SRC_CE_CNT.COUNT 1 e.src else s.bump R.WATCH_SRC_EVENT_CNT.COUNT 1 e.src
    else
      match s.shadowOf e.src with
      | some x => s.consequent e cls ovr x
      | none => if cls = Cls.ce then s.ceEvent e ovr else s.seriousEvent e cls ovr force

/-- One event on a Watch source. -/
def State.report (s : State) (src cls cause : Nat) (detail : Nat := 0) : State :=
  s.reportAt ⟨src, cls, cause, detail⟩ none

/-! ### Requests for a unit's reset (R361, R368) -/

/-- What a BLOCK_RESET command or a RESET write leads to. -/
inductive ResetReq where
  | unused | joined | started | warm | alarm
deriving DecidableEq, Repr

/-- What the request for a reset of unit `u` leads to. -/
def State.resetReq (s : State) (u : Nat) : ResetReq :=
  if !unitUsed u then .unused
  else if s.unitState u = Unit.resetting then .joined
  else if s.resetWithin1s u then (if s.warmWithin then .alarm else .warm)
  else .started

/-- PACKAGE_WARM_RESET, or TRAY_ALARM in its place, that no ladder takes. -/
def State.takeWarmFor (s : State) (unit : Nat) : State :=
  let k := s.warmOrAlarm
  let seq := s.rd R.WATCH_LOG_HEAD.NEXT_SEQ
  let s := s.logStep noSource 0 k none unit
  if k = 4 then s.startWarm .watch seq else s.trayAlarm

/-- Carry out the request. -/
def State.requestReset (s : State) (u : Nat) (by_ : ResetBy) : State :=
  match s.resetReq u with
  | .unused | .joined => s
  | .started =>
    let seq := s.rd R.WATCH_LOG_HEAD.NEXT_SEQ
    (s.logStep noSource 0 3 none u).startUnitReset u by_ seq
  | .warm | .alarm => s.takeWarmFor u

/-- A unit leaves reset (R354, R359). -/
def State.unitLeaves (s : State) (u : Nat) : State :=
  let s := (s.wr R.WATCH_RU_STATUS.STATE Unit.normal u).wlog noSource 0 false false 3 0 none u
  let s := s.updWatch (fun w => { w with
    unitBy := Tab.del w.unitBy u, unitAt := Tab.del w.unitAt u,
    shadows := w.shadows.map (fun x => if x.unit = u then { x with closeAt := some (s.now + 50000) } else x) })
  s.act (.resetEnded u)

/-- A unit has not left reset within twice its limit (R354): FAILED, and PACKAGE_WARM_RESET at once. -/
def State.unitOverdue (s : State) (u : Nat) : State :=
  let by_ := Tab.get? s.watch.unitBy u
  let s := (s.wr R.WATCH_RU_STATUS.STATE Unit.failed u).wlog noSource 0 false false 3 1 none u
  let s := s.updWatch (fun w => { w with unitBy := Tab.del w.unitBy u, unitAt := Tab.del w.unitAt u })
  match by_ with
  | some (.ladder n) =>
    if s.ladder n = Ladder.running then s.performStep n s.warmOrAlarm
    else s.reportAt ⟨Src.watchSelf, Cls.fa, Cause.watchInternal, 0⟩ (some s.warmOrAlarm)
  | _ => s.reportAt ⟨Src.watchSelf, Cls.fa, Cause.watchInternal, 0⟩ (some s.warmOrAlarm)

end Sys2Proof.Machine
end

