-- ==== Sys2Proof/Machine/JessOps.lean ====
section
/-! DEFINITION. Jess as a shared operation (10_jess_access.md): the decision of a checker, the refusal, the master table, commits and syncs. -/

namespace Sys2Proof.Machine

/-- A region's ENABLE. -/
def RegionW.enabled (r : RegionW) : Bool := natBit r.attr 0

/-- An enabled region matches a granule that lies between its start and end. -/
def RegionW.covers (r : RegionW) (g : Nat) : Bool := r.enabled && decide (r.start ≤ g) && decide (g ≤ r.stop)

/-- The class mask holds the class. -/
def RegionW.admits (r : RegionW) (cls : Nat) : Bool := natBit r.attr (20 + cls)

/-- The region grants the privilege every right that the kind needs (R236). -/
def RegionW.grants (r : RegionW) (p : Priv) (k : AccKind) : Bool :=
  let b := match p with | .f => 8 | .s => 12 | .u => 16
  match k with
  | .r => natBit r.attr b
  | .w => natBit r.attr (b + 1)
  | .x => natBit r.attr (b + 2)
  | .a => natBit r.attr b && natBit r.attr (b + 1)

def RegionW.mode (r : RegionW) : Nat := r.attr / 2 ^ 32 % 4
def RegionW.domain (r : RegionW) : Nat := r.attr / 2 ^ 36 % 4096

/-- The numbers of the enabled regions of a table that match the granule at `g`. -/
def jessMatch (t : Tab RegionW) (g : Nat) : List Nat := (t.filter (fun e => e.2.covers g)).map (·.1)

/-- The default map (R238). -/
def defaultMap (rg : Range) (p : Priv) (k : AccKind) : Bool :=
  match rg, p, k with
  | _, .u, _ => false
  | .hbm, .f, _ => true
  | .hbm, .s, .x => false
  | .hbm, .s, _ => true
  | .roost, .f, .x => false
  | .roost, .f, _ => true
  | .tile, _, .r => true
  | .tile, _, .w => true
  | .csr, .f, .r => true
  | .csr, .f, .w => true
  | _, _, _ => false

/-- Reasons of a refusal, by their code in JESS_LOG_i_INFO. -/
inductive JReason where
  | noMatch | defaultDenied | class_ | perm | overlap | fixed | xRange
deriving DecidableEq, Repr

def JReason.code : JReason → Nat
  | .noMatch => 0 | .defaultDenied => 1 | .class_ => 2 | .perm => 3 | .overlap => 4 | .fixed => 5 | .xRange => 6

/-- A refusal's report: first byte of the first failing part, its regions, the reason, whether the request had more than one part. -/
structure JFail where
  addr : Nat
  regA : Nat
  regB : Nat
  reason : JReason
  straddle : Bool
deriving DecidableEq, Repr

/-- Whether an address lies in the JESS block's CSR range. -/
def inJessBlock (a : Nat) : Bool := decide (csrBase + 0x3000000 ≤ a) && decide (a < csrBase + 0x4000000)

/-- The decision on one part that the regions `ms` match (R237): none when it passes. -/
def jessPart (t : Tab RegionW) (ms : List Nat) (m : Master) (k : AccKind) (a : Nat) : Option (JReason × Nat × Nat) :=
  let rg := rangeOf a
  if inJessBlock a && !(m.cls == 0 && m.priv == .f) then some (.fixed, 0x100, 0x100)
  else if inJessBlock a && k != .x then none
  else if k == .x && rg != .hbm then some (.xRange, (ms.head?).getD 0x100, 0x100)
  else
    match ms with
    | x :: y :: _ => some (.overlap, x, y)
    | [x] =>
      match Tab.get? t x with
      | none => none
      | some r => if !r.admits m.cls then some (.class_, x, 0x100) else if !r.grants m.priv k then some (.perm, x, 0x100) else none
    | [] =>
      if m.cls == 4 || m.priv == .u then some (.noMatch, 0x100, 0x100)
      else if defaultMap rg m.priv k then none else some (.defaultDenied, 0x100, 0x100)

/-- The request's granules, each with the set of regions that match it. -/
def jessGranules (t : Tab RegionW) (a n : Nat) : List (Nat × List Nat) :=
  (List.range ((a + n - 1) / 64 - a / 64 + 1)).map (fun i => let g := (a / 64 + i) * 64; (g, jessMatch t g))

/-- The first granule of each maximal run that the same regions match; `prev`: the set of the granule before. -/
def jessRuns : Option (List Nat) → List (Nat × List Nat) → List (Nat × List Nat)
  | _, [] => []
  | prev, p :: r => if prev = some p.2 then jessRuns prev r else p :: jessRuns (some p.2) r

/-- The decision on a whole request of `n` bytes at `a` against one table version (R240): none when every part passes. -/
def jessDecide (t : Tab RegionW) (m : Master) (k : AccKind) (a n : Nat) : Option JFail :=
  let ps := jessRuns none (jessGranules t a n)
  ps.findSome? (fun p =>
    (jessPart t p.2 m k p.1).map (fun r => { addr := max a p.1, regA := r.2.1, regB := r.2.2, reason := r.1, straddle := decide (1 < ps.length) }))

/-! ### The checkers -/

/-- A region of the master table as its registers hold it. -/
def State.region (s : State) (n : Nat) : RegionW :=
  { start := (s.csrAt (R.JESS_REGION_START.addr n 0 0)).toNat, stop := (s.csrAt (R.JESS_REGION_END.addr n 0 0)).toNat,
    attr := (s.csrAt (R.JESS_REGION_ATTR.addr n 0 0)).toNat }

/-- The enabled regions of the master table. -/
def State.masterTable (s : State) : Tab RegionW :=
  ((List.range 256).map (fun n => (n, s.region n))).filter (fun e => e.2.enabled)

def State.checker (s : State) (k : Nat) : Checker := Tab.get s.jess.checkers k .reset

/-- The table a checker decides with: its replica; a checker that must reload holds requests until it has, and then decides with the
master table (R248). -/
def State.checkTable (s : State) (k : Nat) : Tab RegionW :=
  let c := s.checker k
  if c.reloading then s.masterTable else c.replica

/-- Checker `k`'s decision on a request. -/
def State.jessFails (s : State) (k : Nat) (m : Master) (kind : AccKind) (a n : Nat) : Option JFail :=
  jessDecide (s.checkTable k) m kind a n

/-- Record a refusal (R241, R247): the log entry, VIOLATION and its counter, and the Watch fault. -/
def State.jessRefuse (s : State) (k : Nat) (m : Master) (kind : AccKind) (f : JFail) : State :=
  let seq := s.rd R.JESS_LOG_HEAD.NEXT_SEQ
  let i := seq % 32
  let info := m.id % 65536 + m.priv.code * 2 ^ 16 + kind.code * 2 ^ 18 + f.regA % 512 * 2 ^ 20 + f.regB % 512 * 2 ^ 29 + k % 16 * 2 ^ 38
    + f.reason.code * 2 ^ 42 + b2n f.straddle * 2 ^ 45 + b2n m.remote * 2 ^ 46 + seq * 2 ^ 48
  let s := ((s.wr R.JESS_LOG_ADDR (f.addr % 2 ^ 50) i).wr R.JESS_LOG_TIME s.epoch i).wr R.JESS_LOG_INFO info i
  let s := s.wr R.JESS_LOG_HEAD.NEXT_SEQ (seq + 1)
  let s := s.flag R.JESS_EVENT.VIOLATION R.JESS_VIOL_CNT.COUNT
  let ov := f.reason == .overlap
  let s := if ov then s.flag R.JESS_EVENT.OVERLAP R.JESS_OVERLAP_CNT.COUNT else s
  s.report (Src.jess k) (if ov then Cls.uc else Cls.ce) (if ov then Cause.overlap else Cause.accessViolation) seq

/-! ### The master table's writes -/

/-- The RESULT of validating a staged write (R242). -/
def stageResult (locked : Bool) (start stop mode : Nat) : Nat :=
  let hitsHbm := decide (start < hbmEnd)
  let hitsTile := decide (start < tileEnd) && decide (tileBase ≤ stop)
  let hitsCsr := decide (start < csrEnd) && decide (csrBase ≤ stop)
  if locked then 1
  else if stop < start then 2
  else if mode = 3 ∨ (mode = 2 ∧ (hitsHbm || hitsTile || hitsCsr)) ∨ (mode = 1 ∧ (hitsTile || hitsCsr)) then 3
  else if mode = 2 ∧ ¬ (roostBase ≤ start ∧ stop < roostEnd) then 4
  else 0

/-- A GO of JESS_STAGE_CMD for region `n` (R242, R243, R245). -/
def State.jessCommit (s : State) (n : Nat) : State :=
  let start := (s.csrAt (R.JESS_STAGE_START.addr 0 0 0)).toNat
  let stop := (s.csrAt (R.JESS_STAGE_END.addr 0 0 0)).toNat
  let attr := (s.csrAt (R.JESS_STAGE_ATTR.addr 0 0 0)).toNat
  let res := stageResult (s.rd R.JESS_REGION_ATTR.LOCK n == 1) start stop (attr / 2 ^ 32 % 4)
  let s := s.wr R.JESS_STAGE_STATUS.RESULT res
  if res = 0 then
    let s := ((s.wr R.JESS_REGION_START start n).wr R.JESS_REGION_END stop n).wr R.JESS_REGION_ATTR attr n
    let s := s.wr R.JESS_STAGE_STATUS.COMMITS (s.rd R.JESS_STAGE_STATUS.COMMITS + 1)
    s.updJess (fun j => { j with
      commits := j.commits + 1,
      checkers := (List.range 15).foldl (fun t k => Tab.upd t k .reset (fun c =>
        if c.reloading then c else { c with queue := c.queue ++ [(n, { start := start, stop := stop, attr := attr })] })) j.checkers })
  else s.flag R.JESS_EVENT.STAGE_ERR R.JESS_STAGE_ERR_CNT.COUNT

/-- A checker applies its oldest waiting write whole (R245). -/
def Checker.applyOne (c : Checker) : Checker :=
  match c.queue with
  | [] => c
  | (n, r) :: q => { c with replica := if r.enabled then Tab.put c.replica n r else Tab.del c.replica n, queue := q, applied := c.applied + 1 }

/-- A GO of JESS_SYNC (R246). -/
def State.jessSyncGo (s : State) : State :=
  let n := (s.rd R.JESS_SYNC_SEQ.REQ_SEQ + 1) % 2 ^ 32
  (s.wr R.JESS_SYNC_SEQ.REQ_SEQ n).updJess (fun j => { j with syncs := j.syncs ++ [(n, j.commits)] })

/-- Whether the oldest sync can complete: every checker has applied every write committed before its GO (R246, R248). -/
def State.jessSyncReady (s : State) : Bool :=
  match s.jess.syncs with
  | [] => false
  | (_, need) :: _ => (List.range 15).all (fun k => !(s.checker k).reloading && decide (need ≤ (s.checker k).applied))

/-- A checker reloads the whole master table (R248). -/
def State.jessReload (s : State) (k : Nat) : State :=
  let t := s.masterTable
  s.updJess (fun j => { j with checkers := Tab.put j.checkers k { replica := t, queue := [], applied := j.commits, reloading := false } })

/-- A checker must reload before it accepts a request (R248). -/
def State.jessMustReload (s : State) (k : Nat) : State :=
  s.updJess (fun j => { j with checkers := Tab.upd j.checkers k .reset (fun c => { c with reloading := true, queue := [] }) })

end Sys2Proof.Machine
end

