-- ==== Sys2Proof/Machine/CsrOps.lean ====
section
/-! DEFINITION. Access to the CSR space: the checks that come before a register is reached (R4, R8, R29, R235, R30) and the effect of a write
on a register's fields by their access codes (R6, R7). -/

namespace Sys2Proof.Machine

/-- The Watch source that records a bad access to the offset `a` (R4): that of its block, TOP's where it lies in none. -/
def csrSource (a : Nat) : Nat :=
  let n := a / 0x1000000
  if n < 12 then 75 + n
  else if 16 ≤ n ∧ n < 20 then 87 + (n - 16)
  else if 32 ≤ n ∧ n < 40 then 91 + (n - 32)
  else 75

/-- The reset unit whose CSR range (table "CSR range of each reset unit") holds the register at offset `a`; none for a register that stays reachable. -/
def csrUnit (a : Nat) : Option Nat :=
  let n := a / 0x1000000
  let o := a % 0x1000000
  if 16 ≤ n ∧ n < 20 then
    (if o < 0x600000 ∧ o % 0x10000 ≠ 0 then some (12 * (n - 16) + o / 0x10000 % 12) else none)
  else if 32 ≤ n ∧ n < 40 then
    (if o < 0x40000 ∨ (0x800000 < o ∧ o < 0x800800) then some (48 + (n - 32)) else none)
  else if n = 9 then
    (if o < 0x200000 then (if o % 0x100000 = 0 then none else some (56 + o / 0x100000))
     else if 0x400000 ≤ o ∧ o < 0x480000 then (if o % 0x10000 = 0 then none else some (58 + (o - 0x400000) / 0x10000))
     else if 0x800000 < o ∧ o < 0x810000 then some 66 else none)
  else if n = 8 then
    (if a = R.CRYPT_STATUS.addr 0 0 0 ∨ a = R.CRYPT_JOURNAL.addr 0 0 0 then none else some 67)
  else if n = 10 then
    (if o < 0x400000 ∧ a ≠ R.KTL_LINK_STATUS.addr (o / 0x10000) 0 0 then some (68 + o / 0x10000) else none)
  else none

/-- R4 and R8: the access is a plain one of 32 or 64 bits, aligned, to a register, and not a 32-bit write to a W64 register. -/
def csrForm (a : Nat) (write plain : Bool) (size sub : Nat) : Bool :=
  match findReg a with
  | none => false
  | some r => plain && ((size == 8 && sub == 0) || (size == 4 && (sub == 0 || sub == 4) && !(write && r.w64)))

/-- The checks on a CSR access, in their order (R29, R4, R235, R30): none when it is admitted, else the state with what the refusal does. A FAILED unit has not left its reset (R354). With the Mews die off, no
access reaches a register. -/
def State.csrGate (s : State) (a : Nat) (kind : AccKind) (m : Master) (size sub : Nat) (plain : Bool) : Option State :=
  if !s.coreOn then some (s.errTo m)
  else if m.remote then some (s.errTo m)
  else if !csrForm a (kind == .w) plain size sub then some ((s.report (csrSource a) Cls.uc Cause.csrAccess).errTo m)
  else
    match s.jessFails 14 m kind (csrBase + a + sub) size with
    | some f => some ((s.jessRefuse 14 m kind f).errTo m)
    | none =>
      match csrUnit a with
      | some u => if s.unitState u = Unit.resetting ∨ s.unitState u = Unit.failed then some (s.errTo m) else none
      | none => none

/-- The bits that a write addresses (R7). -/
def csrMask (w : CsrWr) : Word :=
  if w.size = 8 then BitVec.allOnes 64 else if w.sub = 4 then 0xFFFFFFFF00000000 else 0xFFFFFFFF

/-- The written bits at their places in the 64-bit register; 0 in a half that the write does not address. -/
def csrWord (w : CsrWr) : Word :=
  (if w.size = 8 then BitVec.ofNat 64 w.val else if w.sub = 4 then BitVec.ofNat 64 (w.val % 2 ^ 32 * 2 ^ 32) else BitVec.ofNat 64 (w.val % 2 ^ 32)) &&& csrMask w

/-- The bits of a field. -/
def fieldMask (lo w : Nat) : Word := BitVec.ofNat 64 ((2 ^ w - 1) <<< lo)

/-- A write's effect on the fields of a register by their access codes (table "Access codes", R6). -/
def applyFields : List (Nat × Nat × Access) → Word → Word → Word → Word
  | [], old, _, _ => old
  | (lo, w, acc) :: r, old, val, mask =>
    let f := fieldMask lo w
    let new := match acc with
      | .rw => (old &&& ~~~(f &&& mask)) ||| (val &&& f &&& mask)
      | .w1c => old &&& ~~~(val &&& f &&& mask)
      | .w1s => old ||| (val &&& f &&& mask)
      | _ => old
    applyFields r new val mask

/-- The value of the register at `a` after the write, by its fields' access codes. -/
def State.csrMerged (s : State) (a : Nat) (w : CsrWr) : Word :=
  match findReg a with
  | some r => applyFields r.fields (s.csrAt a) (csrWord w) (csrMask w)
  | none => s.csrAt a

/-- A write to the register at offset `a`: refused as csrGate says, or acted on by `f` and completed. -/
def State.csrWrite (s : State) (a : Nat) (w : CsrWr) (f : State → State) : State :=
  match s.csrGate a .w w.m w.size w.sub w.plain with
  | some s' => s'
  | none => (f s).emit (.done w.m [])

/-- A write that must come from WARDEN_CORE at privilege F (R281, R299): from another master it has no effect and completes with an error. -/
def State.csrWriteF (s : State) (a : Nat) (w : CsrWr) (f : State → State) : State :=
  match s.csrGate a .w w.m w.size w.sub w.plain with
  | some s' => s'
  | none => if w.m.isWardenF then (f s).emit (.done w.m []) else s.errTo w.m

/-- R24 and R26 at a port: none when the address and the length decode, else the state after the rejection (`src`: the port's ADDR_DEC source). -/
def State.decodeGate (s : State) (src : Nat) (m : Master) (a n : Nat) : Option State :=
  if 2 ^ 56 ≤ a then some ((s.report src Cls.uc Cause.addrDecode).errTo m)
  else if a / 2 ^ 50 = s.pkg ∧ !decodes (a % 2 ^ 50) n then some ((s.report src Cls.uc Cause.addrDecode).errTo m)
  else none

end Sys2Proof.Machine
end

