-- ==== Sys2Proof/Machine/LineOps.lean ====
section
/-! DEFINITION. Lines of memory below the controllers: the address maps of HBM and Roost, the lines as the devices store them with the errors that stand in their cells, the sector table, a port's
table match, the Mews cache's lines. -/

namespace Sys2Proof.Machine

/-! ### Address maps -/

/-- The pseudo-channel (0 to 511) and the pseudo-channel-local address of a package-local HBM address under a locality map (R148). -/
def hbmMap (loc a : Nat) : Nat × Nat :=
  if natBit loc (a / 2 ^ 32) then
    let k := a / 2 ^ 32
    let d := a / 2 ^ 30 % 4
    let o := a % 2 ^ 30
    let g := o / 512
    let q := (g % 128) ^^^ (g / 2 ^ 7 % 128) ^^^ (g / 2 ^ 14 % 128)
    ((2 * d + q / 64) * 64 + q % 64, k * 2 ^ 23 + g / 128 * 512 + o % 512)
  else
    let g := a / 512
    ((g % 512) ^^^ (g / 2 ^ 9 % 512) ^^^ (g / 2 ^ 18 % 512) ^^^ (g / 2 ^ 27 % 8), g / 512 * 512 + a % 512)

/-- Where HBM stores what a package-local address names: the pseudo-channel's 768 MiB follow one another. -/
def hbmKey (loc a : Nat) : Nat := let p := hbmMap loc a; p.1 * 0x30000000 + p.2

/-- Line, bank and row of a pseudo-channel-local address ("The default interleave"). -/
def hbmBank (l : Nat) : Nat := ((l / 2 ^ 10) ^^^ (l / 2 ^ 14)) % 16
def hbmRow (l : Nat) : Nat := l / 2 ^ 14

def State.pcOf (s : State) (a : Nat) : Nat := (hbmMap s.hbm.loc a).1 % 64
def State.stackOf (s : State) (a : Nat) : Nat := (hbmMap s.hbm.loc a).1 / 64
def State.localOf (s : State) (a : Nat) : Nat := (hbmMap s.hbm.loc a).2

/-- The Roost map (R188): channel, sub-channel, rank, bank, row, channel sector, line. -/
structure RoostAt where
  ch : Nat
  sub : Nat
  rank : Nat
  bank : Nat
  row : Nat
  cs : Nat
  line : Nat
deriving DecidableEq, Repr

/-- Bank group, bank in its group, and the column address of the burst ("Address map"). -/
def RoostAt.bg (r : RoostAt) : Nat := r.bank % 8
def RoostAt.ba (r : RoostAt) : Nat := r.bank / 8
def RoostAt.col (r : RoostAt) : Nat := (r.cs % 4 * 32 + r.line / 2) * 16

def roostMap (a : Nat) : RoostAt :=
  let o := a - roostBase
  let s := o / 4096
  let line := o / 64 % 64
  let cs := s / 8
  { ch := (s ^^^ (s / 8) ^^^ (s / 2 ^ 11) ^^^ (s / 2 ^ 19)) % 8, sub := line % 2, rank := cs / 128 % 2,
    bank := ((cs / 4) ^^^ (cs / 256)) % 32, row := cs / 256, cs := cs, line := line }

/-- The address of a channel's sector and line, the inverse of the map: the sector's low three bits are those that give the channel. -/
def roostAddr (ch cs line : Nat) : Nat :=
  let low := (ch ^^^ cs ^^^ (cs / 2 ^ 8) ^^^ (cs / 2 ^ 16)) % 8
  roostBase + (cs * 8 + low) * 4096 + line * 64

/-- The key under which a line's bytes are stored. -/
def State.lineKey (s : State) (a : Nat) : Nat := if a < hbmEnd then hbmKey s.hbm.loc a else a

/-! ### The sector table in HBM (R213, R214) -/

def SecRec.bytes (r : SecRec) : List Byte :=
  slice (r.tag ++ List.replicate 16 0) 0 16 ++ leBytes 4 r.sealCtr ++ leBytes 4 r.nextCtr ++ leBytes 5 r.lsn
    ++ leBytes 2 (r.domain % 4096 + b2n r.setB * 4096 + b2n r.valid * 8192 + b2n r.worn * 16384 + b2n r.failed * 32768) ++ [0]

def SecRec.ofBytes (l : List Byte) : SecRec :=
  let w := leNat (slice l 29 2)
  { tag := l.take 16, sealCtr := leNat (slice l 16 4), nextCtr := leNat (slice l 20 4), lsn := leNat (slice l 24 5) % 2 ^ 34, domain := w % 4096,
    setB := natBit w 12, valid := natBit w 13, worn := natBit w 14, failed := natBit w 15 }

def State.secRec (s : State) (sec : Nat) : SecRec := Tab.get s.crypt.recs sec .zero

def State.putRec (s : State) (sec : Nat) (r : SecRec) : State :=
  s.updCrypt (fun c => { c with recs := if r = .zero then Tab.del c.recs sec else Tab.put c.recs sec r })

def State.cryptReady (s : State) : Bool := s.rd R.CRYPT_STATUS.STATE == 2
def State.stblBase (s : State) : Nat := s.rd R.CRYPT_STBL_BASE.BASE * 65536

/-- The index of the first of the two sector records that a line of HBM holds, where it lies in the sector table. -/
def State.stblIdx (s : State) (a : Nat) : Option Nat :=
  if s.cryptReady && decide (s.stblBase ≤ a) && decide (a < s.stblBase + 2 ^ 33) then some ((a - s.stblBase) / 32) else none

/-! ### Lines as the devices store them -/

/-- An HBM line of the area in which Tirlo has placed the session table and the page tables, zero-filled as it was placed (R94, R466). -/
def State.tabArea (s : State) (a : Nat) : Bool := decide (s.ses.tabFirst * 65536 ≤ a) && decide (a < (s.ses.tabFirst + s.ses.tabCount) * 65536)

/-- The 64 stored bytes of the line at `a`, which HBM or Roost keeps under `key`. -/
def State.lineAt (s : State) (a key : Nat) : List Byte :=
  match s.stblIdx a with
  | some i => (s.secRec i).bytes ++ (s.secRec (i + 1)).bytes
  | none => if s.tabArea a && (s.byte? key).isNone then List.replicate 64 0 else s.bytesAt key 64

/-- The line kept under `key` with the given stored bytes and poison mark; a poisoned Roost line is stored as the poison pattern, whose data are zero. Check symbols are
written with the line (R163), so errors that stood in its cells are gone. -/
def State.putAt (s : State) (a key : Nat) (l : List Byte) (poison : Bool) : State :=
  let s := { s with cells := Tab.del s.cells key }
  match s.stblIdx a with
  | some i => (s.putRec i (.ofBytes (l.take 32))).putRec (i + 1) (.ofBytes (l.drop 32))
  | none => (s.store key (if poison && rangeOf a == .roost then List.replicate 64 0 else l)).setPoison key poison

/-- The line at `a` under the map in force. -/
def State.storedLine (s : State) (a : Nat) : List Byte := s.lineAt a (s.lineKey a)
def State.putLine (s : State) (a : Nat) (l : List Byte) (poison : Bool) : State := s.putAt a (s.lineKey a) l poison
def State.linePoison (s : State) (a : Nat) : Bool := s.poisoned (s.lineKey a)

/-- A line's data under PLAIN or SCRAMBLE. -/
def State.lineData (s : State) (mode a : Nat) : List Byte := lineTransform s.crypt.scramble mode a (s.storedLine a)

def State.putData (s : State) (mode a : Nat) (l : List Byte) (poison : Bool) : State :=
  s.putLine a (lineTransform s.crypt.scramble mode a l) poison

/-- The contents of the line kept under `key` are lost: no byte of it has been written since, and nothing zeroed it (R466). -/
def State.lostAt (s : State) (a key : Nat) : Bool := (s.stblIdx a).isNone && (s.byte? key).isNone && !s.zeroed key && !s.tabArea a

/-- The errors that a read of the line kept under `key` meets beside those of the wire: what its cells have developed since it was last written, or, where the contents are lost, the undefined
check code's (R466). -/
def State.cellErrs (s : State) (a key : Nat) : List (Nat × Nat) :=
  Tab.get s.cells key [] ++ (if s.lostAt a key then Config.lostErrs s.memGen key else [])

/-- The cells of some lines develop errors: each line's address with its errors. -/
def State.decay (s : State) (l : List (Nat × List (Nat × Nat))) : State :=
  l.foldl (fun s e =>
    let key := s.lineKey (e.1 / 64 * 64)
    { s with cells := Tab.put s.cells key (Tab.get s.cells key [] ++ e.2) }) s

/-- Data merged over old data under a byte mask. -/
def mergeMask (old new : List Byte) (mask : Nat) : List Byte :=
  (List.range old.length).map (fun i => if natBit mask i then (new[i]?).getD 0 else (old[i]?).getD 0)

/-! ### A port's match of its table -/

/-- The checker of a request that does not pass through the Mews cache (table "Checkers"). -/
def State.checkerOf (s : State) (a : Nat) : Nat :=
  match rangeOf a with
  | .hbm => 1 + s.stackOf a
  | .roost => 9
  | .tile => 10 + (a - tileBase) / 0x400000 / 96
  | _ => 14

/-- The crypt mode and key domain of the granule at `a`, by checker `k`'s table: the one region's, or the default (table "Crypt modes by target"). -/
def State.modeAt (s : State) (k a : Nat) : Nat × Nat :=
  let t := s.checkTable k
  match jessMatch t (a / 64 * 64) with
  | [n] => match Tab.get? t n with | some r => (r.mode, r.domain) | none => (0, 0)
  | _ => match rangeOf a with | .hbm => (1, 0) | .roost => (2, 0) | _ => (0, 0)

/-! ### The Mews cache and its ward filter (R286) -/

def State.cline? (s : State) (a : Nat) : Option CLine := Tab.get? s.mews.cache a

def State.dropLine (s : State) (a : Nat) : State := s.updMews (fun m => { m with cache := Tab.del m.cache a })

/-- A write or an invalidation breaks every reservation on the line (R294), but for that of core `keep`. -/
def State.breakResv (s : State) (a : Nat) (keep : Option Nat) : State :=
  s.updMews (fun m => { m with resv := m.resv.filter (fun e => e.2.1 != a || some e.1 == keep) })

/-- A fill or write-back carries no identity: its port matches it against its table (R237). OVERLAP is recorded as a refusal. -/
def State.matchOnly (s : State) (a : Nat) : Option (Nat × Nat) :=
  if (jessMatch (s.checkTable (s.checkerOf a)) a).length ≤ 1 then some (s.modeAt (s.checkerOf a) a) else none

def State.overlapAt (s : State) (m : Master) (kind : AccKind) (a : Nat) : State :=
  let k := s.checkerOf a
  match jessMatch (s.checkTable k) a with
  | x :: y :: _ => s.jessRefuse k m kind { addr := a, regA := x, regB := y, reason := .overlap, straddle := false }
  | _ => s

/-- The lines of locked ranges are refilled from memory once the request has been performed. -/
def State.lockedRange (s : State) (a : Nat) : Nat :=
  let inR := fun (f e b : RF) (i : Nat) => s.rd e i == 1 && decide (s.rd b i * 65536 ≤ a) && decide (a < s.rd b i * 65536 + s.rd f i * 65536)
  if inR R.MEWS_RING_POOL.SIZE R.MEWS_RING_POOL.ENABLE R.MEWS_RING_POOL.BASE 0 then 1
  else
    match (List.range 8).find? (fun i => inR R.MEWS_LOCK.SIZE R.MEWS_LOCK.ENABLE R.MEWS_LOCK.BASE i) with
    | some i => i + 2
    | none => 0

/-- The way that a locked line of a set takes: the highest of 15 to 12 that no other locked line of the set holds. -/
def State.lockWay (s : State) (a : Nat) : Nat :=
  let used := (s.mews.cache.filter (fun e => e.1 / 64 % 65536 == a / 64 % 65536 && e.2.lock != 0 && e.1 != a)).map (fun e => e.2.way)
  ([15, 14, 13, 12].find? (fun w => !used.contains w)).getD 12

/-! ### The paths between dies (R18, R20) -/

/-- The die of a master's port: 0 to 3 a Talon die, 4 Mews. -/
def masterDie (m : Master) : Nat := if m.cls = 2 ∧ !m.remote then m.inst / 96 % 4 else 4

/-- The link between two Talon dies that are neighbours. -/
def ringLink (a b : Nat) : Nat :=
  if a + b = 1 then 4 else if min a b = 1 then 5 else if a + b = 5 then 6 else 7

/-- The die-to-die links that a request from die `a` to Talon die `b` crosses (R20). -/
def d2dPath (a b : Nat) : List Nat :=
  if a = b then []
  else if a = 4 then [b]
  else if a + b = 3 then [ringLink a (a ^^^ 1), ringLink (a ^^^ 1) b]
  else [ringLink a b]

/-- Those that one from die `a` to a Roost channel crosses. -/
def roostPath (a ch : Nat) : List Nat := if a = 4 then [8 + ch / 4] else [a, 8 + ch / 4]

/-- A request from die `a` to an address would cross a link that has failed (R18). -/
def State.linkCut (s : State) (die a : Nat) : Bool :=
  let path := match rangeOf a with
    | .hbm => d2dPath die (s.stackOf a / 2)
    | .roost => roostPath die (roostMap a).ch
    | .tile => d2dPath die ((a - tileBase) / 0x400000 / 96)
    | _ => []
  path.any (natBit (s.rd R.TOP_D2D_STATUS.LINK_FAILED))

end Sys2Proof.Machine
end

