-- ==== Sys2Proof/Machine/QueueOps.lean ====
section
/-! DEFINITION. The queues of a memory controller, HBM pseudo-channel or Roost sub-channel, slot by slot: entry and ingress hold, drains, ordering, arbitration, turnaround, rows, refresh, the
disturbance counts (R150 to R159, R167, R174, R178, R179, R190, R191, R195, R196, R200). -/

namespace Sys2Proof.Machine

/-- A controller's queue sizes, with the entries reserved for CRIT and BULK, its drain settings, the issue duty of its next window, its disturbance settings, the slots that a turnaround to writes and to reads costs, tRAS in ns, and
whether a refresh takes every bank at once, whose count is kept under bank 0 (R196). -/
structure QCfg where
  rqCap : Nat
  rqCrit : Nat
  rqBulk : Nat
  wqCap : Nat
  wqCrit : Nat
  wqBulk : Nat
  high : Nat
  low : Nat
  max : Nat
  duty : Nat
  throttle : Bool
  limit : Nat
  spacing : Nat
  toWrite : Nat
  toRead : Nat
  ras : Nat
  allBank : Bool := false
deriving DecidableEq, Repr

/-- What the rows of a controller are doing beside its queues: a row being copied, whose requests wait (R170), and a row served from its spare buffer, without bank timing. -/
structure Rows where
  busy : QReq → Bool
  spared : QReq → Bool

/-- A controller that spares nothing. -/
def Rows.plain : Rows := { busy := fun _ => false, spared := fun _ => false }

/-- A write, for the ordering and drain rules: a line write, a masked write or an add. -/
def isWriteOp : LineOp → Bool
  | .read => false
  | _ => true

def QReq.line (x : QReq) : Nat := x.r.addr / 64 * 64
def QReq.isWrite (x : QReq) : Bool := isWriteOp x.r.op
def QReq.isMasked (x : QReq) : Bool := match x.r.op with | .masked => true | _ => false

def classCount (l : List QReq) (c : ReqClass) : Nat := (l.filter (fun x => x.r.cls == c)).length

/-- A shared entry or one reserved for the class is free (R151). DESIGN CHOICE (log 126): a CRIT or BULK request counts as holding one of its class's reserved entries while one is free, and a shared
one only beyond them. -/
def entryFree (l : List QReq) (cap crit bulk : Nat) (c : ReqClass) : Bool :=
  let nc := classCount l .crit
  let nb := classCount l .bulk
  let shared := (nc - crit) + classCount l .norm + (nb - bulk)
  decide (shared < cap - crit - bulk) || (match c with | .crit => decide (nc < crit) | .bulk => decide (nb < bulk) | .norm => false)

def MQueue.room (q : MQueue) (g : QCfg) (x : QReq) : Bool :=
  if x.isWrite then entryFree q.wq g.wqCap g.wqCrit g.wqBulk x.r.cls else entryFree q.rq g.rqCap g.rqCrit g.rqBulk x.r.cls

/-- A request of the class and direction already waits at ingress, which then accepts no further one. -/
def MQueue.holds (q : MQueue) (x : QReq) : Bool := q.held.any (fun y => y.r.cls == x.r.cls && y.isWrite == x.isWrite)

/-- The mode of an ordered contribution that holds its class and direction at ingress until a slot of the ordered buffer frees (R185). It never takes a queue entry. -/
def ordMode : Nat := 4

/-- A drain starts at WQ_HIGH entries (R152, R195). -/
def MQueue.checkDrain (q : MQueue) (g : QCfg) : MQueue :=
  if !q.drain && decide (g.high ≤ q.wq.length) then { q with drain := true, drained := 0, drains := q.drains + 1 } else q

/-- A request takes its entry, the youngest of its queue; a read that finds its line among the queued writes is counted (R154). -/
def MQueue.enter (q : MQueue) (g : QCfg) (x : QReq) : MQueue :=
  let y := { x with ent := q.next }
  if x.isWrite then ({ q with wq := q.wq ++ [y], next := q.next + 1 }).checkDrain g
  else { q with rq := q.rq ++ [y], next := q.next + 1, raws := q.raws + b2n (q.wq.any (fun w => w.key == x.key)) }

/-- Requests at ingress enter, oldest first, as entries free; those of a class and direction keep their order. -/
def MQueue.promote (g : QCfg) : List QReq → MQueue → MQueue
  | [], q => q
  | x :: r, q =>
    if x.mode != ordMode && !q.holds x && q.room g x then MQueue.promote g r (q.enter g x) else MQueue.promote g r { q with held := q.held ++ [x] }

def MQueue.refillIngress (q : MQueue) (g : QCfg) : MQueue :=
  let q := MQueue.promote g q.held { q with held := [] }
  if q.held = [] then { q with heldAt := none } else q

/-- A request waits at ingress from `now` on. -/
def MQueue.hold (q : MQueue) (x : QReq) (now : Nat) : MQueue := { q with held := q.held ++ [x], heldAt := some ((q.heldAt).getD now) }

/-- A request may issue as far as R154 goes: a read waits for the writes of its line that entered before it, a write for the reads and writes of its line that did. -/
def MQueue.ordered (q : MQueue) (x : QReq) : Bool :=
  if x.isWrite then (q.rq ++ q.wq).all (fun y => y.key != x.key || decide (x.ent ≤ y.ent))
  else q.wq.all (fun y => y.key != x.key || decide (x.ent ≤ y.ent))

/-- The writes that a younger read of the same line has forced (R154). -/
def MQueue.forced (q : MQueue) : List QReq := q.wq.filter (fun w => q.rq.any (fun r => r.key == w.key && decide (w.ent < r.ent)))

/-- The disturbance key of a request's activate: requester and bank; 2^40 is the overflow entry of a full table of 32 (R179). -/
def MQueue.actKey (q : MQueue) (m bank : Nat) : Nat :=
  let k := m * 1024 + bank
  if (Tab.get? q.acts k).isSome ∨ (q.acts.filter (fun e => e.1 < 2 ^ 40)).length < 32 then k else 2 ^ 40

/-- A limited key's next activate comes no sooner than SPACING_NS after its last (R179). -/
def MQueue.spaced (q : MQueue) (g : QCfg) (m bank now : Nat) : Bool :=
  match (if g.throttle then Tab.get? q.limited (q.actKey m bank) else none) with
  | some t => decide (t + g.spacing ≤ now)
  | none => true

/-- The row of `x` is open. -/
def MQueue.hit (q : MQueue) (x : QReq) : Bool := Tab.get? q.openRow x.bank == some x.row

/-- The request needs an activate: its row is neither open nor served from a spare buffer. -/
def MQueue.miss (q : MQueue) (v : Rows) (x : QReq) : Bool := !v.spared x && !q.hit x

/-- The direction of the request's next data access: a masked write reads first (R150). -/
def MQueue.dirOf (q : MQueue) (x : QReq) : Bool := x.isWrite && (!x.isMasked || q.rmw.any (fun m => m.req == x.id))

/-- The turnaround to the request's direction is met. -/
def MQueue.turned (q : MQueue) (g : QCfg) (x : QReq) : Bool :=
  q.dirOf x == q.lastWrite || decide ((if q.dirOf x then g.toWrite else g.toRead) ≤ q.since)

/-- Ready but for the turnaround: bank timing met (all but `notReady`), order kept, its row not being copied, its activate not held back. -/
def MQueue.able (q : MQueue) (g : QCfg) (v : Rows) (notReady : List Nat) (now : Nat) (x : QReq) : Bool :=
  !notReady.contains x.id && q.ordered x && !v.busy x && (!q.miss v x || q.spaced g x.r.m.id x.bank now)

def MQueue.ready (q : MQueue) (g : QCfg) (v : Rows) (notReady : List Nat) (now : Nat) (x : QReq) : Bool := q.able g v notReady now x && q.turned g x

/-- best(): a request older than 4 µs first, then a row hit, then the oldest. Queues are kept oldest first. -/
def MQueue.best (q : MQueue) (v : Rows) (now : Nat) (l : List QReq) : Option QReq :=
  match l.find? (fun x => decide (x.at_ + 4000 < now)) with
  | some x => some x
  | none =>
    match l.find? (fun x => !q.miss v x) with
    | some x => some x
    | none => l.head?

def oldestOf (l : List QReq) : Option QReq :=
  match l with
  | [] => none
  | x :: r => some (r.foldl (fun a b => if b.ent < a.ent then b else a) x)

/-- The request whose command or write burst is being tried again: a command goes before a burst (R167, R190, R191). -/
def MQueue.retried (q : MQueue) : Option QReq :=
  let all := q.rq ++ q.wq
  match all.find? (fun x => (Tab.get? q.retry x.id).isSome) with
  | some x => some x
  | none => all.find? (fun x => (Tab.get? q.crc x.id).isSome)

/-- The floor of this slot (R157): NORM's in slot 14, or in slot 15 where a forced write took slot 14 from it, then BULK's in slot 15. DESIGN CHOICE (log 127): of the two floors in slot 15, the one that moved
there goes first. -/
def MQueue.floor (q : MQueue) (rd : QReq → Bool) : Option QReq :=
  let owed := fun (c : ReqClass) => if lget q.served c.code 0 = 0 then oldestOf ((q.rq ++ q.wq).filter (fun x => x.r.cls == c && rd x)) else none
  if q.slot = 14 then owed .norm
  else if q.slot = 15 then (match (if q.moved then owed .norm else none) with | some x => some x | none => owed .bulk)
  else none

/-- The procedure of "Arbitration" for this slot. A retry comes before every other request, in blanked slots too (R167, R174); a masked write whose internal read has issued comes before all but the
floors, since the slots until its write are its turnaround. -/
def MQueue.pick (q : MQueue) (g : QCfg) (v : Rows) (notReady : List Nat) (now : Nat) : Option QReq :=
  let rd := q.ready g v notReady now
  match q.retried with
  | some x => if rd x then some x else none
  | none =>
    if q.slot + q.duty < 16 then none
    else
      match q.rmw with
      | some m =>
        (match q.wq.find? (fun x => x.id == m.req && rd x) with
          | some x => some x
          | none => q.floor rd)
      | none =>
        match q.forced.find? rd with
        | some x => some x
        | none =>
          match q.floor rd with
          | some x => some x
          | none =>
            let l := if q.drain || q.rq.isEmpty then q.wq else q.rq
            ([ReqClass.crit, .norm, .bulk]).findSome? (fun c => q.best v now (l.filter (fun x => x.r.cls == c && rd x)))

/-- One slot passes, with or without a data access. A new window takes the duty in force (R174). -/
def MQueue.nextSlot (q : MQueue) (g : QCfg) (n : Nat := 1) : MQueue :=
  if q.slot + n < 16 then { q with slot := q.slot + n } else { q with slot := (q.slot + n) % 16, served := [0, 0, 0], moved := false, duty := g.duty }

/-- A drain ends at WQ_LOW entries, at DRAIN_MAX writes or at an empty queue; a level at or above WQ_HIGH starts the next one a slot later. -/
def MQueue.endDrain (q : MQueue) (g : QCfg) : MQueue :=
  if q.drain && (decide (q.wq.length ≤ g.low) || decide (g.max ≤ q.drained) || q.wq.isEmpty) then { q with drain := false, drained := 0 } else q.checkDrain g

/-- Rows that no queued request hits are precharged where that is legal, and owed refreshes of banks whose open row no queued request hits are repaid (R158, R159). -/
def MQueue.closeRows (q : MQueue) (g : QCfg) (now : Nat) : MQueue :=
  let hits := fun (b r : Nat) => (q.rq ++ q.wq).any (fun y => y.bank == b && y.row == r)
  let q := { q with openRow := q.openRow.filter (fun e => hits e.1 e.2 || decide (now < Tab.get q.actAt e.1 0 + g.ras)) }
  let hit := fun (b : Nat) =>
    if g.allBank then q.openRow.any (fun e => hits e.1 e.2) else (match Tab.get? q.openRow b with | some r => hits b r | none => false)
  { q with owed := (q.owed.map (fun e => (e.1, if hit e.1 then e.2 else e.2 - 1))).filter (fun e => e.2 != 0) }

/-- An activate is counted under its key; past ACT_LIMIT the key is limited. The Bool: this activate is the first of the key that is spaced. -/
def MQueue.activate (q : MQueue) (g : QCfg) (m bank now : Nat) : MQueue × Bool :=
  if !g.throttle then (q, false)
  else
    let k := q.actKey m bank
    let n := Tab.get q.acts k 0 + 1
    let was := (Tab.get? q.limited k).isSome
    let first := was && !q.spacedOnce.contains k
    let q := { q with acts := Tab.put q.acts k n, spacedOnce := if first then sinsert q.spacedOnce k else q.spacedOnce }
    (if g.limit < n then { q with limited := Tab.put q.limited k now } else q, first)

/-- The row of `x` is open from `now`. -/
def MQueue.opened (q : MQueue) (x : QReq) (now : Nat) : MQueue := { q with openRow := Tab.put q.openRow x.bank x.row, actAt := Tab.put q.actAt x.bank now }

/-- A slot in which a data access of `x` went out: its class is served, and the bus has its direction. -/
def MQueue.accessed (q : MQueue) (g : QCfg) (x : QReq) : MQueue :=
  let forced := (q.forced.any (fun y => y.id == x.id)) || (Tab.get? q.retry x.id).isSome
  let q := { q with
    lastWrite := q.dirOf x, since := 0, served := q.served.set x.r.cls.code (lget q.served x.r.cls.code 0 + 1),
    moved := q.moved || (q.slot == 14 && forced && lget q.served ReqClass.norm.code 0 == 0 && x.r.cls != ReqClass.norm) }
  q.nextSlot g

/-- A slot without a data access. -/
def MQueue.idle (q : MQueue) (g : QCfg) (n : Nat := 1) : MQueue := { q.nextSlot g n with since := min 64 (q.since + n) }

/-- The queue once `x` has issued: its entry is free, and ingress is served; then the rows that have lost their last hit close. -/
def MQueue.issued (q : MQueue) (g : QCfg) (x : QReq) (now : Nat) : MQueue :=
  let q := q.accessed g x
  let q := { q with
    rq := q.rq.filter (fun y => y.id != x.id), wq := q.wq.filter (fun y => y.id != x.id), rmw := q.rmw.filter (fun m => m.req != x.id),
    retry := Tab.del q.retry x.id, crc := Tab.del q.crc x.id, drained := if q.drain && x.isWrite then q.drained + 1 else q.drained }
  ((q.endDrain g).refillIngress g).closeRows g now

/-- A request leaves the queues without having issued. -/
def MQueue.without (q : MQueue) (g : QCfg) (ids : List Nat) (now : Nat) : MQueue :=
  let keep := fun (l : List QReq) => l.filter (fun x => !ids.contains x.id)
  let q := { q with
    rq := keep q.rq, wq := keep q.wq, held := keep q.held, rmw := q.rmw.filter (fun m => !ids.contains m.req),
    retry := q.retry.filter (fun e => !ids.contains e.1), crc := q.crc.filter (fun e => !ids.contains e.1) }
  ((q.endDrain g).refillIngress g).closeRows g now

/-- A refresh of bank `b` falls due: it issues, or is postponed while a queued request hits the bank's open row; no more than `cap` are owed, and one more falling due forces the
oldest (R159, R196). -/
def MQueue.refreshDue (q : MQueue) (b cap : Nat) : MQueue :=
  let hit := match Tab.get? q.openRow b with
    | some r => (q.rq ++ q.wq).any (fun y => y.bank == b && y.row == r)
    | none => false
  let n := Tab.get q.owed b 0
  if hit && decide (n < cap) then { q with owed := Tab.put q.owed b (n + 1) }
  else if hit then { q with openRow := Tab.del q.openRow b }
  else { q with openRow := Tab.del q.openRow b, owed := if n ≤ 1 then Tab.del q.owed b else Tab.put q.owed b (n - 1) }

/-- Every queued and held request, oldest first. -/
def MQueue.all (q : MQueue) : List QReq := q.rq ++ q.wq ++ q.held

/-- The queue emptied, with its windows and counts kept. -/
def MQueue.emptied (q : MQueue) : MQueue :=
  { q with rq := [], wq := [], held := [], drain := false, drained := 0, rmw := none, openRow := [], actAt := [], owed := [], retry := [], crc := [], heldAt := none }

/-- The disturbance counts clear. -/
def MQueue.clearActs (q : MQueue) : MQueue := { q with acts := [], limited := [], spacedOnce := [] }

/-- The slots in which some request lacked only the turnaround (HBM_PC_TURN_CNT). -/
def MQueue.turning (q : MQueue) (g : QCfg) (v : Rows) (now : Nat) : Bool := (q.rq ++ q.wq).any (fun x => q.able g v [] now x && !q.turned g x)

end Sys2Proof.Machine
end

