-- ==== Sys2Proof/Machine/HbmOps.lean ====
section
/-! DEFINITION. The HBM controllers and the Kite base dies as shared operations (06_hbm_channels.md, 07_hbm_integrity.md): ingress, the issue slots, the read outcomes, sparing, heat, self-refresh, the
ordered buffer, and the accesses that other units make within one step. -/

namespace Sys2Proof.Machine

/-! ### Places -/

/-- The inverse of the map in force: the package-local address of a stack's pseudo-channel's local address. -/
def hbmUnmap (loc stack pc l : Nat) : Nat :=
  let k := l / 2 ^ 23
  if natBit loc k then
    let hi := l % 2 ^ 23 / 512
    let low := (stack % 2 * 64 + pc) ^^^ (hi % 128) ^^^ (hi / 128 % 128)
    k * 2 ^ 32 + stack / 2 * 2 ^ 30 + (hi * 128 + low) * 512 + l % 512
  else
    let hi := l / 512
    let low := (stack * 64 + pc) ^^^ (hi % 512) ^^^ (hi / 2 ^ 9 % 512) ^^^ (hi / 2 ^ 18 % 8)
    (hi * 512 + low) * 512 + l % 512

/-- The ADDR_DEC source of the port that a master's requests enter at (table "Source map"). -/
def portSrc (m : Master) : Nat :=
  if m.remote then Src.addrDecKettle
  else if m.cls = 2 then Src.addrDecDie (m.inst / 96)
  else if m.cls = 3 ∨ m.cls = 8 then Src.addrDecRoost
  else if m.cls = 4 then Src.addrDecKettle
  else if m.cls = 5 then Src.addrDecPcie
  else Src.addrDecCore

/-- A master whose requests reach memory through the Mews cache (table "Checkers"): its port has been checked at checker 0. -/
def viaCache (m : Master) : Bool := !m.remote && (m.cls == 0 || m.cls == 1 || m.cls == 7)

def State.hq (s : State) (st p : Nat) : MQueue := Tab.get s.hbm.pcs (64 * st + p) .reset
def State.setHq (s : State) (st p : Nat) (q : MQueue) : State := s.updHbm (fun h => { h with pcs := Tab.put h.pcs (64 * st + p) q })

/-- The row-disturbance mode of a pseudo-channel's channel (R178); 3 acts as BOTH. -/
def State.rhMode (s : State) (st p : Nat) : Nat := s.rd R.HBM_STK_RH_MODE st / 4 ^ (p / 2) % 4

def State.stkState (s : State) (st : Nat) : Nat := s.rd R.HBM_STK_STATUS.STATE st
def stkOff : Nat := 0
def stkTraining : Nat := 1
def stkReady : Nat := 2
def stkSelfRefresh : Nat := 3
def stkFailed : Nat := 4

/-- The issue duty N that the last poll set (R174); a window of slots takes it when it begins. -/
def State.dutyOf (s : State) (st : Nat) : Nat := s.rd R.HBM_STK_TEMP.DUTY st

def State.hcfg (s : State) (st p : Nat) : QCfg :=
  { rqCap := 64, rqCrit := 8, rqBulk := 4, wqCap := 32, wqCrit := 4, wqBulk := 4,
    high := s.rd R.HBM_PC_CFG.WQ_HIGH st p, low := s.rd R.HBM_PC_CFG.WQ_LOW st p, max := s.rd R.HBM_PC_CFG.DRAIN_MAX st p, duty := s.dutyOf st,
    throttle := s.rhMode st p != 0, limit := max 1 (s.rd R.HBM_STK_RH_CFG.ACT_LIMIT st), spacing := s.rd R.HBM_STK_RH_CFG.SPACING_NS st,
    toWrite := 4, toRead := 7, ras := 28 }

/-- The detail word of an HBM_MEM event: pseudo-channel and local address [29:6]. -/
def hbmDetail (p l : Nat) : Nat := p + l / 64 * 64

/-- The queue put back after a change, with the drains that it started, the reads that waited for a write and the hold time that ended counted. -/
def State.hqDone (s : State) (st p : Nat) (old q : MQueue) : State :=
  let s := if q.drains = old.drains then s else s.bump R.HBM_PC_DRAIN_CNT (q.drains - old.drains) st p
  let s := if q.raws = old.raws then s else s.bump R.HBM_PC_RAW_CNT (q.raws - old.raws) st p
  let s := match old.heldAt, q.heldAt with
    | some t, none => s.bump R.HBM_PC_HOLD_NS (s.now - t) st p
    | _, _ => s
  s.setHq st p q

/-- A change of a pseudo-channel's queue. -/
def State.hqStep (s : State) (st p : Nat) (f : MQueue → MQueue) : State := s.hqDone st p (s.hq st p) (f (s.hq st p))

/-- A request as it arrives at an HBM port: numbered, and placed by the map that the decoders use now (R149). -/
def State.hbmReq (s : State) (r : LineReq) (mode : Nat) (quiet : Bool := false) : State × QReq :=
  let a := r.addr / 64 * 64
  let l := s.localOf a
  (s.updHbm (fun h => { h with seq := h.seq + 1 }),
    { id := s.hbm.seq, r := { r with addr := a }, at_ := s.now, mode := mode, key := s.lineKey a, lcl := l, bank := hbmBank l, row := hbmRow l, ent := 0, quiet := quiet })

/-! ### Sparing (R169 to R171) -/

/-- The spare entry that holds a row. -/
def State.spareOf (s : State) (st p bank row : Nat) : Option Nat :=
  (List.range 64).find? (fun i => s.rd R.HBM_PC_SPARE.VALID st p i == 1 && s.rd R.HBM_PC_SPARE.BANK st p i == bank && s.rd R.HBM_PC_SPARE.ROW st p i == row)

/-- The rows of a pseudo-channel that are being copied, whose requests wait, and those served from their spare buffers. -/
def State.hbmRows (s : State) (st p : Nat) : Rows :=
  let copying := fun (v : Nat) (x : QReq) => match s.spareOf st p x.bank x.row with
    | some i => s.rd R.HBM_PC_SPARE.COPYING st p i == v
    | none => false
  { busy := copying 1, spared := copying 0 }

/-- A request to spare a row: ignored for a row already spared, refused with all entries in use. -/
def State.spareRow (s : State) (st p bank row origin : Nat) : State :=
  match s.spareOf st p bank row with
  | some _ => s
  | none =>
    match (List.range 64).find? (fun i => s.rd R.HBM_PC_SPARE.VALID st p i == 0) with
    | none => (s.flag R.HBM_PC_RAS_EVENT.SPARE_FULL R.HBM_PC_SPARE_FULL_CNT.COUNT st p).report (Src.hbmMem st p) Cls.ce Cause.resourceFull
        (hbmDetail p (row * 2 ^ 14 + ((bank ^^^ row) % 16) * 2 ^ 10))
    | some i =>
      let s := ((s.wr R.HBM_PC_SPARE.VALID 1 st p i).wr R.HBM_PC_SPARE.COPYING 1 st p i).wr R.HBM_PC_SPARE.ORIGIN origin st p i
      let s := (s.wr R.HBM_PC_SPARE.BANK bank st p i).wr R.HBM_PC_SPARE.ROW row st p i
      (s.bump R.HBM_PC_RAS_STATUS.SPARES_USED 1 st p).wr R.HBM_PC_RAS_STATUS.COPYING 1 st p

/-- A row's count grows by `n`; a new row takes a free entry or the one with the smallest count, ties to the least recently updated. -/
def trackAdd (t : List TrackEnt) (bank row n : Nat) : List TrackEnt :=
  let upd := t.foldl (fun m e => max m e.upd) 0 + 1
  if t.any (fun e => e.bank == bank && e.row == row) then
    t.map (fun e => if e.bank = bank ∧ e.row = row then { e with count := e.count + n, upd := upd } else e)
  else if t.length < 16 then t ++ [{ bank := bank, row := row, count := n, upd := upd }]
  else
    match t with
    | [] => []
    | x :: r =>
      let v := r.foldl (fun a b => if b.count < a.count ∨ (b.count = a.count ∧ b.upd < a.upd) then b else a) x
      t.map (fun e => if e = v then { bank := bank, row := row, count := n, upd := upd } else e)

/-- Corrected errors on a row, or an uncorrectable read of it: the tracker, and automatic sparing. -/
def State.trackRow (s : State) (st p : Nat) (x : QReq) (n : Nat) (ue : Bool) : State :=
  let q := s.hq st p
  let t := trackAdd q.track x.bank x.row n
  let s := s.setHq st p { q with track := t }
  let cnt := (t.find? (fun e => e.bank == x.bank && e.row == x.row)).elim 0 (·.count)
  if s.rd R.HBM_PC_RAS_CFG.AUTO_SPARE st p = 1 ∧ (ue ∨ max 1 (s.rd R.HBM_PC_RAS_CFG.SPARE_CE st p) ≤ cnt) then s.spareRow st p x.bank x.row 0 else s

/-! ### Read outcomes (R163 to R166) -/

/-- What a read of a line through the code gives: the stored bytes as delivered, whether they are poisoned, and what the controller rewrites, if anything. -/
structure LineRead where
  data : List Byte
  poison : Bool
  rewrite : Option (List Byte × Bool)
deriving DecidableEq, Repr

/-- The data that a masked write or an add works on: after an uncorrectable read, the zero data of R166. -/
def LineRead.base (r : LineRead) : List Byte := match r.rewrite with | some (l, true) => l | _ => r.data

def State.errAddr (s : State) (st p l kind : Nat) : State :=
  (s.wr R.HBM_PC_ERR_ADDR.LOCAL (l / 64 * 64) st p).wr R.HBM_PC_ERR_ADDR.KIND kind st p

/-- A read of the line of `x`, with what the wire and the cells did to it. -/
def State.hbmDecode (s : State) (st p : Nat) (x : QReq) (w : WireErr) : State × LineRead :=
  let l := x.lcl
  let errs := w.errs ++ s.cellErrs x.line x.key
  let at_ := fun (e : List (Nat × Nat)) => flipBits (s.lineAt x.line x.key) (errMask hbmSymMask e)
  let pois := fun (e : List (Nat × Nat)) => (e.foldl (fun b y => if y.1 = 64 then b != natBit y.2 0 else b) (s.poisoned x.key))
  match decode72 errs with
  | .clean =>
    let r : LineRead := { data := at_ errs, poison := pois errs, rewrite := none }
    if w.ondie = 0 then (s, r)
    else
      let s := s.bump R.HBM_PC_ODECC_CNT 1 st p
      (if w.ondie = 1 then s else s.trackRow st p x 1 false, r)
  | .fixed j e =>
    let errs := errs ++ [(j, e)]
    let r : LineRead := { data := at_ errs, poison := pois errs, rewrite := some (at_ errs, pois errs) }
    let s := ((s.flag R.HBM_PC_RAS_EVENT.CE R.HBM_PC_CE_CNT.COUNT st p).errAddr st p l 1).wr R.HBM_PC_ERR_ADDR.SYMBOL j st p
    ((s.report (Src.hbmMem st p) Cls.ce Cause.corrected (hbmDetail p l)).trackRow st p x 1 false, r)
  | .bad =>
    let r : LineRead := { data := at_ errs, poison := true, rewrite := some (List.replicate 64 0, true) }
    let s := (s.flag R.HBM_PC_RAS_EVENT.UE R.HBM_PC_UE_CNT.COUNT st p).errAddr st p l 2
    ((s.report (Src.hbmMem st p) Cls.de Cause.uncorrected (hbmDetail p l)).trackRow st p x (max 1 (s.rd R.HBM_PC_RAS_CFG.SPARE_CE st p)) true, r)

/-! ### Entry (R151, R152, R154) -/

/-- The mode of a controller's own rewrite (R165): its data are the bytes to store, then the bytes that the read found; its poison flag goes with the line. -/
def rewriteMode : Nat := 3

/-- A request takes an entry of its queue, or waits at ingress while the stack is not READY or no entry is free. -/
def State.hbmEnter (s : State) (st p : Nat) (x : QReq) : State :=
  let g := s.hcfg st p
  let q := s.hq st p
  if s.stkState st = stkReady ∧ !q.holds x ∧ q.room g x then s.hqDone st p q (q.enter g x) else s.setHq st p (q.hold x s.now)

/-- The rewrite of a read (R165, R166), unless a write to the line entered the write queue after the read did. -/
def State.rewrite (s : State) (st p : Nat) (x : QReq) (cls : ReqClass) (old : List Byte) : Option (List Byte × Bool) → State
  | none => s
  | some (l, po) =>
    if (s.hq st p).wq.any (fun y => y.key == x.key && decide (x.ent < y.ent)) then s
    else
      let (s, y) := s.hbmReq { m := ⟨0x9000, .f, false⟩, addr := x.line, op := .write, cls := cls, data := l ++ old, mask := 0, poison := po } rewriteMode
      s.hbmEnter st p { y with key := x.key, lcl := x.lcl, bank := x.bank, row := x.row }

/-! ### The refusal of an add (R182, R194) -/

def State.kiteRefuse (s : State) (a : Nat) : State :=
  let st := s.stackOf a
  let s := (s.flag R.HBM_KITE_EVENT.REFUSED R.HBM_KITE_REFUSED_CNT.COUNT st).wr R.HBM_KITE_ERR_ADDR.ADDR a st
  (s.wr R.HBM_KITE_ERR_ADDR.KIND 1 st).report (Src.kite st) Cls.uc Cause.refused

/-- The fault of an add outside HBM: at the Roost port, at a die's window port, in the CSR space (R4). -/
def State.addRefused (s : State) (a : Nat) : State :=
  match rangeOf a with
  | .roost => s.report (Src.roostCh (roostMap a).ch) Cls.uc Cause.refused ((roostMap a).cs + (roostMap a).line * 2 ^ 25)
  | .tile => s.report (Src.addrDecDie ((a - tileBase) / 0x400000 / 96)) Cls.uc Cause.refused
  | .csr => s.report (csrSource (a - csrBase)) Cls.uc Cause.csrAccess
  | _ => s

/-- An add of `n` bytes outside HBM: none for one in HBM. In the CSR space R4 comes before Jess; elsewhere Jess comes first. -/
def State.addOutside (s : State) (m : Master) (a n : Nat) : Option State :=
  match rangeOf a with
  | .hbm => none
  | .csr => some (s.addRefused a)
  | _ =>
    match s.jessFails (s.checkerOf a) m .a a n with
    | some f => some (s.jessRefuse (s.checkerOf a) m .a f)
    | none => some (s.addRefused a)

/-! ### Issue (R150, R157, R158, R163 to R166, R178 to R181) -/

/-- What a request completes with: the data of a read and their poison, a completion without data, an error response. -/
inductive Ans where
  | data (l : List Byte) (poison : Bool)
  | done
  | err
deriving DecidableEq, Repr

/-- A completion goes to its master. -/
def State.answer (s : State) (m : Master) : Ans → State
  | .data l true => s.emit (.poisoned m (l.map BitVec.toNat))
  | .data l false => s.emit (.done m (l.map BitVec.toNat))
  | .done => s.emit (.done m [])
  | .err => s.errTo m

/-- The answer to a read. -/
def State.answerRead (s : State) (m : Master) (l : List Byte) (poison : Bool) : State := s.answer m (.data l poison)

/-- The completion of a queued request; the controller's own requests and those whose step has ended have no master that waits. -/
def State.complete (s : State) (x : QReq) (r : Ans) : State := if x.mode = rewriteMode ∨ x.quiet then s else s.answer x.r.m r

/-- A locked line that a write dropped from the Mews cache is filled again as the write leaves it (R295). -/
def State.refillRaw (s : State) (mode a : Nat) : State :=
  if s.lockedRange a = 0 ∨ (s.cline? a).isSome ∨ (s.matchOnly a).isNone then s
  else s.updMews (fun m => { m with cache := Tab.put m.cache a { data := s.lineData mode a, dirty := false, poison := s.linePoison a, lock := s.lockedRange a, way := s.lockWay a } })

/-- The line of `x` written: the bytes as the transform leaves them. -/
def State.putReq (s : State) (x : QReq) (l : List Byte) (poison : Bool) : State :=
  (s.putAt x.line x.key (lineTransform s.crypt.scramble x.mode x.line l) poison).refillRaw x.mode x.line

/-- The request's effect on its line, and its answer. A masked write merges over what its internal read gave. -/
def State.hbmPerform (s : State) (st p : Nat) (x : QReq) (w : WireErr) (rmw : Option Rmw) : State × Ans :=
  let r := x.r
  let key := s.crypt.scramble
  if x.mode = rewriteMode then
    (if s.lineAt x.line x.key = r.data.drop 64 then s.putAt x.line x.key (r.data.take 64) r.poison else s, .done)
  else
    match r.op with
    | .read =>
      let old := s.lineAt x.line x.key
      let (s, d) := s.hbmDecode st p x w
      (s.rewrite st p x .bulk old d.rewrite, .data (lineTransform key x.mode x.line d.data) d.poison)
    | .write => (s.putReq x r.data r.poison, .done)
    | .masked =>
      let (l, po) := match rmw with | some m => (m.old, m.poison) | none => (lineTransform key x.mode x.line (s.lineAt x.line x.key), s.poisoned x.key)
      (s.putReq x (mergeMask l r.data r.mask) (po || r.poison), .done)
    | .add op =>
      if 1 < x.mode then (s.kiteRefuse x.line, .err)
      else
        let (s, d) := s.hbmDecode st p x w
        let old := lineTransform key x.mode x.line d.base
        let po := d.poison || r.poison
        ((s.putReq x (if po then old else kiteAdd op old r.data) po).bump R.HBM_KITE_ADD_CNT 1 st, .done)

/-- The rows next to `row` that exist. -/
def neighbours (row last : Nat) : Nat := (if row = 0 then 0 else 1) + (if row < last then 1 else 0)

/-- PROB's draw on an activate: its register moves on, and the Bool says whether it fires (R178). -/
def MQueue.prob (q : MQueue) (on : Bool) : MQueue × Bool :=
  if on then ({ q with lfsr := Config.lfsrNext q.lfsr % 2 ^ 32 }, Config.lfsrFires (Config.lfsrNext q.lfsr % 2 ^ 32)) else (q, false)

/-- The activate that a request needs: counted, its neighbours refreshed when PROB fires, its key's count kept, its row open. -/
def State.hbmActivate (s : State) (st p : Nat) (x : QReq) : State :=
  let s := s.bump R.HBM_PC_ACT_CNT 1 st p
  let (q, fire) := (s.hq st p).prob (s.rhMode st p != 1)
  let (q, first) := q.activate (s.hcfg st p) x.r.m.id x.bank s.now
  let s := s.setHq st p (q.opened x s.now)
  let s := if fire then s.bump R.HBM_PC_NBR_CNT (neighbours x.row 49151) st p else s
  if first then s.flag R.HBM_PC_RAS_EVENT.RH_LIMIT R.HBM_PC_RH_LIMIT_CNT.COUNT st p else s

/-- A data access of `x` goes out: the row it needs, and its burst counted as a read or a write. -/
def State.hbmBurst (s : State) (st p : Nat) (x : QReq) : State :=
  let q := s.hq st p
  let s := if q.miss (s.hbmRows st p) x then s.hbmActivate st p x else s
  if q.dirOf x then s.bump R.HBM_PC_WR_CNT 1 st p else s.bump R.HBM_PC_RD_CNT 1 st p

/-- The internal read of a masked write issues (R150). -/
def State.hbmInner (s : State) (st p : Nat) (x : QReq) (w : WireErr) : State :=
  let s := s.hbmBurst st p x
  let s := s.setHq st p ((s.hq st p).accessed (s.hcfg st p) x)
  let (s, d) := s.hbmDecode st p x w
  let q := s.hq st p
  s.setHq st p { q with rmw := some { req := x.id, old := lineTransform s.crypt.scramble x.mode x.line d.base, poison := d.poison } }

/-- The request `x` issues, with its answer. -/
def State.hbmIssueOne (s : State) (st p : Nat) (x : QReq) (w : WireErr) : State × Ans :=
  let s := (s.hbmBurst st p x).bump R.HBM_PC_CLASS_CNT 1 st p x.r.cls.code
  let q := s.hq st p
  let s := s.hqDone st p q (q.issued (s.hcfg st p) x s.now)
  s.hbmPerform st p x w q.rmw

/-- The next issue slot of a pseudo-channel: what arbitration picks issues, the internal read of a masked write first; with none ready the slot passes. The request that completed, with its answer. -/
def State.hbmSlot (s : State) (st p : Nat) (notReady : List Nat) (w : WireErr) : State × Option (QReq × Ans) :=
  let g := s.hcfg st p
  let v := s.hbmRows st p
  let q := s.hq st p
  match q.pick g v notReady s.now with
  | some x =>
    if x.isMasked && !q.dirOf x then (s.hbmInner st p x w, none)
    else
      match s.hbmIssueOne st p x w with
      | (s, r) => (s, some (x, r))
  | none =>
    let s := if q.turning g v s.now then s.bump R.HBM_PC_TURN_CNT 1 st p else s
    (s.hqDone st p q ((((q.idle g).checkDrain g).refillIngress g).closeRows g s.now), none)

/-- An issue slot, with the completion of the request that issued in it. -/
def State.hbmIssue (s : State) (st p : Nat) (notReady : List Nat) (w : WireErr) : State :=
  if s.stkState st ≠ stkReady ∨ s.unitState (48 + st) = Unit.resetting then s
  else
    match s.hbmSlot st p notReady w with
    | (s, some (x, r)) => s.complete x r
    | (s, none) => s

/-! ### Accesses that end within the step that makes them -/

/-- Slots pass until request `id` has issued; every other request that arbitration takes first completes to its master. After `n` slots (a request whose activate is spaced, or that waits for a row) it issues out
of turn: the time that it would have waited lies within the step (log 148). -/
def State.hbmUntil (s : State) (st p id : Nat) : Nat → State × Ans
  | 0 =>
    match (s.hq st p).all.find? (fun x => x.id == id) with
    | none => (s, .err)
    | some x =>
      let s := if x.isMasked then s.hbmInner st p x ⟨0, []⟩ else s
      let s := s.hqStep st p (fun q => { q with held := q.held.filter (fun y => y.id != id) })
      s.hbmIssueOne st p x ⟨0, []⟩
  | n + 1 =>
    match s.hbmSlot st p [] ⟨0, []⟩ with
    | (s, none) => s.hbmUntil st p id n
    | (s, some (x, r)) => if x.id = id then (s, r) else (s.complete x r).hbmUntil st p id n

/-- A bound on the slots until a request issues: each request ahead takes at most one window and two turnarounds. -/
def MQueue.patience (q : MQueue) : Nat := 64 + 32 * q.all.length

/-- A request of another unit of the package: it enters its queue and is served in its turn. A write to a stack in self-refresh waits at ingress; its completion goes to nobody. -/
def State.hbmServe (s : State) (r : LineReq) (mode : Nat) : State × Ans :=
  let (s, x) := s.hbmReq r mode true
  let st := s.stackOf x.line
  let p := s.pcOf x.line
  let s := s.hbmEnter st p x
  if s.stkState st ≠ stkReady then (s, .done) else s.hbmUntil st p x.id (s.hq st p).patience

/-- Every request on a line that is queued issues, so that what comes next finds the line as they leave it. -/
def State.hbmSettleLine (s : State) (st p key : Nat) : Nat → State
  | 0 => s
  | n + 1 =>
    if (s.hq st p).all.any (fun x => x.key == key && x.mode != ordMode) && s.stkState st == stkReady then
      match s.hbmSlot st p [] ⟨0, []⟩ with
      | (s, some (x, r)) => (s.complete x r).hbmSettleLine st p key n
      | (s, none) => s.hbmSettleLine st p key n
    else s

/-- Every queued request of a pseudo-channel issues, in the order of arbitration (R160). -/
def State.hbmDrain (st p : Nat) : Nat → State → State
  | 0, s => s
  | n + 1, s =>
    let q := s.hq st p
    if q.rq = [] ∧ q.wq = [] then s
    else
      match s.hbmSlot st p [] ⟨0, []⟩ with
      | (s, some (x, r)) => State.hbmDrain st p n (s.complete x r)
      | (s, none) => State.hbmDrain st p n s

/-! ### Parity retries (R167, R168) -/

/-- The write of a request whose outcome is unknown after its retries: written or left, by a free value. -/
def State.unknownWrite (s : State) (x : QReq) (w : Bool) : State :=
  if w then
    (if x.mode = rewriteMode then s.putAt x.line x.key (x.r.data.take 64) x.r.poison
    else
      let old := lineTransform s.crypt.scramble x.mode x.line (s.lineAt x.line x.key)
      match x.r.op with
      | .write => s.putReq x x.r.data x.r.poison
      | .masked => s.putReq x (mergeMask old x.r.data x.r.mask) (s.poisoned x.key || x.r.poison)
      | .add op => s.putReq x (kiteAdd op old x.r.data) (s.poisoned x.key || x.r.poison)
      | .read => s)
  else s

/-- The controller gives up on a request after its third failed retry. -/
def State.hbmGiveUp (s : State) (st p : Nat) (x : QReq) : State :=
  let g := s.hcfg st p
  let s := s.hqStep st p (fun q => q.without g [x.id] s.now)
  let s := (s.flag R.HBM_PC_RAS_EVENT.RETRY_FAIL R.HBM_PC_RETRY_FAIL_CNT.COUNT st p).errAddr st p x.lcl (if x.isWrite then 4 else 3)
  let s := s.report (Src.hbmMem st p) Cls.uc Cause.retryExhausted (hbmDetail p x.lcl)
  if x.isWrite then ((s.unknownWrite x (Config.freeBit s.free)).draw).complete x .err
  else s.complete x (.data (lineTransform s.crypt.scramble x.mode x.line (s.lineAt x.line x.key)) true)

/-- A parity error on the issue of request `id`: a retry, at most three, then the controller gives up. While one is retried no other command issues. -/
def State.hbmParity (s : State) (st p id : Nat) : State :=
  let q := s.hq st p
  match (q.rq ++ q.wq).find? (fun x => x.id == id) with
  | none => s
  | some x =>
    let n := Tab.get q.retry id 0
    if n = 0 ∧ q.retry ≠ [] then s
    else if 3 ≤ n then s.hbmGiveUp st p x
    else (s.setHq st p { q with retry := Tab.put q.retry id (n + 1) }).flag R.HBM_PC_RAS_EVENT.RETRY R.HBM_PC_RETRY_CNT.COUNT st p

/-! ### Ordered reduce (R183 to R185) -/

/-- The flush of a line's slot onto the line (pseudocode "flush"): behind the writes of the line that are queued, through the code, with the activate that the bank needs. `early`: it is not caused by an access
to the line. -/
def State.flushOrd (s : State) (mode a : Nat) (early : Bool) : State :=
  match Tab.get? s.hbm.ords a with
  | none => s
  | some o =>
    let st := s.stackOf a
    let p := s.pcOf a
    let s := s.hbmSettleLine st p (s.lineKey a) (s.hq st p).patience
    let (s, x) := s.hbmReq { m := ⟨0x9000, .f, false⟩, addr := a, op := .add o.op, cls := .norm, data := [], mask := 0, poison := o.poison } mode true
    let s := if (s.hq st p).miss (s.hbmRows st p) x then s.hbmActivate st p x else s
    let (s, d) := s.hbmDecode st p x ⟨0, []⟩
    let po := d.poison || o.poison
    let old := lineTransform s.crypt.scramble mode a d.base
    let s := (s.putReq x (if d.poison then old else o.accs.foldl (fun l c => kiteAdd o.op l c.2) old) po).bump R.HBM_KITE_ADD_CNT o.accs.length st
    let s := s.updHbm (fun h => { h with ords := Tab.del h.ords a })
    if early then
      ((s.flag R.HBM_KITE_EVENT.EARLY_FLUSH R.HBM_KITE_EARLY_CNT.COUNT st).wr R.HBM_KITE_ERR_ADDR.ADDR a st).wr R.HBM_KITE_ERR_ADDR.KIND 0 st
    else s

/-- One ordered contribution to a line, with a slot open or free; false where no slot is free (R183, R185). -/
def State.ordAdd (s : State) (op a src : Nat) (l : List Byte) (poison : Bool) : State × Bool :=
  let st := s.stackOf a
  let used := (s.hbm.ords.filter (fun o => s.stackOf o.1 == st)).length
  let put := fun (o : OrdSlot) =>
    (s.updHbm (fun h => { h with ords := Tab.put h.ords a { o with
      accs := Tab.put o.accs src (match Tab.get? o.accs src with | some x => kiteAdd op x l | none => l), poison := o.poison || poison, last := s.epoch } })).bump
      R.HBM_KITE_ORD_CNT 1 st
  match Tab.get? s.hbm.ords a with
  | some o => (put o, true)
  | none => if used < 2048 then (put { op := op, accs := [], poison := false, last := 0 }, true) else (s, false)

/-- Every open slot of a stack is flushed early. -/
def State.flushStack (s : State) (st : Nat) : State :=
  s.hbm.ords.foldl (fun s o => if s.stackOf o.1 = st then s.flushOrd (s.modeAt (1 + st) o.1).1 o.1 true else s) s

/-! ### A line of HBM for the other units (R154, R163, R184) -/

/-- A read of the line at `a`: its open slot is flushed first, then the read takes its turn behind what is queued. -/
def State.hbmLoad (s : State) (m : Master) (mode a : Nat) (cls : ReqClass) : State × List Byte × Bool :=
  match (s.flushOrd mode a false).hbmServe { m := m, addr := a, op := .read, cls := cls, data := [], mask := 0, poison := false } mode with
  | (s, .data l po) => (s, l, po)
  | (s, _) => (s, s.lineData mode a, s.linePoison a)

/-- A write, a masked write or an add of the line at `a`. False: it completed with an error. -/
def State.hbmStore (s : State) (m : Master) (mode a : Nat) (cls : ReqClass) (op : LineOp) (l : List Byte) (mask : Nat) (poison : Bool) : State × Bool :=
  match (s.flushOrd mode a false).hbmServe { m := m, addr := a, op := op, cls := cls, data := l, mask := mask, poison := poison } mode with
  | (s, .err) => (s, false)
  | (s, _) => (s, true)

/-! ### The end of a sparing copy (R170) -/

/-- The copy of a row into spare entry `e` ends: its 16 lines have been read through the code, and the row is served from its buffer. -/
def State.spareCopied (s : State) (st p e : Nat) : State :=
  if s.rd R.HBM_PC_SPARE.VALID st p e = 0 ∨ s.rd R.HBM_PC_SPARE.COPYING st p e = 0 then s
  else
    let b := s.rd R.HBM_PC_SPARE.BANK st p e
    let row := s.rd R.HBM_PC_SPARE.ROW st p e
    let l0 := row * 2 ^ 14 + ((b ^^^ row) % 16) * 2 ^ 10
    let s := (List.range 16).foldl (fun s i =>
      let a := hbmUnmap s.hbm.loc st p (l0 + 64 * i)
      let (s, x) := s.hbmReq { m := ⟨0x9000, .f, false⟩, addr := a, op := .read, cls := .bulk, data := [], mask := 0, poison := false } 0 true
      let (s, d) := (s.bump R.HBM_PC_RD_CNT 1 st p).hbmDecode st p x ⟨0, []⟩
      match d.rewrite with
      | some (l, po) => s.putAt x.line x.key l po
      | none => s) s
    let s := s.wr R.HBM_PC_SPARE.COPYING 0 st p e
    s.wr R.HBM_PC_RAS_STATUS.COPYING (b2n ((List.range 64).any (fun i => s.rd R.HBM_PC_SPARE.COPYING st p i == 1))) st p

/-- SPARES_USED as the kept entries give it (R172). -/
def State.sparesUsed (s : State) (st p : Nat) : Nat := ((List.range 64).filter (fun i => s.rd R.HBM_PC_SPARE.VALID st p i == 1)).length

/-! ### Self-refresh and reset (R160, R161, R177) -/

/-- Issue slots of a stack's pseudo-channels since it became READY: one every 2 ns at 8.0 Gb/s. -/
def State.slotsSince (s : State) (st : Nat) : Nat :=
  if s.stkState st = stkReady then (s.now - Tab.get s.hbm.readyAt st s.now) * s.rd R.HBM_STK_STATUS.RATE_MBPS st / 16000 else 0

/-- The slots passed so far are kept in HBM_PC_SLOTS, as the stack leaves READY. -/
def State.keepSlots (s : State) (st : Nat) : State :=
  let n := s.slotsSince st
  (List.range 64).foldl (fun s p => s.bump R.HBM_PC_SLOTS n st p) s

/-- Entry: open ordered slots are flushed early, every queued request issues while what waits at ingress goes on waiting, and the stack is in self-refresh. -/
def State.hbmSelfRefresh (s : State) (st : Nat) : State :=
  if s.stkState st ≠ stkReady then s
  else
    let s := s.flushStack st
    let s := (List.range 64).foldl (fun s p =>
      let s := (List.range 64).foldl (fun s e => s.spareCopied st p e) s
      let waiting := (s.hq st p).held
      let s := s.setHq st p { s.hq st p with held := [] }
      let s := State.hbmDrain st p (s.hq st p).patience s
      s.setHq st p { s.hq st p with held := waiting, owed := [], openRow := [], actAt := [] }) s
    let s := (List.range 64).foldl (fun s p => s.wr R.HBM_PC_STATUS.SELF_REFRESH 1 st p) s
    (s.keepSlots st).wr R.HBM_STK_STATUS.STATE stkSelfRefresh st

/-- Exit: the stack is READY, and what waited at ingress enters. -/
def State.hbmWake (s : State) (st : Nat) : State :=
  if s.stkState st ≠ stkSelfRefresh then s
  else
    let s := s.wr R.HBM_STK_STATUS.STATE stkReady st
    let s := s.updHbm (fun h => { h with readyAt := Tab.put h.readyAt st s.now })
    let s := (List.range 64).foldl (fun s p =>
      let s := s.wr R.HBM_PC_STATUS.SELF_REFRESH 0 st p
      let q := s.hq st p
      if q.held = [] then s
      else
        s.hqDone st p q (q.refillIngress (s.hcfg st p))) s
    s

/-- SPARES_USED shows the spare entries in use, which a reset keeps (R172). -/
def State.showSpares (s : State) (st : Nat) : State :=
  (List.range 64).foldl (fun s p => s.wr R.HBM_PC_RAS_STATUS.SPARES_USED (s.sparesUsed st p) st p) s

/-- A BLOCK reset of a controller complex: what is queued or held completes with an error, and the queues are empty. -/
def State.hbmBlockReset (s : State) (st : Nat) : State :=
  let s := s.flushStack st
  (List.range 64).foldl (fun s p =>
    match Tab.get? s.hbm.pcs (64 * st + p) with
    | none => s
    | some q =>
      let s := s.emits ((q.all.filter (fun x => x.mode != rewriteMode && x.mode != ordMode && !x.quiet)).map (fun x => .error x.r.m))
      s.hqDone st p q q.emptied) s

/-! ### Heat (R174 to R177) -/

/-- The band that a reading of `t` °C gives from band `b` (pseudocode "Heat"). -/
def bandStep (b t : Nat) : Nat :=
  let b := if 95 < t then 2 else if 85 < t then max b 1 else b
  let b := if b = 2 ∧ t ≤ 93 then (if 85 < t then 1 else 0) else b
  if b = 1 ∧ t ≤ 83 then 0 else b

/-- MIN_DUTY as a number of slots: 0 stands for 16. -/
def State.minDuty (s : State) (st : Nat) : Nat := let n := s.rd R.HBM_STK_THERM_CFG.MIN_DUTY st; if n = 0 then 16 else n

/-- A stack temperature reading. -/
def State.hbmPoll (s : State) (st : Nat) (t : TempReading) : State :=
  let bad := match t with | some c => decide (150 < c) | none => true
  if bad then
    let s := s.flag R.HBM_STK_THERM_EVENT.READ_FAIL R.HBM_STK_READ_FAIL_CNT.COUNT st
    ((s.wr R.HBM_STK_TEMP.READ_FAIL 1 st).wr R.HBM_STK_TEMP.BAND 2 st).report (Src.hbmTherm st) Cls.ce Cause.thermalReadFail
  else
    let c := t.getD 0
    let stop := s.rd R.HBM_STK_THERM_CFG.STOP_C st
    let thr := s.rd R.HBM_STK_THERM_CFG.THROTTLE_C st
    let hyst := s.rd R.HBM_STK_THERM_CFG.HYST st
    let duty := s.dutyOf st
    let s := (s.wr R.HBM_STK_TEMP.READ_FAIL 0 st).wr R.HBM_STK_TEMP.TEMP_C c st
    let s := s.wr R.HBM_STK_TEMP.BAND (bandStep (s.rd R.HBM_STK_TEMP.BAND st) c) st
    if s.rd R.HBM_STK_TEMP.OVERTEMP st = 1 then
      if c + hyst ≤ thr then ((s.wr R.HBM_STK_TEMP.OVERTEMP 0 st).wr R.HBM_STK_TEMP.DUTY (s.minDuty st) st).hbmWake st
      else if stop ≤ c then (s.flag R.HBM_STK_THERM_EVENT.OVERTEMP R.HBM_STK_OVERTEMP_CNT.COUNT st).report (Src.hbmTherm st) Cls.uc Cause.overtemp
      else s
    else if stop ≤ c then
      let s := (s.flag R.HBM_STK_THERM_EVENT.OVERTEMP R.HBM_STK_OVERTEMP_CNT.COUNT st).wr R.HBM_STK_TEMP.OVERTEMP 1 st
      (s.report (Src.hbmTherm st) Cls.uc Cause.overtemp).hbmSelfRefresh st
    else if thr ≤ c then
      let n := max (duty - 1) (s.minDuty st)
      let s := s.wr R.HBM_STK_TEMP.DUTY n st
      if n < duty then s.flag R.HBM_STK_THERM_EVENT.STEP_DOWN R.HBM_STK_STEP_CNT.COUNT st else s
    else if c + hyst ≤ thr then s.wr R.HBM_STK_TEMP.DUTY (min (duty + 1) 16) st
    else s

end Sys2Proof.Machine
end

