-- ==== Sys2Proof/Machine/RoostOps.lean ====
section
/-! DEFINITION. The Roost controllers and bridges as shared operations (08_roost_tier.md): the burst slots, read outcomes, retries, refresh, low power, the frame map, and the accesses that other units make
within one step. -/

namespace Sys2Proof.Machine

def State.rq (s : State) (ch sub : Nat) : MQueue := Tab.get s.roost.subs (2 * ch + sub) .reset
def State.setRq (s : State) (ch sub : Nat) (q : MQueue) : State := s.updRoost (fun r => { r with subs := Tab.put r.subs (2 * ch + sub) q })

def State.rcfg (s : State) (ch : Nat) : QCfg :=
  { rqCap := 128, rqCrit := 8, rqBulk := 8, wqCap := 160, wqCrit := 8, wqBulk := 8,
    high := s.rd R.ROOST_CH_CFG.WQ_HIGH ch, low := s.rd R.ROOST_CH_CFG.WQ_LOW ch, max := s.rd R.ROOST_CH_CFG.DRAIN_MAX ch, duty := 16,
    throttle := s.rd R.ROOST_CH_CFG.RH_MODE ch != 0, limit := max 1 (s.rd R.ROOST_CH_CFG.ACT_LIMIT ch), spacing := s.rd R.ROOST_CH_CFG.SPACING_NS ch,
    toWrite := 4, toRead := 6, ras := 32, allBank := true }

/-- Rank and bank, and row, of an address: the key of R200 and of the open rows. -/
def roostPlace (a : Nat) : Nat × Nat := let r := roostMap a; (r.rank * 32 + r.bank, r.row)

/-- States of a bridge. -/
def brOff : Nat := 0
def brTraining : Nat := 1
def brReady : Nat := 2
def brRetraining : Nat := 3
def brRetain : Nat := 4
def brReset : Nat := 5
def brFailed : Nat := 6

def State.chFailed (s : State) (ch : Nat) : Bool := natBit (s.rd R.ROOST_BR_STATUS.CH_FAILED (ch / 4)) (ch % 4)

/-- A channel has been trained and has not failed. -/
def State.chUp (s : State) (ch : Nat) : Bool :=
  let b := s.rd R.ROOST_BR_STATUS.STATE (ch / 4)
  b != brOff && b != brTraining && !s.chFailed ch

def State.chSleeps (s : State) (ch : Nat) : Bool := s.rd R.ROOST_CH_STATUS.SELF_REFRESH ch == 1

/-- The channel takes no request from ingress: it is in self-refresh, or paused for a retraining (R193, R201). -/
def State.chPaused (s : State) (ch : Nat) : Bool := s.chSleeps ch || s.rd R.ROOST_CH_STATUS.RETRAINING ch == 1

/-- The detail word of a ROOST_CH event. -/
def roostDetail (a : Nat) : Nat := (roostMap a).cs + (roostMap a).line * 2 ^ 25

/-! ### Frames (R207 to R209) -/

def Frame.free : Nat := 0
def Frame.used : Nat := 1
def Frame.clean : Nat := 2
def Frame.bad : Nat := 3
def frameFirst : Nat := 1024
def frameEnd : Nat := 16777216
def roostCapacity : Nat := 16776192

def State.frame (s : State) (f : Nat) : Nat := Tab.get s.roost.frames f 0
/-- The byte of the frame map in the metadata area that holds frame `f` (table "Roost metadata area"). -/
def State.mapByte (s : State) (f : Nat) : Byte := .ofNat 8 (((List.range 4).map (fun i => s.frame (f / 4 * 4 + i) * 4 ^ i)).sum)

/-- A frame's recorded state changes, in the engine and in the frame map (R189, R207). -/
def State.setFrame (s : State) (f v : Nat) : State :=
  let s := s.updRoost (fun r => { r with frames := if v = 0 then Tab.del r.frames f else Tab.put r.frames f v })
  s.store (mapBase + f / 4) [s.mapByte f]

/-- FREE session frames; 0 while the tier is FAILED (R203). -/
def State.freeFrames (s : State) : Nat :=
  if s.rd R.ROOST_ENG_STATUS.STATE = 2 then 0 else roostCapacity - s.roost.frames.length
def State.cleanFrames (s : State) : Nat := (s.roost.frames.filter (fun e => e.2 == Frame.clean)).length

/-- The first FREE frame from `f` upward among the next `n`: the listed frames are not FREE, and they are in rising order. -/
def freeFrom {α : Type} : Tab α → Nat → Nat
  | [], f => f
  | (k, _) :: r, f => if k < f then freeFrom r f else if k = f then freeFrom r (f + 1) else f

/-- Next-fit allocation of one frame for a park: recorded USED (R207). -/
def State.allocFrame (s : State) : Option (State × Nat) :=
  if s.freeFrames = 0 then none
  else
    let f := freeFrom s.roost.frames s.roost.fit
    let f := if f < frameEnd then f else freeFrom s.roost.frames frameFirst
    some ((s.setFrame f Frame.used).updRoost (fun r => { r with fit := if f + 1 < frameEnd then f + 1 else frameFirst }), f)

/-- A frame is freed: FREE, or BAD where a read of it had an uncorrectable decode (R209) or its record is worn (R219). -/
def State.freeFrame (s : State) (f : Nat) : State :=
  if s.frame f = 0 then s
  else
    let worn := (List.range 16).any (fun i => (s.secRec (16 * f + i)).worn)
    s.setFrame f (if s.roost.badSeen.contains f || worn then Frame.bad else Frame.free)

def State.freeAll (s : State) (l : List Nat) : State := l.foldl State.freeFrame s

/-! ### Read outcomes (R197, R199) -/

/-- The check symbols of the poison pattern, as an error pattern over a zero codeword. -/
def poisonPattern : List (Nat × Nat) := (List.range 8).flatMap (fun i => [(i * 10 + 8, 0xFF), (i * 10 + 9, 0xFF)])

def State.roostErr (s : State) (a kind : Nat) : State :=
  let r := roostMap a
  ((s.wr R.ROOST_CH_ERR_ADDR.CS r.cs r.ch).wr R.ROOST_CH_ERR_ADDR.LINE r.line r.ch).wr R.ROOST_CH_ERR_ADDR.KIND kind r.ch

/-- The correction count of a device grows; at MARK_CE the device is marked. -/
def State.countFix (s : State) (a dev : Nat) : State :=
  let r := roostMap a
  let k := ((2 * r.ch + r.sub) * 2 + r.rank) * 10 + dev
  let n := Tab.get s.roost.fixes k 0 + 1
  let s := s.updRoost (fun x => { x with fixes := Tab.put x.fixes k n })
  let i := 2 * r.rank + r.sub
  if max 1 (s.rd R.ROOST_CH_CFG.MARK_CE r.ch) ≤ n ∧ s.rd R.ROOST_CH_MARKS.VALID r.ch i = 0 then
    let s := (s.wr R.ROOST_CH_MARKS.VALID 1 r.ch i).wr R.ROOST_CH_MARKS.DEVICE dev r.ch i
    (s.flag R.ROOST_CH_EVENT.MARKED R.ROOST_CH_MARK_CNT.COUNT r.ch).report (Src.roostCh r.ch) Cls.ce Cause.deviceMarked (roostDetail a)
  else s

/-- A read of the line at `a` with what the wire and the cells did to it. -/
def State.roostDecode (s : State) (a : Nat) (w : WireErr) : State × LineRead :=
  let r := roostMap a
  let i := 2 * r.rank + r.sub
  let marked := if s.rd R.ROOST_CH_MARKS.VALID r.ch i = 1 then some (s.rd R.ROOST_CH_MARKS.DEVICE r.ch i) else none
  let wire := w.errs ++ s.cellErrs a a
  let errs := if s.linePoison a then wire ++ poisonPattern else wire
  let at_ := fun (e : List (Nat × Nat)) => flipBits (s.storedLine a) (errMask roostSymMask e)
  let zero := List.replicate 64 (0 : Byte)
  if at_ errs = zero ∧ (decodeRoost none (errs ++ poisonPattern)).1 = .clean then
    (s.roostErr a 3, { data := zero, poison := true, rewrite := none })
  else
    match decodeRoost marked errs with
    | (.clean, e) => (s, { data := at_ e, poison := false, rewrite := none })
    | (.fixed dev _, e) =>
      let s := ((s.flag R.ROOST_CH_EVENT.CE R.ROOST_CH_CE_CNT.COUNT r.ch).roostErr a 1).wr R.ROOST_CH_ERR_ADDR.DEVICE dev r.ch
      ((s.report (Src.roostCh r.ch) Cls.ce Cause.corrected (roostDetail a)).countFix a dev, { data := at_ e, poison := false, rewrite := some (at_ e, false) })
    | (.bad, e) =>
      let s := ((s.flag R.ROOST_CH_EVENT.UE R.ROOST_CH_UE_CNT.COUNT r.ch).roostErr a 2).updRoost (fun x => { x with badSeen := sinsert x.badSeen ((a - roostBase) / 65536) })
      (s.report (Src.roostCh r.ch) Cls.de Cause.uncorrected (roostDetail a), { data := at_ e, poison := true, rewrite := some (zero, true) })

/-! ### Entry and issue (R194 to R198, R200) -/

/-- A request as it arrives at the Roost port, placed by R188. -/
def State.roostReq (s : State) (r : LineReq) (mode : Nat) (quiet : Bool := false) : State × QReq :=
  let a := r.addr / 64 * 64
  (s.updRoost (fun x => { x with seq := x.seq + 1 }),
    { id := s.roost.seq, r := { r with addr := a }, at_ := s.now, mode := mode, key := a, lcl := a, bank := (roostPlace a).1, row := (roostPlace a).2, ent := 0, quiet := quiet })

def State.roostEnter (s : State) (ch sub : Nat) (x : QReq) : State :=
  let g := s.rcfg ch
  let q := s.rq ch sub
  if !s.chPaused ch ∧ !q.holds x ∧ q.room g x then s.setRq ch sub (q.enter g x) else s.setRq ch sub (q.hold x s.now)

/-- The rewrite after a corrected or uncorrectable read, as a BULK write, unless a write to the line entered the write queue after the read did (R197, R198). -/
def State.roostRewrite (s : State) (x : QReq) (old : List Byte) : Option (List Byte × Bool) → State
  | none => s
  | some (l, po) =>
    let r := roostMap x.line
    if (s.rq r.ch r.sub).wq.any (fun y => y.key == x.key && decide (x.ent < y.ent)) then s
    else
      let (s, y) := s.roostReq { m := ⟨0x9000, .f, false⟩, addr := x.line, op := .write, cls := .bulk, data := l ++ old, mask := 0, poison := po } rewriteMode
      s.roostEnter r.ch r.sub y

/-- The request's effect on its line, and its answer. -/
def State.roostPerform (s : State) (x : QReq) (w : WireErr) (rmw : Option Rmw) : State × Ans :=
  let a := x.line
  let r := x.r
  let key := s.crypt.scramble
  if x.mode = rewriteMode then (if s.storedLine a = r.data.drop 64 then s.putLine a (r.data.take 64) r.poison else s, .done)
  else
    match r.op with
    | .read =>
      let old := s.storedLine a
      let (s, d) := s.roostDecode a w
      (s.roostRewrite x old d.rewrite, .data (lineTransform key x.mode a d.data) d.poison)
    | .write => (s.putReq x r.data r.poison, .done)
    | .masked =>
      let (l, po) := match rmw with | some m => (m.old, m.poison) | none => (s.lineData x.mode a, s.linePoison a)
      (s.putReq x (mergeMask l r.data r.mask) (po || r.poison), .done)
    | .add _ => (s, .err)

/-- The activate of a request: counted with those of the neighbours that PROB refreshes (R200). -/
def State.roostActivate (s : State) (ch sub : Nat) (x : QReq) : State :=
  let (q, fire) := (s.rq ch sub).prob (s.rd R.ROOST_CH_CFG.RH_MODE ch != 1)
  let (q, first) := q.activate (s.rcfg ch) x.r.m.id x.bank s.now
  let s := (s.setRq ch sub (q.opened x s.now)).bump R.ROOST_CH_ACT_CNT (1 + if fire then neighbours x.row 131071 else 0) ch
  if first then s.flag R.ROOST_CH_EVENT.RH_LIMIT R.ROOST_CH_RH_CNT.COUNT ch else s

def State.roostBurst (s : State) (ch sub : Nat) (x : QReq) : State :=
  let q := s.rq ch sub
  let s := if q.miss .plain x then s.roostActivate ch sub x else s
  if q.dirOf x then s.bump R.ROOST_CH_WR_CNT 1 ch else s.bump R.ROOST_CH_RD_CNT 1 ch

/-- The internal read of a masked write issues (R194). -/
def State.roostInner (s : State) (ch sub : Nat) (x : QReq) (w : WireErr) : State :=
  let s := s.roostBurst ch sub x
  let s := s.setRq ch sub ((s.rq ch sub).accessed (s.rcfg ch) x)
  let (s, d) := s.roostDecode x.line w
  s.setRq ch sub { s.rq ch sub with rmw := some { req := x.id, old := lineTransform s.crypt.scramble x.mode x.line d.base, poison := d.poison } }

/-- The request `x` issues, with its answer. -/
def State.roostIssueOne (s : State) (ch sub : Nat) (x : QReq) (w : WireErr) : State × Ans :=
  let s := s.roostBurst ch sub x
  let q := s.rq ch sub
  let s := s.setRq ch sub (q.issued (s.rcfg ch) x s.now)
  s.roostPerform x w q.rmw

/-- The next burst slot of a sub-channel, with the request that completed in it. -/
def State.roostSlot (s : State) (ch sub : Nat) (notReady : List Nat) (w : WireErr) : State × Option (QReq × Ans) :=
  let g := s.rcfg ch
  let q := s.rq ch sub
  match q.pick g .plain notReady s.now with
  | some x =>
    if x.isMasked && !q.dirOf x then (s.roostInner ch sub x w, none)
    else
      match s.roostIssueOne ch sub x w with
      | (s, r) => (s, some (x, r))
  | none => (s.setRq ch sub ((((q.idle g).checkDrain g).refillIngress g).closeRows g s.now), none)

/-- A burst slot, with the completion of the request that issued in it. -/
def State.roostIssue (s : State) (ch sub : Nat) (notReady : List Nat) (w : WireErr) : State :=
  if !s.chUp ch ∨ s.chSleeps ch ∨ s.unitState (56 + ch / 4) = Unit.resetting ∨ s.unitState (58 + ch) = Unit.resetting then s
  else
    match s.roostSlot ch sub notReady w with
    | (s, some (x, r)) => s.complete x r
    | (s, none) => s

/-! ### Accesses that end within the step that makes them -/

/-- Slots pass until request `id` has issued, as hbmUntil says. -/
def State.roostUntil (s : State) (ch sub id : Nat) : Nat → State × Ans
  | 0 =>
    match (s.rq ch sub).all.find? (fun x => x.id == id) with
    | none => (s, .err)
    | some x =>
      let s := if x.isMasked then s.roostInner ch sub x ⟨0, []⟩ else s
      let s := s.setRq ch sub { s.rq ch sub with held := (s.rq ch sub).held.filter (fun y => y.id != id) }
      s.roostIssueOne ch sub x ⟨0, []⟩
  | n + 1 =>
    match s.roostSlot ch sub [] ⟨0, []⟩ with
    | (s, none) => s.roostUntil ch sub id n
    | (s, some (x, r)) => if x.id = id then (s, r) else (s.complete x r).roostUntil ch sub id n

/-- A request of another unit of the package: it enters its queue and is served in its turn. A write to a channel that takes none waits at ingress; its completion goes to nobody. -/
def State.roostServe (s : State) (r : LineReq) (mode : Nat) : State × Ans :=
  let (s, x) := s.roostReq r mode true
  let w := roostMap x.line
  let s := s.roostEnter w.ch w.sub x
  if s.chPaused w.ch then (s, .done) else s.roostUntil w.ch w.sub x.id (s.rq w.ch w.sub).patience

/-- A read of the line at `a` under PLAIN or SCRAMBLE. -/
def State.roostLoad (s : State) (m : Master) (mode a : Nat) (cls : ReqClass) : State × List Byte × Bool :=
  match s.roostServe { m := m, addr := a, op := .read, cls := cls, data := [], mask := 0, poison := false } mode with
  | (s, .data l po) => (s, l, po)
  | (s, _) => (s, s.lineData mode a, s.linePoison a)

/-- A write or masked write of the line at `a`. -/
def State.roostStore (s : State) (m : Master) (mode a : Nat) (cls : ReqClass) (op : LineOp) (l : List Byte) (mask : Nat) (poison : Bool) : State :=
  (s.roostServe { m := m, addr := a, op := op, cls := cls, data := l, mask := mask, poison := poison } mode).1

/-- Every queued request of a sub-channel issues (R160, R201). -/
def State.roostDrain (ch sub : Nat) : Nat → State → State
  | 0, s => s
  | n + 1, s =>
    let q := s.rq ch sub
    if q.rq = [] ∧ q.wq = [] then s
    else
      match s.roostSlot ch sub [] ⟨0, []⟩ with
      | (s, some (x, r)) => State.roostDrain ch sub n (s.complete x r)
      | (s, none) => State.roostDrain ch sub n s

/-! ### Retries (R190, R191) -/

/-- Requests of a sub-channel complete with an error and leave its queues. -/
def State.roostFail (s : State) (ch sub : Nat) (ids : List Nat) : State :=
  let q := s.rq ch sub
  let out := (q.rq ++ q.wq).filter (fun x => ids.contains x.id)
  out.foldl (fun s x => s.complete x .err) (s.setRq ch sub (q.without (s.rcfg ch) ids s.now))

/-- A CA parity error on the command of the first request of `ids`; `ids` are that request and the later ones of its rank that had not completed. Each request's retries are counted apart. -/
def State.roostCaParity (s : State) (ch sub : Nat) (ids : List Nat) : State :=
  let q := s.rq ch sub
  match (q.rq ++ q.wq).find? (fun x => ids.head? == some x.id) with
  | none => s
  | some x =>
    let n := Tab.get q.retry x.id 0
    if 2 ≤ n then
      (((s.roostFail ch sub ids).flag R.ROOST_BR_EVENT.CA_RETRY_FAIL R.ROOST_BR_CAFAIL_CNT.COUNT (ch / 4))).report (Src.roostCh ch) Cls.uc Cause.retryExhausted
        (roostDetail x.line)
    else (s.setRq ch sub { q with retry := Tab.put q.retry x.id (n + 1) }).flag R.ROOST_BR_EVENT.CA_PARITY R.ROOST_BR_CAPAR_CNT.COUNT (ch / 4)

/-- A write burst of request `id` fails its CRC-8. -/
def State.roostWrCrc (s : State) (ch sub id : Nat) : State :=
  let q := s.rq ch sub
  match q.wq.find? (fun x => x.id == id) with
  | none => s
  | some x =>
    let n := Tab.get q.crc id 0
    let s := s.flag R.ROOST_BR_EVENT.WR_CRC R.ROOST_BR_CRC_CNT.COUNT (ch / 4)
    if 2 ≤ n then
      (((s.roostFail ch sub [id]).flag R.ROOST_BR_EVENT.WR_CRC_FAIL R.ROOST_BR_CRCFAIL_CNT.COUNT (ch / 4))).report (Src.roostCh ch) Cls.uc Cause.retryExhausted
        (roostDetail x.line)
    else s.setRq ch sub { q with crc := Tab.put q.crc id (n + 1) }

/-! ### Refresh, low power, reset, failure (R196, R201 to R203) -/

/-- An all-bank refresh of a sub-channel falls due: it issues, or is postponed while a queued request hits an open row; at most four are owed, and a fifth forces the oldest. -/
def MQueue.refreshAll (q : MQueue) : MQueue :=
  let hit := (q.rq ++ q.wq).any q.hit
  let n := Tab.get q.owed 0 0
  if hit && decide (n < 4) then { q with owed := Tab.put q.owed 0 (n + 1) }
  else if hit then { q with openRow := [] }
  else { q with openRow := [], owed := if n ≤ 1 then Tab.del q.owed 0 else Tab.put q.owed 0 (n - 1) }

/-- A channel enters self-refresh once its queues have issued; what waits at ingress goes on waiting. -/
def State.roostSleep (s : State) (ch : Nat) : State :=
  if !s.chUp ch || s.chSleeps ch then s
  else
    let s := [0, 1].foldl (fun s sub =>
      let waiting := (s.rq ch sub).held
      let s := s.setRq ch sub { s.rq ch sub with held := [] }
      let s := State.roostDrain ch sub (s.rq ch sub).patience s
      s.setRq ch sub { s.rq ch sub with held := waiting, owed := [], openRow := [], actAt := [] }) s
    s.wr R.ROOST_CH_STATUS.SELF_REFRESH 1 ch

/-- Burst slots of a channel since its tier came up: two per 2.5 ns, and at DDR5-5600 the bus is slower by 5,600 / 6,400 (R186). -/
def State.burstsSince (s : State) (ch : Nat) : Nat :=
  if s.rd R.ROOST_ENG_STATUS.STATE = 1 ∧ (List.range 8).all (fun c => s.rd R.ROOST_CH_STATUS.SELF_REFRESH c == 0) then
    (s.now - s.roost.upAt) * (if s.rd R.ROOST_BR_CFG.RATE (ch / 4) = 1 then 7 else 8) / 10
  else 0

/-- The slots passed so far are kept in ROOST_CH_SLOTS. -/
def State.keepBursts (s : State) : State :=
  ((List.range 8).foldl (fun t c => t.bump R.ROOST_CH_SLOTS (s.burstsSince c) c) s).updRoost (fun r => { r with upAt := s.now })

/-- What a channel's retraining came to: its consecutive failures are counted, and it takes requests again (R193). -/
def State.retrainResult (s : State) (failed : List Nat) (ch : Nat) : State :=
  let s := s.wr R.ROOST_CH_STATUS.RETRAINING 0 ch
  let s := if s.chSleeps ch then s else [0, 1].foldl (fun s sub => s.setRq ch sub ((s.rq ch sub).refillIngress (s.rcfg ch))) s
  if s.chFailed ch then s
  else if failed.contains ch then
    (s.updRoost (fun r => { r with rtFails := Tab.put r.rtFails ch (Tab.get r.rtFails ch 0 + 1) })).flag R.ROOST_BR_EVENT.RETRAIN_FAIL R.ROOST_BR_RTFAIL_CNT.COUNT (ch / 4)
  else s.updRoost (fun r => { r with rtFails := Tab.del r.rtFails ch })

/-- Self-refresh is requested while bridge `b` retrains: the channel in hand is completed, and the others wait for the next check after the exit (Case: self-refresh is requested during retraining). -/
def State.retrainCut (s : State) (b : Nat) : State :=
  match Tab.get? s.roost.retrain b with
  | none => s
  | some x =>
    let s := match x.todo with | ch :: _ => s.retrainResult x.failed ch | [] => s
    let s := s.updRoost (fun r => { r with retrain := Tab.del r.retrain b, owing := (x.todo.drop 1).foldl sinsert r.owing })
    if s.rd R.ROOST_BR_STATUS.STATE b = brRetraining then s.wr R.ROOST_BR_STATUS.STATE brReady b else s

/-- Self-refresh of the tier: every channel that has not failed, then the bridges enter RETAIN. -/
def State.roostSelfRefresh (s : State) : State :=
  let s := (s.retrainCut 0).retrainCut 1
  let s := s.keepBursts
  let s := (List.range 8).foldl State.roostSleep s
  [0, 1].foldl (fun s b => if s.rd R.ROOST_BR_STATUS.STATE b = brReady then s.wr R.ROOST_BR_STATUS.STATE brRetain b else s) s

/-- The bridge's STATE once its channels serve again. -/
def State.bridgeBack (s : State) (b : Nat) : State :=
  s.wr R.ROOST_BR_STATUS.STATE (if s.rd R.ROOST_BR_STATUS.CH_FAILED b = 0 then brReady else brFailed) b

/-- A channel leaves self-refresh, and what waited at ingress enters. -/
def State.roostChWake (s : State) (ch : Nat) : State :=
  if !s.chSleeps ch then s
  else
    let s := (s.wr R.ROOST_CH_STATUS.SELF_REFRESH 0 ch).updRoost (fun r => { r with upAt := s.now })
    [0, 1].foldl (fun s sub => s.setRq ch sub ((s.rq ch sub).refillIngress (s.rcfg ch))) s

/-- A BLOCK reset of channel `ch`'s controller, or of its bridge: queued and ingress requests complete with an error; contents are kept. -/
def State.roostChReset (s : State) (ch : Nat) : State :=
  [0, 1].foldl (fun s sub =>
    let q := s.rq ch sub
    (s.emits ((q.all.filter (fun x => x.mode != rewriteMode && !x.quiet)).map (fun x => .error x.r.m))).setRq ch sub q.emptied) s

/-- A channel is set FAILED: its bridge and the engine read FAILED, and Watch records the tier's failure (R203). The sessions' side is in tierFailed. -/
def State.chFail (s : State) (ch : Nat) : State :=
  let b := ch / 4
  let was := s.rd R.ROOST_ENG_STATUS.STATE
  let s := s.wr R.ROOST_BR_STATUS.CH_FAILED (s.rd R.ROOST_BR_STATUS.CH_FAILED b ||| 2 ^ (ch % 4)) b
  let s := (s.wr R.ROOST_BR_STATUS.STATE brFailed b).wr R.ROOST_ENG_STATUS.STATE 2
  if was = 2 then s else s.report Src.roostEng Cls.uc Cause.tierFailed

end Sys2Proof.Machine
end

