-- ==== Sys2Proof/Machine/MemOps.lean ====
section
/-! DEFINITION. Memory as every agent reaches it above the controllers: the Crypt engine's sectors and merge buffer, the Mews cache's write-backs and its ward filter, requests at the target ports
with their Jess check, and what a request meets at ingress. -/

namespace Sys2Proof.Machine

/-! ### Classes and holds -/

/-- The class of a master's own requests where the table "Class of each request source" gives one (R156): warden cores and the TCI fetcher CRIT, the Crypt engine and the scrubbers BULK, tenant cores, PCIe and the rest NORM.
DESIGN CHOICE (log 128): the mailbox engine and the test port, which the table does not name, are NORM. -/
def masterClass (m : Master) : ReqClass := if m.cls = 0 then .crit else if m.cls = 8 ∨ m.cls = 9 then .bulk else .norm

/-- The class that a presented request carries: the table's for its source; the descriptor's, the Roost engine's (BULK or NORM) and a remote package's come with the request. -/
def sourceClass (m : Master) (c : ReqClass) : ReqClass :=
  if m.remote ∨ m.cls = 2 ∨ m.cls = 4 then c else if m.cls = 3 then (if c = .crit then .norm else c) else masterClass m

/-! ### The Crypt engine's sectors (R215 to R224) -/

def secAddr (sec : Nat) : Nat := roostBase + sec * 4096
def secOf (a : Nat) : Nat := (a - roostBase) / 4096

def State.domKeys (s : State) (d : Nat) : DomKeys := Tab.get s.crypt.keys d { a := none, b := none }
def DomKeys.pick (k : DomKeys) (b : Bool) : Option KeySet := if b then k.b else k.a

def Dom.empty : Nat := 0
def Dom.active : Nat := 1
def Dom.warned : Nat := 2
def Dom.frozen : Nat := 3
def Dom.mixed : Nat := 4

def State.domState (s : State) (d : Nat) : Nat := s.rd R.CRYPT_DOM.STATE d

/-- CRYPT_DOM_d's STATE and HELD follow from the sets held, the journal and the WARN and FROZEN bits (table "Domain states"). -/
def State.domRefresh (s : State) (d : Nat) : State :=
  let k := s.domKeys d
  let held := b2n k.a.isSome + 2 * b2n k.b.isSome
  let mixed := s.rd R.CRYPT_JOURNAL.RUNNING == 1 && s.rd R.CRYPT_JOURNAL.DOMAIN == d
  let st := if mixed then Dom.mixed else if held = 0 then Dom.empty
    else if s.rd R.CRYPT_DOM.FROZEN d = 1 then Dom.frozen else if s.rd R.CRYPT_DOM.WARN d = 1 then Dom.warned else Dom.active
  (s.wr R.CRYPT_DOM.HELD held d).wr R.CRYPT_DOM.STATE st d

/-- The set that a seal in domain `d` uses: the new one while it is MIXED (R226), else the current one. -/
def State.sealSet (s : State) (d : Nat) : Bool :=
  if s.domState d = Dom.mixed then s.rd R.CRYPT_JOURNAL.NEW_SET == 1 else s.rd R.CRYPT_DOM.CURRENT d == 1

/-- HOODED_SERVICE: slots 0 and 2 to 6 are zero, and no domain has a key (R386). -/
def State.hoodedService (s : State) : Bool := s.rd R.SEC_STATUS.MODE == 2

/-- A key set of a domain is used: it takes the front of the 84 cache groups of the key store. -/
def State.useGroup (s : State) (d : Nat) (b : Bool) : State :=
  let l := ((2 * d + b2n b) :: s.sec.groups.filter (· != 2 * d + b2n b)).take 84
  { s with sec := { s.sec with groups := l } }

/-- What a seal ended with: done; no key set (R469); the domain is frozen (R224), or the package is in HOODED_SERVICE (R386); its counter is exhausted (R223). -/
inductive SealEnd where
  | ok | empty | frozen | exhausted
deriving DecidableEq, Repr

/-- The sector's 64 stored lines. -/
def State.cipherOf (s : State) (sec : Nat) : List Byte :=
  (List.range 64).flatMap (fun i => s.storedLine (secAddr sec + i * 64))

/-- The sector's 64 lines read from Roost in a class, and whether one came poisoned. -/
def State.loadSector (s : State) (sec : Nat) (c : ReqClass) : State × List Byte × Bool :=
  (List.range 64).foldl (fun x i =>
    let (s, l, po) := x.1.roostLoad cryptMaster 0 (secAddr sec + i * 64) c
    (s, x.2.1 ++ l, x.2.2 || po)) (s, [], false)

/-- The sector's 64 lines written to Roost in a class. -/
def State.putCipher (s : State) (sec : Nat) (l : List Byte) (c : ReqClass := .bulk) : State :=
  (List.range 64).foldl (fun s i => s.roostStore cryptMaster 0 (secAddr sec + i * 64) c .write (slice l (i * 64) 64) 0 false) s

/-- The line of HBM that holds a sector's record, and the record's byte offset in it. -/
def State.recLine (s : State) (sec : Nat) : Nat := s.stblBase + sec * 32 / 64 * 64

/-- A record read by the engine, in the class of the sector operation (R214): whether its line came poisoned. -/
def State.loadRec (s : State) (sec : Nat) (c : ReqClass) : State × Bool :=
  if s.stkState (s.stackOf (s.recLine sec)) = stkReady then (let (s, _, po) := s.hbmLoad cryptMaster 0 (s.recLine sec) c; (s, po)) else (s, false)

/-- A record written by the engine: a masked write of its half of the line. -/
def State.storeRec (s : State) (sec : Nat) (r : SecRec) (c : ReqClass) : State :=
  if s.stkState (s.stackOf (s.recLine sec)) = stkReady then
    let half := sec % 2
    (s.hbmStore cryptMaster 0 (s.recLine sec) c .masked (List.replicate (32 * half) 0 ++ r.bytes ++ List.replicate (32 - 32 * half) 0) ((2 ^ 32 - 1) * 2 ^ (32 * half)) false).1.putRec sec r
  else s.putRec sec r

/-- A seal of a sector's plaintext in domain `d` under set `b` with the given LSN (R215, R222, R223). `walk`: the rekey walk's own seals, which FROZEN does not refuse. -/
def State.sealAs (s : State) (sec d : Nat) (b : Bool) (lsn : Nat) (walk : Bool) (plain : List Byte) (c : ReqClass := .bulk) : State × SealEnd :=
  match (s.domKeys d).pick b with
  | none => (s, if s.hoodedService then .frozen else .empty)
  | some k =>
    if s.rd R.CRYPT_DOM.FROZEN d = 1 && !walk then (s, .frozen)
    else
      let s := s.useGroup d b
      let r := s.secRec sec
      let wraps := r.valid && r.domain == d && r.setB != b
      if r.nextCtr = 0xFFFFFFFF ∧ wraps = false then
        let s := (s.wr R.CRYPT_DOM.FROZEN 1 d).domRefresh d
        let s := (s.flag R.CRYPT_EVENT.CTR_EXHAUST R.CRYPT_EXHAUST_CNT.COUNT).wr R.CRYPT_FAIL_ADDR.SECTOR sec
        ((s.wr R.CRYPT_FAIL_ADDR.KIND 2).report Src.cryptCtr Cls.uc Cause.ctrExhaust sec, .exhausted)
      else
        let n := if r.nextCtr = 0xFFFFFFFF then 1 else r.nextCtr + 1
        let cipher := xtsEnc k.xts1 k.xts2 lsn plain
        let s := s.putCipher sec cipher c
        let warn := decide (0xFFF00000 ≤ n)
        let s := s.storeRec sec { r with
          tag := sectorTag k lsn n d cipher, sealCtr := n, nextCtr := n, lsn := lsn, domain := d, setB := b, valid := true, failed := false,
          worn := r.worn || warn } c
        let s := (s.bump R.CRYPT_SEAL_CNT).bump R.CRYPT_BYTES 4096
        let s := s.wr R.CRYPT_DOM.HIGH_CTR (max (s.rd R.CRYPT_DOM.HIGH_CTR d) n) d
        if warn then
          let s := (s.wr R.CRYPT_DOM.WARN 1 d).domRefresh d
          (((s.flag R.CRYPT_EVENT.CTR_WARN R.CRYPT_WARN_CNT.COUNT)).report Src.cryptCtr Cls.ce Cause.ctrWarn sec, .ok)
        else (s, .ok)

/-- A seal by this package: the domain's set in force, LSN (P << 28) | s. -/
def State.sealSector (s : State) (sec d : Nat) (plain : List Byte) (c : ReqClass := .bulk) : State × SealEnd :=
  s.sealAs sec d (s.sealSet d) (s.pkg * 2 ^ 28 + sec) false plain c

/-- A verification failure of a sector (R216). -/
def State.verifyFail (s : State) (sec : Nat) : State :=
  let s := (s.flag R.CRYPT_EVENT.TAG_FAIL R.CRYPT_TAG_FAIL_CNT.COUNT).wr R.CRYPT_FAIL_ADDR.SECTOR sec
  (s.wr R.CRYPT_FAIL_ADDR.KIND 1).report Src.cryptVerify Cls.de Cause.tagFail sec

/-- The plaintext of a sector whose 64 lines came as `c`, where it verifies (R216); a record with VALID 0 reads zero. -/
def State.unsealAs (s : State) (sec : Nat) (c : List Byte) (poison : Bool) : Option (List Byte) :=
  let r := s.secRec sec
  if s.hoodedService then none
  else if !r.valid then some (List.replicate 4096 0)
  else if r.failed || poison then none
  else
    match (s.domKeys r.domain).pick r.setB with
    | none => none
    | some k => if sectorTag k r.lsn r.sealCtr r.domain c = r.tag then some (xtsDec k.xts1 k.xts2 r.lsn c) else none

/-- A read of a whole sector through the engine, in a class: its record, its lines through their controllers, the check. -/
def State.unsealSector (s : State) (sec : Nat) (c : ReqClass := .bulk) : State × Option (List Byte) :=
  let (s, lost) := s.loadRec sec c
  let r := s.secRec sec
  let (s, l, po) := if r.valid && !s.hoodedService then s.loadSector sec c else (s, [], false)
  match s.unsealAs sec l (po || (lost && r.valid)) with
  | some p => (if r.valid then ((s.useGroup r.domain r.setB).bump R.CRYPT_UNSEAL_CNT).bump R.CRYPT_BYTES 4096 else s, some p)
  | none => (if s.hoodedService then s.flag R.CRYPT_EVENT.REFUSED R.CRYPT_REFUSED_CNT.COUNT else s.verifyFail sec, none)

/-- REFUSED with its Watch fault (R213, R217, R469). -/
def State.cryptRefuse (s : State) : State :=
  (s.flag R.CRYPT_EVENT.REFUSED R.CRYPT_REFUSED_CNT.COUNT).report Src.cryptAcc Cls.uc Cause.refused

/-! ### The merge buffer (R220, R221) -/

def State.mergeOf (s : State) (sec : Nat) : Option Merge := s.crypt.merge.find? (fun e => e.sector == sec)

def State.mergePut (s : State) (e : Merge) : State :=
  s.updCrypt (fun c => { c with merge := c.merge.filter (fun x => x.sector != e.sector) ++ [{ e with used := c.use }], use := c.use + 1 })

def State.mergeDrop (s : State) (sec : Nat) : State :=
  s.updCrypt (fun c => { c with merge := c.merge.filter (fun x => x.sector != sec) })

/-- A sector's plaintext with the lines written over it. -/
def overlay (plain : List Byte) (lines : Tab (List Byte)) : List Byte :=
  (List.range 64).flatMap (fun i => (Tab.get? lines i).getD (slice plain (i * 64) 64))

/-- A merged write ends: its master has its completion, a Kettle request its answer when the step settles. -/
def State.answerWaiter (s : State) (ok : Bool) : Waiter → State
  | .master m => s.emit (if ok then .done m [] else .error m)
  | .kettle link m => s.updCrypt (fun c => { c with ended := c.ended ++ [(link, m, ok)] })

def State.answerAll (s : State) (ws : List Waiter) (ok : Bool) : State := ws.foldl (fun s w => s.answerWaiter ok w) s

/-- How a write of memory ends: performed, an error response, refused since a seal's domain is EMPTY (R469) or FROZEN (R223, R224). -/
inductive PortEnd where
  | ok | err | empty | frozen
deriving DecidableEq, Repr

/-- The write-back of an entry: a whole sector is sealed without a read, a partial one is read, unsealed, merged and sealed. Its writes complete; the entry stays
clean, or is dropped where nothing can be sealed. -/
def State.mergeTry (s : State) (e : Merge) : State × PortEnd :=
  if e.lines = [] then (s, .ok)
  else
    let whole := decide (e.lines.length = 64)
    let (s, base) := match e.plain with
      | some p => (s, some p)
      | none => if whole then (s, some []) else s.unsealSector e.sector e.cls
    match base with
    | none => ((s.mergeDrop e.sector).answerAll e.waiters false, .err)
    | some p =>
      let full := overlay p e.lines
      let s := if whole then s else s.bump R.CRYPT_RMW_CNT
      match s.sealSector e.sector e.domain full e.cls with
      | (s, .ok) => ((s.mergePut { e with lines := [], plain := some full, waiters := [] }).answerAll e.waiters true, .ok)
      | (s, .empty) => (((s.mergeDrop e.sector).cryptRefuse).answerAll e.waiters false, .empty)
      | (s, .frozen) => (((s.mergeDrop e.sector).flag R.CRYPT_EVENT.REFUSED R.CRYPT_REFUSED_CNT.COUNT).answerAll e.waiters false, .frozen)
      | (s, .exhausted) => ((s.mergeDrop e.sector).answerAll e.waiters false, .frozen)

def State.mergeBack (s : State) (e : Merge) : State := (s.mergeTry e).1

/-- The dirty entry of a sector is written back at once, for a step that needs its writes completed (log 148). -/
def State.mergeNow (s : State) (sec : Nat) : State × PortEnd := match s.mergeOf sec with | some e => s.mergeTry e | none => (s, .ok)

/-- A whole-sector or raw access: a dirty entry is written back, and the entry is dropped (R221). -/
def State.mergeSettle (s : State) (sec : Nat) : State :=
  match s.mergeOf sec with
  | some e => (s.mergeBack e).mergeDrop sec
  | none => s

/-- With all 64 entries in use, the least recently used one is written back and dropped. -/
def State.mergeRoom (s : State) : State :=
  if s.crypt.merge.length < 64 then s
  else
    match s.crypt.merge with
    | [] => s
    | e :: r => s.mergeSettle (r.foldl (fun a b => if b.used < a.used then b else a) e).sector

/-- An entry's write-back waits: MERGE_HOLD_NS has passed since its first write (R220). -/
def State.mergeDue (s : State) (e : Merge) : Bool :=
  e.lines != [] && s.cryptReady && decide (e.firstAt + clampN 100 10000 (s.rd R.CRYPT_CFG.MERGE_HOLD_NS) ≤ s.now)

/-- The pipes' turn of the merge buffer after a pass for a transfer's sector (R462): the write-back that has waited longest, if one waits. -/
def State.mergeTurn (s : State) : State :=
  match s.crypt.merge.filter s.mergeDue with
  | [] => s
  | e :: r => s.mergeBack (r.foldl (fun a b => if b.firstAt < a.firstAt then b else a) e)

/-- Every dirty entry is written back, in sector order of the buffer (R220, R231). -/
def State.mergeFlush (s : State) : State :=
  s.crypt.merge.foldl (fun s e => match s.mergeOf e.sector with | some e => s.mergeBack e | none => s) s

/-- A line read of a SECTOR sector (R216, R220): none is a poisoned line. -/
def State.sectorRead (s : State) (a d : Nat) (c : ReqClass := .norm) : State × Option (List Byte) :=
  let sec := secOf a
  let i := a / 64 % 64
  match s.mergeOf sec with
  | some e =>
    match Tab.get? e.lines i with
    | some l => (s.mergePut e, some l)
    | none =>
      match e.plain with
      | some p => (s.mergePut e, some (slice p (i * 64) 64))
      | none =>
        match s.unsealSector sec c with
        | (s, some p) => (s.mergePut { e with plain := some p }, some (slice p (i * 64) 64))
        | (s, none) => (s, none)
  | none =>
    match s.unsealSector sec c with
    | (s, some p) =>
      ((s.mergeRoom).mergePut { sector := sec, domain := d, lines := [], plain := some p, firstAt := s.now, used := 0, waiters := [], cls := c },
        some (slice p (i * 64) 64))
    | (s, none) => (s, none)

/-- A line write of a SECTOR sector (R220): it merges, and `who` completes when it is written back. -/
def State.sectorWrite (s : State) (a d : Nat) (l : List Byte) (who : List Waiter) (c : ReqClass := .norm) : State :=
  let sec := secOf a
  let i := a / 64 % 64
  match s.mergeOf sec with
  | some e =>
    s.mergePut { e with
      lines := Tab.put e.lines i l, firstAt := if e.lines = [] then s.now else e.firstAt, waiters := e.waiters ++ who, domain := d, cls := c }
  | none => (s.mergeRoom).mergePut { sector := sec, domain := d, lines := [(i, l)], plain := none, firstAt := s.now, used := 0, waiters := who, cls := c }

/-! ### The tiles' SRAM (R27, R126 to R128) -/

def planAreaBytes : Nat := 3932160

/-- A tile's window address of a tile offset (R27). -/
def tileAddr (t off : Nat) : Nat := tileBase + t * 0x400000 + off

/-- The POISONED bit of a tile: a line of a plan area holds poison. -/
def State.tilePoison (s : State) (t : Nat) : State :=
  let p := s.poison.any (fun a => decide (tileAddr t 0 ≤ a) && decide (a < tileAddr t planAreaBytes))
  s.wr R.TALON_TILE_STATUS.POISONED (b2n p) (t / 96) (t % 96)

def tileDetail (t off : Nat) : Nat := t % 96 + off / 8 * 128

/-- A read of tile SRAM finds an error (R127): a corrected one is counted and records nothing else. -/
def State.tileSramError (s : State) (t off : Nat) (e : EccOutcome) : State :=
  match e with
  | .clean => s
  | .corrected => s.bump R.TALON_TILE_CE_CNT.COUNT 1 (t / 96) (t % 96)
  | .uncorrectable =>
    let s := (s.setPoison (tileAddr t off / 64 * 64) true).wr R.TALON_TILE_ERR_ADDR.OFFSET (off / 8 * 8) (t / 96) (t % 96)
    let s := (s.wr R.TALON_TILE_ERR_ADDR.UNCORRECTED 1 (t / 96) (t % 96)).flag R.TALON_TILE_EVENT.UE R.TALON_TILE_UE_CNT.COUNT (t / 96) (t % 96)
    (s.tilePoison t).report (Src.tileGrp (t / 96) (t % 96)) Cls.de Cause.uncorrected (tileDetail t off)

/-- A read of the line at `a` of a tile's window through the words' SECDED code (R127): one bit in error in a word is corrected and the line rewritten; more in one word is uncorrectable, and the line is delivered
marked poison (the code is told to detect two; three and more are taken as detected, log 137). -/
def State.tileLine (s : State) (a : Nat) : State × List Byte × Bool :=
  let errs := Tab.get s.cells a []
  let t := (a - tileBase) / 0x400000
  let off := (a - tileBase) % 0x400000
  let bad := (List.range 8).filter (fun w => 1 < (wordErr errs w).length)
  let one := (List.range 8).filter (fun w => (wordErr errs w).length == 1)
  let s := if errs = [] then s else one.foldl (fun s w => s.tileSramError t (off + 8 * w) .corrected) s
  let s := bad.foldl (fun s w => s.tileSramError t (off + 8 * w) .uncorrectable) s
  ((if errs ≠ [] ∧ bad = [] then { s with cells := Tab.del s.cells a } else s), s.storedLine a, s.linePoison a)

/-! ### Lines at their targets -/

/-- A line as its target gives it, in a class, to a request that has passed Jess: data and poison. -/
def State.lineIn (s : State) (mode d a : Nat) (c : ReqClass := .norm) (m : Master := tirlo) : State × List Byte × Bool :=
  if mode = 2 then
    match s.sectorRead a d c with
    | (s, some l) => (s, l, false)
    | (s, none) => (s, List.replicate 64 0, true)
  else
    match rangeOf a with
    | .hbm => s.hbmLoad m mode a c
    | .roost => s.roostLoad m mode a c
    | .tile => match s.tileLine a with | (s, l, p) => (s, lineTransform s.crypt.scramble mode a l, p)
    | _ => (s, s.lineData mode a, s.linePoison a)

/-- A write of a line at its target under a byte mask. False: it ended with an error, as a partial write of a sector that fails verification does, which changes nothing (R216). `who` waits for the
write-back of a sector's line. -/
def State.linePut (s : State) (mode d a : Nat) (l : List Byte) (mask : Nat) (poison : Bool) (c : ReqClass := .norm) (m : Master := tirlo) (who : List Waiter := []) : State × Bool :=
  let whole := decide (mask % 2 ^ 64 = 2 ^ 64 - 1)
  if mode = 2 then
    (if whole then (s.sectorWrite a d l who c, true)
    else
      match s.sectorRead a d c with
      | (s, some old) => (s.sectorWrite a d (mergeMask old l mask) who c, true)
      | (s, none) => (s, false))
  else
    match rangeOf a with
    | .hbm => s.hbmStore m mode a c (if whole then .write else .masked) l mask poison
    | .roost => (s.roostStore m mode a c (if whole then .write else .masked) l mask poison, true)
    | _ =>
      if whole then (s.putData mode a l poison, true)
      else match s.lineIn mode d a c m with | (s, old, p) => (s.putData mode a (mergeMask old l mask) (p || poison), true)

/-- A whole-line write at its target. -/
def State.lineOut (s : State) (mode d a : Nat) (l : List Byte) (poison : Bool) (c : ReqClass := .norm) (m : Master := tirlo) : State :=
  (s.linePut mode d a l (2 ^ 64 - 1) poison c m).1

/-! ### The Mews cache's write-backs and its ward filter (R286) -/

/-- Write a dirty line back and keep it clean; a write-back that two regions match is lost (R237). -/
def State.cleanLine (s : State) (a : Nat) : State :=
  match s.cline? a with
  | none => s
  | some c =>
    if !c.dirty then s
    else
      let s := s.updMews (fun m => { m with cache := Tab.put m.cache a { c with dirty := false } })
      match s.matchOnly a with
      | some (mode, d) => s.lineOut mode d a c.data c.poison
      | none => (s.overlapAt tirlo .w a).dropLine a

/-- What the ward filter does for another master's request on a line (R286): a read recalls a dirty line; a whole-line write invalidates; a masked write, an add or a raw
write recalls and invalidates. -/
inductive Ward where
  | read | whole | partialW
deriving DecidableEq, Repr

def State.ward (s : State) (w : Ward) (a : Nat) : State :=
  match s.cline? a with
  | none => if w = .read then s else s.breakResv a none
  | some c =>
    let s := if c.dirty && w != .whole then (s.cleanLine a).bump R.MEWS_RECALLS else s
    if w = .read then s else (s.dropLine a).breakResv a none

/-- The refill of a locked line that a request invalidated. -/
def State.refill (s : State) (a : Nat) : State :=
  if s.lockedRange a = 0 ∨ (s.cline? a).isSome then s
  else
    match s.matchOnly a with
    | none => s
    | some (mode, d) =>
      let (s, l, p) := s.lineIn mode d a
      s.updMews (fun m => { m with cache := Tab.put m.cache a { data := l, dirty := false, poison := p, lock := s.lockedRange a, way := s.lockWay a } })

/-! ### Whether a target answers -/

/-- The reset unit that serves an address. -/
def State.unitsOf (s : State) (a : Nat) : List Nat :=
  match rangeOf a with
  | .hbm => [48 + s.stackOf a]
  | .roost => let r := roostMap a; [56 + r.ch / 4, 58 + r.ch]
  | .tile => let i := (a - tileBase) / 0x400000; [12 * (i / 96) + i % 96 % 12]
  | _ => []

/-- A target answers when none of its units is quarantined, in reset or failed (R353), and its memory is up. -/
def State.answers (s : State) (mode a : Nat) : Bool :=
  (s.unitsOf a).all (fun u => s.unitState u == Unit.normal) &&
  (match rangeOf a with
    | .hbm => s.rd R.HBM_STK_STATUS.STATE (s.stackOf a) == 2 || s.rd R.HBM_STK_STATUS.STATE (s.stackOf a) == 3
    | .roost =>
      let r := roostMap a
      let b := s.rd R.ROOST_BR_STATUS.STATE (r.ch / 4)
      b != 0 && b != 1 && !natBit (s.rd R.ROOST_BR_STATUS.CH_FAILED (r.ch / 4)) (r.ch % 4) && (mode != 2 || (s.cryptReady && s.unitState 67 == Unit.normal && !s.hoodedService))
    | _ => true)

/-- A target that takes no request now and holds it at ingress: one whose checker reloads (R248), a stack in self-refresh, a channel in self-refresh or being retrained, or, for a sector, the stack of its record (R160, R177, R193, R201). The
hold goes upstream (R151): what would read there waits, so that its command leaves the state as it is (log 129). -/
def State.asleep (s : State) (a : Nat) : Bool :=
  (s.checker (s.checkerOf a)).reloading ||
  match rangeOf a with
  | .hbm => s.stkState (s.stackOf a) == stkSelfRefresh
  | .roost => s.chPaused (roostMap a).ch || ((s.modeAt 9 a).1 == 2 && s.stkState (s.stackOf (s.recLine (secOf a))) == stkSelfRefresh)
  | _ => false

/-- Some line of `n` bytes from `a` is held so; a range of more than 4 KiB spreads over every stack or channel of its tier. -/
def State.asleepIn (s : State) (a n : Nat) : Bool :=
  if n ≤ 4096 then (List.range ((a + n - 1) / 64 - a / 64 + 1)).any (fun i => s.asleep (a / 64 * 64 + 64 * i))
  else
    match rangeOf a with
    | .hbm => (List.range 8).any (fun st => s.stkState st == stkSelfRefresh)
    | .roost => (List.range 8).any s.chPaused
    | _ => false

/-! ### Requests at the target ports -/

/-- A request of `n` bytes at the package-local address `a` by a master that does not pass through the Mews cache: its Jess check, and for Roost the refusal
of a SECTOR request before the engine is READY. None: admitted. -/
def State.portGate (s : State) (m : Master) (k : AccKind) (a n : Nat) : Option State :=
  let ck := s.checkerOf a
  match s.jessFails ck m k a n with
  | some f => some (s.jessRefuse ck m k f)
  | none =>
    let mode := (s.modeAt ck a).1
    if mode = 2 && !s.cryptReady then some s.cryptRefuse
    else if s.answers mode a && !s.linkCut (masterDie m) a then none else some s

/-- Consecutive lines from `a`, read one by one at their target in a class. -/
def State.readLines (s : State) (n a : Nat) (c : ReqClass := .norm) (m : Master := tirlo) : State × List Byte × Bool :=
  match n with
  | 0 => (s, [], false)
  | n + 1 =>
    let s := s.ward .read a
    let (mode, d) := s.modeAt (s.checkerOf a) a
    let (s, l, p) := s.lineIn mode d a c m
    let (s, r, q) := s.readLines n (a + 64) c m
    (s, l ++ r, p || q)

/-- A read of `n` bytes at `a`, within one 256 B block; none where it is refused or errs. -/
def State.portRead (s : State) (m : Master) (a n : Nat) (c : ReqClass := .norm) : State × Option (List Byte × Bool) :=
  match s.portGate m .r a n with
  | some s => (s, none)
  | none =>
    let first := a / 64 * 64
    let (s, l, p) := s.readLines ((a + n - 1) / 64 - a / 64 + 1) first c m
    (s, some (slice l (a - first) n, p))

/-- One line written at its target under a byte mask; false where it ended with an error. -/
def State.writeLine (s : State) (a : Nat) (l : List Byte) (mask : Nat) (poison : Bool) (c : ReqClass := .norm) (m : Master := tirlo) (who : List Waiter := []) : State × Bool :=
  let s := s.ward (if mask % 2 ^ 64 = 2 ^ 64 - 1 then .whole else .partialW) a
  let (mode, d) := s.modeAt (s.checkerOf a) a
  match s.linePut mode d a l mask poison c m who with
  | (s, ok) => (s.refill a, ok)

def State.writeLines (s : State) (ls : List (Nat × List Byte × Nat)) (p : Bool) (c : ReqClass := .norm) (m : Master := tirlo) : State × Bool :=
  ls.foldl (fun r x => match r.1.writeLine x.1 x.2.1 x.2.2 p c m with | (s, ok) => (s, r.2 && ok)) (s, true)

/-- The lines that a write of `l` at `a` touches, with their bytes and masks. -/
def splitLines (a : Nat) (l : List Byte) : List (Nat × List Byte × Nat) :=
  let first := a / 64 * 64
  (List.range ((a + l.length - 1) / 64 - a / 64 + 1)).map (fun i =>
    let la := first + i * 64
    let lo := if a ≤ la then 0 else a - la
    let hi := min 64 (a + l.length - la)
    (la, (List.range 64).map (fun j => if lo ≤ j ∧ j < hi then (l[la + j - a]?).getD 0 else 0), 2 ^ hi - 2 ^ lo))

/-- Lines that have been written to the sector of `a`, if it is one, are written back, so that the write has completed. -/
def State.writtenBack (s : State) (a : Nat) (ok : Bool) : State × PortEnd :=
  if !ok then (s, .err) else if (s.modeAt (s.checkerOf a) a).1 = 2 then s.mergeNow (secOf a) else (s, .ok)

/-- A write of the bytes `l` at `a`, within one sector, and how it completes. -/
def State.portWrite (s : State) (m : Master) (a : Nat) (l : List Byte) (poison : Bool) (c : ReqClass := .norm) : State × PortEnd :=
  if l = [] then (s, .ok)
  else
    match s.portGate m .w a l.length with
    | some s => (s, .err)
    | none => match s.writeLines (splitLines a l) poison c m with | (s, ok) => s.writtenBack a ok

/-- A Kite add of one line at its target (R180 to R182): it enters the write queue of its line's pseudo-channel, behind what is queued on the line. False: refused at the base die. -/
def State.addLine (s : State) (op a : Nat) (l : List Byte) (poison : Bool) (c : ReqClass := .norm) (m : Master := tirlo) : State × Bool :=
  let s := s.ward .partialW a
  match s.hbmStore m (s.modeAt (s.checkerOf a) a).1 a c (.add op) l 0 poison with
  | (s, ok) => (s.refill a, ok)

def State.addLines (s : State) (m : Master) (op a : Nat) (poison : Bool) (c : ReqClass) : List (List Byte) → State × Bool
  | [] => (s, true)
  | l :: r =>
    match s.addLine op a l poison c m with
    | (s, ok) =>
      match s.addLines m op (a + 64) poison c r with
      | (s, ok') => (s, ok && ok')

/-- Adds of consecutive lines. -/
def State.portAdd (s : State) (m : Master) (op a : Nat) (l : List Byte) (poison : Bool) (c : ReqClass := .norm) : State × Bool :=
  match s.addOutside m a l.length with
  | some s => (s, false)
  | none =>
    match s.portGate m .a a l.length with
    | some s => (s, false)
    | none => s.addLines m op a poison c ((List.range (l.length / 64)).map (fun i => slice l (i * 64) 64))

/-! ### Requests through the Mews cache port (checker 0) -/

def State.cputLine (s : State) (a : Nat) (c : CLine) : State := s.updMews (fun m => { m with cache := Tab.put m.cache a c })

/-- The lines of the cache in the set of `a`. -/
def State.setLines (s : State) (a : Nat) : List CLine := (s.mews.cache.filter (fun e => e.1 / 64 % 65536 == a / 64 % 65536)).map (·.2)

/-- The way that an allocation takes: the one that the pseudo-LRU choice names where it is eligible, else the lowest eligible one (R285). -/
def State.allocWay (s : State) (tenant : Bool) (a way : Nat) : Nat :=
  let tw := s.rd R.MEWS_CACHE_CFG.TENANT_WAYS
  let top := if tenant then (if tw = 0 then 1 else min tw 12) else 16
  let locked := ((s.setLines a).filter (fun c => c.lock != 0)).map (·.way)
  let ok := fun (w : Nat) => decide (w < top) && !locked.contains w
  if ok way then way else ((List.range 16).find? ok).getD 0

/-- The pseudo-LRU choice where no event names it: an empty way of the set, else a free value (the spec names the policy, not its choice). -/
def State.lruWay (s : State) (a : Nat) : Nat :=
  let used := (s.setLines a).map (·.way)
  match (List.range 16).find? (fun w => !used.contains w) with
  | some w => w
  | none => Config.lruWay s.free a % 16

/-- The line that holds a way of a set leaves the cache, written back where it is dirty. -/
def State.evictWay (s : State) (a way : Nat) : State :=
  match s.mews.cache.find? (fun e => e.1 / 64 % 65536 == a / 64 % 65536 && e.2.way == way) with
  | some e => ((s.cleanLine e.1).dropLine e.1).breakResv e.1 none
  | none => s

/-- A line is brought into the cache; none where two regions match its fill (R237). -/
def State.fillLine (s : State) (tenant : Bool) (a way : Nat) (c : ReqClass := .norm) : State × Option CLine :=
  match s.matchOnly a with
  | none => (s.overlapAt tirlo .r a, none)
  | some (mode, d) =>
    let w := s.allocWay tenant a way
    let s := s.evictWay a w
    let (s, l, p) := s.lineIn mode d a c
    let x : CLine := { data := l, dirty := false, poison := p, lock := 0, way := w }
    (s.cputLine a x, some x)

/-- A line as the cache port gives it to the TCI fetcher, the mailbox engine or the flash engine: from the cache, where a miss allocates it (R285). -/
def State.cachedLine (s : State) (a : Nat) (c : ReqClass := .norm) : State × List Byte × Bool :=
  match s.cline? a with
  | some l => (s.bump R.MEWS_HITS, l.data, l.poison)
  | none =>
    match (s.bump R.MEWS_MISSES).fillLine false a (s.lruWay a) c with
    | (s, some l) => (s.draw, l.data, l.poison)
    | (s, none) => (s, List.replicate 64 0, true)

def State.cachedLines (s : State) (n a : Nat) (c : ReqClass := .norm) : State × List Byte × Bool :=
  match n with
  | 0 => (s, [], false)
  | n + 1 =>
    let (s, l, p) := s.cachedLine a c
    let (s, r, q) := s.cachedLines n (a + 64) c
    (s, l ++ r, p || q)

/-- Checker 0's decision with the target's answer. -/
def State.cacheGate (s : State) (m : Master) (k : AccKind) (a n : Nat) : Option State :=
  match s.jessFails 0 m k a n with
  | some f => some (s.jessRefuse 0 m k f)
  | none => if s.answers 0 a || (s.cline? (a / 64 * 64)).isSome then none else some s

/-- A read of `n` bytes through the cache (the TCI fetcher, the mailbox engine, the flash engine). -/
def State.cacheRead (s : State) (m : Master) (a n : Nat) : State × Option (List Byte × Bool) :=
  match s.cacheGate m .r a n with
  | some s => (s, none)
  | none =>
    let first := a / 64 * 64
    let (s, l, p) := s.cachedLines ((a + n - 1) / 64 - a / 64 + 1) first (masterClass m)
    (s, some (slice l (a - first) n, p))

/-- One line written through the cache: write-back, with a miss that allocates the line (R285). False: two regions match its fill. -/
def State.cacheWriteLine (s : State) (a : Nat) (l : List Byte) (mask : Nat) (keep : Option Nat) (cls : ReqClass := .norm) : State × Bool :=
  let s := s.breakResv a keep
  let put := fun (s : State) (c : CLine) => s.cputLine a { c with data := mergeMask c.data l mask, dirty := true, poison := c.poison && mask % 2 ^ 64 != 2 ^ 64 - 1 }
  match s.cline? a with
  | some c => (put (s.bump R.MEWS_HITS) c, true)
  | none =>
    match (s.bump R.MEWS_MISSES).fillLine false a (s.lruWay a) cls with
    | (s, some c) => (put s.draw c, true)
    | (s, none) => (s, false)

/-- A write of bytes through the cache. -/
def State.cacheWrite (s : State) (m : Master) (a : Nat) (l : List Byte) : State × Bool :=
  if l = [] then (s, true)
  else
    match s.cacheGate m .w a l.length with
    | some s => (s, false)
    | none => (splitLines a l).foldl (fun r x => match r.1.cacheWriteLine x.1 x.2.1 x.2.2 none (masterClass m) with | (s, ok) => (s, r.2 && ok)) (s, true)

/-! ### Ingress (R151) -/

def lineKind : LineOp → AccKind
  | .read => .r
  | .add _ => .a
  | _ => .w

def lineWard (o : LineOp) (mask : Nat) : Ward :=
  match o with
  | .read => .read
  | .write => .whole
  | .masked => if mask % 2 ^ 64 = 2 ^ 64 - 1 then .whole else .partialW
  | .add _ => .partialW

/-- A request presented at a stack's port: decode, Jess, the ward filter, the ordered slot, and its queue. A request that the ingress does not accept leaves the state as it
is; one to a unit that is quarantined or in reset completes with an error; an add outside HBM is refused where it arrives (R182). -/
def State.hbmIngress (s : State) (r : LineReq) : State :=
  let a := r.addr / 64 * 64
  match s.decodeGate (portSrc r.m) r.m r.addr 64 with
  | some s' => s'
  | none =>
    if rangeOf a ≠ .hbm then
      (match r.op with
        | .add _ => (match s.addOutside r.m a 64 with | some s' => s'.errTo r.m | none => s)
        | _ => s)
    else
      let st := s.stackOf a
      let p := s.pcOf a
      let q := s.hq st p
      let r := { r with addr := a, cls := sourceClass r.m r.cls }
      let x := (s.hbmReq r 0).2
      if s.unitState (48 + st) ≠ Unit.normal ∨ s.linkCut (masterDie r.m) a then s.errTo r.m
      else if (s.stkState st ≠ stkReady ∧ s.stkState st ≠ stkSelfRefresh) ∨ (s.checker (1 + st)).reloading ∨ q.holds x then s
      else
        match (if viaCache r.m then none else s.jessFails (1 + st) r.m (lineKind r.op) a 64) with
        | some f => (s.jessRefuse (1 + st) r.m (lineKind r.op) f).errTo r.m
        | none =>
          let mode := (s.modeAt (1 + st) a).1
          let s := if viaCache r.m then s else s.ward (lineWard r.op r.mask) a
          let s := s.flushOrd mode a false
          let (s, x) := s.hbmReq r mode
          s.hbmEnter st p x

/-- A line request on a SECTOR sector is served by the Crypt engine (R216, R220). A masked write first reads the line. -/
def State.sectorServe (s : State) (r : LineReq) (a d : Nat) : State :=
  match r.op with
  | .read =>
    match s.sectorRead a d r.cls with
    | (s, some l) => s.answerRead r.m l false
    | (s, none) => s.answerRead r.m (List.replicate 64 0) true
  | .write => s.sectorWrite a d r.data [.master r.m] r.cls
  | .masked =>
    match s.sectorRead a d r.cls with
    | (s, some l) => s.sectorWrite a d (mergeMask l r.data r.mask) [.master r.m] r.cls
    | (s, none) => s.errTo r.m
  | .add _ => (s.addRefused a).errTo r.m

/-- A request presented at the Roost port. -/
def State.roostIngress (s : State) (r : LineReq) : State :=
  let a := r.addr / 64 * 64
  match s.decodeGate (portSrc r.m) r.m r.addr 64 with
  | some s' => s'
  | none =>
    if rangeOf a ≠ .roost then s
    else
      let w := roostMap a
      let q := s.rq w.ch w.sub
      let r := { r with addr := a, cls := sourceClass r.m r.cls }
      let x := (s.roostReq r 0).2
      if s.unitState (56 + w.ch / 4) ≠ Unit.normal ∨ s.unitState (58 + w.ch) ≠ Unit.normal ∨ s.linkCut (masterDie r.m) a then s.errTo r.m
      else if !s.chUp w.ch ∨ (s.checker 9).reloading ∨ q.holds x then s
      else
        match (if viaCache r.m then none else s.jessFails 9 r.m (lineKind r.op) a 64) with
        | some f => (s.jessRefuse 9 r.m (lineKind r.op) f).errTo r.m
        | none =>
          let (mode, d) := if r.m.cls = 8 then (0, 0) else s.modeAt 9 a
          match r.op with
          | .add _ => (s.addRefused a).errTo r.m
          | _ =>
            if mode = 2 && !s.cryptReady then s.cryptRefuse.errTo r.m
            else if mode = 2 && s.asleep a then s
            else
              let s := if viaCache r.m then s else s.ward (lineWard r.op r.mask) a
              if mode = 2 then s.sectorServe r a d
              else
                let (s, x) := s.roostReq r mode
                s.roostEnter w.ch w.sub x


end Sys2Proof.Machine
end

