-- ==== Sys2Proof/Machine/CryptOps.lean ====
section
/-! DEFINITION. The Crypt engine as shared operations (09_inline_crypt.md): the sector table's fill, line and raw accesses to SECTOR sectors, the rekey walk and its journal, the engine's reset. -/

namespace Sys2Proof.Machine

def cryptOff : Nat := 0
def cryptInit : Nat := 1
def cryptReadySt : Nat := 2
def cryptReset : Nat := 3

/-- A write of CRYPT_CTRL: setting ENABLE in STATE OFF starts the zero-fill; clearing it once STATE is READY has no effect. -/
def State.cryptCtrl (s : State) (v : Word) : State :=
  let en := v.field R.CRYPT_CTRL.ENABLE.lo 1
  if en = 0 ∧ s.cryptReady then s
  else
    let s := s.csrPut (R.CRYPT_CTRL.addr 0 0 0) v
    if en = 1 ∧ s.rd R.CRYPT_STATUS.STATE = cryptOff then s.wr R.CRYPT_STATUS.STATE cryptInit else s

/-- The zero-fill completes: every record is zero. -/
def State.cryptFilled (s : State) : State :=
  if s.rd R.CRYPT_STATUS.STATE ≠ cryptInit then s
  else (s.updCrypt (fun c => { c with recs := [] })).wr R.CRYPT_STATUS.STATE cryptReadySt

/-- The address of a line access to a SECTOR sector: the key domain of its region. -/
def State.sectorDomain? (s : State) (a : Nat) : Option Nat :=
  if rangeOf a = .roost then (let (mode, d) := s.modeAt 9 a; if mode = 2 then some d else none) else none

/-- A line access to a SECTOR sector at the Roost port: its Jess check, the ward filter, and the engine. -/
def State.sectorAccess (s : State) (r : LineReq) : State :=
  let a := r.addr / 64 * 64
  match s.sectorDomain? a with
  | none => s
  | some d =>
    match (if viaCache r.m then none else s.jessFails 9 r.m (lineKind r.op) a 64) with
    | some f => (s.jessRefuse 9 r.m (lineKind r.op) f).errTo r.m
    | none =>
      if !s.cryptReady then s.cryptRefuse.errTo r.m
      else if !(s.answers 2 a) then s.errTo r.m
      else if s.asleep a then s
      else (if viaCache r.m then s else s.ward (lineWard r.op r.mask) a).sectorServe r a d

/-- The checks on a raw access (R217): its master class, Jess, and the engine's STATE. None: admitted. -/
def State.rawGate (s : State) (m : Master) (k : AccKind) (sec : Nat) : Option State :=
  if m.remote || !(m.cls == 3 || m.cls == 8) then some ((s.flag R.CRYPT_EVENT.REFUSED R.CRYPT_REFUSED_CNT.COUNT).errTo m)
  else
    match s.jessFails 9 m k (secAddr sec) 4096 with
    | some f => some ((s.jessRefuse 9 m k f).errTo m)
    | none =>
      if !s.cryptReady then some (s.cryptRefuse.errTo m)
      else if !(s.answers 2 (secAddr sec)) then some (s.errTo m) else none

/-- A sector's ciphertext with its record, as the Roost and HBM controllers deliver them in a class: whether a line of either came poisoned. -/
def State.rawLoad (s : State) (sec : Nat) (c : ReqClass) : State × List Byte × Bool :=
  let (s, lost) := s.loadRec sec c
  let (s, l, po) := s.loadSector sec c
  (s, l, po || lost)

/-- A raw read: the sector's merge entry is settled, then the ciphertext and its record are returned. -/
def State.rawRead (s : State) (m : Master) (sec : Nat) : State :=
  match s.rawGate m .r sec with
  | some s' => s'
  | none =>
    let (s, c, bad) := (s.mergeSettle sec).rawLoad sec .bulk
    s.answerRead m (c ++ (s.secRec sec).bytes) bad

/-- The ciphertext and record of a raw write stored; NEXT_CTR and WORN stay. -/
def State.rawStore (s : State) (sec : Nat) (r : SecRec) (cipher : List Byte) (c : ReqClass := .bulk) : State :=
  let old := s.secRec sec
  (s.putCipher sec cipher c).storeRec sec { r with nextCtr := old.nextCtr, worn := old.worn, valid := true } c

/-- The lines of a sector that the Mews cache holds are invalidated, and their reservations broken, by a write of the whole sector (R286). -/
def State.wardSector (s : State) (sec : Nat) : State :=
  (List.range 64).foldl (fun s i => s.ward .partialW (secAddr sec + i * 64)) s

def State.rawWrite (s : State) (m : Master) (sec : Nat) (rec_ cipher : List Byte) : State :=
  match s.rawGate m .w sec with
  | some s' => s'
  | none =>
    let s := (s.wardSector sec).mergeSettle sec
    (s.rawStore sec { SecRec.ofBytes rec_ with failed := false } (slice (cipher ++ List.replicate 4096 0) 0 4096)).emit (.done m [])

/-- The records of a frame that is freed: VALID and FAILED clear, NEXT_CTR and WORN stay (R219). -/
def State.freeRecs (s : State) (f : Nat) : State :=
  (List.range 16).foldl (fun s i =>
    let r := s.secRec (16 * f + i)
    if r = .zero then s else s.storeRec (16 * f + i) { r with valid := false, failed := false } .bulk) s

/-- A session frame is freed: the frame map, and the frame's records. -/
def State.releaseFrame (s : State) (f : Nat) : State :=
  let s := (List.range 16).foldl (fun s i => s.mergeSettle (16 * f + i)) s
  (s.freeFrame f).freeRecs f

def State.releaseFrames (s : State) (l : List Nat) : State := l.foldl State.releaseFrame s

/-! ### Rekey (R225 to R229) -/

/-- The rekey journal record of a domain in the Roost metadata area. -/
def journalAddr (d : Nat) : Nat := roostBase + 0xC00000 + d * 16

def journalBytes (boundary running newSet seq : Nat) : List Byte :=
  leBytes 4 boundary ++ leBytes 1 running ++ leBytes 1 newSet ++ leBytes 2 0 ++ leBytes 4 seq ++ leBytes 4 0

/-- Bytes within one line of the Roost metadata area, written by the Roost engine under its own identity. -/
def State.metaPut (s : State) (a : Nat) (l : List Byte) : State :=
  let o := a % 64
  s.roostStore roostEngine 0 (a / 64 * 64) .bulk .masked (List.replicate o 0 ++ l ++ List.replicate (64 - o - l.length) 0) ((2 ^ l.length - 1) * 2 ^ o) false

/-- One journal write, in Roost and then in CRYPT_JOURNAL. -/
def State.journal (s : State) (d boundary running newSet seq : Nat) : State :=
  let s := s.metaPut (journalAddr d) (journalBytes boundary running newSet (seq % 2 ^ 22))
  let s := ((s.wr R.CRYPT_JOURNAL.BOUNDARY boundary).wr R.CRYPT_JOURNAL.NEW_SET newSet).wr R.CRYPT_JOURNAL.RUNNING running
  (s.wr R.CRYPT_JOURNAL.DOMAIN d).wr R.CRYPT_JOURNAL.SEQ seq

/-- The next sector at or above `from_` that the walk of domain `d` reseals: its record is VALID, of the domain, not FAILED and under the old set. -/
def rekeyNext (recs : Tab SecRec) (d : Nat) (newB : Bool) (from_ : Nat) : Option Nat :=
  (recs.find? (fun e => decide (from_ ≤ e.1) && decide (16384 ≤ e.1) && e.2.valid && e.2.domain == d && !e.2.failed && e.2.setB != newB)).map (·.1)

/-- The boundary has moved to `to_`: it is journaled at each multiple of 16,384 sectors that it has reached. -/
def State.journalTo (s : State) (r : Rekey) (to_ : Nat) : State :=
  let n := to_ / 16384 - r.next / 16384
  if n = 0 then s
  else s.journal r.domain (to_ / 16384 * 16384) 1 (s.rd R.CRYPT_JOURNAL.NEW_SET) (s.rd R.CRYPT_JOURNAL.SEQ + n)

/-- One sector of the walk: resealed in place with its LSN, or set FAILED. -/
def State.rekeySector (s : State) (r : Rekey) (sec : Nat) : State × Rekey :=
  let newB := s.rd R.CRYPT_JOURNAL.NEW_SET == 1
  let s := (s.mergeSettle sec).journalTo r sec
  let r := { r with next := sec + 1 }
  match s.unsealSector sec with
  | (s, none) => (s.storeRec sec { s.secRec sec with failed := true } .bulk, { r with failed := r.failed ++ [sec] })
  | (s, some p) =>
    match s.sealAs sec r.domain newB (s.secRec sec).lsn true p with
    | (s, .ok) => (s, { r with resealed := r.resealed + 1 })
    | (s, _) => (s.storeRec sec { s.secRec sec with failed := true } .bulk, { r with failed := r.failed ++ [sec] })

/-- Steps 1 to 4 of R228, without the records' tags: the new set is current, the old one is gone, the journal is clear, the domain is ACTIVE. -/
def State.rekeyKeys (s : State) (d : Nat) : State :=
  let newB := s.rd R.CRYPT_JOURNAL.NEW_SET == 1
  let k := s.domKeys d
  let k : DomKeys := if newB then { k with a := none } else { k with b := none }
  let s := s.updCrypt (fun c => { c with keys := Tab.put c.keys d k, rekey := none, marker := none })
  let s := s.metaPut (journalAddr d) (List.replicate 16 0)
  let s := s.csrPut (R.CRYPT_JOURNAL.addr 0 0 0) 0
  let s := ((s.wr R.CRYPT_DOM.CURRENT (b2n newB) d).wr R.CRYPT_DOM.WARN 0 d).wr R.CRYPT_DOM.FROZEN 0 d
  ((s.wr R.CRYPT_DOM.HIGH_CTR 0 d).wr R.CRYPT_STATUS.REKEY 0).domRefresh d

/-- The walk stops at a sector boundary; the domain stays MIXED (R229). -/
def State.rekeyStop (s : State) : State :=
  (s.updCrypt (fun c => { c with rekey := none })).wr R.CRYPT_STATUS.REKEY 0

/-! ### Resets (R231) -/

/-- A BLOCK reset of the engine: writes held in dirty entries complete with an error, the merge buffer empties, a walk stops. -/
def State.cryptBlockReset (s : State) : State :=
  let s := s.crypt.merge.foldl (fun s e => s.answerAll e.waiters false) s
  ((s.updCrypt (fun c => { c with merge := [] })).rekeyStop).wr R.CRYPT_STATUS.STATE cryptReset

/-- The engine leaves its reset. -/
def State.cryptBack (s : State) : State :=
  if s.rd R.CRYPT_STATUS.STATE = cryptReset then s.wr R.CRYPT_STATUS.STATE (if s.rd R.CRYPT_CTRL.ENABLE = 1 then cryptReadySt else cryptOff) else s

end Sys2Proof.Machine
end

