-- ==== Sys2Proof/Machine/TimeOps.lean ====
section
/-! DEFINITION. The time unit as shared operations (14_time_base.md): rack time, its uncertainty, events, edges, labels, the start and stop of the
fast counter, the idle tick. -/

namespace Sys2Proof.Machine

/-- A hardware set of bit `n` of TIME_EVENT: its counter advances, and identity 5 is raised where TIME_EVENT_EN admits it. -/
def State.timeEvent (s : State) (f cnt : RF) (n : Nat) : State :=
  let s := s.flag f cnt
  if natBit (s.rd R.TIME_EVENT_EN.EN) n then s.raiseWarden 5 else s

/-- How much of a slew's correction has been worked off at epoch `e` (R343). -/
def Slew.done (x : Slew) (e : Nat) : Nat := min x.mag ((e - x.start) * x.ppm / 1000000)

/-- Rack time at epoch `e`: the measured line less what a slew has still to correct; 0 while UNSET. -/
def TimeState.rackAt (t : TimeState) (e : Nat) : Nat :=
  if t.quality = .unset then 0
  else
    let line : Int := t.baseR + ((e : Int) - t.baseE) * t.num / t.den
    match t.slew with
    | none => line.toNat
    | some x => if x.fwd then (line - (x.mag - x.done e : Nat)).toNat else (line + (x.mag - x.done e : Nat)).toNat

/-- The uncertainty in ns at epoch `e`, holding at 0xFFFF_FFFF (R341 to R343). -/
def TimeState.uncAt (t : TimeState) (e : Nat) : Nat :=
  min 0xFFFFFFFF <|
    match t.quality with
    | .unset => 0xFFFFFFFF
    | .locked => t.unc + 50
    | .slewing => t.unc + 50 + (match t.slew with | some x => x.mag - x.done e | none => 0)
    | .holdover => t.uncEdge + (e - t.edge.getD e) / 50000

def State.rackNs (s : State) : Nat := s.time.rackAt s.epoch
def State.uncNs (s : State) : Nat := s.time.uncAt s.epoch

/-- PPS_OUT is not held low (R344). -/
def State.ppsActive (s : State) : Bool :=
  s.time.quality != .unset && s.rd R.TIME_CFG.PPS_OUT_EN == 1 && s.coreOn && s.time.fastRun

/-- Rack time goes on from epoch `e` on the last measured line, with no slew. -/
def TimeState.hold (t : TimeState) (e : Nat) : TimeState :=
  { t with quality := .holdover, baseR := t.rackAt e, baseE := e, slew := none }

/-- The distance of `r` from the nearest whole second. -/
def secondOff (r : Nat) : Nat := min (r % 1000000000) (1000000000 - r % 1000000000)

/-- Whether an edge stamped `e` is accepted (R338). -/
def TimeState.accepts (t : TimeState) (e : Nat) : Bool :=
  match t.quality with
  | .locked | .slewing => decide (secondOff (t.rackAt e) ≤ 100000)
  | _ => match t.edge with | none => true | some p => decide (p + 900000000 ≤ e)

/-- An edge stamped `e` (R338). -/
def State.ppsAt (s : State) (e : Nat) : State :=
  if s.time.accepts e then
    (s.updTime (fun t => { t with uncEdge := t.uncAt e, prevEdge := t.edge, edge := some e, labelled := false })).wr R.TIME_PPS_STAMP e
  else s.timeEvent R.TIME_EVENT.PPS_REJECT R.TIME_PPSREJ_CNT.COUNT 3

/-- The time since the edge before, where the latest edge can acquire rack time (R340): 1 s ± 100 µs. -/
def TimeState.acquires (t : TimeState) : Option Nat :=
  match t.prevEdge, t.edge with
  | some p, some e => if 999900000 ≤ e - p ∧ e - p ≤ 1000100000 then some (e - p) else none
  | _, _ => none

/-- The line through the latest edge and its label, at the rate that the last two edges give where they are whole seconds apart. -/
def TimeState.line (t : TimeState) (label : Nat) : TimeState :=
  let e := t.edge.getD 0
  let t1 := { t with baseE := e, baseR := label }
  match t.prevEdge with
  | none => t1
  | some p =>
    let k := (e - p + 500000000) / 1000000000
    if k = 0 ∨ e ≤ p then t1 else { t1 with num := k * 1000000000, den := e - p }

/-- What an accepted label does, by quality (R340, R343). -/
def State.labelEdge (s : State) (label unc : Nat) : State :=
  let e0 := s.epoch
  let s := s.updTime (fun t => { t with labelled := true, labelAt := e0, unc := unc })
  let t := s.time
  match t.quality with
  | .locked | .slewing => s.updTime (fun t => t.line label)
  | .unset =>
    match t.acquires with
    | none => s
    | some _ =>
      (s.updTime (fun t => { (t.line label) with quality := .locked, slew := none, uncEdge := min 0xFFFFFFFF (unc + 50), ppsSkip := true })).timeEvent
        R.TIME_EVENT.LOCKED R.TIME_LOCK_CNT.COUNT 0
  | .holdover =>
    match t.acquires with
    | none => s
    | some _ =>
      let held := t.rackAt (t.edge.getD 0)
      let mag := if held ≤ label then label - held else held - label
      if mag ≤ 1000000 then
        s.updTime (fun t => { (t.line label) with
          quality := .slewing, slew := some { start := e0, mag := mag, fwd := decide (held ≤ label), ppm := s.rd R.TIME_CFG.SLEW_PPM } })
      else
        let s := s.updTime (fun t => { (t.line label) with quality := .locked, slew := none, uncEdge := min 0xFFFFFFFF (unc + 50), ppsSkip := true })
        (s.timeEvent R.TIME_EVENT.LOCKED R.TIME_LOCK_CNT.COUNT 0).timeEvent R.TIME_EVENT.STEP R.TIME_STEP_CNT.COUNT 2

/-- A TOD message (R339). -/
def State.todMessage (s : State) (label unc flags : Nat) : State :=
  let t := s.time
  let ok := natBit flags 0 && decide (label % 1000000000 = 0) && !t.labelled &&
    (match t.edge with | some e => decide (e ≤ s.epoch) && decide (s.epoch - e ≤ 900000000) | none => false)
  if ok then s.labelEdge label unc else s.timeEvent R.TIME_EVENT.TOD_REJECT R.TIME_TODREJ_CNT.COUNT 4

/-- The anchor pair is written (R335). -/
def State.anchor (s : State) : State :=
  (s.wr R.TIME_ANCHOR_TICKS.TICKS s.time.ticks).wr R.TIME_ANCHOR_NS s.epoch

/-- TIME_ALARM fires where it is armed and reached (R337). -/
def State.alarmCheck (s : State) : State :=
  if s.rd R.TIME_ALARM.ENABLE = 1 ∧ s.rd R.TIME_ALARM.NS ≤ s.epoch ∧ s.time.fastRun then
    (s.wr R.TIME_ALARM.ENABLE 0).timeEvent R.TIME_EVENT.ALARM R.TIME_ALARM_CNT.COUNT 5
  else s

/-- The sample of R347. -/
def State.timeSample (s : State) : State :=
  let s := (s.wr R.TIME_CAP_EPOCH s.epoch).wr R.TIME_CAP_RACK s.rackNs
  ((s.wr R.TIME_CAP_STATUS.QUALITY s.time.quality.code).wr R.TIME_CAP_STATUS.PPS_OUT_ACTIVE (b2n s.ppsActive)).wr R.TIME_CAP_STATUS.UNC_NS s.uncNs

/-- The fast counter stops; for PERCH and HOODED entry the anchor is written at that moment (R335). -/
def State.timeStop (s : State) (anchor : Bool) : State :=
  if s.time.fastRun then
    let s := if anchor then s.anchor else s
    s.updTime (fun t => { t with fastRun := false, ppsSkip := true })
  else s

/-- The fast counter starts at the value of "Epoch time". A stoop wake starts in HOLDOVER (R346). -/
def State.timeStart (s : State) : State :=
  if s.time.fastRun then s
  else
    let e := s.anchorNs
    s.updTime (fun t => { (if t.quality = .unset then t else t.hold e) with fastRun := true, fast := e })

/-- A COLD reset of the time unit (R346): quality UNSET; the epoch goes on. -/
def TimeState.cold (t : TimeState) : TimeState :=
  { t with
    quality := .unset, slew := none, edge := none, prevEdge := none, labelled := false, labelAt := 0, unc := 0, uncEdge := 0,
    baseE := 0, baseR := 0, num := 1, den := 1, ppsHigh := false, ppsEnd := 0, ppsRise := none, ppsSkip := false }

/-- Ten ns of time: one cycle of the 100 MHz reference. The fast counter advances 10 ns while it runs (table "Time sources"); the elapsed counter advances
32,768 times a second while the Perch domain is powered (R334). -/
def State.tickTime (s : State) : State :=
  let f := s.time.frac + 327680
  let on := s.pwr.pstate != .off
  { s with
    now := s.now + 10,
    time := { s.time with
      fast := if s.time.fastRun then s.time.fast + 10 else s.time.fast,
      frac := if on then f % 1000000000 else s.time.frac,
      ticks := if on then (s.time.ticks + f / 1000000000) % 2 ^ 48 else s.time.ticks } }

end Sys2Proof.Machine
end

