-- ==== Sys2Proof/Machine/KettleOps.lean ====
section
/-! DEFINITION. Kettle as a shared operation (11_kettle_fabric.md): links with their credits and replay windows, the router with its searches, fences and holds, outstanding requests,
presence and slots, and the requests that a package serves for others. -/

namespace Sys2Proof

/-- CLASS in a message header. -/
def ReqClass.header (c : ReqClass) : Nat := match c with | .crit => 0 | .norm => 1 | .bulk => 2

/-- The virtual channel: 0 REQ, 1 RSP, 2 RED, 3 MGMT. -/
def KKind.vc : KKind → Nat
  | .rd | .wr | .wrMask | .cmd | .fwd | .buddySec | .buddyCommit | .buddyDel | .claim | .expHdr | .expSec | .impReq => 0
  | .rdData | .ack | .reply | .fwdReply => 1
  | .add => 2
  | _ => 3

def KKind.assigned : KKind → Bool
  | .other _ => false
  | _ => true

/-- The request kinds that a response answers. -/
def KKind.isRequest (k : KKind) : Bool := k.assigned && (k.vc == 0 || k.vc == 2)

/-- Whether the kind is answered with RD_DATA, ACK, REPLY or FWD_REPLY. -/
def KMsg.pool (m : KMsg) : Nat := 2 * m.kind.vc + b2n m.via

/-- The slots of an entry's extended block, by the block's own length field (R65); PCOUNT 7 brings one. -/
def blockSlots (c : Cmd) : Nat := if c.pcount = 7 then cdiv (Machine.leNat (c.block.take 4)) 16 else 0

def cmdSlots (c : Cmd) : Nat := 4 + blockSlots c

/-- The block that came with an entry fills the slots that its length field names; with PCOUNT 7 there is one, else none. -/
def blockFits (c : Cmd) : Bool := cdiv c.block.length 16 == blockSlots c && (c.pcount == 7) == (c.block != [])

/-- The SLOTS that a message's kind and contents give. -/
def KMsg.expect (m : KMsg) : Nat :=
  match m.kind with
  | .rd | .ack => 1
  | .wr | .add => 1 + 4 * m.lines
  | .wrMask => 6
  | .cmd | .fwd => 2 + (m.cmds.map cmdSlots).sum
  | .buddySec | .expSec => 259
  | .buddyCommit => 6
  | .buddyDel | .claim | .impReq => 2
  | .expHdr => 9
  | .rdData => if m.status = 0 then 1 + m.data.length / 16 else 1
  | .reply | .fwdReply => 2 + 2 * m.reps.length
  | .presence | .linkstate | .tod | .ready => 2
  | _ => m.slots

/-- SLOTS agrees with KIND, and the counts and blocks with SLOTS (R65, R259, R467). -/
def KMsg.slotsOk (m : KMsg) : Bool :=
  (m.slots == m.expect) && decide (1 ≤ m.slots) && decide (m.slots ≤ 1023) &&
  (match m.kind with
    | .rd | .add => decide (1 ≤ m.lines) && decide (m.lines ≤ 4)
    | .wr => decide (1 ≤ m.lines) && decide (m.lines ≤ 4) && m.data.length == 64 * m.lines
    | .wrMask => m.data.length == 64
    | .cmd => decide (1 ≤ m.cmds.length) && decide (m.cmds.length ≤ 4) && m.w[1]? == some m.cmds.length && m.cmds.all blockFits
    | .fwd => m.cmds.length == 1 && m.cmds.all blockFits
    | .reply => decide (1 ≤ m.reps.length) && decide (m.reps.length ≤ 8) && m.w[2]? == some m.reps.length
    | .fwdReply => m.reps.length == 1
    | .buddySec | .expSec => m.data.length == 4096
    | k => k.vc != 3 || decide (m.slots ≤ 2))

/-- Two messages of one stream keep their order: one origin, one destination, one VC, one CLASS (R256). -/
def KMsg.sameStream (a b : KMsg) : Bool := a.origin == b.origin && a.dest == b.dest && a.kind.vc == b.kind.vc && a.cls == b.cls

/-- The rank of a message start in the order of R257. -/
def KMsg.rank (m : KMsg) : Nat := if m.kind.vc = 3 then 0 else if m.kind.vc = 1 then 1 else 2 + m.cls

def KMsg.accKind (m : KMsg) : AccKind := match m.kind with | .rd => .r | .add => .a | _ => .w

/-- A request's lines lie within one 256 B block. -/
def KMsg.inBlock (m : KMsg) : Bool := m.addr % 64 == 0 && m.addr / 256 == (m.addr + 64 * m.lines - 1) / 256

/-- The kind of response that a request's kind asks for. -/
def KKind.answeredBy (k r : KKind) : Bool :=
  match k with
  | .rd => r == .rdData
  | .fwd => r == .fwdReply || r == .ack
  | _ => r == .ack

end Sys2Proof

namespace Sys2Proof.Machine

/-! ### Status codes -/

/-- Response STATUS codes (table "Response STATUS codes"). -/
def KSt.ok : Nat := 0
def KSt.jess : Nat := 1
def KSt.decode : Nat := 2
def KSt.csr : Nat := 3
def KSt.noRoute : Nat := 4
def KSt.failed : Nat := 5
def KSt.badMsg : Nat := 6

/-- Link states of KTL_LINK_STATUS. -/
def lkDisabled : Nat := 0
def lkAbsent : Nat := 1
def lkKeeper : Nat := 2
def lkTraining : Nat := 3
def lkUp : Nat := 4
def lkMiswired : Nat := 5
def lkDraining : Nat := 6

/-- PRESENCE states. -/
def prBooting : Nat := 0
def prReady : Nat := 1
def prPerch : Nat := 2
def prResetting : Nat := 3
def prLeaving : Nat := 4

/-- Route kinds of KTL_ROUTE_T. -/
def rtSelf : Nat := 0
def rtDirect : Nat := 1
def rtRelay : Nat := 2
def rtNone : Nat := 3
def viaNone : Nat := 0x7F

/-- The TCI status LINK_LOST and its RETRY_AFTER code (R99). -/
def stLinkLost : Nat := 0x0103
def retryLinkLost : Nat := 17

/-! ### Messages (tables "Message kinds", "Slots of TCI push messages") -/

/-- A message of this package with no body but the payload slot's words. -/
def State.newMsg (s : State) (kind : KKind) (dest : Nat) (w : List Nat) : KMsg :=
  let m : KMsg := {
    kind := kind, slots := if w = [] then 1 else 2, via := false, relayed := false, dest := dest, origin := s.pkg, priv := 2, oclass := 0, cls := 1, tag := 0,
    addr := 0, lines := 1, op := 0, ordered := false, status := 0, poison := 0, mask := 0, data := [], cmds := [], reps := [], w := w }
  { m with slots := m.expect }

/-! ### Links -/

def State.link (s : State) (n : Nat) : LinkState := Tab.get s.ktl.links n .reset
def State.setLink (s : State) (n : Nat) (l : LinkState) : State := s.updKtl (fun k => { k with links := Tab.put k.links n l })
def State.lstate (s : State) (n : Nat) : Nat := s.rd R.KTL_LINK_STATUS.STATE n
def State.setLstate (s : State) (n v : Nat) : State := s.wr R.KTL_LINK_STATUS.STATE v n

/-- A link or route event: its flag, its counter, and warden identity 8. -/
def State.linkFlag (s : State) (f cnt : RF) (n : Nat) : State := (s.flag f cnt n).raiseWarden 8
def State.glbFlag (s : State) (f cnt : RF) : State := (s.flag f cnt).raiseWarden 8

/-- The link carries messages at full rate: UP, or DRAINING while it is withdrawn. -/
def State.linkOpen (s : State) (n : Nat) : Bool := s.lstate n == lkUp || s.lstate n == lkDraining

/-- An instruction of the test port holds the balls that have output cells (R455). -/
def State.lanesHeld (s : State) : Bool := s.tap.ir == 0 || s.tap.ir == 3 || s.tap.ir == 4 || s.tap.ir == 5 || s.tap.ir == 6

/-- The device's own logic drives a ball that has an output cell, unless such an instruction is loaded (R455). -/
def State.drive (s : State) (o : Out) : State := if s.lanesHeld then s else s.emit o

/-- The link carries MGMT messages: at full rate or in keeper mode. -/
def State.linkMgmt (s : State) (n : Nat) : Bool := s.linkOpen n || ((s.link n).keeperUp && s.lstate n != lkDisabled && !s.lanesHeld)

/-- Whether message `m` may start on link `n` (R252, R257). -/
def State.canStart (s : State) (n : Nat) (m : KMsg) : Bool :=
  let l := s.link n
  if m.kind.vc = 3 ∧ !s.linkOpen n then s.linkMgmt n
  else s.linkOpen n && decide (m.slots ≤ lget l.credits m.pool 0) && decide ((l.next + 256 - l.lastAck - 1) % 256 < 128)

/-- The flits that a message fills. -/
def flitsOf (m : KMsg) : Nat := cdiv m.slots 15

/-- The header of a request of this package has been sent: its 4 ms run from here (R261). -/
def State.stampSent (s : State) (m : KMsg) : State :=
  if m.kind.isRequest && !m.relayed && m.origin == s.pkg then
    s.updKtl (fun k => { k with outst := k.outst.map (fun o => if o.tag == m.tag then { o with sentAt := some ((o.sentAt).getD s.now) } else o) })
  else s

/-- Message `m` is sent on link `n`: its flits take the next SEQs and are kept until they are acknowledged, its slots take credits. `bulk`: a message of class BULK was ready. -/
def State.txNow (s : State) (n : Nat) (m : KMsg) (bulk : Bool) : State :=
  let l := s.link n
  let f := flitsOf m
  let last := (l.next + f + 255) % 256
  let s := ((s.stampSent m).bump R.KTL_LINK_FLITS_TX f n).bump R.KTL_LINK_SLOTS_TX m.slots n
  (s.setLink n { l with
    next := (l.next + f) % 256, unacked := l.unacked ++ [(last, m)], credits := lset l.credits m.pool (lget l.credits m.pool 0 - m.slots),
    sinceBulk := if m.rank = 4 then 0 else if bulk then l.sinceBulk + 1 else l.sinceBulk, lastRed := if m.cls = 1 ∧ (m.kind.vc = 0 ∨ m.kind.vc = 2) then m.kind.vc == 2 else l.lastRed,
    lastRelay := m.relayed }).emit (.kettle n m)

/-- The messages of a list that no earlier one of their stream precedes. -/
def streamHeads : List KMsg → List KMsg → List KMsg
  | _, [] => []
  | seen, m :: r => if seen.any (fun x => x.sameStream m) then streamHeads seen r else m :: streamHeads (m :: seen) r

/-- The messages that may start on a link now. -/
def State.startable (s : State) (n : Nat) : List KMsg := (streamHeads [] (s.link n).txWait).filter (s.canStart n)

/-- The next message to start on a link (R257): BULK at the sixteenth start for which it was ready, else by rank; NORM requests alternate between REQ and RED, and relayed and local
messages of one rank alternate. -/
def State.nextStart (s : State) (n : Nat) : Option KMsg :=
  let l := s.link n
  let ready := s.startable n
  match (if 15 ≤ l.sinceBulk then ready.find? (fun m => m.rank == 4) else none) with
  | some m => some m
  | none =>
    let low := ready.foldl (fun a m => min a m.rank) 5
    let c := ready.filter (fun m => m.rank == low)
    let c := if low = 3 ∧ c.any (fun m => (m.kind.vc == 2) != l.lastRed) then c.filter (fun m => (m.kind.vc == 2) != l.lastRed) else c
    match c.find? (fun m => m.relayed != l.lastRelay) with
    | some m => some m
    | none => c.head?

/-- Remove the first occurrence of a message. -/
def dropMsg (l : List KMsg) (m : KMsg) : List KMsg := l.erase m

/-- Start every message that can start on link `n`. -/
def State.pump : Nat → Nat → State → State
  | 0, _, s => s
  | k + 1, n, s =>
    match s.nextStart n with
    | none => s
    | some m =>
      let bulk := (s.startable n).any (fun x => x.rank == 4)
      State.pump k n ((s.setLink n { s.link n with txWait := dropMsg (s.link n).txWait m }).txNow n m bulk)

/-- Message `m` joins the messages to be sent on link `n`. -/
def State.sendOn (s : State) (n : Nat) (m : KMsg) : State :=
  let l := s.link n
  (s.setLink n { l with txWait := l.txWait ++ [m] }).pump (l.txWait.length + 1) n

/-- An MGMT message straight on a link; dropped where the link carries none. -/
def State.mgmt (s : State) (n : Nat) (kind : KKind) (w : List Nat) : State :=
  if s.linkMgmt n then s.sendOn n (s.newMsg kind n w) else s

/-! ### LINKSTATE and PRESENCE (R263, R275) -/

/-- This package's link-up vector. -/
def State.ownVector (s : State) : Nat := (List.range 64).foldl (fun a n => if s.lstate n = lkUp then a + 2 ^ n else a) 0

/-- LINKSTATE on every link that is up. -/
def State.sendLinkstate (s : State) : State :=
  let v := s.ownVector
  let s := s.wr R.KTL_PEER_LINKS v s.pkg
  let s := s.wr R.KTL_GLB_STATUS.UP_LINKS ((List.range 64).filter (fun n => s.lstate n == lkUp)).length
  let s := s.updKtl (fun k => { k with lsSeq := k.lsSeq + 1 })
  (List.range 64).foldl (fun s n => if s.linkOpen n then s.mgmt n .linkstate [v, s.ktl.lsSeq % 2 ^ 32] else s) s

def slotNs : Nat := 4000000

/-- The current slot of the aligned phase. -/
def State.curSlot (s : State) : Nat := (s.now - s.ktl.slotBase) / slotNs % 64

/-- This package's PRESENCE state. -/
def State.presenceState (s : State) : Nat :=
  match s.pwr.pstate with
  | .entering | .perch | .waking => prPerch
  | _ => if s.boot.stage = .resetting then prResetting
         else if s.ktl.draining then prLeaving
         else if s.rd R.TCI_STATUS.READY = 1 then prReady else prBooting

/-- PRESENCE with state `st` on every link in keeper or full-rate mode. -/
def State.sendPresence (s : State) (st : Nat) : State :=
  let w := [s.rd R.TIME_NONCE, st, s.curSlot + 64 * s.rd R.KTL_GLB_STATUS.ALIGNED, (s.now - s.ktl.slotBase) % slotNs / 1000]
  (List.range 64).foldl (fun s n => s.mgmt n .presence w) s

/-! ### Routes (R264 to R268, R274) -/

def State.route (s : State) (t : Nat) : RouteState := Tab.get s.ktl.routes t .reset
def State.setRoute (s : State) (t : Nat) (r : RouteState) : State := s.updKtl (fun k => { k with routes := Tab.put k.routes t r })
def State.rkind (s : State) (t : Nat) : Nat := s.rd R.KTL_ROUTE.KIND t
def State.rvia (s : State) (t : Nat) : Nat := s.rd R.KTL_ROUTE.VIA t

/-- Messages for `t` are held because its PRESENCE shows PERCH and its links have not returned (R274). -/
def State.perched (s : State) (t : Nat) : Bool := s.rd R.KTL_ROUTE.PERCHED t == 1 && !(s.route t).perchBack

/-- The route's link can carry a message now. -/
def State.routeUsable (s : State) (t : Nat) : Bool :=
  (s.rkind t == rtDirect && s.linkOpen t) || (s.rkind t == rtRelay && s.linkOpen (s.rvia t))

/-- An outstanding request ends with no response. -/
def State.reqFails (s : State) (o : OutReq) : State :=
  s.updKtl (fun k => { k with outst := k.outst.filter (fun x => x.tag != o.tag), todo := k.todo ++ [(o, none)] })

/-- A message of this package or in relay that can no longer be delivered: a request of its own completes as stranded; any other message is dropped. -/
def State.strandMsg (s : State) (m : KMsg) : State :=
  if m.kind.isRequest && m.origin == s.pkg && !m.relayed then
    match s.ktl.outst.find? (fun o => o.tag == m.tag) with
    | some o => s.reqFails o
    | none => s
  else s

/-- The messages held for `t` complete as stranded. -/
def State.strandHeld (s : State) (t : Nat) : State :=
  let r := s.route t
  let s := (s.setRoute t { r with held := [] }).wr R.KTL_ROUTE.HOLD 0 t
  r.held.foldl State.strandMsg s

/-- A message leaves on the route in force. -/
def State.sendRoute (s : State) (t : Nat) (m : KMsg) : State :=
  if s.rkind t = rtRelay then s.sendOn (s.rvia t) { m with via := true } else s.sendOn t m

/-- Hold a message for `t`. -/
def State.holdMsg (s : State) (t : Nat) (m : KMsg) : State :=
  let r := s.route t
  (s.setRoute t { r with held := r.held ++ [m] }).wr R.KTL_ROUTE.HOLD 1 t

/-- Send a message to package `t` by the route in force: held while the route is searched, fenced, perched or newly NONE; stranded at once when its hold has ended. -/
def State.sendTo (s : State) (t : Nat) (m : KMsg) : State :=
  let r := s.route t
  if s.perched t then
    if r.perchDone then s.strandMsg m
    else
      let s := if r.perchAt.isNone then (s.setRoute t { r with perchAt := some s.now }).mgmt t .wake [] else s
      s.holdMsg t m
  else if r.probe.isSome ∨ r.fence.isSome then s.holdMsg t m
  else if s.routeUsable t then s.sendRoute t m
  else if r.stranded then s.strandMsg m
  else s.holdMsg t m

/-- The messages held for `t` leave. -/
def State.releaseHeld (s : State) (t : Nat) : State :=
  let r := s.route t
  let s := (s.setRoute t { r with held := [] }).wr R.KTL_ROUTE.HOLD 0 t
  r.held.foldl (fun s m => s.sendRoute t m) s

/-- The route to `t` takes a KIND and VIA, with the event of the change; a usable route releases what is held for it. -/
def State.setKind (s : State) (t kind via : Nat) : State :=
  let was := (s.rkind t, s.rvia t)
  let s := (s.wr R.KTL_ROUTE.KIND kind t).wr R.KTL_ROUTE.VIA via t
  let r := s.route t
  if kind = rtNone then
    if was.1 = rtNone then s
    else (s.setRoute t { r with noneAt := some s.now, probe := none, fence := none }).glbFlag R.KTL_GLB_EVENT.NO_ROUTE R.KTL_GLB_NOROUTE_CNT.COUNT
  else
    let s := s.setRoute t { r with noneAt := none, lostAt := none, stranded := false, probe := none, fence := none }
    let s := if was = (kind, via) then s else s.glbFlag R.KTL_GLB_EVENT.REROUTE R.KTL_GLB_REROUTE_CNT.COUNT
    if s.perched t then s else s.releaseHeld t

/-- The candidates of a search for `t`, in order (R264). -/
def State.candidates (s : State) (t : Nat) : List Nat :=
  if s.rd R.KTL_GLB_CFG.RELAY_USE = 0 then []
  else
    ((List.range 63).map (fun k => (s.pkg + t + k + 1) % 64)).filter (fun i =>
      i != s.pkg && i != t && s.lstate i == lkUp && natBit (s.rd R.KTL_PEER_LINKS i) t
        && s.rd R.KTL_LINK_STATUS.PEER_PERCH i == 0 && s.rd R.KTL_LINK_STATUS.LEAVING i == 0)

/-- The next round of a search, or its end. -/
def State.probeRound (s : State) (t : Nat) (rest : List Nat) : State :=
  match rest with
  | [] =>
    let s := s.setRoute t { s.route t with probe := none }
    if (s.route t).lostAt.isNone ∧ s.routeUsable t then s.releaseHeld t else s.setKind t rtNone viaNone
  | _ =>
    let round := rest.take 8
    let s := s.setRoute t { s.route t with probe := some { rest := rest.drop 8, round := round, acked := [], start := s.now } }
    round.foldl (fun s i => s.sendOn i { s.newMsg .probe t [] with via := true }) s

/-- The route to `t` has become unusable, or is probed again: a search begins. -/
def State.search (s : State) (t : Nat) : State :=
  if (s.route t).probe.isSome then s else s.probeRound t (s.candidates t)

/-- The route to `t` has been lost. -/
def State.routeLost (s : State) (t : Nat) : State :=
  let r := s.route t
  (s.setRoute t { r with lostAt := some ((r.lostAt).getD s.now), fence := none, stranded := false }).search t

/-- A new route replaces a usable one: the old route is fenced first (R267). -/
def State.fenceTo (s : State) (t kind via : Nat) : State :=
  if (s.rkind t, s.rvia t) = (kind, via) then s
  else if s.routeUsable t then
    let r := s.route t
    (s.setRoute t { r with fence := some (kind, via, s.now), probe := none }).sendRoute t (s.newMsg .routeFence t [])
  else s.setKind t kind via

/-- Link `t` has come up at full rate: its route becomes DIRECT. -/
def State.routeDirect (s : State) (t : Nat) : State :=
  let r := s.route t
  let s := s.setRoute t { r with probe := none }
  if s.rkind t = rtRelay ∧ s.routeUsable t then s.fenceTo t rtDirect viaNone else s.setKind t rtDirect viaNone

/-- The intermediate's answer to a message that it cannot forward (R265): none for a response or an MGMT message. -/
def State.relayAnswer (s : State) (m : KMsg) : Option KMsg :=
  let lost : Rep := { tag := (m.cmds.head?).elim 0 (·.tag), status := stLinkLost, flags := 0, retry := retryLinkLost, r0 := 0, r1 := 0, doneNs := s.epoch }
  let back := { m with dest := m.origin, origin := m.dest, via := false, relayed := true, data := [], cmds := [], reps := [], poison := 0, status := KSt.noRoute, slots := 1 }
  match m.kind with
  | .fwd => some { back with kind := .fwdReply, reps := [lost], w := [lget m.w 1 0], slots := 4 }
  | .cmd => some { back with kind := .reply, reps := m.cmds.map (fun c => { lost with tag := c.tag }), w := [lget m.w 0 0, 0, m.cmds.length], slots := 2 + 2 * m.cmds.length }
  | .rd => some { back with kind := .rdData, w := [] }
  | _ => if m.kind.isRequest then some { back with kind := .ack, w := [] } else none

/-- The answer of an intermediate goes back on the link that the message came on. -/
def State.answerRelay (s : State) (m : KMsg) : State :=
  match s.relayAnswer m with
  | some r => s.sendOn m.origin r
  | none => s

/-! ### Taking links down and up (R254, R255, R270, R272, R273) -/

/-- Routes whose link has gone. -/
def State.routesLost (s : State) (n : Nat) : State :=
  (List.range 64).foldl (fun s t =>
    if t = s.pkg then s
    else
      let s := match (s.route t).probe with
        | some p => s.setRoute t { s.route t with probe := some { p with round := p.round.filter (· != n) } }
        | none => s
      if (s.rkind t = rtDirect ∧ t = n) ∨ (s.rkind t = rtRelay ∧ s.rvia t = n) then s.routeLost t else s) s

/-- A link leaves full rate for keeper mode. What it has not acknowledged is resolved by VC; what it has not sent waits for the new route. -/
def State.linkToKeeper (s : State) (n : Nat) : State :=
  let l := s.link n
  let own := s.pkg
  let s := s.setLink n { LinkState.reset with keeperUp := l.keeperUp }
  let s := s.setRoute n { s.route n with perchBack := false }
  let s := ((s.setLstate n lkKeeper).wr R.KTL_LINK_STATUS.LANES_LOCKED 0 n)
  let s := s.sendLinkstate
  let s := s.routesLost n
  let s := l.unacked.foldl (fun s e =>
    let m := e.2
    if m.kind.vc = 3 then s
    else if m.kind.vc = 1 then (if m.relayed then s else s.sendTo m.dest { m with via := false })
    else if m.relayed then s.answerRelay m else s.strandMsg m) s
  l.txWait.foldl (fun s m =>
    if m.kind.vc = 3 then s
    else if m.relayed then s.answerRelay m
    else if m.dest = own then s.strandMsg m else s.sendTo m.dest { m with via := false }) s

/-- A link is declared down (R254, R255, R276). -/
def State.linkDown (s : State) (n : Nat) : State :=
  if !s.linkOpen n then s
  else
    let planned := s.rd R.KTL_LINK_STATUS.LEAVING n == 1
    let s := s.linkFlag R.KTL_LINK_EVENT.DOWN R.KTL_LINK_DOWN_CNT.COUNT n
    let s := s.report (Src.ktlLink n) Cls.ce (if planned then Cause.planned else Cause.linkDown)
    s.linkToKeeper n

/-- A withdrawal ends (R272): the link is in keeper mode, DISABLED where it was a DISABLE. -/
def State.withdrawEnd (s : State) (n : Nat) : State :=
  match (s.link n).withdraw with
  | none => s
  | some (retrain, _) =>
    let s := s.linkToKeeper n
    if retrain then s else s.setLstate n lkDisabled

/-- DISABLE or RETRAIN of a link: LINKSTATE with the link down at once, DOWN_REQ after 200 µs. A link that is not at full rate needs no withdrawal. -/
def State.withdrawLink (s : State) (n : Nat) (retrain : Bool) : State :=
  if s.lstate n = lkDraining then s.setLink n { s.link n with withdraw := some (retrain, ((s.link n).withdraw.map (·.2)).getD s.now) }
  else if s.lstate n = lkUp then
    let s := (s.setLstate n lkDraining).setLink n { s.link n with withdraw := some (retrain, s.now), downSent := false, downAcked := false }
    let s := s.sendLinkstate
    if s.rkind n = rtDirect then s.routeLost n else s
  else if retrain then s
  else if s.lstate n = lkTraining then (s.setLstate n lkDisabled).wr R.KTL_GLB_STATUS.TRAINING 0
  else if s.lstate n = lkKeeper ∨ s.lstate n = lkMiswired ∨ s.lstate n = lkAbsent then s.setLstate n lkDisabled else s

/-- ENABLE of a link: from DISABLED it is in keeper mode, or ABSENT until its keeper comes up. -/
def State.enableLink (s : State) (n : Nat) : State :=
  if s.lstate n = lkDisabled then s.setLstate n (if (s.link n).keeperUp then lkKeeper else lkAbsent) else s

/-- A link is at full rate. -/
def State.linkUp (s : State) (n : Nat) : State :=
  let s := s.setLink n { LinkState.reset with keeperUp := true, upAt := s.now }
  let s := ((s.setLstate n lkUp).wr R.KTL_LINK_STATUS.LANES_LOCKED 15 n).wr R.KTL_LINK_STATUS.TRAIN_FAILS 0 n
  let s := s.sendLinkstate
  if n = s.pkg then s
  else (s.setRoute n { s.route n with perchAt := none, perchDone := false, perchBack := s.rd R.KTL_ROUTE.PERCHED n == 1 }).routeDirect n

/-- Every link goes to keeper mode (R273, R277). -/
def State.allKeeper (s : State) : State :=
  let s := (List.range 64).foldl (fun s n => if s.linkOpen n then s.linkToKeeper n else s) s
  s.wr R.KTL_GLB_STATUS.KEEPER_ALL 1

/-- The links return to full rate together from their stored settings (R273): those that are enabled, in keeper mode and hold settings, but for `failed`. -/
def State.allUp (s : State) (failed : List Nat) : State :=
  let s := s.wr R.KTL_GLB_STATUS.KEEPER_ALL 0
  (List.range 64).foldl (fun s n =>
    if s.lstate n = lkKeeper ∧ s.rd R.KTL_LINK_EQ.VALID n = 1 ∧ !failed.contains n then s.linkUp n else s) s

/-- Training of link `n` begins in its slot, 100 µs into it (R270). The event that says so stands for that moment: where it comes in the first 100 µs, the rest of them lies within the step. -/
def State.trainingStart (s : State) (n : Nat) : State :=
  let peerAligned := n == s.pkg || (Tab.get s.ktl.peers n .reset).aligned
  if s.curSlot = s.rd R.KTL_LINK_STATUS.SLOT n ∧ (s.link n).keeperUp ∧ s.rd R.KTL_GLB_STATUS.ALIGNED = 1 ∧ peerAligned
      ∧ !s.lanesHeld ∧ s.rd R.KTL_LINK_CTRL.ENABLE n = 1 ∧ (s.lstate n = lkKeeper ∨ s.lstate n = lkMiswired) ∧ s.rd R.KTL_GLB_STATUS.KEEPER_ALL = 0 then
    ((s.setLstate n lkTraining).wr R.KTL_GLB_STATUS.TRAIN_LINK n).wr R.KTL_GLB_STATUS.TRAINING 1
  else s

/-- Stored settings of a training (KTL_LINK_EQ_l): each lane's packed word, with VALID. -/
def State.storeEq (s : State) (n : Nat) (eq : List Nat) : State :=
  (List.range 4).foldl (fun s l => s.wr R.KTL_LINK_EQ (lget eq l 0 % 2 ^ 32 + 2 ^ 32) n l) s

/-- What the far end sends as its package ID at training when it is no package (R22, R23). DESIGN CHOICE (log 125): the spec does not say what the gateway sends; it sends no package ID, and an end that
sends one on the gateway link is a package, whose link stays MISWIRED. -/
def noPackageId : Nat := 64

/-- The ID received at training is the one that the link's wiring asks for: the link's index from a peer, none from the gateway. A package that receives its own ID treats it as a mismatch (R23). -/
def State.idMatches (s : State) (n id : Nat) : Bool := if n = s.pkg then id == noPackageId else id == n

/-- The end of a training (R23, R270). -/
def State.trainingEnd (s : State) (n : Nat) (e : TrainEnd) : State :=
  if s.lstate n ≠ lkTraining then s
  else
    let s := s.wr R.KTL_GLB_STATUS.TRAINING 0
    match e with
    | .failed =>
      let s := (s.setLstate n lkKeeper).wr R.KTL_LINK_STATUS.TRAIN_FAILS (min 255 (s.rd R.KTL_LINK_STATUS.TRAIN_FAILS n + 1)) n
      (s.linkFlag R.KTL_LINK_EVENT.TRAIN_FAIL R.KTL_LINK_TRAIN_FAIL_CNT.COUNT n).report (Src.ktlLink n) Cls.ce Cause.trainFailed
    | .up id nonce eq =>
      let s := s.wr R.KTL_LINK_STATUS.PEER_ID (id % 64) n
      if !s.idMatches n id then
        ((s.setLstate n lkMiswired).linkFlag R.KTL_LINK_EVENT.MISWIRED R.KTL_LINK_MISWIRE_CNT.COUNT n).report (Src.ktlLink n) Cls.uc Cause.miswire
      else
        let s := (s.storeEq n eq).linkUp n
        s.updKtl (fun k => { k with peers := Tab.upd k.peers n .reset (fun p => if p.present then p else { p with present := true, nonce := nonce }) })

/-! ### Flits (R252 to R254) -/

/-- Whether SEQ `q` is covered by an ACK of `ack`, from the last SEQ acknowledged. -/
def covered (last ack q : Nat) : Bool := decide ((q + 256 - last) % 256 ≤ (ack + 256 - last) % 256) && decide (q ≠ last)

def addCredit (l : List Nat) (pool n : Nat) : List Nat := lset l pool (lget l pool 0 + n)

/-- The header of an accepted flit: its ACK, credits, NAK. -/
def State.flitHeader (s : State) (n : Nat) (f : Flit) : State :=
  let l := s.link n
  let l := { l with
    unacked := l.unacked.filter (fun e => !covered l.lastAck f.ack e.1),
    lastAck := if (f.ack + 256 - l.lastAck) % 256 ≤ 128 then f.ack else l.lastAck,
    credits := addCredit (addCredit l.credits f.craPool f.craCount) f.crbPool f.crbCount }
  let s := s.setLink n l
  let s := if f.nak then s.bump R.KTL_LINK_FLITS_TX ((l.next + 256 - l.lastAck - 1) % 256) n else s
  let s := s.pump l.txWait.length n
  if (s.link n).downAcked && (s.link n).unacked.isEmpty then s.withdrawEnd n else s

def State.flitReceive (s : State) (n : Nat) (f : Flit) : State :=
  if !s.linkOpen n then s
  else
    let s := if (s.link n).lockLost.isSome then (s.setLink n { s.link n with lockLost := none }).wr R.KTL_LINK_STATUS.LANES_LOCKED 15 n else s
    let l := s.link n
    let s := if f.fecOk then s else s.bump R.KTL_LINK_FEC_UNCORR 1 n
    let s := if f.fecFixed = 0 then s else s.bump R.KTL_LINK_FEC_CORR f.fecFixed n
    if !f.crcOk || !f.fecOk || (f.seqd && f.seq != l.exp) then
      if l.run.isSome then s
      else
        ((s.setLink n { l with run := some { start := s.now, asked := 1 } }).bump R.KTL_LINK_REPLAYS 1 n).linkFlag R.KTL_LINK_EVENT.REPLAY R.KTL_LINK_RUN_CNT.COUNT n
    else
      let s := if f.seqd then (s.setLink n { l with exp := (l.exp + 1) % 256, run := none }).bump R.KTL_LINK_FLITS_RX 1 n else s
      s.flitHeader n f

/-! ### Requests of this package -/

/-- A free transaction tag. -/
def freeTag (used : List OutReq) : Nat → Nat → Nat
  | 0, t => t
  | k + 1, t => if used.any (fun o => o.tag == t % 65536) then freeTag used k (t + 1) else t % 65536

/-- Send a request of this package to package `t` and remember it (R256, R261). -/
def State.request (s : State) (t : Nat) (m : KMsg) (who : Master) (for_ : OutFor) : State :=
  let tag := freeTag s.ktl.outst s.ktl.outst.length s.ktl.nextTag
  let m := { m with tag := tag, origin := s.pkg, dest := t, priv := who.priv.code, oclass := who.cls % 16, slots := m.expect }
  let o : OutReq := { tag := tag, target := t, kind := m.kind, sentAt := none, m := who, for_ := for_ }
  (s.updKtl (fun k => { k with outst := k.outst ++ [o], nextTag := (tag + 1) % 65536 })).sendTo t m

/-- Send a request on the gateway link (R262); with the link not up it fails at once. -/
def State.requestGw (s : State) (m : KMsg) (who : Master) (for_ : OutFor) : State :=
  let tag := freeTag s.ktl.outst s.ktl.outst.length s.ktl.nextTag
  let m := { m with tag := tag, origin := s.pkg, dest := s.pkg, priv := who.priv.code, oclass := who.cls % 16, slots := m.expect }
  let o : OutReq := { tag := tag, target := 64, kind := m.kind, sentAt := none, m := who, for_ := for_ }
  let s := s.updKtl (fun k => { k with outst := k.outst ++ [o], nextTag := (tag + 1) % 65536 })
  if s.linkOpen s.pkg then s.sendOn s.pkg m else s.reqFails o

/-- A response has come: the request that its TAG and sender name ends; a response that names none is discarded (R256). One with STATUS NO_ROUTE shows the relay route to its target unusable (R265). -/
def State.response (s : State) (link : Nat) (m : KMsg) : State :=
  let sender := if link = s.pkg then 64 else m.origin
  match s.ktl.outst.find? (fun o => o.tag == m.tag && o.target == sender && o.kind.answeredBy m.kind) with
  | none => s
  | some o =>
    let s := s.updKtl (fun k => { k with outst := k.outst.filter (fun x => x.tag != o.tag), todo := k.todo ++ [(o, some m)] })
    if m.status = KSt.noRoute ∧ m.relayed ∧ o.target < 64 ∧ s.rkind o.target = rtRelay ∧ (s.route o.target).probe = none then s.routeLost o.target else s

/-- Every request outstanding to a package ends with an error (R275, R277). Commands forwarded to it wait: one that was acknowledged ends by its reply or by TIMEOUT alone (R97), and one in an
unacknowledged flit ends as its link goes to keeper mode. -/
def State.failPeer (s : State) (t : Nat) : State :=
  (s.ktl.outst.filter (fun o => o.target == t && o.kind != .fwd)).foldl State.reqFails s

/-! ### Message checks (R259, R262) -/

/-- The checks on a received message; none when it passes. -/
def State.msgBad (s : State) (link : Nat) (m : KMsg) : Bool :=
  !m.kind.assigned || !m.slotsOk
    || (if m.via then m.dest == s.pkg || m.dest == link else m.dest != s.pkg)
    || (if link = s.pkg then m.origin != s.pkg || m.oclass != 15 || m.relayed else (!m.relayed && m.origin != link))

/-- The link carries the message: at full rate, or for MGMT in keeper mode too. -/
def State.hears (s : State) (link : Nat) (m : KMsg) : Bool := if m.kind.vc = 3 then s.linkMgmt link else s.linkOpen link

/-- The answer to the origin of a request. -/
def State.answerTo (s : State) (link : Nat) (m : KMsg) (r : KMsg) : State :=
  let r := { r with tag := m.tag, origin := s.pkg, dest := m.origin, cls := m.cls, slots := r.expect }
  if link = s.pkg then s.sendOn link r else s.sendTo m.origin r

/-- ACK or RD_DATA with a STATUS. -/
def State.statusTo (s : State) (link : Nat) (m : KMsg) (st : Nat) : State :=
  s.answerTo link m { s.newMsg (if m.kind = .rd then .rdData else .ack) 0 [] with status := st }

/-- A message is discarded (R259). -/
def State.discard (s : State) (link : Nat) (m : KMsg) : State :=
  let s := (s.linkFlag R.KTL_LINK_EVENT.ORIGIN_BAD R.KTL_LINK_ORIGIN_CNT.COUNT link).report (Src.ktlLink link) Cls.ce Cause.originBad
  let can := if link = s.pkg then m.origin == s.pkg else m.origin == link || (m.relayed && decide (m.origin < 64) && m.origin != s.pkg)
  if m.kind.isRequest && can then s.statusTo link m KSt.badMsg else s

/-- An intermediate forwards a VIA message (R265). -/
def State.relay (s : State) (m : KMsg) : State :=
  if s.rd R.KTL_GLB_CFG.RELAY_SERVE = 0 then (if m.kind = .probe then s else s.answerRelay m)
  else if s.lstate m.dest = lkUp then s.sendOn m.dest { m with via := false, relayed := true }
  else s.answerRelay m

/-- The common front of every message: a link that cannot carry it leaves the state; a bad one is discarded; a VIA one is relayed; else `f`. -/
def State.receive (s : State) (link : Nat) (m : KMsg) (f : State → State) : State :=
  if !s.hears link m then s
  else if s.msgBad link m then s.discard link m
  else if m.via then s.relay m
  else f s

/-! ### Requests served (R260) -/

/-- The master that a request is checked as (R234). -/
def remoteMaster (m : KMsg) : Master :=
  ⟨0x4000 + m.origin % 64 * 64 + m.oclass % 16 * 4, if m.priv = 0 then .u else .s, true⟩

/-- R131 for another package's tile DMA: it may not reach the private area, nor a tile that holds no plan of its run's RACK_GROUP and key domain, which the message does not carry (log 138). -/
def State.tileGate (s : State) (m : KMsg) (a : Nat) : State × Bool :=
  if m.oclass ≠ 2 ∨ rangeOf a ≠ .tile then (s, false)
  else
    let t := (a - tileBase) / 0x400000
    let l := (s.talon.plans.filter (fun e => e.2.tiles.contains t)).map (fun e => (e.2.group, e.2.domain))
    if planAreaBytes ≤ (a - tileBase) % 0x400000 ∨ l = [] then (s, true) else (s.draw, !Config.peerGroup s.free l)

/-- The STATUS that refuses a memory request, in the order of R260: none when it is admitted. A tile's refusal under R131 is answered as JESS (log 138). -/
def State.kGate (s : State) (m : KMsg) : State × Option Nat :=
  let n := 64 * (if m.kind = .wrMask then 1 else m.lines)
  let a := m.addr % 2 ^ 50
  if m.addr / 2 ^ 50 % 64 ≠ s.pkg then (s, some KSt.decode)
  else if 2 ^ 56 ≤ m.addr ∨ !decodes a n then (s.report Src.addrDecKettle Cls.uc Cause.addrDecode, some KSt.decode)
  else if rangeOf a = .csr then (s, some KSt.csr)
  else
    let ck := s.checkerOf a
    match s.jessFails ck (remoteMaster m) m.accKind a n with
    | some f => (s.jessRefuse ck (remoteMaster m) m.accKind f, some KSt.jess)
    | none => match s.tileGate m a with | (s, true) => (s, some KSt.jess) | (s, false) => (s, none)

/-- Lines read one by one, with the mask of poisoned ones. -/
def State.kRead (s : State) (m : Master) (c : ReqClass) : Nat → Nat → Nat → State × Option (List Byte × Nat)
  | 0, _, _ => (s, some ([], 0))
  | n + 1, a, i =>
    match s.portRead m a 64 c with
    | (s, none) => (s, none)
    | (s, some (l, p)) =>
      match s.kRead m c n (a + 64) (i + 1) with
      | (s, none) => (s, none)
      | (s, some (r, q)) => (s, some (l ++ r, q + b2n p * 2 ^ i))

/-- Lines written one by one under a mask with their poison marks; the last one of a sector makes `who` wait. False: one ended with an error. -/
def State.kWrite (s : State) (m : Master) (c : ReqClass) (a mask poison : Nat) (who : List Waiter) : List (List Byte) → Nat → State × Bool
  | [], _ => (s, true)
  | l :: r, i =>
    match s.writeLine (a + 64 * i) l mask (natBit poison i) c m (if r = [] then who else []) with
    | (s, false) => (s, false)
    | (s, true) => s.kWrite m c a mask poison who r (i + 1)

def linesOf : Nat → List Byte → List (List Byte)
  | 0, _ => []
  | n + 1, l => l.take 64 :: linesOf n (l.drop 64)

/-- The request that stands at ingress for an ordered contribution with no slot. -/
def State.ordMark (s : State) (o : OrdReq) : QReq :=
  let l := s.localOf o.addr
  { id := o.id, r := { m := o.m, addr := o.addr, op := .add o.op, cls := o.cls, data := [], mask := 0, poison := false }, at_ := s.now, mode := ordMode, key := s.lineKey o.addr, lcl := l,
    bank := hbmBank l, row := hbmRow l, ent := 0, quiet := true }

def ordMine (o : OrdReq) (y : QReq) : Bool := y.mode == ordMode && y.id == o.id

/-- An ordered contribution takes its line's slot or a free one (R183), its ward filter first; with none, or with its stack in self-refresh, it waits at ingress, where it holds its class and direction
(R185, R151, R177). One that finds another of them waiting there goes on waiting upstream. -/
def State.ordTry (s : State) (o : OrdReq) : State × Bool :=
  let st := s.stackOf o.addr
  let p := s.pcOf o.addr
  let q := s.hq st p
  let mine := q.held.any (ordMine o)
  if (q.held.takeWhile (fun y => !ordMine o y)).any (fun y => y.r.cls == o.cls && y.isWrite) then (s, false)
  else
    match (if s.stkState st = stkReady then ((s.ward .partialW o.addr).refill o.addr).ordAdd o.op o.addr o.src o.data o.poison else (s, false)) with
    | (t, true) => (if mine then t.hqStep st p (fun q => ({ q with held := q.held.filter (fun y => !ordMine o y) }).refillIngress (t.hcfg st p)) else t, true)
    | (_, false) => (if mine then s else s.setHq st p (q.hold (s.ordMark o) s.now), false)

/-- A contribution completes: the ADD message once none of its lines waits any more, the master of an access; one of a REDUCE or a descriptor is told to its user. -/
def State.ordDone (s : State) (rest : List OrdReq) (o : OrdReq) (st : Nat) : State :=
  match o.reply with
  | some m => if rest.any (fun x => x.reply == o.reply) then s else s.statusTo m.origin m st
  | none =>
    match o.run with
    | some f =>
      s.updKtl (fun k => { k with todo := k.todo ++ [({ tag := 65536, target := s.pkg, kind := .add, sentAt := none, m := o.m, for_ := f }, some { s.newMsg .ack s.pkg [] with status := st })] })
    | none => if o.m.remote then s else if st = KSt.ok then s.emit (.done o.m []) else s.errTo o.m

/-- Every contribution that waits tries again, in order of arrival; each completes as it enters its slot (R183, R185). -/
def State.ordRetry (s : State) : List OrdReq → List OrdReq → State
  | [], _ => s
  | o :: r, kept =>
    match s.ordTry o with
    | (s, true) => (s.ordDone (kept ++ r) o KSt.ok).ordRetry r kept
    | (s, false) => (s.updHbm (fun h => { h with ordWait := h.ordWait ++ [o] })).ordRetry r (kept ++ [o])

def State.ordServe (s : State) : State :=
  if s.hbm.ordWait = [] then s else (s.updHbm (fun h => { h with ordWait := [] })).ordRetry s.hbm.ordWait []

/-- Contributions numbered as they arrive. -/
def ordNumber : Nat → List OrdReq → List OrdReq
  | _, [] => []
  | n, o :: r => { o with id := n } :: ordNumber (n + 1) r

/-- An ordered float add joins its lines' slots; with no slot free it waits. -/
def State.ordSubmit (s : State) (l : List OrdReq) : State :=
  (s.updHbm (fun h => { h with ordWait := h.ordWait ++ ordNumber h.seq l, seq := h.seq + l.length })).ordServe

/-- A BLOCK reset of a stack's complex: the contributions that wait at its ingress complete with an error (R161). -/
def State.ordCut (s : State) (st : Nat) : State :=
  let (cut, keep) := s.hbm.ordWait.partition (fun o => s.stackOf o.addr == st)
  let s := s.updHbm (fun h => { h with ordWait := keep })
  cut.foldl (fun s o => s.ordDone [] o KSt.failed) s

/-- The HBM class of a message's header (table "Message header"); code 3 is taken as NORM. -/
def kClass (c : Nat) : ReqClass := if c = 0 then .crit else if c = 2 then .bulk else .norm

/-- A memory request at its port once Jess has admitted it: what the port answers by itself (R213, R353). None: it is performed. -/
def State.kPort (s : State) (mode a : Nat) : Option State :=
  if mode = 2 && !s.cryptReady then some s.cryptRefuse else if s.answers mode a && !s.linkCut 4 a then none else some s

/-- RD, WR, WR_MASK or ADD at its target. A target that takes no request now leaves the message in its pool (log 129). -/
def State.serve (s : State) (link : Nat) (m : KMsg) : State :=
  if m.kind ≠ .wrMask ∧ !m.inBlock then s.discard link m
  else
    let a := m.addr % 2 ^ 50
    let n := 64 * (if m.kind = .wrMask then 1 else m.lines)
    match s.kGate m with
    | (s, some st) => s.statusTo link m st
    | (t, none) =>
      let who := remoteMaster m
      let c := kClass m.cls
      let mode := (t.modeAt (t.checkerOf a) a).1
      let ordered := m.kind == .add && rangeOf a == .hbm && m.ordered && decide (m.op < 3)
      match (if m.kind = .add then none else t.kPort mode a) with
      | some t => t.statusTo link m KSt.failed
      | none =>
        if !ordered && s.asleepIn (a / 64 * 64) n then s
        else
          match m.kind with
          | .rd =>
            match t.kRead who c m.lines a 0 with
            | (s, none) => s.statusTo link m KSt.failed
            | (s, some (l, p)) => s.answerTo link m { s.newMsg .rdData 0 [] with data := l, poison := p }
          | .add =>
            if ordered then
              if !t.answers mode a then t.statusTo link m KSt.failed
              else
                let ls := linesOf m.lines m.data
                t.ordSubmit ((List.range m.lines).map (fun i => {
                  m := who, cls := c, addr := a + 64 * i, op := m.op, src := m.origin, data := lget ls i [], poison := natBit m.poison i, reply := some m, run := none }))
            else
              match t.portAdd who m.op a m.data (m.poison != 0) c with
              | (s, ok) => s.statusTo link m (if ok then KSt.ok else KSt.failed)
          | _ =>
            let mask := if m.kind = .wrMask then m.mask % 2 ^ 64 else 2 ^ 64 - 1
            let ls := if m.kind = .wrMask then [m.data] else linesOf m.lines m.data
            match t.kWrite who c (a / 64 * 64) mask m.poison (if mode = 2 then [.kettle link m] else []) ls 0 with
            | (s, true) => if mode = 2 then s else s.statusTo link m KSt.ok
            | (s, false) => s.statusTo link m KSt.failed

/-- Kettle requests whose merged writes have ended are answered (R220, R260). -/
def State.mergeReplies (s : State) : State :=
  let l := s.crypt.ended
  let s := s.updCrypt (fun c => { c with ended := [] })
  l.foldl (fun s x => s.statusTo x.1 x.2.1 (if x.2.2 then KSt.ok else KSt.failed)) s

/-! ### MGMT messages -/

def State.peer (s : State) (t : Nat) : PeerState := Tab.get s.ktl.peers t .reset
def State.setPeer (s : State) (t : Nat) (p : PeerState) : State := s.updKtl (fun k => { k with peers := Tab.put k.peers t p })

/-- The physical time of a start of slot 0 that the phase of a PRESENCE gives: slot number and µs elapsed in it. -/
def State.phaseOf (s : State) (slot us : Nat) : Nat :=
  let at_ := slot % 64 * slotNs + us * 1000
  if at_ ≤ s.now then s.now - at_ else s.now + 64 * slotNs - at_ % (64 * slotNs)

/-- The rule of a package without SLOT_SYNC (R269): adopt the phase of the lowest-numbered present peer that is aligned, or keep the own counter where no present peer is numbered below. A package that
is aligned on its own counter keeps it (DEDUCED, log 130: the peers that show ALIGNED have adopted its phase). -/
def State.alignByPeers (s : State) : State :=
  if s.rd R.KTL_GLB_STATUS.ALIGNED = 1 ∧ s.rd R.KTL_GLB_STATUS.ALIGN_SRC = 0 then s else
  let present := (List.range 64).filter (fun t => t != s.pkg && (s.peer t).present)
  match present.find? (fun t => (s.peer t).aligned) with
  | some t =>
    let s := s.updKtl (fun k => { k with slotBase := (s.peer t).phase })
    ((s.wr R.KTL_GLB_STATUS.ALIGNED 1).wr R.KTL_GLB_STATUS.ALIGN_SRC 2).wr R.KTL_GLB_STATUS.ALIGN_PEER t
  | none =>
    if present.all (fun t => decide (s.pkg < t)) then (s.wr R.KTL_GLB_STATUS.ALIGNED 1).wr R.KTL_GLB_STATUS.ALIGN_SRC 0 else s

/-- No SLOT_SYNC has come for 1 s. -/
def State.syncStale (s : State) : Bool := match s.ktl.syncAt with | some t => s.due (t + 1000000000) | none => true

/-- A package's power epoch has ended, and the chunks that it held with it: a session with such a chunk and no held buddy copy is DAMAGED (R58). -/
def State.shardsLost (s : State) (p : Nat) : State :=
  s.updSes (fun t => { t with table := t.table.map (fun e =>
    if e.2.shards.any (fun c => c.2 == p) && e.2.buddy != .held then (e.1, { e.2 with damaged := true }) else e) })

/-- A peer's PRESENCE (R269, R274, R275). -/
def State.presenceFrom (s : State) (t : Nat) (m : KMsg) : State :=
  let p := s.peer t
  let nonce := lget m.w 0 0
  let st := lget m.w 1 0
  let b := lget m.w 2 0
  let fresh := p.present && p.nonce != nonce
  let s := s.setPeer t { p with
    present := true, nonce := nonce, st := st, aligned := natBit b 6, phase := s.phaseOf b (lget m.w 3 0), readySeen := (p.readySeen && !fresh) || st == prReady }
  let perch := st == prPerch
  let was := s.rd R.KTL_ROUTE.PERCHED t == 1
  let s := (s.wr R.KTL_LINK_STATUS.PEER_PERCH (b2n perch) t).wr R.KTL_ROUTE.PERCHED (b2n perch) t
  let s := if was && !perch then
      let s := s.setRoute t { s.route t with perchAt := none, perchDone := false, perchBack := false }
      if s.routeUsable t then s.releaseHeld t else s
    else s
  let s := if perch && !was && s.rkind t == rtRelay && s.rvia t == t then s.routeLost t else s
  let s := if perch && !was then (List.range 64).foldl (fun s x => if s.rkind x = rtRelay ∧ s.rvia x = t then s.routeLost x else s) s else s
  let s := if fresh then
      let s := ((s.failPeer t).shardsLost t).linkFlag R.KTL_LINK_EVENT.PEER_EPOCH R.KTL_LINK_EPOCH_CNT.COUNT t
      if s.linkOpen t then s.linkToKeeper t else s
    else s
  let s := if st == prResetting && p.st != prResetting then s.failPeer t else s
  if s.syncStale then s.alignByPeers else s

/-- A peer's LINKSTATE (R263, R266): the vector is kept, and NONE routes that gain a candidate are probed again; a relay through a package that lost the target is rerouted. -/
def State.linkstateFrom (s : State) (t : Nat) (m : KMsg) : State :=
  let v := lget m.w 0 0
  let old := s.rd R.KTL_PEER_LINKS t
  let s := (s.wr R.KTL_PEER_LINKS v t).updKtl (fun k => { k with lsSeen := Tab.put k.lsSeen t (lget m.w 1 0) })
  (List.range 64).foldl (fun s x =>
    if x = s.pkg ∨ x = t then s
    else if s.rkind x = rtNone ∧ natBit v x ∧ !natBit old x then s.search x
    else if s.rkind x = rtRelay ∧ s.rvia x = t ∧ !natBit v x then s.routeLost x
    else s) s

/-- The search for `t` ends with intermediate `i`: a route that was lost takes it at once, one that can still be used is fenced first (R264, R267). -/
def State.chooseRelay (s : State) (t i : Nat) : State :=
  if (s.route t).lostAt.isSome then s.setKind t rtRelay i
  else (s.setRoute t { s.route t with probe := none }).fenceTo t rtRelay i

/-- A PROBE_ACK through link `i` (R264): the lowest candidate of the round still pending becomes the intermediate. -/
def State.probeAckFrom (s : State) (i t : Nat) : State :=
  match (s.route t).probe with
  | none => s
  | some p =>
    if !p.round.contains i then s
    else if p.round.head? = some i then s.chooseRelay t i
    else s.setRoute t { s.route t with probe := some { p with acked := p.acked ++ [i] } }

/-- A round ends: the lowest candidate that answered, or the next round. -/
def State.probeTimeout (s : State) (t : Nat) : State :=
  match (s.route t).probe with
  | none => s
  | some p =>
    if s.now < p.start + 20000 then s
    else
      match p.round.find? (fun i => p.acked.contains i) with
      | some i => s.chooseRelay t i
      | none => s.probeRound t p.rest

/-- SLOT_SYNC from the gateway: slot 0 begins now. -/
def State.slotSyncFrom (s : State) : State :=
  ((s.updKtl (fun k => { k with slotBase := s.now, syncAt := some s.now })).wr R.KTL_GLB_STATUS.ALIGNED 1).wr R.KTL_GLB_STATUS.ALIGN_SRC 1

/-- PROBE: the target answers on the link that it came on (R264). -/
def State.probeFrom (s : State) (link : Nat) (m : KMsg) : State :=
  s.sendOn link { s.newMsg .probeAck m.origin [] with via := m.relayed }

/-- ROUTE_FENCE: FENCE_ACK goes back over the route that it came on (R267). -/
def State.fenceFrom (s : State) (link : Nat) (m : KMsg) : State :=
  s.sendOn link { s.newMsg .fenceAck m.origin [] with via := m.relayed }

/-- The old route of a fence is switched to the new one (R267). -/
def State.fenceDone (s : State) (t : Nat) : State :=
  match (s.route t).fence with
  | some (kind, via, _) => s.setKind t kind via
  | none => s

/-- FENCE_ACK over the old route. -/
def State.fenceAckFrom (s : State) (link t : Nat) : State :=
  if (if s.rkind t = rtRelay then s.rvia t else t) = link then s.fenceDone t else s

/-- LEAVE: the peer is no candidate any more, and the routes through it are rerouted (R276). -/
def State.leaveFrom (s : State) (t : Nat) : State :=
  (List.range 64).foldl (fun s x => if s.rkind x = rtRelay ∧ s.rvia x = t then s.search x else s) (s.wr R.KTL_LINK_STATUS.LEAVING 1 t)

/-- DOWN_REQ: the link is withdrawn at this end too, and goes to keeper mode when every sent flit is acknowledged (R272). -/
def State.downReqFrom (s : State) (n : Nat) : State :=
  if !s.linkOpen n then s
  else
    let s := if s.lstate n = lkUp then s.withdrawLink n true else s
    let s := s.mgmt n .downAck []
    let s := s.setLink n { s.link n with downSent := true, downAcked := true }
    if (s.link n).unacked.isEmpty then s.withdrawEnd n else s

/-- DOWN_ACK. -/
def State.downAckFrom (s : State) (n : Nat) : State :=
  if (s.link n).withdraw.isSome ∧ (s.link n).downSent ∧ s.linkOpen n then
    let s := s.setLink n { s.link n with downAcked := true }
    if (s.link n).unacked.isEmpty then s.withdrawEnd n else s
  else s

/-- 200 µs after LINKSTATE with the link down, DOWN_REQ is sent (R272). -/
def State.withdrawRequest (s : State) (n : Nat) : State :=
  match (s.link n).withdraw with
  | some (_, t) =>
    if (s.link n).downSent ∨ !s.due (t + 200000) then s
    else (s.setLink n { s.link n with downSent := true }).mgmt n .downReq []
  | none => s

/-- READY of a peer, or of the gateway's partner (R81). -/
def State.readyFrom (s : State) (link : Nat) : State := s.setPeer link { s.peer link with readySeen := true }

/-! ### Timers of links and routes -/

/-- A replay run asks again (R254): its k-th request at the run's start + k · 3.125 µs, for k up to 15. -/
def State.replayAsk (s : State) (n : Nat) : State :=
  match (s.link n).run with
  | some r =>
    if 16 ≤ r.asked ∨ !s.due (r.start + r.asked * 3125) then s
    else (s.setLink n { s.link n with run := some { r with asked := r.asked + 1 } }).bump R.KTL_LINK_REPLAYS 1 n
  | none => s

/-- A replay run or a lock loss has lasted 50 µs (R254). -/
def State.downTimeout (s : State) (n : Nat) : State :=
  let expired := fun (o : Option Nat) => match o with | some t => s.due (t + 50000) | none => false
  if expired ((s.link n).run.map (·.start)) || expired (s.link n).lockLost then s.linkDown n else s

/-- A memory request has had no response for 4 ms (R261). -/
def State.respTimeout (s : State) (tag : Nat) : State :=
  match s.ktl.outst.find? (fun o => o.tag == tag) with
  | some o =>
    if (o.kind == .rd || o.kind == .wr || o.kind == .wrMask || o.kind == .add) && (o.sentAt).any (fun t => s.due (t + 4000000)) then
      ((s.glbFlag R.KTL_GLB_EVENT.RESP_TIMEOUT R.KTL_GLB_RESPTO_CNT.COUNT).report Src.ktlRoute Cls.ce Cause.respTimeout).reqFails o
    else s
  | none => s

/-- The hold of a route that is NONE ends 1 ms after the route was lost (R266). -/
def State.strandExpiry (s : State) (t : Nat) : State :=
  let r := s.route t
  match r.lostAt with
  | some l =>
    if s.rkind t ≠ rtNone ∨ r.stranded ∨ s.perched t ∨ !s.due (l + 1000000) then s
    else
      let s := s.setRoute t { r with stranded := true }
      (s.strandHeld t).glbFlag R.KTL_GLB_EVENT.STRANDED R.KTL_GLB_STRAND_CNT.COUNT
  | none => s

/-- The holding for a perched target ends after 50 ms (R274). -/
def State.perchHoldEnd (s : State) (t : Nat) : State :=
  let r := s.route t
  match r.perchAt with
  | some p =>
    if !s.perched t ∨ r.perchDone ∨ !s.due (p + 50000000) then s
    else
      let s := s.setRoute t { r with perchDone := true }
      (s.strandHeld t).glbFlag R.KTL_GLB_EVENT.STRANDED R.KTL_GLB_STRAND_CNT.COUNT
  | none => s

/-- A fence has lasted 200 µs (R267). -/
def State.fenceTimeout (s : State) (t : Nat) : State :=
  match (s.route t).fence with
  | some (_, _, at_) => if s.due (at_ + 200000) then s.fenceDone t else s
  | none => s

/-- A receiver loses lock; the link goes down if it is not regained within 50 µs (R254). -/
def State.lockLost (s : State) (n : Nat) : State :=
  if !s.linkOpen n ∨ (s.link n).lockLost.isSome then s
  else (s.setLink n { s.link n with lockLost := some s.now }).wr R.KTL_LINK_STATUS.LANES_LOCKED 0 n

/-- A link's keeper comes up (R270). -/
def State.keeperComes (s : State) (n : Nat) : State :=
  let s := s.setLink n { s.link n with keeperUp := true }
  if s.lstate n = lkAbsent then s.setLstate n lkKeeper else s

/-! ### The router at bring-up (R271) -/

/-- The router and ports as a COLD start leaves them: every link ABSENT until its keeper comes up, every route but the own one NONE, the slots and the gateway link as the identity gives
them. -/
def State.kettleCold (s : State) : State :=
  let p := s.pkg
  let s := { s with ktl := { KettleState.reset with slotBase := s.now } }
  (List.range 64).foldl (fun s n =>
    let s := (s.wr R.KTL_LINK_STATUS.GATEWAY (b2n (n == p)) n).wr R.KTL_LINK_STATUS.SLOT ((p + n) % 64) n
    if n = p then s
    else ((s.wr R.KTL_ROUTE.KIND rtNone n).wr R.KTL_ROUTE.VIA viaNone n).setRoute n { RouteState.reset with noneAt := some s.now, lostAt := some s.now }) s

end Sys2Proof.Machine
end

