-- ==== Sys2Proof/Machine/MewsOps.lean ====
section
/-! DEFINITION. The cores and the Mews cache as shared operations (12_mews_cores.md): accesses at the cache port, atomics, reservations, cache maintenance, locked ranges, interrupts, core
reset, the boot flash. -/

namespace Sys2Proof.Machine

/-! ### Masters -/

/-- The master identity of core `c`. -/
def coreMaster (c : Nat) : Master := if c < 4 then ⟨c, .f, false⟩ else ⟨0x1000 + c, .s, false⟩

/-- The core that a master is, if it is one. -/
def coreOf (m : Master) : Option Nat :=
  if m.remote then none else if m.cls = 0 ∧ m.inst < 4 then some m.inst else if m.cls = 1 ∧ 4 ≤ m.inst ∧ m.inst < 16 then some m.inst else none

/-- An access of a core takes the access fault of its kind; another master's completes with an error. -/
def State.accFault (s : State) (m : Master) (k : AccKind) (a : Nat) : State :=
  match coreOf m with
  | some c => s.emit (.coreFault c k a)
  | none => s.errTo m

/-- An access that the CSR space does not take (R4): recorded on the target block's source. -/
def State.csrBad (s : State) (m : Master) (k : AccKind) (addr : Nat) : State :=
  (s.report (csrSource (addr % 2 ^ 50 - csrBase)) Cls.uc Cause.csrAccess).accFault m k addr

/-- An access of a kind that only HBM and Roost of this package take (R4, R283, R292): what it meets elsewhere; none on an address that is not elsewhere. -/
def State.notMain (s : State) (m : Master) (k : AccKind) (addr : Nat) : Option State :=
  let a := addr % 2 ^ 50
  if 2 ^ 56 ≤ addr then none
  else if addr / 2 ^ 50 ≠ s.pkg ∨ rangeOf a = .tile then some (s.accFault m k addr)
  else if rangeOf a = .csr then some (s.csrBad m k addr)
  else none

/-- A line that the cache does not hold and whose target takes no request now: the access waits (log 129). -/
def State.mustWait (s : State) (addr : Nat) : Bool := (s.cline? (addr % 2 ^ 50 / 64 * 64)).isNone && s.asleep (addr % 2 ^ 50 / 64 * 64)

/-- A core consumes poison (R288). -/
def State.poisonUse (s : State) (m : Master) (k : AccKind) (a : Nat) : State :=
  match coreOf m with
  | some c => ((s.flag R.MEWS_EVENT.POISON_USE R.MEWS_POISON_CNT.COUNT).report (Src.core c) Cls.uc Cause.poisonConsumed).emit (.coreFault c k a)
  | none => s

/-! ### Lines -/

/-- What the (72,64) code of a held line finds on a hit (R288). -/
def State.hitEcc (s : State) (a : Nat) (c : CLine) (e : EccOutcome) : State × CLine :=
  match e with
  | .clean => (s, c)
  | .corrected => (s.flag R.MEWS_EVENT.CE R.MEWS_CE_CNT.COUNT, c)
  | .uncorrectable =>
    let c := { c with poison := true }
    (((s.cputLine a c).flag R.MEWS_EVENT.UE R.MEWS_UE_CNT.COUNT).report Src.mewsCache Cls.de Cause.uncorrected, c)

/-- The line of a cacheable access: a hit with its code's outcome, or a fill. -/
def State.useLine (s : State) (m : Master) (a way : Nat) (e : EccOutcome) : State × Option CLine :=
  match s.cline? a with
  | some c => let (s, c) := (s.bump R.MEWS_HITS).hitEcc a c e; (s, some c)
  | none => (s.bump R.MEWS_MISSES).fillLine (m.cls == 1) a way (masterClass m)

/-! ### Accesses at the cache port (R283 to R288) -/

/-- The checks before a core, fetcher or mailbox access: decode, Jess at checker 0, and whether the target answers. None: admitted. -/
def State.coreGate (s : State) (m : Master) (k : AccKind) (addr n : Nat) : Option State :=
  let a := addr % 2 ^ 50
  if 2 ^ 56 ≤ addr ∨ !decodes a n then some ((s.report Src.addrDecCore Cls.uc Cause.addrDecode).accFault m k addr)
  else
    match s.jessFails 0 m k a n with
    | some f => some ((s.jessRefuse 0 m k f).accFault m k addr)
    | none => if s.answers 0 a || (s.cline? (a / 64 * 64)).isSome then none else some (s.accFault m k addr)

/-- A write of bytes into a held line. -/
def mergeInto (c : CLine) (off : Nat) (l : List Byte) : CLine :=
  let whole := decide (off = 0 ∧ l.length = 64)
  { c with data := c.data.take off ++ l ++ c.data.drop (off + l.length), dirty := true, poison := c.poison && !whole }

/-- A load, fetch or store on local HBM or Roost. -/
def State.cacheMain (s : State) (r : CacheAcc) : State :=
  let a := r.addr % 2 ^ 50
  let line := a / 64 * 64
  let off := a % 64
  let held := (s.cline? line).isSome
  let s := if r.kind = .w then s.breakResv line (coreOf r.m) else s
  if r.nc && !held then
    let s := s.bump R.MEWS_MISSES
    match s.matchOnly line with
    | none => (s.overlapAt tirlo r.kind line).accFault r.m r.kind r.addr
    | some (mode, d) =>
      if r.kind = .w then
        match s.linePut mode d line (List.replicate off 0 ++ r.data ++ List.replicate (64 - off - r.data.length) 0) ((2 ^ r.data.length - 1) * 2 ^ off) false (masterClass r.m) tirlo
            [.master r.m] with
        | (s, false) => s.accFault r.m r.kind r.addr
        | (s, true) => if mode = 2 then s else s.emit (.done r.m [])
      else
      let (s, l, p) := s.lineIn mode d line (masterClass r.m)
      if p then (if (coreOf r.m).isSome then s.poisonUse r.m r.kind r.addr else s.answerRead r.m (slice l off r.len) true)
      else s.answerRead r.m (slice l off r.len) false
  else
    match s.useLine r.m line r.way r.ecc with
    | (s, none) => s.accFault r.m r.kind r.addr
    | (s, some c) =>
      if r.kind = .w then (s.cputLine line (mergeInto c off r.data)).emit (.done r.m [])
      else if c.poison then (if (coreOf r.m).isSome then s.poisonUse r.m r.kind r.addr else s.answerRead r.m (slice c.data off r.len) true)
      else s.answerRead r.m (slice c.data off r.len) false

/-- An access to another package: a load travels as RD, a store as WR_MASK (R283); a fetch faults (R236). -/
def State.remoteAcc (s : State) (r : CacheAcc) : State :=
  let t := r.addr / 2 ^ 50
  let line := r.addr / 64 * 64
  let off := r.addr % 64
  if r.kind = .w then
    s.request t { s.newMsg .wrMask t [] with
      cls := (masterClass r.m).header, addr := line, mask := (2 ^ r.data.length - 1) * 2 ^ off, data := slice (List.replicate off 0 ++ r.data ++ List.replicate 64 0) 0 64 } r.m (.access .w r.addr 0 0)
  else if r.kind = .r then s.request t { s.newMsg .rd t [] with cls := (masterClass r.m).header, addr := line } r.m (.access .r r.addr off r.len)
  else s.accFault r.m r.kind r.addr

/-- CACHE_ACCESS. The access lies within one line. -/
def State.cacheAccess (s : State) (r : CacheAcc) (csr : Nat → State → State) : State :=
  let n := max 1 (if r.kind = .w then r.data.length else r.len)
  let a := r.addr % 2 ^ 50
  if r.addr < 2 ^ 56 ∧ r.addr / 2 ^ 50 ≠ s.pkg then s.remoteAcc r
  else if r.addr < 2 ^ 56 ∧ rangeOf a = .csr then (if r.kind = .r ∨ r.kind = .w then csr (a - csrBase) s else s.csrBad r.m r.kind r.addr)
  else if r.kind = .a then s.accFault r.m .a r.addr
  else if r.addr < 2 ^ 56 ∧ decodes a n ∧ rangeOf a = .tile then
    if r.kind = .w then
      match s.portWrite r.m a r.data false with
      | (s, .ok) => s.emit (.done r.m [])
      | (s, _) => s.accFault r.m r.kind r.addr
    else if r.kind = .x then
      match s.jessFails (s.checkerOf a) r.m .x a n with
      | some f => (s.jessRefuse (s.checkerOf a) r.m .x f).accFault r.m .x r.addr
      | none => s.accFault r.m .x r.addr
    else
      match s.portRead r.m a r.len with
      | (s, some (l, p)) => if p && (coreOf r.m).isSome then s.poisonUse r.m r.kind r.addr else s.answerRead r.m l p
      | (s, none) => s.accFault r.m r.kind r.addr
  else
    match s.coreGate r.m r.kind r.addr n with
    | some s' => s'
    | none => if s.mustWait r.addr then s else s.cacheMain r

/-! ### Atomics (R292, R293) -/

def signed (bits v : Nat) : Int := if 2 ^ (bits - 1) ≤ v % 2 ^ bits then (v % 2 ^ bits : Int) - 2 ^ bits else (v % 2 ^ bits : Int)

/-- The value that an AMO stores. -/
def amoValue (op : AmoOp) (bits old x : Nat) : Nat :=
  let o := old % 2 ^ bits
  let r := x % 2 ^ bits
  match op with
  | .swap => r
  | .add => (o + r) % 2 ^ bits
  | .xor => o ^^^ r
  | .and => o &&& r
  | .or => o ||| r
  | .min => if signed bits o ≤ signed bits r then o else r
  | .max => if signed bits r ≤ signed bits o then o else r
  | .minu => min o r
  | .maxu => max o r

/-- The value that AMOFADD stores: IEEE 754 addition, RNE; a NaN in its canonical form. -/
def fpAmo (wide : Bool) (old x : Nat) : Nat := if wide then fpAdd 11 52 (old % 2 ^ 64) (x % 2 ^ 64) else fpAdd 8 23 (old % 2 ^ 32) (x % 2 ^ 32)

/-- An atomic operation at the bank that holds the line: `f` gives the value stored, none for none; the master receives `ret`. Misaligned: the address-misaligned exception. -/
def State.atomic (s : State) (m : Master) (wide : Bool) (addr : Nat) (f : Nat → Option Nat) (ret : Nat → Nat) (resv : State → State) : State :=
  let n := if wide then 8 else 4
  let a := addr % 2 ^ 50
  if addr % n ≠ 0 then (match coreOf m with | some c => s.emit (.coreMisaligned c addr) | none => s.errTo m)
  else
    match (s.notMain m .a addr).or (s.coreGate m .a addr n) with
    | some s' => s'
    | none =>
      let line := a / 64 * 64
      if s.mustWait addr then s else
      match s.useLine m line 0 .clean with
      | (s, none) => s.accFault m .a addr
      | (s, some c) =>
        if c.poison then s.poisonUse m .a addr
        else
          let old := leNat (slice c.data (a % 64) n)
          let s := (resv s).bump R.MEWS_ATOMICS
          let s := match f old with
            | some v => (s.breakResv line (coreOf m)).cputLine line (mergeInto c (a % 64) (leBytes n v))
            | none => s
          s.emit (.done m [ret old])

/-- 1,024 cycles of 3.0 GHz, in ns, rounded up. -/
def resvNs : Nat := 342

def State.setResv (s : State) (m : Master) (addr : Nat) : State :=
  match coreOf m with
  | some c => s.updMews (fun x => { x with resv := Tab.put x.resv c (addr % 2 ^ 50 / 64 * 64, s.now + resvNs) })
  | none => s

def State.clearResv (s : State) (m : Master) : State :=
  match coreOf m with
  | some c => s.updMews (fun x => { x with resv := Tab.del x.resv c })
  | none => s

/-- Whether a core's reservation on the line of an address still holds. -/
def State.holdsResv (s : State) (m : Master) (addr : Nat) : Bool :=
  match coreOf m with
  | some c => (match Tab.get? s.mews.resv c with | some (l, t) => l == addr % 2 ^ 50 / 64 * 64 && decide (s.now < t) | none => false)
  | none => false

/-- An aligned atomic that the checks let pass waits for its line, whose memory is asleep. -/
def State.atomicWaits (s : State) (m : Master) (wide : Bool) (addr : Nat) : Bool :=
  let n := if wide then 8 else 4
  addr % n == 0 && ((s.notMain m .a addr).or (s.coreGate m .a addr n)).isNone && s.mustWait addr

/-- SC: where the reservation does not hold, nothing is stored and 1 is returned; the reservation ends either way. -/
def State.storeCond (s : State) (wide : Bool) (m : Master) (addr x : Nat) : State :=
  if s.atomicWaits m wide addr then s
  else if s.holdsResv m addr then (s.atomic m wide addr (fun _ => some x) (fun _ => 0) (fun s => s)).clearResv m
  else (s.atomic m wide addr (fun _ => none) (fun _ => 1) (fun s => s)).clearResv m

/-! ### Fences (R289) -/

/-- A store of the core is still under way: one to another package that has no ACK, or one that waits for a sector's write-back. -/
def State.storesOpen (s : State) (c : Nat) : Bool :=
  s.ktl.outst.any (fun o => o.kind == .wrMask && coreOf o.m == some c)
    || s.crypt.merge.any (fun e => e.waiters.any (fun w => match w with | .master m => coreOf m == some c | _ => false))

/-- Fences whose stores have all been performed complete. -/
def State.fenceServe (s : State) : State :=
  let (done, wait) := s.mews.fences.partition (fun c => !s.storesOpen c)
  (s.updMews (fun m => { m with fences := wait })).emits (done.map (fun c => .done (coreMaster c) []))

/-! ### Maintenance (R287, R295, R296) -/

/-- A cache-block operation admitted like an access of its kind. -/
def State.cbo (s : State) (m : Master) (k : AccKind) (addr : Nat) (f : Nat → State → State) : State :=
  match (s.notMain m k addr).or (s.coreGate m k addr 1) with
  | some s' => s'
  | none => (f (addr % 2 ^ 50 / 64 * 64) s).emit (.done m [])

/-- Write back and evict; a locked line is only cleaned. -/
def State.flushLine (s : State) (a : Nat) : State :=
  let s := s.cleanLine a
  match s.cline? a with
  | some c => if c.lock = 0 then (s.dropLine a).breakResv a none else s
  | none => s

/-- Write a zero line. -/
def State.zeroLine (s : State) (m : Master) (a : Nat) : State :=
  let s := s.breakResv a (coreOf m)
  let z := List.replicate 64 (0 : Byte)
  match s.cline? a with
  | some c => (s.bump R.MEWS_HITS).cputLine a { c with data := z, dirty := true, poison := false }
  | none =>
    let w := s.allocWay (m.cls == 1) a 0
    ((s.bump R.MEWS_MISSES).evictWay a w).cputLine a { data := z, dirty := true, poison := false, lock := 0, way := w }

/-- A prefetch that is not dropped brings its line in; one that would fault does nothing. -/
def State.prefetch (s : State) (m : Master) (addr way : Nat) : State :=
  let a := addr % 2 ^ 50
  let main := rangeOf a == .hbm || rangeOf a == .roost
  if addr / 2 ^ 50 = s.pkg ∧ main ∧ (s.jessFails 0 m .r a 1).isNone ∧ s.answers 0 a ∧ !s.mustWait addr ∧ (s.cline? (a / 64 * 64)).isNone then
    (s.fillLine (m.cls == 1) (a / 64 * 64) way (masterClass m)).1
  else s

/-- Every dirty line is written back and kept; the lines of SECTOR sectors go in address order, so that whole sectors seal without a read. -/
def State.cleanAll (s : State) : State := s.mews.cache.foldl (fun s e => s.cleanLine e.1) s

/-- The cache is written back and emptied. -/
def State.emptyCache (s : State) : State :=
  (s.cleanAll).updMews (fun m => { m with cache := [], resv := [] })

/-! ### Locked ranges (R295) -/

/-- A range register's contents: enable, base and size in bytes. -/
structure LockR where
  en : Bool
  base : Nat
  size : Nat
deriving DecidableEq, Repr

def lockOf (v : Word) : LockR :=
  { en := natBit v.toNat 0, base := v.field 16 25 * 65536, size := v.field 48 8 * 65536 }

/-- The offset of the register of range `i`: 0 the ring pool, 1 + n MEWS_LOCK_n. -/
def lockAddr (i : Nat) : Nat := if i = 0 then R.MEWS_RING_POOL.addr 0 0 0 else R.MEWS_LOCK.addr (i - 1) 0 0

def State.lockRange (s : State) (i : Nat) : LockR := lockOf (s.csrAt (lockAddr i))

/-- How many lines of a range fall into the set `x`. -/
def setCount (r : LockR) (x : Nat) : Nat :=
  let first := r.base / 64 % 65536
  let lines := r.size / 64
  let k := (x + 65536 - first) % 65536
  if k < lines then (lines - 1 - k) / 65536 + 1 else 0

/-- Some set would hold more than four locked lines: the sets where a range begins or ends are enough to look at. -/
def overfull (rs : List LockR) : Bool :=
  (rs.map (fun r => r.base / 64 % 65536)).any (fun x => decide (4 < (rs.map (fun r => setCount r x)).sum))

/-- The range written to register `i` is refused. -/
def State.lockRefused (s : State) (i : Nat) (r : LockR) : Bool :=
  let last := r.base + r.size - 1
  let others := ((List.range 9).filter (· != i)).map s.lockRange |>.filter (·.en)
  decide (r.size = 0)
    || (i == 0 && (decide (0x800000 < r.size) || decide (hbmEnd ≤ last)))
    || (i != 0 && !((rangeOf r.base == .hbm || rangeOf r.base == .roost) && rangeOf last == rangeOf r.base))
    || (i != 0 && others.any (fun o => decide (r.base < o.base + o.size) && decide (o.base < r.base + r.size)))
    || overfull (r :: others)

/-- Lines held by range `tag` are unlocked without a write-back. -/
def State.unlock (s : State) (tag : Nat) : State :=
  s.updMews (fun m => { m with cache := m.cache.map (fun e => if e.2.lock = tag then (e.1, { e.2 with lock := 0 }) else e) })

/-- A write of MEWS_RING_POOL (0) or MEWS_LOCK_n (1 + n). -/
def State.lockWrite (s : State) (i : Nat) (v : Word) : State :=
  let r := lockOf v
  if !r.en then
    (((s.unlock (i + 1)).csrPut (lockAddr i) v).updMews (fun m => { m with filling := m.filling.filter (· != i) }))
  else if s.lockRefused i r then s.flag R.MEWS_EVENT.LOCK_REFUSED R.MEWS_LOCK_REF_CNT.COUNT
  else ((s.unlock (i + 1)).csrPut (lockAddr i) v).updMews (fun m => { m with filling := sinsert m.filling i })

/-- A line of a locked range becomes resident and locked; a dirty copy stays as it is. -/
def State.lockLine (s : State) (a : Nat) : State :=
  let w := s.lockWay a
  match s.cline? a with
  | some c => if c.lock ≠ 0 then s else ((s.dropLine a).evictWay a w).cputLine a { c with lock := s.lockedRange a, way := w }
  | none =>
    match s.matchOnly a with
    | none => s
    | some (mode, d) =>
      let s := s.evictWay a w
      let (s, l, p) := s.lineIn mode d a
      s.cputLine a { data := l, dirty := false, poison := p, lock := s.lockedRange a, way := w }

def State.lockLines : Nat → Nat → State → State
  | 0, _, s => s
  | n + 1, a, s => State.lockLines n (a + 64) (s.lockLine a)

/-- The oldest range that fills becomes resident. -/
def State.lockFill (s : State) : State :=
  match s.mews.filling with
  | [] => s
  | i :: r =>
    let x := s.lockRange i
    (State.lockLines (x.size / 64) x.base s).updMews (fun m => { m with filling := r })

/-! ### Interrupts (R297) -/

/-- Tenant interrupts that waited go to a core of their mask that has entered RUNNING. -/
def State.tenantServe (s : State) (c : Nat) : State :=
  let (mine, rest) := s.mews.tenantIrq.partition (fun e => decide (4 ≤ c) && natBit e.1 (c - 4))
  let s := s.updMews (fun m => { m with tenantIrq := rest })
  mine.foldl (fun s e => s.raiseAt c 1 e.2) s

/-! ### Core reset (R281, R282) -/

/-- Core `c` starts. -/
def State.coreStart (s : State) (c : Nat) : State := (s.wr R.MEWS_CORE_STATUS.STATE coreRunning c).tenantServe c

/-- A core stops: it loses its state and its reservation, and is then HALTED. -/
def State.coreHalt (s : State) (c : Nat) : State :=
  (s.wr R.MEWS_CORE_STATUS.STATE coreHalted c).updMews (fun m => { m with resv := Tab.del m.resv c, fences := m.fences.filter (· != c) })

/-! ### Boot flash (R298 to R300) -/

/-- A byte of the flash; an erased byte is 0xFF. -/
def State.flashByte (s : State) (a : Nat) : Byte := (Tab.get? s.mews.flash a).getD 0xFF

def slotBytes : Nat := 0x2000000

/-- The command touches a protected slot. -/
def State.flashProtected (s : State) (c : FlashCmd) : Bool :=
  let p := s.rd R.MEWS_FLASH_PROTECT.PROTECT
  c.op != 0 && decide (0 < c.len) &&
    ((natBit p 0 && decide (c.addr < slotBytes)) || (natBit p 1 && decide (c.addr < 2 * slotBytes) && decide (slotBytes < c.addr + c.len)))

def FlashCmd.aligned (c : FlashCmd) : Bool :=
  match c.op with
  | 0 => c.len % 64 == 0
  | 1 => c.addr % 256 == 0 && c.len % 256 == 0
  | _ => c.addr % 65536 == 0 && c.len % 65536 == 0

/-- A GO of MEWS_FLASH_CMD with operation `op`: ignored with FLASH_ERR while BUSY. -/
def State.flashGo (s : State) (op : Nat) : State :=
  if s.rd R.MEWS_FLASH_STATUS.BUSY = 1 then s.flag R.MEWS_EVENT.FLASH_ERR R.MEWS_FLASH_ERR_CNT.COUNT
  else
    let c : FlashCmd := { op := op, addr := s.rd R.MEWS_FLASH_ADDR.ADDR, buf := s.rd R.MEWS_FLASH_BUF.BUF * 64, len := s.rd R.MEWS_FLASH_LEN.LEN }
    (((s.wr R.MEWS_FLASH_STATUS.BUSY 1).wr R.MEWS_FLASH_STATUS.ERR 0).wr R.MEWS_FLASH_STATUS.STATE 1).updMews (fun m => { m with flashCmd := some c })

/-- Bytes programmed over the flash's: a program clears bits. -/
def flashAnd : List Host.Cell → Nat → List Byte → List Host.Cell
  | f, _, [] => f
  | f, a, b :: r => flashAnd (Tab.put f a (((Tab.get? f a).getD 0xFF) &&& b)) (a + 1) r

/-- The flash engine's buffer, 64 bytes at a time, through the cache port: R26 first (BUF reaches past HBM), then checker 0. -/
def State.bufRead (s : State) (m : Master) : Nat → Nat → State × Option (List Byte)
  | 0, _ => (s, some [])
  | n + 1, a =>
    if !decodes a 64 then (s.report Src.addrDecCore Cls.uc Cause.addrDecode, none)
    else
      match s.cacheRead m a 64 with
      | (s, some (l, false)) =>
        match s.bufRead m n (a + 64) with
        | (s, some r) => (s, some (l ++ r))
        | (s, none) => (s, none)
      | (s, _) => (s, none)

def State.bufWrite (s : State) (m : Master) (a : Nat) : List (List Byte) → State × Bool
  | [] => (s, true)
  | l :: r =>
    if !decodes a 64 then (s.report Src.addrDecCore Cls.uc Cause.addrDecode, false)
    else
      match s.cacheWrite m a l with
      | (s, true) => s.bufWrite m (a + 64) r
      | (s, false) => (s, false)

/-- The end of a flash command: its effect, ERR and STATE, identity 6. -/
def State.flashEnd (s : State) (deviceError : Bool) : State :=
  match s.mews.flashCmd with
  | none => s
  | some c =>
    if c.op < 2 && c.aligned && !s.flashProtected c && !deviceError && s.asleepIn c.buf c.len then s else
    let s := s.updMews (fun m => { m with flashCmd := none })
    let (s, err) :=
      if !c.aligned then (s, 2)
      else if s.flashProtected c then (s, 3)
      else if deviceError then (s, 1)
      else
        match c.op with
        | 0 =>
          match s.bufWrite flashEngine c.buf (linesOf (c.len / 64) ((List.range c.len).map (fun i => s.flashByte (c.addr + i)))) with
          | (s, ok) => (s, if ok then 0 else 4)
        | 1 =>
          match s.bufRead flashEngine (c.len / 64) c.buf with
          | (s, some l) => (s.updMews (fun m => { m with flash := flashAnd m.flash c.addr l }), 0)
          | (s, none) => (s, 4)
        | _ => (s.updMews (fun m => { m with flash := m.flash.filter (fun e => decide (e.1 < c.addr) || decide (c.addr + c.len ≤ e.1)) }), 0)
    let s := ((s.wr R.MEWS_FLASH_STATUS.BUSY 0).wr R.MEWS_FLASH_STATUS.ERR err).wr R.MEWS_FLASH_STATUS.STATE 2
    let s := if err = 0 then s else s.flag R.MEWS_EVENT.FLASH_ERR R.MEWS_FLASH_ERR_CNT.COUNT
    s.raiseWarden 6

end Sys2Proof.Machine
end

