-- ==== Sys2Proof/Machine/TciOps.lean ====
section
/-! DEFINITION. The Tirlo Command Interface as shared operations (03_tci_transport.md, R86 to R100): rings, doorbells, the fetcher, the admission checks, duplicate memory, replies and interrupts, FENCE and
session order. -/

namespace Sys2Proof

/-! ### Entries (tables "Command entry", "Reply entry") -/

def Cmd.fence (c : Cmd) : Bool := natBit c.flags 0
def Cmd.notify (c : Cmd) : Bool := natBit c.flags 1
def Cmd.crit (c : Cmd) : Bool := natBit c.flags 2
def Cmd.once (c : Cmd) : Bool := natBit c.flags 3
def Cmd.rid (c : Cmd) : Nat := c.tag * 2 ^ 32 + c.ridLo

/-- Parameter word P`i`: with an extended block, P0 is the block's pointer. -/
def Cmd.p (c : Cmd) (i : Nat) : Nat := (c.params[i]?).getD 0

/-- An entry from its 64 bytes. -/
def Cmd.ofBytes (qp : Nat) (l : List Byte) (block : List Byte) : Cmd :=
  let f := fun i n => Machine.leNat (Machine.slice l i n)
  { qp := qp, fwdFrom := none, opcode := f 0 2, flags := f 2 1, pcount := f 3 1, tag := f 4 4, handle := f 8 8, timeout := f 16 4, ridLo := f 20 4,
    params := (List.range 5).map (fun i => f (24 + 8 * i) 8), block := block }

/-- The 64 bytes of an entry. -/
def Cmd.bytes (c : Cmd) : List Byte :=
  Machine.leBytes 2 c.opcode ++ Machine.leBytes 1 c.flags ++ Machine.leBytes 1 c.pcount ++ Machine.leBytes 4 c.tag ++ Machine.leBytes 8 c.handle
    ++ Machine.leBytes 4 c.timeout ++ Machine.leBytes 4 c.ridLo ++ (List.range 5).flatMap (fun i => Machine.leBytes 8 (c.p i))

/-- The 32 bytes of a reply entry. -/
def Rep.bytes (r : Rep) : List Byte :=
  Machine.leBytes 4 r.tag ++ Machine.leBytes 2 r.status ++ Machine.leBytes 1 r.flags ++ Machine.leBytes 1 r.retry ++ Machine.leBytes 8 r.r0
    ++ Machine.leBytes 8 r.r1 ++ Machine.leBytes 8 r.doneNs

end Sys2Proof

namespace Sys2Proof.Machine

/-! ### Status codes (R98) and opcodes (R87) -/

def Stat.ok : Nat := 0x0000
def Stat.busy : Nat := 0x0100
def Stat.notReady : Nat := 0x0101
def Stat.deferred : Nat := 0x0102
def Stat.badOpcode : Nat := 0x0200
def Stat.badParam : Nat := 0x0201
def Stat.badSession : Nat := 0x0202
def Stat.denied : Nat := 0x0203
def Stat.duplicate : Nat := 0x0204
def Stat.timeout : Nat := 0x0300
def Stat.aborted : Nat := 0x0301
def Stat.faulted : Nat := 0x0302
def Stat.tampered : Nat := 0x0303
def Stat.dataLost : Nat := 0x0304
def Stat.exhausted : Nat := 0x0305

/-- RETRY_AFTER of a status outside class 0x01xx (R67). -/
def noRetry : Nat := 0xFF

/-- A row of the table "Opcode summary". -/
structure OpInfo where
  op : Nat
  once : Bool
  priv : Nat
  pcount : Nat
  mgmt : Bool
deriving DecidableEq, Repr

/-- The table "Opcode summary". -/
def opSummary : List OpInfo :=
  [⟨0x0000, false, 0, 0, true⟩, ⟨0x0001, false, 0, 0, true⟩, ⟨0x0002, true, 1, 5, false⟩, ⟨0x0003, true, 1, 1, false⟩, ⟨0x0004, false, 0, 1, false⟩,
   ⟨0x0005, false, 1, 2, false⟩, ⟨0x0006, true, 1, 0, true⟩,
   ⟨0x0100, true, 0, 2, false⟩, ⟨0x0101, true, 0, 5, false⟩, ⟨0x0102, false, 0, 0, false⟩, ⟨0x0103, false, 0, 0, false⟩, ⟨0x0104, false, 0, 3, false⟩,
   ⟨0x0105, false, 0, 0, false⟩, ⟨0x0106, true, 0, 1, false⟩, ⟨0x0107, true, 0, 2, false⟩, ⟨0x0108, true, 0, 1, false⟩, ⟨0x0109, true, 0, 0, false⟩,
   ⟨0x0200, false, 0, 4, false⟩, ⟨0x0201, false, 0, 3, false⟩, ⟨0x0202, false, 0, 0, false⟩, ⟨0x0203, false, 1, 1, false⟩,
   ⟨0x0300, true, 0, 2, false⟩, ⟨0x0301, true, 0, 1, false⟩, ⟨0x0302, false, 0, 4, false⟩, ⟨0x0303, false, 0, 7, false⟩] ++
  [⟨0x0400, false, 0, 1, true⟩, ⟨0x0401, false, 1, 2, false⟩, ⟨0x0402, true, 0, 5, false⟩, ⟨0x0403, false, 0, 2, false⟩, ⟨0x0404, false, 1, 1, true⟩,
   ⟨0x0500, false, 0, 0, true⟩, ⟨0x0501, false, 1, 1, true⟩, ⟨0x0502, true, 1, 1, true⟩, ⟨0x0600, false, 0, 1, true⟩,
   ⟨0x0700, true, 1, 3, false⟩, ⟨0x0701, true, 1, 1, false⟩, ⟨0x0702, true, 1, 3, false⟩, ⟨0x0703, false, 0, 1, false⟩, ⟨0x0704, false, 1, 4, false⟩,
   ⟨0x0705, false, 1, 0, false⟩, ⟨0x0706, false, 0, 0, false⟩, ⟨0x0707, false, 0, 3, false⟩,
   ⟨0x0800, false, 1, 1, true⟩, ⟨0x0801, false, 1, 1, true⟩, ⟨0x0802, false, 1, 1, false⟩, ⟨0x0803, true, 1, 1, false⟩, ⟨0x0804, true, 1, 1, false⟩]

def opInfo (op : Nat) : Option OpInfo := opSummary.find? (fun i => i.op == op)

/-! ### Queue pairs -/

def qpAbsent : Nat := 0
def qpLive : Nat := 1
def qpDraining : Nat := 2
def qpErrorSt : Nat := 3

def pcie : Nat := 0
def tenant : Nat := 1
def kettle : Nat := 2
def gateway : Nat := 3
def mgmtPartner : Nat := 4

/-- The management queue pair. -/
def mgmtQp : Nat := 4095

def State.qpState (s : State) (q : Nat) : Nat := s.rd R.TCI_QP_ATTR.STATE q
def State.partner (s : State) (q : Nat) : Nat := s.rd R.TCI_QP_ATTR.PARTNER q
def State.isPush (s : State) (q : Nat) : Bool := s.partner q == kettle || s.partner q == gateway
def State.sqDepth (s : State) (q : Nat) : Nat := 2 ^ s.rd R.TCI_QP_SIZE.SQ_LOG2 q
def State.rqDepth (s : State) (q : Nat) : Nat := 2 ^ s.rd R.TCI_QP_SIZE.RQ_LOG2 q
def State.sqBase (s : State) (q : Nat) : Nat := (s.csrAt (R.TCI_QP_SQB.addr q 0 0)).toNat
def State.rqBase (s : State) (q : Nat) : Nat := (s.csrAt (R.TCI_QP_RQB.addr q 0 0)).toNat
def State.inHost (s : State) (q : Nat) : Bool := s.rd R.TCI_QP_ATTR.LOC q == 0

/-- The queue pairs that are not ABSENT, in rising order: an attribute word that the register file does not list reads 0, which is ABSENT. -/
def State.qps (s : State) : List Nat :=
  (s.csr.filterMap (fun e =>
    if R.TCI_QP_ATTR.base ≤ e.1 ∧ e.1 < R.TCI_QP_ATTR.base + 4096 * 64 ∧ (e.1 - R.TCI_QP_ATTR.base) % 64 = 0 then some ((e.1 - R.TCI_QP_ATTR.base) / 64) else none)).filter
    (fun q => s.qpState q != qpAbsent)

/-- Entries submitted and not fetched. -/
def State.sqWait (s : State) (q : Nat) : Nat := (s.rd R.TCI_QP_PTR.SQ_TAIL q + s.sqDepth q - s.rd R.TCI_QP_PTR.SQ_HEAD q) % s.sqDepth q

/-- RQ slots free after unconsumed and reserved replies; push replies take none. -/
def State.rqFree (s : State) (q : Nat) : Nat :=
  if s.isPush q then s.sqDepth q
  else s.rqDepth q - 1 - (s.rd R.TCI_QP_PTR.RQ_TAIL q + s.rqDepth q - s.rd R.TCI_QP_PTR.RQ_HEAD q) % s.rqDepth q - Tab.get s.tci.reserved q 0

/-- A queue pair's STATE changes, and QP_LIVE with it. -/
def State.setQp (s : State) (q st : Nat) : State :=
  let n := s.rd R.TCI_STATUS.QP_LIVE
  let was := b2n (s.qpState q == qpLive)
  (s.wr R.TCI_QP_ATTR.STATE st q).wr R.TCI_STATUS.QP_LIVE (n + b2n (st == qpLive) - was)

/-- The work of a command is to stop; its reply, if any is due, has been written. -/
def State.killRuns (s : State) (p : Run → Bool) : State :=
  s.updTci (fun t => { t with running := t.running.map (fun r => if p r then { r with dead := true } else r) })

/-- STORM follows the intake's occupancy (R85). -/
def State.stormCheck (s : State) : State :=
  let now := decide (s.rd R.TCI_INTAKE.REJECT_LEVEL ≤ s.tci.intake.length)
  if now && s.rd R.TCI_STATUS.STORM == 0 then (s.wr R.TCI_STATUS.STORM 1).flag R.TCI_EVENT.STORM_ENTERED R.TCI_STORM_CNT.COUNT
  else if now then s else s.wr R.TCI_STATUS.STORM 0

/-- A failed ring access (R84): ERROR; dispatched commands stop, and what waits in the intake is dropped. -/
def State.qpError (s : State) (q : Nat) : State :=
  if s.qpState q ≠ qpLive ∧ s.qpState q ≠ qpDraining then s
  else
    let s := (s.setQp q qpErrorSt).flag R.TCI_EVENT.QP_ERROR R.TCI_QP_ERROR_CNT.COUNT
    let s := s.killRuns (fun r => r.i.c.qp == q && r.i.c.fwdFrom.isNone)
    let s := s.updTci (fun t => { t with
      pendingMap := t.pendingMap.filter (· != q), intake := t.intake.filter (fun i => !(i.c.qp == q && i.c.fwdFrom.isNone)) })
    s.stormCheck.report Src.tci Cls.uc Cause.qpError

/-- A write of the device into a ring or head shadow; false where the access fails. -/
def State.ringWrite (s : State) (q a : Nat) (l : List Byte) : State × Bool :=
  if s.inHost q then (s.emit (.hostWrite a (l.map BitVec.toNat)), true) else s.cacheWrite fetcher a l

/-! ### Interrupts (R72) -/

/-- The interrupt of a queue pair: MSI-X, a tenant vector, or the mailbox's reply; a push partner has the REPLY message itself. -/
def State.raiseQp (s : State) (q : Nat) : State :=
  let s := s.updTci (fun t => { t with unsig := Tab.del t.unsig q })
  let v := s.rd R.TCI_QP_SIZE.VECTOR q
  if s.partner q = pcie then s.emit (.msix v)
  else if s.partner q = tenant then s.raiseTenant (s.rd R.TCI_QP_ATTR.CORE_MASK q) v
  else s

/-- After a reply: at once with NOTIFY, else counted towards COAL_COUNT and COAL_TIME. -/
def State.signal (s : State) (q : Nat) (notify : Bool) : State :=
  if notify then s.raiseQp q
  else
    let (n, at_) := Tab.get s.tci.unsig q (0, s.epoch)
    let k := s.rd R.TCI_QP_SIZE.COAL_COUNT q
    let s := s.updTci (fun t => { t with unsig := Tab.put t.unsig q (n + 1, at_) })
    if k ≠ 0 ∧ k ≤ n + 1 then s.raiseQp q else s

/-! ### Replies (R66, R67, R72) -/

/-- A reply into the RQ of a pull queue pair: one 32 B write with PHASE, before its interrupt. -/
def State.rqWrite (s : State) (q : Nat) (r : Rep) (notify : Bool) : State :=
  let tail := s.rd R.TCI_QP_PTR.RQ_TAIL q
  let r := { r with flags := r.flags / 2 * 2 + b2n (!s.tci.phase0.contains q) }
  match s.ringWrite q (s.rqBase q + tail * 32) r.bytes with
  | (s, false) => s.qpError q
  | (s, true) =>
    let next := (tail + 1) % s.rqDepth q
    let s := (s.wr R.TCI_QP_PTR.RQ_TAIL next q).updTci (fun t => { t with
      reserved := let n := Tab.get t.reserved q 0; if n ≤ 1 then Tab.del t.reserved q else Tab.put t.reserved q (n - 1),
      phase0 := if next = 0 then (if t.phase0.contains q then t.phase0.filter (· != q) else sinsert t.phase0 q) else t.phase0 })
    (s.emit (.reply q r)).signal q notify

/-- A REPLY message to a push partner (R467). -/
def State.replyMsgTo (s : State) (q : Nat) (reps : List Rep) : State :=
  let gw := s.partner q == gateway
  let dest := if gw then s.pkg else s.rd R.TCI_QP_ATTR.PEER_PKG q
  let m := { s.newMsg .reply dest [q, s.rd R.TCI_QP_PTR.SQ_HEAD q, reps.length] with reps := reps }
  let m := { m with slots := m.expect }
  let s := s.emits (reps.map (fun r => .reply q r))
  if gw then s.sendOn s.pkg m else s.sendTo dest m

/-- The reply entry of an admitted command leaves: in a FWD_REPLY where the command was forwarded here, else as its queue pair delivers. -/
def State.deliver (s : State) (i : ICmd) (r : Rep) : State :=
  let q := i.c.qp
  match i.c.fwdFrom with
  | some _ =>
    match i.fwd with
    | some m =>
      let a := { s.newMsg .fwdReply m.origin [q] with reps := [r] }
      (s.emit (.reply q r)).answerTo m.origin m { a with slots := a.expect }
    | none => s.emit (.reply q r)
  | none =>
    if s.qpState q ≠ qpLive ∧ s.qpState q ≠ qpDraining then s
    else if s.isPush q then (s.replyMsgTo q [r]).signal q true
    else s.rqWrite q r i.c.notify

/-- The fields of a reply that the command gives. -/
def State.repOf (s : State) (i : ICmd) (status r0 r1 retry flags : Nat) : Rep :=
  { tag := i.c.tag, status := status, flags := flags + (if i.critDropped then 2 else 0), retry := retry, r0 := r0 % 2 ^ 64, r1 := r1 % 2 ^ 64, doneNs := s.epoch }

/-! ### Duplicate memory (R74, R75) -/

def dupKey (c : Cmd) : Nat := match c.fwdFrom with | none => c.qp | some p => 4096 * (p + 1) + c.qp

/-- A remembered request ID, within 60 s of its admission. -/
def State.dupFind (s : State) (key rid : Nat) : Option DupEnt :=
  (Tab.get s.tci.dup key []).find? (fun e => e.rid == rid && decide (s.epoch < e.at_ + 60000000000))

/-- The ID is remembered from now; the last 4,096 are. -/
def State.dupAdd (s : State) (key rid : Nat) : State :=
  s.updTci (fun t => { t with dup := Tab.upd t.dup key [] (fun l => ({ rid := rid, at_ := s.epoch, st := .running } :: l.filter (fun e => e.rid != rid)).take 4096) })

def State.dupForget (s : State) (key rid : Nat) : State :=
  s.updTci (fun t => { t with dup := Tab.upd t.dup key [] (fun l => l.filter (fun e => e.rid != rid)) })

def State.dupSet (s : State) (key rid : Nat) (st : DupSt) : State :=
  s.updTci (fun t => { t with dup := Tab.upd t.dup key [] (fun l => l.map (fun e => if e.rid = rid then { e with st := st } else e)) })

/-- The DUPLICATE reply: the original RESULT bytes 8 to 21, its status in bytes 22 and 23, its DONE_NS. -/
def State.dupReply (s : State) (i : ICmd) (status r0 r1 done : Nat) : State :=
  s.deliver i { s.repOf i Stat.duplicate r0 (r1 % 2 ^ 48 + status * 2 ^ 48) noRetry 0 with doneNs := done }

/-- The commands that wait as duplicates of an ID. -/
def State.dupWaiters (s : State) (key rid : Nat) : List Run :=
  s.tci.running.filter (fun r => r.wait == .original && dupKey r.i.c == key && r.i.c.rid == rid)

/-- The outcome of an ID has become final: what waits for it is answered. -/
def State.dupFinal (s : State) (key rid status r0 r1 done : Nat) : State :=
  let ws := s.dupWaiters key rid
  let s := (s.dupSet key rid (.final status r0 r1 done)).updTci (fun t => { t with running := t.running.filter (fun r => !ws.contains r) })
  (ws.filter (fun r => !r.dead)).foldl (fun s r => s.dupReply r.i status r0 r1 done) s

/-- An ID is forgotten at once; the first duplicate that waits for it executes. -/
def State.dupGone (s : State) (key rid : Nat) : State :=
  let s := s.dupForget key rid
  match s.dupWaiters key rid with
  | [] => s
  | r :: _ =>
    ((s.updTci (fun t => { t with running := t.running.filter (· != r), intake := t.intake ++ [r.i] })).dupAdd key rid).stormCheck

/-- What a reply of the given status does to its command's ID. A DUPLICATE that its home package answered shows the original's outcome (R74, R96). -/
def State.dupEnd (s : State) (i : ICmd) (status r0 r1 done : Nat) : State :=
  if !i.c.once then s
  else
    let k := dupKey i.c
    let rid := i.c.rid
    if status / 256 = 1 then s.dupGone k rid
    else if status = Stat.timeout then s.dupSet k rid (.inDoubt false)
    else if status = Stat.aborted then s.dupSet k rid (.inDoubt true)
    else if status = Stat.duplicate then s.dupFinal k rid (r1 / 2 ^ 48) r0 (r1 % 2 ^ 48) done
    else s.dupFinal k rid status r0 r1 done

/-! ### The end of a command -/

def State.runOf (s : State) (seq : Nat) : Option Run := s.tci.running.find? (fun r => r.i.seq == seq)

def State.dropRun (s : State) (seq : Nat) : State :=
  s.updTci (fun t => { t with running := t.running.filter (fun r => r.i.seq != seq) })

/-- A dispatched command waits on an object. -/
def State.waitOn (s : State) (seq : Nat) (w : Wait) (arg : Nat := 0) (arg2 : Nat := 0) : State :=
  s.updTci (fun t => { t with running := t.running.map (fun r => if r.i.seq = seq then { r with wait := w, arg := arg, arg2 := arg2 } else r) })

/-- A dispatched command ends: its reply is written, unless its TIMEOUT reply has been (R77), and its ID's outcome settles (R75). After a TIMEOUT reply, work that had its whole effect before it stopped is recorded with
its result; any other end is recorded as TIMEOUT, at the time the work stopped (log 135). `done`: DONE_NS. -/
def State.endAt (s : State) (seq status r0 r1 retry flags done : Nat) : State :=
  match s.runOf seq with
  | none => s
  | some r =>
    let s := (s.dropRun seq).updTci (fun t => { t with srcs := Tab.del t.srcs seq })
    if r.dead then
      (if r.i.c.once then s.dupFinal (dupKey r.i.c) r.i.c.rid (if status = Stat.ok then status else Stat.timeout) r0 r1 s.epoch else s)
    else (s.deliver r.i { s.repOf r.i status r0 r1 retry flags with doneNs := done }).dupEnd r.i status r0 r1 done

def State.endFlags (s : State) (seq status r0 r1 retry flags : Nat) : State := s.endAt seq status r0 r1 retry flags s.epoch

def State.endRun (s : State) (seq status : Nat) (r0 : Nat := 0) (r1 : Nat := 0) : State := s.endFlags seq status r0 r1 noRetry 0

/-- A dispatched command ends with a 0x01xx status and its RETRY_AFTER code. -/
def State.endRetry (s : State) (seq status retry : Nat) : State := s.endFlags seq status 0 0 retry 0

/-- Every dispatched command that `p` selects ends with a status. -/
def State.endAll (s : State) (p : Run → Bool) (status : Nat) : State :=
  (s.tci.running.filter p).foldl (fun s r => s.endRun r.i.seq status) s

def State.endAllRetry (s : State) (p : Run → Bool) (status retry : Nat) : State :=
  (s.tci.running.filter p).foldl (fun s r => s.endRetry r.i.seq status retry) s

/-! ### Who a command acts for -/

/-- The queue pair's binding; that of a forwarded command is its origin's, which the FWD message does not carry. -/
def State.cmdPartner (s : State) (c : Cmd) : Nat :=
  match c.fwdFrom with | none => s.partner c.qp | some p => Config.fwdPartner p c.qp % 5
def State.cmdPriv (s : State) (c : Cmd) : Nat :=
  match c.fwdFrom with | none => s.rd R.TCI_QP_ATTR.PRIV c.qp | some p => Config.fwdPriv p c.qp % 3
def State.cmdDomain (s : State) (c : Cmd) : Nat :=
  match c.fwdFrom with | none => s.rd R.TCI_QP_ATTR.KEY_DOMAIN c.qp | some p => Config.fwdDomain p c.qp % 4096

/-- The acting identity of a command ("Buffer addresses", 04_tci_commands.md). -/
def State.acting (s : State) (c : Cmd) : Master :=
  let p := s.cmdPartner c
  let cls := if p = pcie then 5 else if p = tenant then 1 else if p = mgmtPartner then 7 else 4
  { id := cls * 4096 + c.qp % 4096, priv := .ofCode (s.cmdPriv c), remote := cls == 4 }

/-! ### Admission (R89, steps 1 to 6) -/

/-- R64 and R73. An extended block's pointer that is not 64 B aligned is refused here too (log 136). -/
def State.badForm (s : State) (c : Cmd) (o : OpInfo) : Bool :=
  decide (16 ≤ c.flags) || c.pcount != o.pcount
    || (o.pcount == 7 && (decide (c.block.length < 64) || decide (leNat (c.block.take 4) < 64) || decide (4096 < leNat (c.block.take 4)) || decide (c.p 0 % 64 ≠ 0)))
    || (o.once && !c.once) || (c.once && c.fwdFrom.isNone && s.rd R.TCI_QP_ATTR.ONCE_EN c.qp == 0)

/-- The status with which steps 3 to 5 refuse a command, if they do. -/
def State.refuseForm (s : State) (c : Cmd) : Option Nat :=
  match opInfo c.opcode with
  | none => some (if c.opcode / 256 = 15 ∧ s.cmdPriv c < 2 then Stat.denied else Stat.badOpcode)
  | some o =>
    if c.fwdFrom.isNone ∧ (s.cmdPriv c < o.priv ∨ (c.qp = mgmtQp ∧ o.mgmt = false)) then some Stat.denied
    else if s.badForm c o then some Stat.badParam else none

/-- TIMEOUT in ns (table "Command entry"). -/
def timeoutNs (t : Nat) : Nat := 1000 * (if t = 0 then 10000000 else max t 10000)

/-- A new command with its admission number; its CRIT is dropped where its queue pair may not use it (R70). -/
def State.newCmd (s : State) (c : Cmd) (fwd : Option KMsg) (link : Option Nat := none) : ICmd :=
  { c := c, link := link, seq := s.tci.seq, at_ := s.epoch, deadline := if c.fwdFrom.isSome then 2 ^ 64 else s.epoch + timeoutNs c.timeout,
    critDropped := c.crit && c.fwdFrom.isNone && s.rd R.TCI_QP_ATTR.CRIT_OK c.qp == 0, fwd := fwd }

/-- The command runs as CRIT (R70). -/
def ICmd.crit (i : ICmd) : Bool := i.c.crit && !i.critDropped

/-- A reply without admission. -/
def State.turnAway (s : State) (i : ICmd) (status retry flags : Nat) : State := s.deliver i (s.repOf i status 0 0 retry flags)

/-- A handle's fields (table "Handle layout"). -/
def hHome (h : Nat) : Nat := h / 2 ^ 58 % 64
def hGen (h : Nat) : Nat := h / 2 ^ 16 % 2 ^ 42
def hSlot (h : Nat) : Nat := h % 2 ^ 16

/-- The command executes on another package (R36, R95). -/
def State.isForward (s : State) (c : Cmd) : Bool :=
  c.fwdFrom.isNone && c.opcode / 256 == 1 && c.handle != 0 && hGen c.handle != 0 && c.opcode != 0x0108 && c.opcode != 0x0100 && c.opcode != 0x0107
    && hHome c.handle != s.pkg

/-- ⌈log2(occupancy / 2)⌉ held between 0 and 31 (R85). -/
def rejectCode (occ : Nat) : Nat := clampN 0 31 (clog2 occ - 1)

/-- Admission of a command with its checks: some command enters the intake, or it has been answered, or it waits as a duplicate. -/
def State.admitCmd (s : State) (c : Cmd) (fwd : Option KMsg) (link : Option Nat := none) : State × Option ICmd :=
  let i := s.newCmd c fwd link
  let s := s.updTci (fun t => { t with seq := t.seq + 1 })
  let occ := s.tci.intake.length
  if s.rd R.TCI_STATUS.READY = 0 then (s.turnAway i Stat.notReady 16 0, none)
  else if (s.rd R.TCI_INTAKE.REJECT_LEVEL ≤ occ ∧ i.crit = false) ∨ 16384 ≤ occ then
    let s := s.bump R.TCI_REJECT_CNT
    let s := if c.fwdFrom.isNone then s.bump R.TCI_QP_CNT.REJECTED 1 c.qp else s
    (s.turnAway i Stat.busy (rejectCode occ) 8, none)
  else
    let s := if c.fwdFrom.isNone then s.bump R.TCI_QP_CNT.ADMITTED 1 c.qp else s
    match s.refuseForm c with
    | some st => (s.turnAway i st noRetry 0, none)
    | none =>
      let enter := fun (s : State) => ((s.updTci (fun t => { t with intake := t.intake ++ [i] })).stormCheck, some i)
      if !c.once then enter s
      else
        match s.dupFind (dupKey c) c.rid with
        | none => enter (s.dupAdd (dupKey c) c.rid)
        | some e =>
          match e.st with
          | .final st r0 r1 done => (s.dupReply i st r0 r1 done, none)
          | .inDoubt true => if s.isForward c then enter s else (s.turnAway i Stat.notReady 10 0, none)
          | st =>
            if st = .inDoubt false ∧ s.isForward c then enter s
            else (s.updTci (fun t => { t with running := t.running ++ [{ i := i, wait := .original, arg := 0, arg2 := 0, dead := false }] }), none)

/-! ### Dispatch order (R68, R69) -/

/-- The plan that a compute command or an append names. -/
def planOf (c : Cmd) : Option Nat :=
  match c.opcode with
  | 0x0301 | 0x0302 => some (c.p 0 % 65536)
  | 0x0303 => some (c.p 1 % 65536)
  | 0x0101 => some (c.p 2 % 65536)
  | _ => none

/-- Runs of a plan that have not completed. -/
def State.planBusy (s : State) (p : Nat) : Bool := s.talon.ready.any (fun r => r.plan == p) || s.talon.passes.any (fun x => x.plan == p)

/-- R137: a WEIGHTS_LOAD waits for every earlier run of its plan, the runs of a plan for an earlier WEIGHTS_LOAD or PLAN_UNLOAD of it and those for them, and a KERNEL_RUN for an earlier KERNEL_RUN of it. -/
def State.planHeld (s : State) (i : ICmd) : Bool :=
  match planOf i.c with
  | none => false
  | some p =>
    (i.c.opcode == 0x0302 && s.planBusy p)
      || s.tci.intake.any (fun j => decide (j.seq < i.seq) && planOf j.c == some p && (i.c.opcode / 256 == 3 || j.c.opcode == 0x0301 || j.c.opcode == 0x0302)
          && (j.c.opcode / 256 == 3 || i.c.opcode == 0x0301 || i.c.opcode == 0x0302) && !s.isForward j.c)

/-- The spans of this package's memory that the memory and key opcodes work on: each buffer word with its length. -/
def cmdSpans (c : Cmd) : List (Nat × Nat) :=
  match c.opcode with
  | 0x0200 => [(c.p 0, c.p 2), (c.p 1, c.p 2)]
  | 0x0201 | 0x0300 => [(c.p 0, c.p 1)]
  | 0x0302 | 0x0700 | 0x0702 => [(c.p 1, c.p 2)]
  | 0x0402 => [(c.p 0, c.p 2), (c.p 1, c.p 2), (c.p 4, 8)]
  | 0x0403 => [(c.p 0, 8)]
  | 0x0707 => [(c.p 0, 64), (c.p 1, c.p 2)]
  | _ => []

/-- A buffer of the command lies in memory that takes no request now, so that its first request would be held (R151, R160, R177, R193, R201, R248): the command waits before its dispatch (log 129). -/
def State.targetsAsleep (s : State) (c : Cmd) : Bool :=
  (cmdSpans c).any (fun x => !natBit x.1 63 && x.1 % 2 ^ 56 / 2 ^ 50 == s.pkg && x.2 != 0 && decide (x.2 ≤ 2 ^ 30) && s.asleepIn (x.1 % 2 ^ 50) x.2)

/-- A command's own order holds it back: a FENCE of its queue pair, an earlier command for the same session that still waits in the intake, R137, or memory that takes no request. An earlier command is one that has
not written its reply, a duplicate that waits for its original among them (R69). -/
def State.ordHeld (s : State) (i : ICmd) : Bool :=
  let open_ := s.tci.intake ++ (s.tci.running.filter (fun r => !r.dead)).map (·.i)
  let earlier := open_.filter (fun j => j.c.qp == i.c.qp && j.c.fwdFrom == i.c.fwdFrom && decide (j.seq < i.seq))
  (i.c.fence && earlier != []) || earlier.any (fun j => j.c.fence)
    || (i.c.handle != 0 && s.tci.intake.any (fun j => j.c.handle == i.c.handle && decide (j.seq < i.seq))) || (!s.isForward i.c && (s.planHeld i || s.targetsAsleep i.c))

/-- A command may not be dispatched yet: its own order holds it, or it would go before a CRIT command that the critical run queue holds ready (R70). -/
def State.blocked (s : State) (i : ICmd) : Bool := s.ordHeld i || (!i.crit && s.tci.intake.any (fun j => j.crit && !s.ordHeld j))

/-- The command leaves the intake. -/
def State.dispatch (s : State) (i : ICmd) : State :=
  (s.updTci (fun t => { t with
    intake := t.intake.filter (fun j => j.seq != i.seq), running := t.running ++ [{ i := i, wait := .none_, arg := 0, arg2 := 0, dead := false }] })).stormCheck

/-- A forwarded command leaves for its home package (R36). -/
def State.forward (s : State) (i : ICmd) : State :=
  let c := i.c
  let h := hHome c.handle
  let m := { s.newMsg .fwd h [s.pkg, c.qp, i.at_] with cmds := [c] }
  (s.waitOn i.seq .forwarded h).request h { m with slots := m.expect } tirlo (.fwd i.seq)

/-- A command of the table: the command with opcode `op` that the intake holds, or one that is admitted now, is dispatched when its order allows, and `f` gives it its effect. Tirlo, which executes
it, runs on warden cores: with none of them running nothing is dispatched. -/
def State.command (s : State) (op : Nat) (c : Cmd) (f : State → ICmd → State) : State :=
  let c := { c with opcode := op }
  let go := fun (s : State) (i : ICmd) =>
    if s.blocked i then s
    else
      let s := s.dispatch i
      if s.isForward c then s.forward i else f s i
  if !s.coreOn then s
  else match s.tci.intake.find? (fun i => i.c == c) with
  | some i => go s i
  | none =>
    match s.admitCmd c none with
    | (s, some i) => go s i
    | (s, none) => s

/-! ### Doorbells (R62, R63, R80) -/

/-- Whether a doorbell write comes from the bound partner. -/
def State.fromPartner (s : State) (q : Nat) (m : Master) : Bool :=
  let p := s.partner q
  !m.remote && ((p == pcie && m.id == 0x5000) || (p == tenant && m.cls == 1 && decide (4 ≤ m.inst) && natBit (s.rd R.TCI_QP_ATTR.CORE_MASK q) (m.inst - 4))
    || (p == mgmtPartner && m.cls == 7))

/-- R80: doorbells count before READY only on queue pair 0, once it is live. -/
def State.doorbellsOpen (s : State) (q : Nat) : Bool := s.rd R.TCI_STATUS.READY == 1 || (q == 0 && s.rd R.TCI_STATUS.ADMIN_LIVE == 1)

/-- A queue pair is fetched: after READY, and before it queue pair 0 once it is live and queue pair 4,095 once its mailbox is (R80). -/
def State.fetchOpen (s : State) (q : Nat) : Bool := s.doorbellsOpen q || (q == mgmtQp && s.rd R.MGMT_TGT_STATUS.MBOX_LIVE == 1)

/-- The slots of a ring that a turn would use first lie in memory that takes no request now (log 129). -/
def State.ringAsleep (s : State) (q : Nat) : Bool :=
  !s.inHost q && (s.asleepIn (s.sqBase q % 2 ^ 50 + 64 * s.rd R.TCI_QP_PTR.SQ_HEAD q) 64 || s.asleepIn (s.rqBase q % 2 ^ 50 + 32 * s.rqDepth q) 8)

def State.dropDoorbell (s : State) : State := s.bump R.TCI_DB_DROPPED_CNT.COUNT

/-- The checks of a doorbell with value `v` for a ring of depth `d`; some state where it is dropped. -/
def State.doorbellDrop (s : State) (q : Nat) (m : Master) (v d : Nat) : Option State :=
  if !s.doorbellsOpen q || s.qpState q != qpLive then some s.dropDoorbell
  else if !s.fromPartner q m then
    some ((s.flag R.TCI_EVENT.PARTNER_MISMATCH R.TCI_MISMATCH_CNT.COUNT).report Src.tci Cls.ce Cause.partnerMismatch)
  else if d ≤ v then some s.dropDoorbell else none

/-- The SQ tail is replaced and the pending bit set. -/
def State.sqRing (s : State) (q v : Nat) : State :=
  (s.wr R.TCI_QP_PTR.SQ_TAIL v q).updTci (fun t => { t with pendingMap := sinsert t.pendingMap q })

/-- A write that addresses INDEX. -/
def indexWritten (w : CsrWr) : Bool := w.sub == 0

def State.sqDoorbellAt (s : State) (q : Nat) (w : CsrWr) : State :=
  if !indexWritten w then s
  else match s.doorbellDrop q w.m (w.val % 65536) (s.sqDepth q) with
    | some s => s
    | none => s.sqRing q (w.val % 65536)

def State.rqDoorbellAt (s : State) (q : Nat) (w : CsrWr) : State :=
  if !indexWritten w then s
  else match s.doorbellDrop q w.m (w.val % 65536) (s.rqDepth q) with
    | some s => s
    | none => s.wr R.TCI_QP_PTR.RQ_HEAD (w.val % 65536) q

/-! ### The fetcher (R68) -/

def State.fetchBurst (s : State) : Nat := clampN 1 32 (s.rd R.TCI_FETCH_CFG.FETCH_BURST)

/-- A queue pair that a turn can serve: pending, LIVE, with entries and a free RQ slot. -/
def State.fetchable (s : State) (q : Nat) : Bool :=
  s.tci.pendingMap.contains q && s.qpState q == qpLive && s.sqWait q != 0 && s.rqFree q != 0 && s.fetchOpen q && !s.ringAsleep q

/-- The next of a class round robin after queue pair `last`. -/
def roundRobin (l : List Nat) (last : Nat) : Option Nat :=
  match l.find? (fun q => decide (last < q)) with
  | some q => some q
  | none => l.head?

/-- The queue pair of the next turn: a class below 0 that has waited 15 turns, else in PRIO order; round robin within a class. -/
def State.fetchPick (s : State) : Option Nat :=
  let ready := s.tci.pendingMap.filter s.fetchable
  let cls := fun k => ready.filter (fun q => s.rd R.TCI_QP_ATTR.PRIO q == k)
  let starved := [1, 2, 3].find? (fun k => decide (15 ≤ lget s.tci.waits k 0) && cls k != [])
  match (match starved with | some k => some k | none => [0, 1, 2, 3].find? (fun k => cls k != [])) with
  | none => none
  | some k => roundRobin (cls k) (lget s.tci.rr k 0)

/-- A turn has served queue pair `q`. -/
def State.fetchServed (s : State) (q : Nat) : State :=
  let k := s.rd R.TCI_QP_ATTR.PRIO q
  s.updTci (fun t => { t with rr := lset t.rr k q, waits := lset (t.waits.map (· + 1)) k 0 })

/-- The extended block of a fetched entry in HBM or the Mews cache. -/
def State.fetchBlock (s : State) (a : Nat) : State × Option (List Byte) :=
  match s.cacheRead fetcher (a % 2 ^ 50) 64 with
  | (s, some (h, false)) =>
    let n := leNat (h.take 4)
    if n < 64 ∨ 4096 < n then (s, some h)
    else match s.cacheRead fetcher (a % 2 ^ 50) n with
      | (s, some (l, false)) => (s, some l)
      | (s, _) => (s, none)
  | (s, _) => (s, none)

/-- One entry of queue pair `q` at slot `i`, with its block: of a HOST ring as the PCIe read returned it. -/
def State.fetchEntry (s : State) (q i : Nat) (h : Option HostEnt) : State × Option Cmd :=
  if s.inHost q then (s, h.map (fun e => Cmd.ofBytes q e.entry (if Machine.leNat (slice e.entry 3 1) = 7 then e.block else [])))
  else
    match s.cacheRead fetcher (s.sqBase q + i * 64) 64 with
    | (s, some (l, false)) =>
      let c := Cmd.ofBytes q l []
      if c.pcount ≠ 7 then (s, some c)
      else if s.isPush q then
        let k := 65536 * q + i
        (s.updTci (fun t => { t with blocks := Tab.del t.blocks k }), some { c with block := Tab.get s.tci.blocks k [] })
      else
        match s.fetchBlock (c.p 0) with
        | (s, some b) => (s, some { c with block := b })
        | (s, none) => (s, none)
    | (s, _) => (s, none)

/-- The entries of a turn in ring order; the Bool: every access succeeded. -/
def State.fetchList (s : State) (q : Nat) : Nat → Nat → List HostEnt → State × List Cmd × Bool
  | 0, _, _ => (s, [], true)
  | n + 1, i, host =>
    match s.fetchEntry q i host.head? with
    | (s, none) => (s, [], false)
    | (s, some c) =>
      let (s, l, ok) := s.fetchList q n ((i + 1) % s.sqDepth q) host.tail
      (s, c :: l, ok)

/-- The head shadow takes the new SQ head. -/
def State.headShadow (s : State) (q : Nat) : State :=
  match s.ringWrite q (s.rqBase q + s.rqDepth q * 32) (leBytes 8 (s.rd R.TCI_QP_PTR.SQ_HEAD q)) with
  | (s, true) => s
  | (s, false) => s.qpError q

/-- The links on which the entries of `n` slots from slot `i` on came, where a CMD message brought them (R105). -/
def State.slotLinks (s : State) (q i n : Nat) : List (Option Nat) := (List.range n).map (fun k => Tab.get? s.tci.links (65536 * q + (i + k) % s.sqDepth q))

/-- The entries of a turn are admitted in order. -/
def State.admitAll (s : State) (l : List (Cmd × Option Nat)) : State := l.foldl (fun s c => (s.admitCmd c.1 none c.2).1) s

/-- One fetch turn: up to FETCH_BURST entries are read, their RQ slots reserved, the head shadow written, then each is admitted; where the shadow's write fails the queue pair is in ERROR and none is (R84). -/
def State.fetchTurn (s : State) (host : List HostEnt) (fail : Bool) : State :=
  match s.fetchPick with
  | none => s
  | some q =>
    let want := min s.fetchBurst (min (s.sqWait q) (s.rqFree q))
    let n := if s.inHost q then min want host.length else want
    let s := s.fetchServed q
    if s.inHost q && fail then s.qpError q
    else if n = 0 then s
    else
      let head := s.rd R.TCI_QP_PTR.SQ_HEAD q
      match s.fetchList q n head host with
      | (s, _, false) => s.qpError q
      | (s, cs, true) =>
        let s := s.wr R.TCI_QP_PTR.SQ_HEAD ((head + n) % s.sqDepth q) q
        let s := s.updTci (fun t => { t with reserved := if s.isPush q then t.reserved else Tab.put t.reserved q (Tab.get t.reserved q 0 + n) })
        let s := if s.sqWait q = 0 then s.updTci (fun t => { t with pendingMap := t.pendingMap.filter (· != q) }) else s
        let s := if s.isPush q then s else s.headShadow q
        if s.qpState q ≠ qpLive then s else s.admitAll (cs.zip (s.slotLinks q head n))

/-! ### CMD messages (R62, R65, R80) -/

/-- A CMD message comes from the bound partner. -/
def State.cmdFromPartner (s : State) (q link : Nat) (m : KMsg) : Bool :=
  (s.partner q == kettle && s.qpState q != qpAbsent && link != s.pkg && m.origin == s.rd R.TCI_QP_ATTR.PEER_PKG q)
    || (s.partner q == gateway && s.qpState q != qpAbsent && link == s.pkg)

/-- One reply entry that a CMD message is answered with in place of admission. -/
def State.cmdRep (s : State) (c : Cmd) (status retry flags : Nat) : Rep :=
  { tag := c.tag, status := status, flags := flags, retry := retry, r0 := 0, r1 := 0, doneNs := s.epoch }

/-- A REPLY message back to a CMD's sender, who need not be the partner. -/
def State.cmdAnswer (s : State) (link : Nat) (m : KMsg) (q : Nat) (reps : List Rep) : State :=
  if reps = [] then s
  else
    let r := { s.newMsg .reply m.origin [q, s.rd R.TCI_QP_PTR.SQ_HEAD q, reps.length] with reps := reps }
    (s.emits (reps.map (fun r => .reply q r))).answerTo link m { r with slots := r.expect }

/-- The entries of a CMD message are appended to the SQ, one by one; those that do not fit are answered. -/
def State.cmdAppend (s : State) (q link : Nat) : List Cmd → State × List Rep
  | [] => (s, [])
  | c :: r =>
    let n := s.sqWait q
    if s.qpState q ≠ qpLive then (s, [])
    else if s.sqDepth q - 1 ≤ n then
      let (s', reps) := s.cmdAppend q link r
      (s'.bump R.TCI_QP_CNT.REJECTED 1 q, s.cmdRep c Stat.busy (rejectCode n) 8 :: reps)
    else
      let tail := s.rd R.TCI_QP_PTR.SQ_TAIL q
      match s.ringWrite q (s.sqBase q + tail * 64) c.bytes with
      | (s, false) => (s.qpError q, [])
      | (s, true) =>
        let s := s.updTci (fun t => { t with
          blocks := if c.block = [] then t.blocks else Tab.put t.blocks (65536 * q + tail) c.block, links := Tab.put t.links (65536 * q + tail) link })
        (s.sqRing q ((tail + 1) % s.sqDepth q)).cmdAppend q link r

def State.cmdMessage (s : State) (link : Nat) (m : KMsg) : State :=
  let q := (m.w.headD 0) % 4096
  if s.rd R.TCI_STATUS.READY = 0 then s.cmdAnswer link m q (m.cmds.map (fun c => s.cmdRep c Stat.notReady 16 0))
  else if !s.cmdFromPartner q link m then
    let s := (s.flag R.TCI_EVENT.PARTNER_MISMATCH R.TCI_MISMATCH_CNT.COUNT).report Src.tci Cls.ce Cause.partnerMismatch
    s.cmdAnswer link m q (m.cmds.map (fun c => s.cmdRep c Stat.denied noRetry 0))
  else if s.qpState q ≠ qpLive then s.dropDoorbell
  else
    let (s, reps) := s.cmdAppend q link m.cmds
    s.cmdAnswer link m q reps

/-- A FWD message: the forwarded command is admitted here (R36, R95, R96); before READY it is answered NOT_READY (R80). -/
def State.fwdMessage (s : State) (m : KMsg) : State :=
  match m.cmds with
  | [] => s
  | c :: _ => (s.admitCmd { c with qp := lget m.w 1 0 % 4096, fwdFrom := some (m.origin % 64) } (some { m with cmds := [], data := [] })).1

/-! ### Timers -/

/-- COAL_TIME has passed since the first unsignalled reply. -/
def State.coalesce (s : State) (q : Nat) : State :=
  match Tab.get? s.tci.unsig q with
  | none => s
  | some (_, at_) =>
    let t := s.rd R.TCI_QP_SIZE.COAL_TIME q
    if t = 0 ∨ s.epoch < at_ + t * 1000 then s else s.raiseQp q

/-- A remembered ID reaches 60 s. -/
def State.dupExpire (s : State) (q rid : Nat) : State :=
  match (Tab.get s.tci.dup q []).find? (fun e => e.rid == rid) with
  | some e => if e.at_ + 60000000000 ≤ s.epoch then s.dupForget q rid else s
  | none => s

/-- A command's timeout expires (R77): the TIMEOUT reply, and the work stops at its next abort point. -/
def State.cmdTimeout (s : State) (q tag ridLo : Nat) : State :=
  let hit := fun (i : ICmd) => i.c.qp == q && i.c.fwdFrom.isNone && i.c.tag == tag && i.c.ridLo == ridLo && decide (i.deadline ≤ s.epoch)
  match s.tci.running.find? (fun r => hit r.i && !r.dead) with
  | some r =>
    let s := s.deliver r.i (s.repOf r.i Stat.timeout 0 0 noRetry 0)
    if r.wait = .original then s.dropRun r.i.seq
    else
      let s := s.killRuns (fun x => x.i.seq == r.i.seq)
      if r.i.c.once then s.dupSet (dupKey r.i.c) r.i.c.rid (.inDoubt false) else s
  | none =>
    match s.tci.intake.find? hit with
    | none => s
    | some i =>
      let s := (s.updTci (fun t => { t with intake := t.intake.filter (fun j => j.seq != i.seq) })).stormCheck
      let s := s.deliver i (s.repOf i Stat.timeout 0 0 noRetry 0)
      if i.c.once then s.dupFinal (dupKey i.c) i.c.rid Stat.timeout 0 0 s.epoch else s

end Sys2Proof.Machine
end

