-- ==== Sys2Proof/Machine/CreditOps.lean ====
section
/-! DEFINITION. Energy claims and credits as shared operations (R317 to R321): what running work claims, what a window has left, when a claim first fits. -/

namespace Sys2Proof.Machine

/-- A die's s(f) in 1/32,768. -/
def State.scale (s : State) (d : Nat) : Nat := s.rd R.PWR_DIE.SCALE d

/-- TILE_WORK_MW of a tile's die. -/
def State.tileWorkMw (s : State) (t : Nat) : Nat := s.rd R.TALON_DIE_BALLAST_MW.TILE_WORK_MW (t / 96)

/-- Σ TILE_WORK_MW · s_d over tiles, in mW. -/
def State.fullMw (s : State) (tiles : List Nat) : Nat := (tiles.map (fun t => s.tileWorkMw t * s.scale (t / 96) / 32768)).sum

/-- α of an entry in 1/32,768 (R318). -/
def State.alpha (s : State) (plan entry : Nat) : Nat :=
  match Tab.get s.pwr.ratios (65536 * plan + entry) [] with
  | [] => 32768
  | l => max 8192 (l.foldl max 0)

def State.planTiles (s : State) (p : Nat) : List Nat := match Tab.get? s.talon.plans p with | some x => x.tiles | none => []

/-- The claim of a pass in mW. -/
def State.passMw (s : State) (plan entry : Nat) : Nat := s.alpha plan entry * s.fullMw (s.planTiles plan) / 32768

/-- Credits of a window that a claim in mW takes. -/
def creditsOf (mw : Nat) : Nat := cdiv mw 10

/-- The Roost engine's claim in mW. -/
def State.xferMw (s : State) : Nat := s.rd R.PWR_VR_CFG.XFER_W * 1000

def State.xferRunning (s : State) : Bool := s.roost.xfers.any (fun x => x.running)

/-- Every claim held, in credits of a window. -/
def State.claims (s : State) (passes : List Pass) (xfer : Bool) : Nat :=
  (passes.map (fun p => creditsOf (s.passMw p.plan p.entry))).sum + (if xfer then creditsOf s.xferMw else 0)

def State.ballastCr (s : State) : Nat := creditsOf (s.pwr.ballast.foldl (· + ·) 0)

/-- The free credits of window `k` from now, if nothing else is admitted: passes end after their entry's mean duration, the bucket refills at CAP_W. -/
def State.freeAt (s : State) (k : Nat) : Int :=
  let mean := fun (p : Pass) => match Tab.get s.pwr.durs (65536 * p.plan + p.entry) [] with | [] => 2 ^ 40 | l => (l.foldl (· + ·) 0) / l.length
  let left := s.talon.passes.filter (fun p => decide ((s.now - p.at_) / 1000 + 100 * k < mean p))
  let level : Int := min (s.pwr.capW * s.pwr.bucketMs * 1000 : Nat) (s.pwr.level + (s.pwr.capW * 100 * k : Nat))
  min level (s.pwr.terms : Nat) - s.pwr.baseEst - (s.ballastCr : Nat) - (s.claims left s.xferRunning : Nat)

def firstFit (f : Nat → Bool) : Nat → Nat → Nat
  | 0, k => k
  | n + 1, k => if f k then k else firstFit f n (k + 1)

/-- w of R321: the projected time in µs at which a claim first fits. -/
def State.projW (s : State) (claim : Nat) : Nat := 100 * firstFit (fun k => decide ((claim : Int) ≤ s.freeAt k)) 10486 0

/-- The RETRY_AFTER code of ENERGY_DEFERRED (R99). -/
def State.deferCode (s : State) (claim : Nat) : Nat := clampN 7 20 (clog2 (s.projW claim))

/-- An ENERGY_DEFERRED completion sets DEFERRED. -/
def State.deferred (s : State) : State := s.flag R.PWR_EVENT.DEFERRED R.PWR_DEFER_CNT.COUNT

/-- A claim is taken from this window's free credits and booked. -/
def State.book (s : State) (claim : Nat) : State :=
  (s.updPwr (fun p => { p with freeCr := p.freeCr - (claim : Nat) })).bump R.PWR_GRANT.BOOKED claim

def State.fits (s : State) (claim : Nat) : Bool := decide ((claim : Int) ≤ s.pwr.freeCr)

/-- Energy charged in this window, in µJ: a transfer's, or a pass's. -/
def State.charge (s : State) (uj : Nat) : State := s.updPwr (fun p => { p with charged := p.charged + uj })
def State.chargeWork (s : State) (uj : Nat) : State := s.updPwr (fun p => { p with charged := p.charged + uj, workUj := p.workUj + uj })

end Sys2Proof.Machine
end

