-- ==== Sys2Proof/Machine/SessionOps.lean ====
section
/-! DEFINITION. Sessions as shared operations (02_sessions.md): the session table, KV frames, the state machine of R39, the Roost engine's transfer queue (R206), parks and unparks as they begin and end, closing. -/

namespace Sys2Proof.Machine

def State.sesAt (s : State) (slot : Nat) : Option Session := Tab.get? s.ses.table slot
def State.setSes (s : State) (slot : Nat) (x : Session) : State := s.updSes (fun t => { t with table := Tab.put t.table slot x })

/-- A session as SESSION_OPEN makes it. -/
def newSession (handle groups domain parkAfter buddyPkg : Nat) : Session :=
  { handle := handle, st := .new, parking := false, unparking := false, runnable := false, damaged := false, tampered := false, groups := groups, length := 0,
    domain := domain, parkAfter := parkAfter, idleAt := 0, buddyPkg := buddyPkg, buddy := .none_, pages := [], newFrames := [], ptFrames := [], hbmFreed := true,
    lastCommit := 0, recs := [], under := false, notBefore := 0, runnableAt := 0, framesAt := none, crit := false, closing := false, buddyTryAt := 0, shards := [], buddyDue := false }

/-- The other packages that hold chunks of a session. -/
def Session.shardPkgs (x : Session) : List Nat := (List.range 64).filter (fun p => x.shards.any (fun e => e.2 == p))

/-- The session status word. -/
def Session.word (x : Session) : Nat :=
  x.st.code + b2n x.parking * 8 + b2n x.unparking * 16 + b2n x.runnable * 32 + b2n x.damaged * 64 + x.buddy.code * 256 + x.length * 2 ^ 16 + (x.groups - 1) * 2 ^ 41
    + x.shardPkgs.length * 2 ^ 51 + x.buddyPkg * 2 ^ 57

/-- The handle of a slot of this package (R32, R33). -/
def State.handleOf (s : State) (slot gen : Nat) : Nat := s.pkg * 2 ^ 58 + gen * 2 ^ 16 + slot

/-- The lowest number at or above `f` that a rising list does not hold. -/
def lowestFree : List Nat → Nat → Nat
  | [], f => f
  | k :: r, f => if k < f then lowestFree r f else if k = f then lowestFree r (f + 1) else f

/-- The slots in use: those of this package's sessions, and those that hold shards of other packages' (R57). -/
def State.usedSlots (s : State) : List Nat := s.ses.shardSlots.foldl (fun l e => sinsert l e.1) (s.ses.table.map (·.1))

/-- The lowest free slot (R33); none of the 65,536 free: none. -/
def State.freeSlot (s : State) : Option Nat := let n := lowestFree s.usedSlots 0; if n < 65536 then some n else none

/-- R90, R35, R37 and R386 for a command that names a session: the slot, or the status that refuses it. -/
def State.sessionFor (s : State) (c : Cmd) : Nat ⊕ Nat :=
  let slot := hSlot c.handle
  if s.hoodedService ∧ c.handle ≠ 0 ∧ hHome c.handle = s.pkg ∧ hGen c.handle < s.rd R.SEC_TAMPER_GEN.GEN then .inr Stat.tampered
  else if c.handle = 0 ∨ hGen c.handle = 0 ∨ hHome c.handle ≠ s.pkg then .inr Stat.badSession
  else
    match s.sesAt slot with
    | none => .inr Stat.badSession
    | some x => if x.handle ≠ c.handle then .inr Stat.badSession else if c.qp ≠ 0 ∧ s.cmdDomain c ≠ x.domain then .inr Stat.denied else .inl slot

/-! ### HBM frames of the KV pool -/

def State.kvFree (s : State) : Nat := s.ses.kvCount - s.ses.hbmUsed.length

def State.allocHbm (s : State) : Option (State × Nat) :=
  if s.kvFree = 0 then none
  else
    let f := lowestFree s.ses.hbmUsed s.ses.kvFirst
    some (s.updSes (fun t => { t with hbmUsed := sinsert t.hbmUsed f }), f)

def State.freeHbm (s : State) (l : List Nat) : State := s.updSes (fun t => { t with hbmUsed := t.hbmUsed.filter (fun f => !l.contains f) })

/-! ### Pages (table "Level-2 entry") -/

def pageKey (g p : Nat) : Nat := 65536 * g + p
def kvPages (len : Nat) : Nat := cdiv len 256

/-- The page keys of `groups` layer groups at a length, in page-table order. -/
def pageKeys (groups len : Nat) : List Nat := (List.range groups).flatMap (fun g => (List.range (kvPages len)).map (fun p => pageKey g p))

/-- The HBM frames that a session holds. -/
def Session.hbmFrames (x : Session) : List Nat :=
  (x.pages.filter (fun e => e.2.tier == 1 || (e.2.tier == 2 && !x.hbmFreed))).map (fun e => e.2.hbm)

/-- The Roost frames that a session holds. -/
def Session.roostFrames (x : Session) : List Nat :=
  (x.pages.filter (fun e => e.2.roost != 0)).map (fun e => e.2.roost) ++ x.newFrames.map (·.2) ++ x.ptFrames ++ x.recs.flatMap (fun r => r.pt)

/-! ### Work (R40) -/

/-- The opcodes whose commands are work of a session. -/
def isWork (op : Nat) : Bool := op == 0x0101 || op == 0x0102 || op == 0x0303

/-- The session has work queued or running. -/
def State.hasWork (s : State) (slot : Nat) (x : Session) : Bool :=
  s.talon.ready.any (fun r => r.slot == some slot) || s.talon.passes.any (fun p => p.runs.any (fun r => r.slot == some slot))
    || s.tci.running.any (fun r => r.wait == .unpark && r.arg == slot && !r.dead)
    || s.tci.intake.any (fun i => i.c.handle == x.handle && isWork i.c.opcode)

/-- Every ACTIVE session with no work left becomes WAITING, its idle start now. -/
def State.idleSessions (s : State) : State :=
  s.ses.table.foldl (fun s e => if e.2.st == .active && !s.hasWork e.1 e.2 then s.setSes e.1 { e.2 with st := .waiting, idleAt := s.epoch } else s) s

def Session.idleNs (x : Session) (now : Nat) : Nat := if x.st == .waiting then now - x.idleAt else 0

/-! ### The transfer queue (R206) -/

def State.runMax (s : State) : Nat := clampN 1 8 (s.rd R.ROOST_ENG_CFG.RUN_MAX)
def State.xfer (s : State) (k : XKind) (obj : Nat) : Option Transfer := s.roost.xfers.find? (fun x => x.kind == k && x.obj == obj)
def State.setXfers (s : State) (f : List Transfer → List Transfer) : State := s.updRoost (fun r => { r with xfers := f r.xfers })
def State.dropXfer (s : State) (k : XKind) (obj : Nat) : State := s.setXfers (fun l => l.filter (fun x => !(x.kind == k && x.obj == obj)))
def State.putXfer (s : State) (x : Transfer) : State := s.setXfers (fun l => l.map (fun y => if y.seq = x.seq then x else y))

/-- Bytes that a transfer has still to move. -/
def Transfer.left (x : Transfer) : Nat := (x.pages.length + x.ptLeft) * 65536

/-- The RETRY_AFTER code of a full transfer queue (R99): the projected end of the oldest transfer that does not run yet. -/
def State.xferCode (s : State) : Nat :=
  let run := s.roost.xfers.filter (fun x => x.running)
  let n := run.length
  let ends := run.map (fun x => cdiv (x.left * n) 360400)
  let start := match ends with | [] => 0 | e :: r => r.foldl min e
  match s.roost.xfers.find? (fun x => !x.running) with
  | none => 4
  | some h =>
    let start := if n = 0 then max start (s.projW (creditsOf s.xferMw)) else start
    clampN 4 20 (clog2 (start + cdiv (h.left * s.runMax) 360400))

/-- Where a slot's commit record position lies in the Roost metadata area. -/
def commitAddr (slot : Nat) (posB : Bool) : Nat := roostBase + slot * 128 + (if posB then 64 else 0)

/-- A session's park has ended with no commit: its Roost frames are freed and PARKING clears; its SESSION_PARK commands end with a status. -/
def State.endPark (s : State) (slot status retry : Nat) : State :=
  match s.sesAt slot with
  | none => s
  | some x =>
    let s := (s.dropXfer .park slot).releaseFrames (x.newFrames.map (·.2) ++ x.ptFrames)
    let s := (x.recs.filter (fun r => decide (x.lastCommit < r.seq))).foldl (fun s r => s.putLine (commitAddr slot r.posB) (List.replicate 64 0) false) s
    let s := s.setSes slot { x with parking := false, newFrames := [], ptFrames := [], recs := x.recs.filter (fun r => decide (r.seq ≤ x.lastCommit)) }
    s.endAllRetry (fun r => r.wait == .park && r.arg == slot) status retry

/-- A park ends under R48: not eligible again for 1 s. -/
def State.endParkFail (s : State) (slot status retry : Nat) : State :=
  let s := s.endPark slot status retry
  match s.sesAt slot with
  | none => s
  | some x => s.setSes slot { x with notBefore := s.epoch + 1000000000 }

/-- The commands that wait for a session's unpark end; RUNNABLE clears. -/
def State.failUnpark (s : State) (slot status retry : Nat) : State :=
  let runs := s.talon.ready.filter (fun r => r.slot == some slot)
  let s := { s with talon := { s.talon with ready := s.talon.ready.filter (fun r => r.slot != some slot) } }
  let s := runs.foldl (fun s r => s.endRetry r.seq status retry) s
  let s := s.endAllRetry (fun r => r.wait == .unpark && r.arg == slot) status retry
  match s.sesAt slot with
  | none => s
  | some x => s.setSes slot { x with runnable := false, framesAt := none, crit := false }

/-- A running unpark stops: the HBM frames it filled are freed, their entries return to TIER ROOST. -/
def State.stopUnpark (s : State) (slot : Nat) : State :=
  match s.sesAt slot with
  | none => s
  | some x =>
    let s := s.dropXfer .unpark slot
    let s := if x.unparking then s.freeHbm x.hbmFrames else s
    if !x.unparking then s
    else s.setSes slot { x with unparking := false, hbmFreed := true, pages := x.pages.map (fun e => (e.1, { e.2 with tier := 2 })) }

/-- A buddy send ends without its commit: a copy that is still PENDING is due again (R54). -/
def State.dropBuddySend (s : State) (slot : Nat) : State :=
  let s := s.dropXfer .buddySend slot
  match s.sesAt slot with
  | none => s
  | some x => s.setSes slot { x with buddyDue := decide (x.buddy = .pending) }

/-- The export of a session ends with no effect: the session admits work again. -/
def State.endExport (s : State) (slot status retry : Nat) : State :=
  let s := s.dropXfer .export_ slot
  let s := match s.sesAt slot with | none => s | some x => s.setSes slot { x with under := false }
  s.endAllRetry (fun r => r.wait == .export_ && r.arg == slot) status retry

/-- An import ends: the frames it took are freed. -/
def State.endImport (s : State) (stream status retry : Nat) : State :=
  match s.ses.imports.find? (fun i => i.stream == stream) with
  | none => s
  | some i =>
    let s := (s.dropXfer .import_ stream).releaseFrames i.frames
    (s.updSes (fun t => { t with imports := t.imports.filter (fun j => j.stream != stream) })).endRetry i.seq status retry

/-- The receipt of buddy copies from a package ends: the frames it took are freed. -/
def State.dropIncoming (s : State) (p : Nat) : State :=
  let s := s.dropXfer .buddyRecv p
  match Tab.get? s.ses.incoming p with
  | none => s
  | some b => (s.releaseFrames (b.frames.map (·.2))).updSes (fun t => { t with incoming := Tab.del t.incoming p })

/-- A queued transfer makes room for a class-1 transfer. -/
def State.displace (s : State) (x : Transfer) (code : Nat) : State :=
  let s := s.flag R.ROOST_ENG_EVENT.DISPLACED R.ROOST_ENG_DISP_CNT.COUNT
  match x.kind with
  | .park => s.endPark x.obj Stat.busy code
  | .unpark => (s.dropXfer .unpark x.obj).failUnpark x.obj Stat.busy code
  | .export_ => s.endExport x.obj Stat.busy code
  | .import_ => s.endImport x.obj Stat.busy code
  | .buddySend => s.dropBuddySend x.obj
  | .buddyRecv => s.dropIncoming x.obj

/-- A transfer arrives at the queue; false where the queue is full for it. -/
def State.enqueue (s : State) (k : XKind) (obj cls : Nat) (pages : List Nat) (pt : Nat) : State × Bool :=
  let x : Transfer := {
    kind := k, obj := obj, cls := cls, seq := s.roost.xseq, pages := pages, ptLeft := pt, sent := 0, running := false, committed := false }
  let add := fun (s : State) => (s.updRoost (fun r => { r with xfers := r.xfers ++ [x], xseq := r.xseq + 1 }), true)
  if s.roost.xfers.length < 64 then add s
  else
    let code := s.xferCode
    let s := s.flag R.ROOST_ENG_EVENT.QUEUE_FULL R.ROOST_ENG_FULL_CNT.COUNT
    if cls ≠ 1 then (s, false)
    else
      match (s.roost.xfers.filter (fun y => !y.running && decide (4 ≤ y.cls))).getLast? with
      | none => (s, false)
      | some y => add (s.displace y code)

/-! ### Parks begin (R39, R44, R47) -/

/-- The pages that a park copies: those with no clean Roost copy. -/
def Session.dirty (x : Session) : List Nat := (x.pages.filter (fun e => e.2.tier == 1 && !e.2.clean)).map (·.1)

/-- Chunks of 131,072 positions at a length. -/
def chunks (len : Nat) : Nat := cdiv (kvPages len) 512

/-- Sectors of the page-table image: the root, then the level-2 tables in root order. -/
def ptSectors (groups len : Nat) : Nat := cdiv groups 4 + groups * chunks len
def ptFrameCount (x : Session) : Nat := cdiv (ptSectors x.groups x.length) 16

/-- Start a park of a WAITING session; false where the transfer queue is full. -/
def State.startPark (s : State) (slot : Nat) (hard : Bool) : State × Bool :=
  match s.sesAt slot with
  | none => (s, false)
  | some x =>
    match s.enqueue .park slot (if hard then 2 else 4) x.dirty (ptFrameCount x) with
    | (s, true) => (s.setSes slot { x with parking := true, newFrames := [], ptFrames := [] }, true)
    | (s, false) => (s, false)

/-- The frames that parks now running or queued will free. -/
def State.frameGain (s : State) : Nat :=
  ((s.ses.table.filter (fun e => e.2.parking || (e.2.st == .parked && !e.2.hbmFreed))).map (fun e => e.2.hbmFrames.length)).sum

/-- WAITING sessions that may be parked, longest idle first, then by slot; `p`: idle for long enough. -/
def State.eligible (s : State) (p : Session → Bool) : List Nat :=
  let l := s.ses.table.filter (fun e => e.2.st == .waiting && !e.2.parking && !e.2.under && !e.2.closing && decide (e.2.notBefore ≤ s.epoch) && p e.2)
  (l.mergeSort (fun a b => decide (a.2.idleAt ≤ b.2.idleAt))).map (·.1)

/-- Start parks from a list until the projection reaches `goal` free frames. -/
def State.parkUntil (s : State) (hard : Bool) (goal : Nat) : List Nat → State
  | [] => s
  | x :: r => if goal ≤ s.kvFree + s.frameGain then s else ((s.startPark x hard).1).parkUntil hard goal r

/-- Start at most `n` parks from a list. -/
def State.parkSome (s : State) : Nat → List Nat → State
  | 0, _ => s
  | _, [] => s
  | n + 1, x :: r => ((s.startPark x false).1).parkSome n r

def Session.overdue (x : Session) (now : Nat) : Bool := decide (x.parkAfter * 1000000 < x.idleNs now)

/-- The hard-pressure clause of R44: every WAITING session idle for more than 10 ms. -/
def State.hardParks (s : State) (goal : Nat) : State := s.parkUntil true goal (s.eligible (fun x => decide (10000000 < x.idleNs s.epoch)))

/-- The HBM frames of PARKED sessions that are not yet freed are freed. -/
def State.freeParked (s : State) (slot : Nat) : State :=
  match s.sesAt slot with
  | none => s
  | some x => if x.st == .parked && !x.hbmFreed && !x.unparking then (s.freeHbm x.hbmFrames).setSes slot { x with hbmFreed := true } else s

/-- Park evaluation, once every 1 ms (R44, R322). -/
def State.parkEvaluation (s : State) : State :=
  let s := s.ses.table.foldl (fun s e => s.freeParked e.1) s
  let pool := s.ses.kvCount
  let hard := decide (s.kvFree * 100 < pool * 2)
  let ok := fun (x : Session) => x.overdue s.epoch || (hard && decide (10000000 < x.idleNs s.epoch))
  let s := if hard then s.hardParks (cdiv (pool * 15) 100)
    else if s.kvFree * 10 < pool then s.parkUntil false (cdiv (pool * 15) 100) (s.eligible ok) else s
  let n := s.pwr.parkReqs
  (if n = 0 then s else s.parkSome n (s.eligible ok)).updPwr (fun p => { p with parkReqs := 0 })

/-! ### Work for a session (R39) -/

/-- What work for a session meets: it can run; it waits for the unpark; it ends with a status. -/
inductive Go where
  | now
  | later
  | fail (status retry : Nat)
deriving DecidableEq, Repr

/-- The session is under export, exported or being closed: commands complete with BAD_SESSION (R50, R51). -/
def Session.gone (x : Session) : Bool := x.under || x.st == .exported || x.closing

/-- Adoption: every entry is TIER HBM with CLEAN set. -/
def State.adopt (s : State) (slot : Nat) (x : Session) : State :=
  let s := (x.pages.map (fun e => e.2.roost)).foldl (fun s f => s.setFrame f Frame.clean) s
  s.setSes slot { x with st := .active, pages := x.pages.map (fun e => (e.1, { e.2 with tier := 1, clean := true })) }

/-- The unpark of a PARKED session is queued, or raised to CRIT. -/
def State.queueUnpark (s : State) (slot : Nat) (x : Session) (crit : Bool) : State × Go :=
  if x.runnable then
    let s := s.setSes slot { x with crit := x.crit || crit }
    (if crit then s.setXfers (fun l => l.map (fun t => if t.kind == .unpark && t.obj == slot && !t.running then { t with cls := 1 } else t)) else s, .later)
  else
    match s.enqueue .unpark slot (if crit then 1 else 3) (x.pages.map (·.1)) 0 with
    | (s, true) => (s.setSes slot { x with runnable := true, runnableAt := s.epoch, crit := crit, framesAt := none }, .later)
    | (s, false) => (s, .fail Stat.busy s.xferCode)

/-- A command with opcode `op` brings work for the session of a slot: an append, a compute command, or a SESSION_RESUME, which a NEW session does not admit (R39). On a DAMAGED session an append and a
SESSION_RESUME complete with DATA_LOST in every state (R49). -/
def State.activate (s : State) (slot op : Nat) (crit : Bool) : State × Go :=
  match s.sesAt slot with
  | none => (s, .fail Stat.badSession noRetry)
  | some x =>
    if x.gone then (s, .fail Stat.badSession noRetry)
    else if x.damaged && !x.tampered && op != 0x0303 then (s, .fail Stat.dataLost noRetry)
    else
      match x.st with
      | .new => if op = 0x0102 then (s, .fail Stat.notReady 10) else (s.setSes slot { x with st := .active }, .now)
      | .active => (s, .now)
      | .waiting =>
        let s := if x.parking then s.endPark slot Stat.notReady 10 else s
        (match s.sesAt slot with | some x => s.setSes slot { x with st := .active } | none => s, .now)
      | .parked =>
        if x.tampered then (s, .fail Stat.tampered noRetry)
        else if x.damaged then (s, .fail Stat.dataLost noRetry)
        else if !x.hbmFreed && !x.unparking then (s.adopt slot x, .now)
        else s.queueUnpark slot x crit
      | .exported => (s, .fail Stat.notReady 10)

/-- An unpark's last page is in HBM: the session is ACTIVE; its frames are kept CLEAN while at least a quarter of the Roost capacity is free (R208). -/
def State.unparked (s : State) (slot : Nat) (x : Session) : State :=
  let s := s.dropXfer .unpark slot
  let keep := decide (roostCapacity ≤ 4 * s.freeFrames)
  let frames := x.pages.map (fun e => e.2.roost)
  let s := if keep then frames.foldl (fun s f => s.setFrame f Frame.clean) s else s.releaseFrames frames
  let pages := x.pages.map (fun e => (e.1, { e.2 with clean := keep, roost := if keep then e.2.roost else 0 }))
  let s := s.setSes slot { x with
    st := .active, unparking := false, runnable := false, framesAt := none, crit := false, hbmFreed := false, pages := pages }
  (s.tci.running.filter (fun r => r.wait == .unpark && r.arg == slot)).foldl (fun s r =>
    s.endRun r.i.seq Stat.ok (match s.sesAt slot with | some x => x.word | none => 0)) s

/-! ### Reclaiming CLEAN frames (R208) -/

/-- A session's CLEAN pages lose their Roost copies. -/
def State.dropClean (s : State) (slot : Nat) : State :=
  match s.sesAt slot with
  | none => s
  | some x =>
    let s := s.releaseFrames ((x.pages.filter (fun e => e.2.tier == 1 && e.2.clean)).map (fun e => e.2.roost))
    s.setSes slot { x with pages := x.pages.map (fun e => if e.2.tier == 1 && e.2.clean then (e.1, { e.2 with clean := false, roost := 0 }) else e) }

/-- Sessions whose CLEAN copies can be reclaimed, idle longest first; a session whose park runs keeps those that the park counts on. -/
def State.cleanHolders (s : State) : List Nat :=
  let l := s.ses.table.filter (fun e => !e.2.parking && !e.2.under && e.2.pages.any (fun p => p.2.tier == 1 && p.2.clean))
  (l.mergeSort (fun a b => decide ((if a.2.st == .waiting then a.2.idleAt else 2 ^ 64) ≤ (if b.2.st == .waiting then b.2.idleAt else 2 ^ 64)))).map (·.1)

def State.reclaimList (s : State) (goal : Nat) : List Nat → State
  | [] => s
  | x :: r => if goal ≤ s.freeFrames then s else (s.dropClean x).reclaimList goal r

/-- Reclaim until `goal` frames are free or no CLEAN frame remains. -/
def State.reclaim (s : State) (goal : Nat) : State := s.reclaimList goal s.cleanHolders

/-- Below a quarter free, the engine reclaims. -/
def State.keepQuarter (s : State) : State := if 4 * s.freeFrames < roostCapacity ∧ s.rd R.ROOST_ENG_STATUS.STATE = 1 then s.reclaim (roostCapacity / 4) else s

/-! ### Closing (R51) -/

/-- BUDDY_DEL to a session's buddy package. -/
def State.sendBuddyDel (s : State) (x : Session) : State :=
  if x.buddyPkg ≥ 64 then s
  else
    let m := { s.newMsg .buddyDel x.buddyPkg [x.handle] with cls := 2 }
    s.request x.buddyPkg { m with slots := m.expect } roostEngine .buddyDel

/-- The session's runs in passes are to stop with a status. -/
def State.stopRuns (s : State) (p : TileRun → Bool) (status : Nat) : State :=
  { s with talon := { s.talon with
    passes := s.talon.passes.map (fun x => { x with runs := x.runs.map (fun r => if p r && r.stop.isNone then { r with stop := some status } else r) }) } }

/-- Runs not yet dispatched end with a status. -/
def State.dropReady (s : State) (p : TileRun → Bool) (status : Nat) : State :=
  let l := s.talon.ready.filter p
  let s := { s with talon := { s.talon with ready := s.talon.ready.filter (fun r => !p r) } }
  l.foldl (fun s r => s.endRun r.seq status) s

/-- A close begins: no more work; the work, parks, unparks and exports that run stop. -/
def State.beginClose (s : State) (slot : Nat) : State :=
  match s.sesAt slot with
  | none => s
  | some x =>
    let s := s.setSes slot { x with closing := true }
    let s := s.dropReady (fun r => r.slot == some slot) Stat.badSession
    let s := s.stopRuns (fun r => r.slot == some slot) Stat.badSession
    let s := s.endAll (fun r => r.wait == .unpark && r.arg == slot) Stat.badSession
    let s := if x.parking then s.endPark slot Stat.badSession noRetry else s
    let s := (s.stopUnpark slot).dropBuddySend slot
    if x.under then s.endExport slot Stat.badSession noRetry else s

/-- The close ends: frames, buddy copy, descriptor and slot. The chunks that other packages hold go with the descriptor's entries; no message of the fabric carries their release (log 131). -/
def State.finishClose (s : State) (slot : Nat) (x : Session) : State :=
  let s := ((s.freeHbm x.hbmFrames).releaseFrames x.roostFrames).sendBuddyDel x
  let s := s.updSes (fun t => { t with table := Tab.del t.table slot })
  (s.endAll (fun r => r.wait == .close && r.arg == slot) Stat.ok).endAll (fun r => r.i.c.handle == x.handle && r.wait != .original && r.wait != .forwarded) Stat.badSession

/-- Closes whose runs have all reached their abort points end. -/
def State.closeSessions (s : State) : State :=
  s.ses.table.foldl (fun s e =>
    if e.2.closing && !s.talon.passes.any (fun p => p.runs.any (fun r => r.slot == some e.1)) then s.finishClose e.1 e.2 else s) s

end Sys2Proof.Machine
end

