-- ==== Sys2Proof/Machine/XferOps.lean ====
section
/-! DEFINITION. What the Roost engine's transfers do page by page (R46 to R50, R54, R108, R203, R206 to R209): parks and their commit, unparks, exports, imports, buddy copies. -/

namespace Sys2Proof.Machine

/-! ### The engine -/

def engOff : Nat := 0
def engReady : Nat := 1
def engFailed : Nat := 2
def engReset : Nat := 3

/-- The tier is READY and no Roost block nor the Crypt engine is in reset, quarantined or failed. -/
def State.roostUp (s : State) : Bool :=
  s.rd R.ROOST_ENG_STATUS.STATE == engReady && ((List.range 12).map (· + 56)).all (fun u => s.unitState u == Unit.normal)

def State.roostDead (s : State) : Bool := s.rd R.ROOST_ENG_STATUS.STATE == engFailed

/-- One frame has been moved: its bytes and its energy. -/
def State.countFrame (s : State) (sectors : Nat) : State :=
  (s.bump R.ROOST_ENG_BYTES (4096 * sectors)).charge (s.rd R.PWR_VR_CFG.PAGE_UJ)

/-- Allocate a Roost frame; with none FREE, CLEAN copies are reclaimed first. -/
def State.takeFrame (s : State) : Option (State × Nat) :=
  match s.allocFrame with
  | some r => some r
  | none => if s.roostDead then none else (s.reclaim 1).allocFrame

/-- Sector `i` of an HBM frame in plaintext, and whether a line of it is poisoned. -/
def State.hbmSector (s : State) (f i : Nat) : State × List Byte × Bool := s.readLines 64 (f * 65536 + i * 4096) .bulk roostEngine

/-- A sector of a frame is sealed in a domain; plaintext that came poisoned is stored with FAILED set. After its pass the pipes take a waiting sector of the merge buffer (R462). -/
def State.sealFrameSector (s : State) (f i d : Nat) (l : List Byte) (poison : Bool) : State × SealEnd :=
  let sec := 16 * f + i
  match (s.mergeSettle sec).sealSector sec d l with
  | (s, .ok) => ((if poison then s.storeRec sec { s.secRec sec with failed := true } .bulk else s).mergeTurn, .ok)
  | r => r

/-! ### The page-table image (tables "Level-1 entry", "Level-2 entry") -/

def PageEnt.word (e : PageEnt) : Nat := e.tier + b2n e.clean * 4 + b2n e.buddy * 8 + e.hbm * 2 ^ 16 + e.roost * 2 ^ 40

/-- Sector `i` of the page-table image: the root's entries, then one sector per level-2 table in root order. -/
def ptSector (groups len : Nat) (pages : Tab PageEnt) (shards : Tab Nat) (i : Nat) : List Byte :=
  let root := cdiv groups 4
  let n := chunks len
  (List.range 512).flatMap (fun j =>
    leBytes 8 (if i < root then
        let e := i * 512 + j
        if groups ≤ e / 128 ∨ n ≤ e % 128 then 0
        else match Tab.get? shards (e % 128) with
          | some p => 2 + p * 2 ^ 58
          | none => 1
      else
        let t := i - root
        match Tab.get? pages (pageKey (t / n) (t % n * 512 + j)) with
        | some e => e.word
        | none => 0))

/-- The page table as the park's commit leaves it. -/
def Session.committedPages (x : Session) : Tab PageEnt :=
  x.pages.map (fun e => (e.1, { e.2 with tier := 2, clean := false, roost := (Tab.get? x.newFrames e.1).getD e.2.roost }))

/-! ### Park steps (R45 to R48, R207) -/

/-- What a refused seal ends a park with (R48, R469). -/
def State.parkRefused (s : State) (slot : Nat) (e : SealEnd) : State :=
  if e = .empty then s.endParkFail slot Stat.notReady 20
  else s.endParkFail slot (if s.hoodedService then Stat.tampered else Stat.exhausted) noRetry

/-- The sectors of a frame are sealed one after another from the plaintext that `get` gives. -/
def State.sealFrame (s : State) (f d : Nat) (get : State → Nat → State × List Byte × Bool) : Nat → Nat → State × SealEnd
  | 0, _ => (s, .ok)
  | n + 1, i =>
    let (s, l, p) := get s i
    match s.sealFrameSector f i d l p with
    | (s, .ok) => s.sealFrame f d get n (i + 1)
    | r => r

def State.parkStep (s : State) (t : Transfer) : State :=
  match s.sesAt t.obj with
  | none => s.dropXfer .park t.obj
  | some x =>
    match s.takeFrame with
    | none => s.endParkFail t.obj Stat.busy 20
    | some (s, f) =>
      match t.pages with
      | k :: rest =>
        let s := s.setSes t.obj { x with newFrames := Tab.put x.newFrames k f }
        let hbm := match Tab.get? x.pages k with | some e => e.hbm | none => 0
        (match s.sealFrame f x.domain (fun s i => s.hbmSector hbm i) 16 0 with
          | (s, .ok) => (s.putXfer { t with pages := rest, sent := t.sent + 16 }).countFrame 16
          | (s, e) => s.parkRefused t.obj e)
      | [] =>
        let s := s.setSes t.obj { x with ptFrames := x.ptFrames ++ [f] }
        let base := 16 * x.ptFrames.length
        let n := min 16 (ptSectors x.groups x.length - base)
        (match s.sealFrame f x.domain (fun s i => (s, ptSector x.groups x.length x.committedPages x.shards (base + i), false)) n 0 with
          | (s, .ok) => (s.putXfer { t with ptLeft := t.ptLeft - 1, sent := t.sent + n }).countFrame n
          | (s, e) => s.parkRefused t.obj e)

/-- The 48 bytes of a commit record that its tag covers (table "Commit record"). -/
def commitBytes (x : Session) (seq ptImage nonce : Nat) : List Byte :=
  leBytes 8 x.handle ++ leBytes 8 seq ++ leBytes 4 x.pages.length ++ leBytes 2 x.groups ++ leBytes 2 x.domain ++ leBytes 4 x.length ++ leBytes 4 0
    ++ leBytes 8 ptImage ++ leBytes 8 nonce

def frameAddr (f : Nat) : Nat := roostBase + f * 65536

/-- A commit record is valid: the 64 bytes at its position hold its sequence and its session's handle, their tag verifies under a key set of the domain, and the epoch nonce is this epoch's (R46). -/
def State.recValid (s : State) (slot : Nat) (x : Session) (r : CommitRec) : Bool :=
  let a := commitAddr slot r.posB
  let b := s.storedLine a
  let verifies := fun (k : Option KeySet) => match k with | some k => commitTag k (b.take 48) == b.drop 48 | none => false
  !s.linePoison a && leNat (slice b 0 8) == x.handle && leNat (slice b 8 8) == r.seq && leNat (slice b 40 8) == s.rd R.TIME_NONCE
    && (verifies (s.domKeys x.domain).a || verifies (s.domKeys x.domain).b)

/-- The current commit record: the valid one with the greater sequence (R46). -/
def State.current (s : State) (slot : Nat) (x : Session) : Option CommitRec :=
  (x.recs.filter (s.recValid slot x)).foldl (fun a r => match a with | none => some r | some b => if b.seq < r.seq then some r else some b) none

/-- The sequence of the next commit: one above the current record's; a session with none goes on from the last commit that its descriptor holds. -/
def State.nextCommit (s : State) (slot : Nat) (x : Session) : Nat := (match s.current slot x with | some r => r.seq | none => x.lastCommit) + 1

/-- The position that a commit writes to. -/
def State.nextPosB (s : State) (slot : Nat) (x : Session) : Bool := match s.current slot x with | some r => !r.posB | none => false

/-- The image frames of the last commit. -/
def State.lastImage (s : State) (slot : Nat) (x : Session) : List Nat := match s.current slot x with | some r => r.pt | none => []

/-- Every sector and the image are acknowledged: the commit record is written to the position that does not hold the current one (R46). -/
def State.commitWrite (s : State) (slot : Nat) : State :=
  match s.xfer .park slot, s.sesAt slot with
  | some t, some x =>
    if !t.running || t.committed || t.pages != [] || t.ptLeft != 0 || !s.roostUp then s
    else
      match (s.domKeys x.domain).pick (s.sealSet x.domain) with
      | none => s.parkRefused slot (if s.hoodedService then .frozen else .empty)
      | some k =>
        let posB := s.nextPosB slot x
        let seq := s.nextCommit slot x
        let b := commitBytes x seq (match x.ptFrames with | f :: _ => frameAddr f | [] => 0) (s.rd R.TIME_NONCE)
        let s := s.putLine (commitAddr slot posB) (b ++ commitTag k b) false
        let rec_ : CommitRec := { seq := seq, posB := posB, pt := x.ptFrames }
        (s.setSes slot { x with recs := x.recs.filter (fun r => r.posB != posB) ++ [rec_] }).putXfer { t with committed := true }
  | _, _ => s

/-- A buddy copy of the last commit is to be sent: its transfer joins the queue, if it can. -/
def State.buddyStart (s : State) (slot : Nat) : State :=
  match s.sesAt slot with
  | none => s
  | some x =>
    if x.buddyPkg ≥ 64 ∨ s.roostDead ∨ x.recs = [] ∨ (s.xfer .buddySend slot).isSome then s
    else
      match s.enqueue .buddySend slot 5 (x.pages.map (·.1)) (s.lastImage slot x).length with
      | (s, true) => s.setSes slot { x with buddyDue := false, buddyTryAt := s.epoch, buddy := .pending }
      | (s, false) => s.setSes slot { x with buddyDue := true, buddyTryAt := s.epoch, buddy := .pending }

/-- A session made PARKED from a stream or a buddy copy has its first commit: the record, to position A, with the page-table image's frames; the buddy copy of it starts (R54). -/
def State.firstRecord (s : State) (slot : Nat) (pt : List Nat) : State :=
  match s.sesAt slot with
  | none => s
  | some x =>
    let s := match (s.domKeys x.domain).pick (s.sealSet x.domain) with
      | none => s
      | some k =>
        let b := commitBytes x 1 (match pt with | f :: _ => frameAddr f | [] => 0) (s.rd R.TIME_NONCE)
        s.putLine (commitAddr slot false) (b ++ commitTag k b) false
    (s.setSes slot { x with recs := [{ seq := 1, posB := false, pt := pt }], lastCommit := 1 }).buddyStart slot

/-- A shard package is lost with no buddy copy of its shard: the session is DAMAGED (R58). -/
def shardLost (x : Session) (shards : List (Nat × Bool)) : Bool := shards.any (fun e => !e.2 && x.shardPkgs.contains e.1)

/-- Every shard package has followed (R58). -/
def shardsFollow (x : Session) (shards : List (Nat × Bool)) : Bool := x.shardPkgs.all (fun p => shards.contains (p, true))

/-- The commit record is acknowledged, and those of the shards `shards` names: the session is PARKED (R39, R46, R58); `freed`: its HBM frames are freed at once. A shard that is lost makes the session
DAMAGED and ends its park, which cannot commit (log 131). -/
def State.commitAck (s : State) (slot : Nat) (freed : Bool) (shards : List (Nat × Bool)) : State :=
  match s.xfer .park slot, s.sesAt slot with
  | some t, some x =>
    if !t.committed || !s.roostUp then s
    else if shardLost x shards then (s.setSes slot { x with damaged := true }).endPark slot Stat.dataLost noRetry
    else if !shardsFollow x shards then s
    else
      let old := (x.recs.filter (fun r => decide (r.seq ≤ x.lastCommit))).flatMap (fun r => r.pt)
      let s := (s.dropXfer .park slot).releaseFrames old
      let pages := x.committedPages
      let s := pages.foldl (fun s e => s.setFrame e.2.roost Frame.used) s
      let recs := x.recs.map (fun r => if r.seq ≤ x.lastCommit then { r with pt := [] } else r)
      let s := s.setSes slot { x with
        st := .parked, parking := false, pages := pages, newFrames := [], ptFrames := [], hbmFreed := false,
        lastCommit := recs.foldl (fun a r => max a r.seq) x.lastCommit, recs := recs }
      let s := if freed then s.freeParked slot else s
      let s := if x.under then s else s.buddyStart slot
      match s.sesAt slot with
      | none => s
      | some x => (s.tci.running.filter (fun r => r.wait == .park && r.arg == slot)).foldl (fun s r => s.endRun r.i.seq Stat.ok x.word) s
  | _, _ => s

/-! ### Unpark steps (R49, R208) -/

/-- Every sector of a frame, verified; none where one fails. After each the pipes take a waiting sector of the merge buffer (R462). -/
def State.unsealFrame (s : State) (f : Nat) : Nat → Nat → State × Option (List (List Byte))
  | 0, _ => (s, some [])
  | n + 1, i =>
    match (s.mergeSettle (16 * f + i)).unsealSector (16 * f + i) with
    | (s, none) => (s, none)
    | (s, some l) =>
      match s.mergeTurn.unsealFrame f n (i + 1) with
      | (s, some r) => (s, some (l :: r))
      | (s, none) => (s, none)

/-- A sector fails: the unpark stops, the session is DAMAGED, what waits completes with DATA_LOST. -/
def State.unparkFails (s : State) (slot : Nat) : State :=
  let s := s.stopUnpark slot
  match s.sesAt slot with
  | none => s
  | some x => (s.setSes slot { x with damaged := true }).failUnpark slot Stat.dataLost noRetry

/-- The class of an unpark's requests: NORM for a waiting CRIT command, else BULK (table "Class of each request source"). -/
def State.unparkClass (_s : State) (x : Session) : ReqClass := if x.crit then .norm else .bulk

def State.unparkStep (s : State) (t : Transfer) : State :=
  match s.sesAt t.obj, t.pages with
  | some x, k :: rest =>
    (match Tab.get? x.pages k with
      | none => s.putXfer { t with pages := rest }
      | some e =>
        match s.unsealFrame e.roost 16 0 with
        | (s, none) => (s.flag R.ROOST_ENG_EVENT.VERIFY_FAIL R.ROOST_ENG_VERIFY_CNT.COUNT).unparkFails t.obj
        | (s, some l) =>
          let s := (s.writeLines (splitLines (e.hbm * 65536) l.flatten) false (s.unparkClass x) roostEngine).1
          let s := s.setSes t.obj { x with pages := Tab.put x.pages k { e with tier := 1 } }
          (s.putXfer { t with pages := rest, sent := t.sent + 16 }).countFrame 16)
  | _, _ => s

/-- HBM frames for every page of an unpark; none where they are short. -/
def State.framesFor (s : State) : List Nat → Option (State × List Nat)
  | [] => some (s, [])
  | _ :: r =>
    match s.allocHbm with
    | none => none
    | some (s, f) => match s.framesFor r with | none => none | some (s, l) => some (s, f :: l)

/-- An unpark begins (R52, R53); short of HBM frames it triggers hard-pressure parks and waits. -/
def State.unparkBegin (s : State) (t : Transfer) (x : Session) : State × Bool :=
  match s.framesFor t.pages with
  | none =>
    let s := if x.framesAt.isNone then s.setSes t.obj { x with framesAt := some s.epoch } else s
    (s.hardParks t.pages.length, false)
  | some (s, l) =>
    let pages := (t.pages.zip l).foldl (fun p kf => match Tab.get? p kf.1 with | some e => Tab.put p kf.1 { e with hbm := kf.2 } | none => p) x.pages
    ((s.setSes t.obj { x with unparking := true, hbmFreed := false, framesAt := none, pages := pages }).putXfer { t with running := true }, true)

/-- The last page is in HBM, and every shard has unparked. -/
def State.unparkComplete (s : State) (slot : Nat) (shards : List (Nat × Bool)) : State :=
  match s.xfer .unpark slot, s.sesAt slot with
  | some t, some x =>
    if !(t.running && t.pages == []) then s
    else if shardLost x shards then s.unparkFails slot
    else if shardsFollow x shards then s.unparked slot x else s
  | _, _ => s

/-! ### Export (R50, R108) -/

/-- The export keys in force: the old set's while the domain is MIXED (R226). -/
def State.exportKeys (s : State) (d : Nat) : Option KeySet :=
  (s.domKeys d).pick (if s.domState d = Dom.mixed then s.rd R.CRYPT_JOURNAL.NEW_SET == 0 else s.rd R.CRYPT_DOM.CURRENT d == 1)

/-- The export header of a session (table "Export header"). -/
def exportHeader (k : KeySet) (x : Session) (stream sectors pt nonce : Nat) : List Byte :=
  let b := leBytes 4 0x4F425845 ++ leBytes 2 1 ++ leBytes 2 x.domain ++ leBytes 4 stream ++ leBytes 4 sectors ++ leBytes 4 pt ++ leBytes 4 x.length ++ leBytes 2 x.groups
    ++ List.replicate 6 0 ++ leBytes 8 x.handle ++ leBytes 8 nonce ++ List.replicate 64 0
  b ++ exportHeaderTag k b

/-- A message of a transfer to the gateway, in BULK. -/
def State.toGateway (s : State) (kind : KKind) (w : List Nat) (data : List Byte) (for_ : OutFor) : State :=
  let m := { s.newMsg kind s.pkg w with data := data, cls := 2 }
  s.requestGw { m with slots := m.expect } roostEngine for_

/-- One sector record of an export. -/
def State.sendExport (s : State) (slot stream idx : Nat) (k : KeySet) (plain : List Byte) : State :=
  let c := xtsEnc k.ex1 k.ex2 (stream * 2 ^ 32 + idx) plain
  let tag := leNat (exportSectorTag k stream idx c)
  s.toGateway .expSec [idx, tag % 2 ^ 64, tag / 2 ^ 64] c (.export_ slot)

/-- The plaintext sectors of a KV page where it lies. -/
def State.pagePlain (s : State) (e : PageEnt) : State × Option (List (List Byte)) :=
  if e.tier = 1 ∧ e.clean = false then
    (List.range 16).foldl (fun (a : State × Option (List (List Byte))) i =>
      match a with
      | (s, some l) => let (s, b, p) := s.hbmSector e.hbm i; (s, if p then none else some (l ++ [b]))
      | r => r) (s, some [])
  else s.unsealFrame e.roost 16 0

def State.sendSectors (s : State) (slot stream : Nat) (k : KeySet) : Nat → List (List Byte) → State
  | _, [] => s
  | i, l :: r => (s.sendExport slot stream i k l).sendSectors slot stream k (i + 1) r

/-- The stream that a session's SESSION_EXPORT names. -/
def State.streamOf (s : State) (slot : Nat) : Nat :=
  match s.tci.running.find? (fun r => r.wait == .export_ && r.arg == slot) with | some r => r.arg2 | none => 0

def State.exportStep (s : State) (t : Transfer) : State :=
  match s.sesAt t.obj with
  | none => s.dropXfer .export_ t.obj
  | some x =>
    match s.exportKeys x.domain with
    | none => if x.tampered then s.endExport t.obj Stat.tampered noRetry else s.endExport t.obj Stat.notReady 20
    | some k =>
      let stream := s.streamOf t.obj
      let pt := ptSectors x.groups x.length
      if 0 < t.ptLeft then
        let n := min 16 (pt - t.sent)
        let s := s.sendSectors t.obj stream k t.sent ((List.range n).map (fun i => ptSector x.groups x.length x.pages x.shards (t.sent + i)))
        (s.putXfer { t with ptLeft := t.ptLeft - 1, sent := t.sent + n, committed := t.pages == [] && t.ptLeft == 1 }).countFrame n
      else
        match t.pages with
        | [] => s.putXfer { t with committed := true }
        | p :: rest =>
          match Tab.get? x.pages p with
          | none => s.putXfer { t with pages := rest }
          | some e =>
            match s.pagePlain e with
            | (s, none) => s.endExport t.obj Stat.dataLost noRetry
            | (s, some l) =>
              (((s.sendSectors t.obj stream k t.sent l).putXfer { t with pages := rest, sent := t.sent + 16, committed := rest == [] })).countFrame 16

/-- An export begins with its header. -/
def State.exportBegin (s : State) (t : Transfer) (x : Session) : State × Bool :=
  match s.exportKeys x.domain with
  | none => (if x.tampered then s.endExport t.obj Stat.tampered noRetry else s.endExport t.obj Stat.notReady 20, false)
  | some k =>
    let pt := ptSectors x.groups x.length
    let h := exportHeader k x (s.streamOf t.obj) (pt + 16 * t.pages.length) pt (s.rd R.TIME_NONCE)
    ((s.toGateway .expHdr [] h (.export_ t.obj)).putXfer { t with running := true }, true)

/-- The ACK of the last export message has arrived: EXPORTED, and every frame is freed. -/
def State.exported (s : State) (slot : Nat) (t : Transfer) (x : Session) : State :=
  let s := ((s.dropXfer .export_ slot).freeHbm x.hbmFrames).releaseFrames x.roostFrames
  let s := s.setSes slot { x with
    st := .exported, under := false, pages := [], newFrames := [], ptFrames := [], recs := [], hbmFreed := true, runnable := false, buddyDue := false }
  s.tci.running.foldl (fun s r => if r.wait == .export_ && r.arg == slot then s.endRun r.i.seq Stat.ok (128 + 4128 * t.sent) t.sent else s) s

/-- An export message has been answered, with its STATUS if it has. -/
def State.exportAnswer (s : State) (slot : Nat) (m : Option KMsg) : State :=
  match s.xfer .export_ slot, s.sesAt slot with
  | some t, some x =>
    (match m with
      | none => s.endExport slot stLinkLost retryLinkLost
      | some a =>
        if a.status ≠ 0 then s.endExport slot stLinkLost retryLinkLost
        else if t.committed && !s.ktl.outst.any (fun o => o.for_ == .export_ slot) && !s.ktl.todo.any (fun o => o.1.for_ == .export_ slot) then s.exported slot t x else s)
  | _, _ => s

/-- An export that its session's state now admits joins the queue. -/
def State.queueExports (s : State) : State :=
  s.ses.table.foldl (fun s e =>
    let x := e.2
    if !x.under || x.closing || x.parking || (x.st == .active && s.hasWork e.1 x) || (s.xfer .export_ e.1).isSome then s
    else
      match s.enqueue .export_ e.1 5 (x.pages.map (·.1)) (ptFrameCount x) with
      | (s, true) => s
      | (s, false) => s.endExport e.1 Stat.busy s.xferCode) s

/-! ### Buddy copies (R54) -/

def State.sendBuddy (s : State) (x : Session) (slot : Nat) (kind : KKind) (w : List Nat) (data : List Byte) : State :=
  let m := { s.newMsg kind x.buddyPkg w with data := data, cls := 2 }
  s.request x.buddyPkg { m with slots := m.expect } roostEngine (.buddy slot)

/-- The version of the key set that a record names. -/
def State.recVersion (s : State) (r : SecRec) : Nat := match (s.domKeys r.domain).pick r.setB with | some k => k.version | none => 0

/-- The sectors of one frame are sent as they lie in Roost. -/
def State.sendFrame (s : State) (x : Session) (slot f n : Nat) : State :=
  (List.range n).foldl (fun s i =>
    let sec := 16 * f + i
    let s := s.mergeSettle sec
    let r := s.secRec sec
    let tag := leNat r.tag
    s.sendBuddy x slot .buddySec [r.lsn, tag % 2 ^ 64, tag / 2 ^ 64, r.sealCtr, r.domain, s.recVersion r] (s.cipherOf sec)) s

/-- After the last frame: the commit record, its key version and the image's address. -/
def State.sendBuddyCommit (s : State) (x : Session) (slot : Nat) : State :=
  match s.current slot x with
  | none => s.dropBuddySend slot
  | some r =>
    let v := match (s.domKeys x.domain).pick (s.sealSet x.domain) with | some k => k.version | none => 0
    s.sendBuddy x slot .buddyCommit [v, match r.pt with | f :: _ => frameAddr f | [] => 0] (s.storedLine (commitAddr slot r.posB))

def State.buddyStep (s : State) (t : Transfer) : State :=
  match s.sesAt t.obj with
  | none => s.dropXfer .buddySend t.obj
  | some x =>
    match t.pages with
    | k :: rest =>
      let f := match Tab.get? x.pages k with | some e => e.roost | none => 0
      if f = 0 then s.dropBuddySend t.obj
      else
        let s := ((s.sendFrame x t.obj f 16).putXfer { t with pages := rest, sent := t.sent + 16, committed := rest == [] && t.ptLeft == 0 }).countFrame 16
        if rest = [] ∧ t.ptLeft = 0 then s.sendBuddyCommit x t.obj else s
    | [] =>
      if t.ptLeft = 0 then (if t.committed then s else (s.putXfer { t with committed := true }).sendBuddyCommit x t.obj)
      else
        let pt := s.lastImage t.obj x
        let i := pt.length - t.ptLeft
        match pt[i]? with
        | none => s.dropBuddySend t.obj
        | some f =>
          let n := min 16 (ptSectors x.groups x.length - 16 * i)
          let s := ((s.sendFrame x t.obj f n).putXfer { t with ptLeft := t.ptLeft - 1, sent := t.sent + n, committed := t.ptLeft == 1 }).countFrame n
          if t.ptLeft = 1 then s.sendBuddyCommit x t.obj else s

/-- The link on which a message to `t` would leave is open and nothing waits on it (R206). -/
def State.linkReady (s : State) (t : Nat) : Bool :=
  let n := if t = s.pkg then t else if s.rkind t = rtRelay then s.rvia t else t
  (decide (t = s.pkg) || s.routeUsable t) && s.linkOpen n && (s.link n).txWait == []

/-- A buddy message has been answered. -/
def State.buddyAnswer (s : State) (slot : Nat) (kind : KKind) (m : Option KMsg) : State :=
  match s.sesAt slot with
  | none => s
  | some x =>
    let ok := match m with | some a => a.status == 0 | none => false
    if ok then
      (if kind = .buddyCommit ∧ x.buddy = .pending ∧ (s.xfer .buddySend slot).isSome then
        (s.dropXfer .buddySend slot).setSes slot { x with
          buddy := .held, buddyDue := false, pages := x.pages.map (fun e => (e.1, { e.2 with buddy := true })) }
       else s)
    else if (s.xfer .buddySend slot).isNone then s
    else s.dropBuddySend slot

/-- The whole copy is sent again (R54). -/
def State.buddyRetry (s : State) (slot : Nat) : State :=
  match s.sesAt slot with
  | none => s
  | some x => if x.buddyDue && x.buddy == .pending && decide (x.buddyTryAt + 1000000000 ≤ s.epoch) then s.buddyStart slot else s

/-! ### Buddy receipts (R54, R59, R202, R206) -/

/-- The lowest entry of the buddy directory that is not in use. -/
def State.freeDir (s : State) : Nat := lowestFree (s.ses.buddies.foldl (fun l b => sinsert l b.idx) []) 0

/-- An entry's two lines in the buddy directory (table "Roost metadata area"): the home handle and the page-table image's address, then the held commit record (log 132 gives the places). -/
def State.dirWrite (s : State) (idx : Nat) (head record : List Byte) : State :=
  let a := dirBase + idx * 128
  (s.putLine a (slice (head ++ List.replicate 64 0) 0 64) false).putLine (a + 64) (slice (record ++ List.replicate 64 0) 0 64) false

/-- A directory entry is stored, in the engine and in the metadata area. -/
def State.putBuddy (s : State) (b : BuddyEnt) : State :=
  let image := match b.frames.drop (leNat (slice b.record 16 4)) with | f :: _ => frameAddr f | [] => 0
  (s.updSes (fun t => { t with buddies := t.buddies.filter (fun x => x.handle != b.handle) ++ [b] })).dirWrite b.idx (leBytes 8 b.handle ++ leBytes 8 image) b.record

/-- A directory entry is cleared. -/
def State.dropBuddy (s : State) (b : BuddyEnt) : State :=
  (s.updSes (fun t => { t with buddies := t.buddies.filter (fun x => x.handle != b.handle) })).dirWrite b.idx [] []

/-- The frame that a sector of a copy goes to: that taken for the home's frame, or a new one. A copy's sectors name the home's frames by their logical sector numbers. -/
def State.recvFrame (s : State) (p home : Nat) : Option (State × Nat) :=
  let l := (Tab.get s.ses.incoming p { frames := [] }).frames
  match l.find? (fun e => e.1 == home) with
  | some e => some (s, e.2)
  | none =>
    match s.takeFrame with
    | none => none
    | some (s, f) => some (s.updSes (fun t => { t with incoming := Tab.put t.incoming p { frames := l ++ [(home, f)] } }), f)

/-- A copy's first sector of a frame moves that frame behind those received before it: the frames of the last copy stand last, in page order. -/
def State.recvOrder (s : State) (p home : Nat) : State :=
  s.updSes (fun t => { t with incoming := Tab.upd t.incoming p { frames := [] } (fun b => { frames := b.frames.filter (fun e => e.1 != home) ++ b.frames.filter (fun e => e.1 == home) }) })

/-- One ciphertext sector of a copy is stored under its logical sector number. -/
def State.recvSector (s : State) (link : Nat) (m : KMsg) : State :=
  let lsn := lget m.w 0 0
  let i := lsn % 16
  match s.recvFrame m.origin (lsn / 16) with
  | none => (s.dropIncoming m.origin).statusTo link m KSt.failed
  | some (s, f) =>
    let s := if i = 0 then s.recvOrder m.origin (lsn / 16) else s
    let d := lget m.w 4 0 % 4096
    let k := s.domKeys d
    let v := lget m.w 5 0
    let isV := fun (x : Option KeySet) => match x with | some y => y.version == v | none => false
    let r : SecRec := {
      tag := leBytes 16 (lget m.w 1 0 + lget m.w 2 0 * 2 ^ 64), sealCtr := lget m.w 3 0, nextCtr := 0, lsn := lsn, domain := d,
      setB := !isV k.a && isV k.b, valid := true, worn := false, failed := !isV k.a && !isV k.b }
    (((s.mergeSettle (16 * f + i)).rawStore (16 * f + i) r m.data).mergeTurn.bump R.ROOST_ENG_BYTES 4096).statusTo link m KSt.ok

/-- The frames of a commit record's pages and page-table image. -/
def recordFrames (rec_ : List Byte) : Nat := leNat (slice rec_ 16 4) + cdiv (ptSectors (leNat (slice rec_ 20 2)) (leNat (slice rec_ 24 4))) 16

/-- After the copy's last frame: the copy takes the place of the one held for its handle; frames of a copy that its home gave up go back (log 132). -/
def State.recvCommit (s : State) (link : Nat) (m : KMsg) : State :=
  let h := leNat (m.data.take 8)
  let old := s.ses.buddies.find? (fun e => e.handle == h)
  if old = none ∧ 131072 ≤ s.ses.buddies.length then (s.dropIncoming m.origin).statusTo link m KSt.failed
  else
    let l := (Tab.get s.ses.incoming m.origin { frames := [] }).frames
    let n := l.length - recordFrames m.data
    let s := (s.dropXfer .buddyRecv m.origin).updSes (fun t => { t with incoming := Tab.del t.incoming m.origin })
    let s := s.releaseFrames ((match old with | some e => e.frames | none => []) ++ (l.take n).map (·.2))
    let idx := match old with | some e => e.idx | none => s.freeDir
    let s := s.putBuddy { idx := idx, handle := h, home := m.origin, record := slice (m.data ++ List.replicate 64 0) 0 64, frames := (l.drop n).map (·.2) }
    s.statusTo link m KSt.ok

/-- A message of a receipt, in its turn. -/
def State.recvServe (s : State) (link : Nat) (m : KMsg) : State := if m.kind = .buddyCommit then s.recvCommit link m else s.recvSector link m

/-- A message of a transfer that does not run yet, or whose tier is in reset, waits (R59, R202). -/
def State.holdXferMsg (s : State) (link : Nat) (m : KMsg) : State := s.updRoost (fun r => { r with msgs := r.msgs ++ [(link, m)] })

/-- BUDDY_DEL: the copy of a handle is deleted. -/
def State.buddyDelMsg (s : State) (link : Nat) (m : KMsg) : State :=
  let h := lget m.w 0 0
  match s.ses.buddies.find? (fun e => e.handle == h && e.home == m.origin) with
  | none => s.statusTo link m KSt.ok
  | some e => ((s.releaseFrames e.frames).dropBuddy e).statusTo link m KSt.ok

/-- CLAIM: the live session of a recovered handle is closed (R55). -/
def State.claimMsg (s : State) (link : Nat) (m : KMsg) : State :=
  let h := lget m.w 0 0
  let s := match s.sesAt (hSlot h) with
    | some x => if x.handle = h ∧ x.closing = false then s.beginClose (hSlot h) else s
    | none => s
  s.statusTo link m KSt.ok

/-- Claims that are owed are sent once a route exists. -/
def State.sendClaims (s : State) : State :=
  s.ses.claims.foldl (fun s c =>
    let t := hHome c.1
    if !s.routeUsable t then s
    else
      let m := s.newMsg .claim t [c.1, c.2]
      (s.updSes (fun x => { x with claims := x.claims.filter (· != c) })).request t { m with slots := m.expect } tirlo (.claim c.1 c.2)) s

/-! ### Import (R108) -/

def State.setImport (s : State) (i : ImportSt) : State :=
  s.updSes (fun t => { t with imports := t.imports.map (fun j => if j.stream = i.stream then i else j) })

/-- The import that a message of the gateway belongs to: that with the stream of a header, or the one whose header has come. -/
def State.importBegin (s : State) (t : Transfer) : State × Bool :=
  ((s.putXfer { t with running := true }).toGateway .impReq [t.obj] [] (.imp t.obj), true)

def State.importHeader (s : State) (link : Nat) (m : KMsg) : State :=
  let f := fun i n => leNat (slice m.data i n)
  match s.ses.imports.find? (fun i => i.stream == f 8 4 && !i.header && (match s.xfer .import_ i.stream with | some t => t.running | none => false)) with
  | none => s.statusTo link m KSt.badMsg
  | some i =>
    let s := s.updKtl (fun k => { k with outst := k.outst.filter (fun o => o.for_ != .imp i.stream) })
    let dom := f 6 2
    if dom ≠ i.domain then (s.endImport i.stream Stat.denied noRetry).statusTo link m KSt.failed
    else
      match s.exportKeys i.domain with
      | none => (s.endImport i.stream Stat.dataLost noRetry).statusTo link m KSt.failed
      | some k =>
        let groups := f 24 2
        let ok := f 0 4 == 0x4F425845 && f 4 2 == 1 && decide (1 ≤ groups ∧ groups ≤ 1024) && decide (f 20 4 ≤ 16777216) && f 16 4 == ptSectors groups (f 20 4)
          && decide (f 16 4 ≤ f 12 4) && exportHeaderTag k (m.data.take 112) == slice m.data 112 16
        if !ok then (s.endImport i.stream Stat.dataLost noRetry).statusTo link m KSt.failed
        else (s.setImport { i with header := true, groups := groups, length := f 20 4, pt := f 16 4, sectors := f 12 4 }).statusTo link m KSt.ok

/-- An import's last record has been stored: the session exists, PARKED. -/
def State.imported (s : State) (i : ImportSt) : State :=
  match s.freeSlot with
  | none => s.endImport i.stream Stat.busy 10
  | some slot =>
    if 0x40000000000 ≤ s.ses.gen then s.endImport i.stream Stat.exhausted noRetry
    else
      let h := s.handleOf slot s.ses.gen
      let keys := pageKeys i.groups i.length
      let pages := (keys.zip i.frames).map (fun e => (e.1, { tier := 2, clean := false, buddy := false, hbm := 0, roost := e.2 : PageEnt }))
      let x := { newSession h i.groups i.domain 2000 i.buddyPkg with st := .parked, length := i.length, pages := pages }
      let s := (s.dropXfer .import_ i.stream).updSes (fun t => { t with gen := t.gen + 1, imports := t.imports.filter (fun j => j.stream != i.stream) })
      ((s.setSes slot x).firstRecord slot []).endRun i.seq Stat.ok h

/-- One sector record of the stream of an import, verified and stored. A record that finds no free Roost frame ends the import with BUSY_RETRY and code 20 (log 133). -/
def State.importRecord (s : State) (link : Nat) (m : KMsg) (i : ImportSt) : State :=
  let fail := fun (s : State) (st rt : Nat) => (s.endImport i.stream st rt).statusTo link m KSt.failed
  match s.exportKeys i.domain with
  | none => fail s Stat.dataLost noRetry
  | some k =>
    let idx := lget m.w 0 0
    let tag := leBytes 16 (lget m.w 1 0 + lget m.w 2 0 * 2 ^ 64)
    if s.roostDead ∨ idx ≠ i.got ∨ exportSectorTag k i.stream idx m.data ≠ tag then fail s Stat.dataLost noRetry
    else
      let done := fun (s : State) (i : ImportSt) =>
        let s := (s.setImport i).statusTo link m KSt.ok
        if i.got = i.sectors then s.imported i else s
      if idx < i.pt then done s { i with got := i.got + 1 }
      else
        let j := (idx - i.pt) % 16
        match (if j = 0 then s.takeFrame else some (s, (i.frames.getLast?).getD 0)) with
        | none => fail s Stat.busy 20
        | some (s, fr) =>
          let i := { i with got := i.got + 1, frames := if j = 0 then i.frames ++ [fr] else i.frames }
          match (s.setImport i).sealFrameSector fr j i.domain (xtsDec k.ex1 k.ex2 (i.stream * 2 ^ 32 + idx) m.data) false with
          | (s, .ok) => done (s.countFrame 1) i
          | (s, .empty) => fail s Stat.notReady 20
          | (s, _) => fail s (if s.hoodedService then Stat.tampered else Stat.exhausted) noRetry

/-- EXP_SEC in its turn: the record belongs to the import whose header has come. -/
def State.importServe (s : State) (link : Nat) (m : KMsg) : State :=
  match s.ses.imports.find? (fun i => i.header) with
  | none => s.statusTo link m KSt.badMsg
  | some i => s.importRecord link m i

/-- EXP_SEC: stored at once, or held while the tier is in reset or earlier records of the stream are held (R59, R202). -/
def State.importSector (s : State) (link : Nat) (m : KMsg) : State :=
  if (s.ses.imports.any (fun i => i.header)) && ((!s.roostUp && !s.roostDead) || s.roost.msgs.any (fun e => e.2.kind == .expSec)) then s.holdXferMsg link m
  else s.importServe link m

/-! ### Starting and stepping transfers (R203, R206) -/

/-- A transfer that comes to start while the tier is FAILED ends. -/
def State.xferDead (s : State) (t : Transfer) : State :=
  match t.kind with
  | .park => s.endParkFail t.obj Stat.busy 20
  | .unpark => s.unparkFails t.obj
  | .export_ => s.endExport t.obj Stat.dataLost noRetry
  | .import_ => s.endImport t.obj Stat.dataLost noRetry
  | .buddySend => s.dropBuddySend t.obj
  | .buddyRecv =>
    let mine := fun (e : Nat × KMsg) => e.2.kind != .expSec && e.2.origin == t.obj
    let l := s.roost.msgs.filter mine
    l.foldl (fun s e => s.statusTo e.1 e.2 KSt.failed) ((s.updRoost (fun r => { r with msgs := r.msgs.filter (fun e => !mine e) })).dropIncoming t.obj)

/-- A transfer starts, if it can. -/
def State.xferBegin (s : State) (t : Transfer) : State × Bool :=
  if s.roostDead then (s.xferDead t, false)
  else
    match t.kind with
    | .park => (s.putXfer { t with running := true }, true)
    | .unpark => (match s.sesAt t.obj with | some x => s.unparkBegin t x | none => (s.dropXfer .unpark t.obj, false))
    | .export_ => (match s.sesAt t.obj with | some x => s.exportBegin t x | none => (s.dropXfer .export_ t.obj, false))
    | .import_ => s.importBegin t
    | .buddySend | .buddyRecv => (s.putXfer { t with running := true }, true)

def State.runCount (s : State) : Nat := (s.roost.xfers.filter (fun x => x.running)).length

/-- Queued transfers that `p` selects, by class and then in arrival order. -/
def State.xferOrder (s : State) (p : Transfer → Bool) : List Transfer :=
  (s.roost.xfers.filter (fun x => !x.running && p x)).mergeSort (fun a b => decide (a.cls < b.cls ∨ (a.cls = b.cls ∧ a.seq ≤ b.seq)))

/-- The first of a list that starts. -/
def State.startFirst (s : State) : List Transfer → State × Bool
  | [] => (s, false)
  | t :: r => match s.xferBegin t with | (s, true) => (s, true) | (s, false) => s.startFirst r

/-- A queued transfer starts when a run position is free (R206). The engine claims XFER_W while any transfer runs: the first to run needs that claim to fit the window's credits (R319). -/
def State.transferStart (s : State) : State :=
  let first := !s.xferRunning
  if s.runMax ≤ s.runCount ∨ (!s.roostUp ∧ !s.roostDead) ∨ (first ∧ !s.fits (creditsOf s.xferMw) ∧ !s.roostDead) then s
  else
    match s.startFirst (s.xferOrder (fun _ => true)) with
    | (s, true) => if first then s.book (creditsOf s.xferMw) else s
    | (s, false) => s

/-- The messages that wait for a transfer. -/
def State.msgsOf (s : State) (t : Transfer) : List (Nat × KMsg) :=
  s.roost.msgs.filter (fun e => match t.kind with | .import_ => e.2.kind == .expSec && s.ses.imports.any (fun i => i.header && i.stream == t.obj) | .buddyRecv => e.2.kind != .expSec && e.2.origin == t.obj | _ => false)

/-- Up to a page of the messages that wait for a transfer is served, in order. -/
def State.serveMsgs (s : State) (t : Transfer) : State :=
  let l := (s.msgsOf t).take 16
  l.foldl (fun s e => if t.kind = .import_ then s.importServe e.1 e.2 else s.recvServe e.1 e.2) (s.updRoost (fun r => { r with msgs := r.msgs.filter (fun e => !l.contains e) }))

/-- No other copy to the same buddy package is being sent before this one: BUDDY_SEC names no copy, so the engine sends them one after another (log 132). -/
def State.firstTo (s : State) (t : Transfer) (p : Nat) : Bool :=
  !s.roost.xfers.any (fun y => y.kind == .buddySend && y.running && decide (y.seq < t.seq) && (match s.sesAt y.obj with | some x => x.buddyPkg == p | none => false))

/-- A running transfer can take its next page; one whose other end is a Kettle link only when its link is ready, or has brought something (R206). -/
def State.canStep (s : State) (t : Transfer) : Bool :=
  t.running && !t.committed &&
  (match t.kind with
    | .park => t.pages != [] || t.ptLeft != 0
    | .unpark => t.pages != []
    | .export_ => s.linkReady s.pkg
    | .import_ | .buddyRecv => s.msgsOf t != []
    | .buddySend => match s.sesAt t.obj with | some x => s.linkReady x.buddyPkg && s.firstTo t x.buddyPkg | none => true)

/-- The next page of the pipeline, in round robin over the running transfers. -/
def State.pageTransfer (s : State) : State :=
  if !s.roostUp then s
  else
    let l := s.roost.xfers.filter s.canStep
    match (match l.find? (fun t => decide (s.roost.rr < t.seq)) with | some t => some t | none => l.head?) with
    | none => s
    | some t =>
      let s := s.updRoost (fun r => { r with rr := t.seq })
      let s := match t.kind with
        | .park => s.parkStep t
        | .unpark => s.unparkStep t
        | .export_ => s.exportStep t
        | .import_ | .buddyRecv => s.serveMsgs t
        | .buddySend => s.buddyStep t
      s.keepQuarter

/-- The receipt of a copy from a package joins the queue with the first message of it, and starts at once where nothing waits before it (R206); false where it cannot. -/
def State.openReceipt (s : State) (p : Nat) : State × Bool :=
  if (s.xfer .buddyRecv p).isSome then (s, true)
  else
    match s.enqueue .buddyRecv p 5 [] 0 with
    | (s, false) => (s, false)
    | (s, true) => (if (s.roost.xfers.filter (fun x => !x.running)).length = 1 then s.transferStart else s, true)

/-- A message of a receipt: served at once while its receipt runs and none before it waits, else held (R59, R202). A receipt that a full transfer queue turns away is answered TARGET_FAILED, so that its home sends
the copy again (log 132). -/
def State.recvMsg (s : State) (link : Nat) (m : KMsg) : State :=
  if s.roostDead then (s.dropIncoming m.origin).statusTo link m KSt.failed
  else
    match s.openReceipt m.origin with
    | (s, false) => s.statusTo link m KSt.failed
    | (s, true) =>
      match s.xfer .buddyRecv m.origin with
      | none => s.statusTo link m KSt.failed
      | some t => if t.running && s.roostUp && s.msgsOf t == [] then s.recvServe link m else s.holdXferMsg link m

/-- BUDDY_SEC and BUDDY_COMMIT. -/
def State.buddySecMsg (s : State) (link : Nat) (m : KMsg) : State := s.recvMsg link m
def State.buddyCommitMsg (s : State) (link : Nat) (m : KMsg) : State := s.recvMsg link m

/-- The deferral of an unpark (R52). -/
def State.unparkDefer (s : State) (slot : Nat) : State :=
  match s.sesAt slot with
  | none => s
  | some x =>
    if x.runnable && !x.unparking && decide (x.runnableAt + 100000000 ≤ s.epoch) then
      ((s.dropXfer .unpark slot).deferred).failUnpark slot Stat.deferred (s.deferCode (creditsOf s.xferMw))
    else s

/-- HBM frames still short 10 ms after the unpark met them short (R53); an unpark whose frames have become free meanwhile waits for its start. -/
def State.unparkFrames (s : State) (slot : Nat) : State :=
  match s.sesAt slot with
  | none => s
  | some x =>
    match x.framesAt with
    | none => s
    | some t => if x.unparking ∨ s.epoch < t + 10000000 ∨ (s.framesFor (x.pages.map (·.1))).isSome then s else (s.dropXfer .unpark slot).failUnpark slot Stat.busy 14

/-! ### Failure and reset of the tier (R59, R202, R203) -/

/-- The sessions' side of a FAILED tier. -/
def State.tierFailed (s : State) : State :=
  let s := (s.roost.xfers.filter (fun t => t.running)).foldl State.xferDead s
  s.updSes (fun t => { t with table := t.table.map (fun e => if e.2.st == .parked then (e.1, { e.2 with damaged := true }) else e) })

/-- A Roost block or the engine enters BLOCK reset: running parks end, running unparks go back to the queue. -/
def State.roostEngineStops (s : State) : State :=
  (s.roost.xfers.filter (fun t => t.running)).foldl (fun s t =>
    match t.kind with
    | .park => s.endPark t.obj Stat.notReady 10
    | .unpark =>
      match s.sesAt t.obj with
      | none => s
      | some x => (s.stopUnpark t.obj).setXfers (fun l => { t with running := false, pages := x.pages.map (·.1), sent := 0 } :: l)
    | _ => s) s

end Sys2Proof.Machine
end

