-- ==== Sys2Proof/Machine/BufOps.lean ====
section
/-! DEFINITION. Memory on behalf of a command or a run as shared operations (R91 to R94, R25, "Buffer addresses"): the parameter checks, the dispatch check, the requests that move a buffer's bytes one line at a
time, and the reads of a source buffer on another package. -/

namespace Sys2Proof.Machine

/-! ### Buffer addresses -/

/-- SPACE 1: a PCIe address. -/
def bufHost (w : Nat) : Bool := natBit w 63
/-- The buffer lies on this package. -/
def State.bufLocal (s : State) (w : Nat) : Bool := !bufHost w && w % 2 ^ 56 / 2 ^ 50 == s.pkg
def bufOff (w : Nat) : Nat := w % 2 ^ 50
/-- The buffer lies on another package. -/
def State.bufRemote (s : State) (w : Nat) : Bool := !bufHost w && !s.bufLocal w

/-- R91 for a buffer address word. -/
def State.badBuf (s : State) (c : Cmd) (w : Nat) : Bool := if bufHost w then s.cmdPartner c != pcie else decide (2 ^ 56 ≤ w % 2 ^ 63)

/-- R92. -/
def badLen (n : Nat) : Bool := n == 0 || n % 64 != 0 || decide (2 ^ 30 < n)

/-- [a, a + n) and [b, b + m) have an address in common. -/
def rangesMeet (a n b m : Nat) : Bool := decide (a < b + m) && decide (b < a + n)

/-- The class of a command's own memory traffic (R70, R111): CRIT where it runs as CRIT, else what MEM_COPY's P3 selects, else NORM. -/
def ICmd.cls (i : ICmd) : ReqClass := if i.crit then .crit else if i.c.opcode = 0x0200 ∧ i.c.p 3 % 4 = 1 then .bulk else .norm

/-! ### The dispatch check (R93, R94) -/

/-- R94: the range meets an HBM or Roost frame of a session, the session table or a page table, or a queue ring with its head shadow. -/
def State.reservedFor (s : State) (a n : Nat) : Bool :=
  let frames := fun (base : Nat) (l : List Nat) => l.any (fun f => rangesMeet a n (base + f * 65536) 65536)
  frames 0 s.ses.hbmUsed || frames roostBase ((s.roost.frames.filter (fun e => e.2 == Frame.used || e.2 == Frame.clean)).map (·.1))
    || rangesMeet a n (s.ses.tabFirst * 65536) (s.ses.tabCount * 65536)
    || s.qps.any (fun q => !s.inHost q
        && (rangesMeet a n (s.sqBase q % 2 ^ 50) (64 * s.sqDepth q) || rangesMeet a n (s.rqBase q % 2 ^ 50) (32 * s.rqDepth q + 8)))

/-- The check of a whole range of this package under the rules in force. -/
def State.rangeOk (s : State) (m : Master) (k : AccKind) (a n : Nat) : Bool :=
  n == 0 || (!s.reservedFor a n && rangeOf a != .csr && (jessDecide s.masterTable m k a n).isNone)

/-- R93 for one buffer: a PCIe address and another package's memory are not checked here. -/
def State.bufOk (s : State) (c : Cmd) (k : AccKind) (w n : Nat) : Bool := !s.bufLocal w || s.rangeOk (s.acting c) k (bufOff w) n

/-- The buffers of a command pass R93 and R94: each with its kind and length. -/
def State.bufsOk (s : State) (c : Cmd) (l : List (AccKind × Nat × Nat)) : Bool := l.all (fun b => s.bufOk c b.1 b.2.1 b.2.2)

/-! ### Requests under an identity -/

/-- The ends of a request to this package's own memory that no response STATUS tells: a seal in a key domain that is EMPTY (R469) or FROZEN (R224), a seal or unseal in HOODED_SERVICE (R386). -/
def KSt.empty : Nat := 256
def KSt.frozen : Nat := 257
def KSt.tampered : Nat := 258

/-- The status of a command that a response STATUS stops (R93, table of R133; R223, R469). -/
def stOfK (k : Nat) : Nat :=
  if k = KSt.jess then Stat.denied else if k = KSt.empty then Stat.notReady else if k = KSt.frozen then Stat.exhausted else if k = KSt.tampered then Stat.tampered
  else Stat.faulted

/-- Its RETRY_AFTER code. -/
def retryOfK (k : Nat) : Nat := if k = KSt.empty then 20 else noRetry

def PortEnd.st : PortEnd → Nat
  | .ok => KSt.ok
  | .err => KSt.failed
  | .empty => KSt.empty
  | .frozen => KSt.frozen

/-- What a port that refuses or fails a request at `a` answers: a Jess refusal, in HOODED_SERVICE the refusal of a seal or unseal (R386), else a failed target. -/
def State.portFail (s : State) (jess : Bool) (a k : Nat) : Nat :=
  if k = KSt.ok then k else if jess then KSt.jess else if s.hoodedService && (s.modeAt (s.checkerOf a) a).1 == 2 then KSt.tampered else k

/-- A read of this package's memory: its bytes and poison, or the STATUS that refuses it. -/
def State.actRead (s : State) (m : Master) (a n : Nat) (c : ReqClass := .norm) : State × (Nat ⊕ (List Byte × Bool)) :=
  if !decodes a n then (s.report (portSrc m) Cls.uc Cause.addrDecode, .inl KSt.decode)
  else if rangeOf a = .csr then (s.report (csrSource (a - csrBase)) Cls.uc Cause.csrAccess, .inl KSt.failed)
  else
    let j := s.jessFails (s.checkerOf a) m .r a n
    match s.portRead m a n c with
    | (s, some r) => (s, .inr r)
    | (s, none) => (s, .inl (s.portFail j.isSome a KSt.failed))

/-- A write of this package's memory: KSt.ok, or the STATUS that refuses it. -/
def State.actWrite (s : State) (m : Master) (a : Nat) (l : List Byte) (poison : Bool) (c : ReqClass := .norm) : State × Nat :=
  if !decodes a l.length then (s.report (portSrc m) Cls.uc Cause.addrDecode, KSt.decode)
  else if rangeOf a = .csr then (s.report (csrSource (a - csrBase)) Cls.uc Cause.csrAccess, KSt.failed)
  else
    let j := s.jessFails (s.checkerOf a) m .w a l.length
    match s.portWrite m a l poison c with
    | (s, e) => (s, s.portFail j.isSome a e.st)

/-- A Kite add of one line of this package's memory. -/
def State.actAdd (s : State) (m : Master) (op a : Nat) (l : List Byte) (poison : Bool) (c : ReqClass := .norm) : State × Nat :=
  if !decodes a l.length then (s.report (portSrc m) Cls.uc Cause.addrDecode, KSt.decode)
  else
    let j := s.jessFails (s.checkerOf a) m .a a l.length
    match s.portAdd m op a l poison c with
    | (s, true) => (s, KSt.ok)
    | (s, false) => (s, if j.isSome then KSt.jess else KSt.failed)

/-- A write of bytes of another package's memory: WR for a whole line, WR_MASK for a part of one. -/
def State.sendWrites (s : State) (t : Nat) (who : Master) (c : ReqClass) (poison : Bool) (for_ : OutFor) : List (Nat × List Byte × Nat) → State
  | [] => s
  | (a, l, mask) :: r =>
    let whole := decide (mask = 2 ^ 64 - 1)
    let m := { s.newMsg (if whole then .wr else .wrMask) t [] with cls := c.header, addr := a, lines := 1, mask := mask, data := l, poison := b2n poison }
    (s.request t m who for_).sendWrites t who c poison for_ r

/-- A Kite add of one line on another package. -/
def State.sendAdd (s : State) (t : Nat) (who : Master) (c : ReqClass) (op a : Nat) (l : List Byte) (ordered poison : Bool) (for_ : OutFor) : State :=
  s.request t { s.newMsg .add t [] with cls := c.header, addr := a, lines := 1, op := op, ordered := ordered, data := l, poison := b2n poison } who for_

/-- A read of `n` lines, within one 256 B block, of another package's memory. -/
def State.sendRead (s : State) (t : Nat) (who : Master) (c : ReqClass) (a n : Nat) (for_ : OutFor) : State :=
  s.request t { s.newMsg .rd t [] with cls := c.header, addr := a, lines := n } who for_

/-! ### A source buffer on another package (R25) -/

/-- The read of the part of a source buffer of `n` bytes that begins at offset `o`: up to the end of its 256 B block. -/
def State.fetchNext (s : State) (i : ICmd) (w n o : Nat) : State :=
  let a := w % 2 ^ 56 + o
  let k := min ((n - o) / 64) (4 - a / 64 % 4)
  s.sendRead (a / 2 ^ 50) (s.acting i.c) i.cls a k (.src i.seq o (64 * k))

/-- A command whose source buffer lies on another package waits while RD messages bring its bytes, each sent when the one before it has been answered. -/
def State.fetchStart (s : State) (i : ICmd) (w n : Nat) : State :=
  ((s.updTci (fun t => { t with srcs := Tab.put t.srcs i.seq { data := [], status := KSt.ok } })).waitOn i.seq .fetch w n).fetchNext i w n 0

/-- What an answer brings of a source buffer; with none, or with a STATUS, the reads end there. -/
def srcMore (x : ExtRead) (off : Nat) (r : Option KMsg) : ExtRead :=
  match r with
  | none => { x with status := KSt.failed }
  | some m =>
    if m.status ≠ KSt.ok then { x with status := m.status }
    else { x with data := x.data ++ m.data, bad := x.bad ++ ((List.range (m.data.length / 64)).filter (fun i => natBit m.poison i)).map (fun i => off / 64 + i) }

/-! ### Bytes of a command's buffers -/

/-- `n` bytes of the source buffer `w` from offset `o`: from this package's memory, or as the outside returned them. -/
def State.srcRead (s : State) (m : Master) (w : Nat) (x : ExtRead) (o n : Nat) (c : ReqClass := .norm) : State × (Nat ⊕ (List Byte × Bool)) :=
  if s.bufLocal w then s.actRead m (bufOff w + o) n c
  else if o + n ≤ x.data.length then (s, .inr (slice x.data o n, x.bad.contains (o / 64)))
  else (s, .inl (if x.status = KSt.ok then KSt.failed else x.status))

/-- Bytes written to the destination buffer `w` from offset `o`; on another package they leave as messages of the command. -/
def State.dstWrite (s : State) (m : Master) (seq w o : Nat) (l : List Byte) (poison : Bool) (c : ReqClass := .norm) : State × Nat :=
  if bufHost w then (s.emit (.hostWrite (w % 2 ^ 63 + o) (l.map BitVec.toNat)), KSt.ok)
  else if s.bufLocal w then s.actWrite m (bufOff w + o) l poison c
  else (s.sendWrites (w % 2 ^ 56 / 2 ^ 50) m c poison (.reduce seq o) (splitLines (w % 2 ^ 56 + o) l), KSt.ok)

/-- `n` pieces of 64 bytes from offset `o` on: each is read and given to `put`, until one is refused. The bytes done and the STATUS. -/
def State.copyLines (s : State) (get : State → Nat → State × (Nat ⊕ (List Byte × Bool))) (put : State → Nat → List Byte → Bool → State × Nat) :
    Nat → Nat → State × Nat × Nat
  | 0, o => (s, o, KSt.ok)
  | n + 1, o =>
    match get s o with
    | (s, .inl k) => (s, o, k)
    | (s, .inr (l, p)) =>
      match put s o l p with
      | (s, 0) => s.copyLines get put n (o + 64)
      | (s, k + 1) => (s, o, k + 1)

/-- A whole buffer's bytes; a poisoned line fails it. -/
def State.gather (s : State) (m : Master) (w : Nat) (x : ExtRead) (c : ReqClass) : Nat → Nat → State × (Nat ⊕ List Byte)
  | 0, _ => (s, .inr [])
  | n + 1, o =>
    match s.srcRead m w x o 64 c with
    | (s, .inl k) => (s, .inl k)
    | (s, .inr (l, p)) =>
      if p then (s, .inl KSt.failed)
      else
        match s.gather m w x c n (o + 64) with
        | (s, .inr r) => (s, .inr (l ++ r))
        | (s, .inl k) => (s, .inl k)

/-- A request was sent for the running command with this number. -/
def OutFor.ofCmd (seq : Nat) : OutFor → Bool
  | .reduce q _ => q == seq
  | _ => false

/-- Requests of a command to other packages that have not been answered, or ordered contributions that wait for a slot. -/
def State.reducing (s : State) (seq : Nat) : Bool :=
  s.ktl.outst.any (fun o => o.for_.ofCmd seq) || s.ktl.todo.any (fun t => t.1.for_.ofCmd seq) || s.hbm.ordWait.any (fun o => match o.run with | some f => f.ofCmd seq | none => false)

/-- A command stops at a response STATUS, its bytes 8 to 15 giving the bytes done. -/
def State.endK (s : State) (seq k n : Nat) : State := s.endFlags seq (stOfK k) n 0 (retryOfK k) 0

/-- A copy has done `n` bytes: the command ends, or waits for the messages it sent. -/
def State.copyEnd (s : State) (seq n k : Nat) : State :=
  if k ≠ KSt.ok then s.endK seq k n
  else if s.reducing seq then s.waitOn seq .reduce n 0
  else s.endRun seq Stat.ok n

/-! ### MEM_COPY and MEM_FILL (R111) -/

/-- MEM_COPY's move. -/
def State.copyMove (s : State) (i : ICmd) (ext : ExtRead) : State :=
  let m := s.acting i.c
  let r := s.copyLines (fun s o => s.srcRead m (i.c.p 0) ext o 64 i.cls) (fun s o l p => s.dstWrite m i.seq (i.c.p 1) o l p i.cls) (i.c.p 2 / 64) 0
  r.1.copyEnd i.seq r.2.1 r.2.2

/-- MEM_FILL's move: the pattern repeated. -/
def State.fillMove (s : State) (i : ICmd) : State :=
  let m := s.acting i.c
  let l := (List.range 8).flatMap (fun _ => leBytes 8 (i.c.p 2))
  let r := s.copyLines (fun s _ => (s, .inr (l, false))) (fun s o l p => s.dstWrite m i.seq (i.c.p 0) o l p i.cls) (i.c.p 1 / 64) 0
  r.1.copyEnd i.seq r.2.1 r.2.2

end Sys2Proof.Machine
end

