-- ==== Sys2Proof/Machine/Sha.lean ====
section
/-! DEFINITION. SHA-256 and SHA-384 (FIPS 180-4), by which plan images (R134) and boot images (R369) are checked. -/

namespace Sys2Proof.Machine

/-- A 32-bit word of the hash. -/
abbrev W32 := BitVec 32

/-- The round constants. -/
def shaK : List W32 :=
  [0x428a2f98, 0x71374491, 0xb5c0fbcf, 0xe9b5dba5, 0x3956c25b, 0x59f111f1, 0x923f82a4, 0xab1c5ed5] ++
    [0xd807aa98, 0x12835b01, 0x243185be, 0x550c7dc3, 0x72be5d74, 0x80deb1fe, 0x9bdc06a7, 0xc19bf174] ++
    [0xe49b69c1, 0xefbe4786, 0x0fc19dc6, 0x240ca1cc, 0x2de92c6f, 0x4a7484aa, 0x5cb0a9dc, 0x76f988da] ++
    [0x983e5152, 0xa831c66d, 0xb00327c8, 0xbf597fc7, 0xc6e00bf3, 0xd5a79147, 0x06ca6351, 0x14292967] ++
    [0x27b70a85, 0x2e1b2138, 0x4d2c6dfc, 0x53380d13, 0x650a7354, 0x766a0abb, 0x81c2c92e, 0x92722c85] ++
    [0xa2bfe8a1, 0xa81a664b, 0xc24b8b70, 0xc76c51a3, 0xd192e819, 0xd6990624, 0xf40e3585, 0x106aa070] ++
    [0x19a4c116, 0x1e376c08, 0x2748774c, 0x34b0bcb5, 0x391c0cb3, 0x4ed8aa4a, 0x5b9cca4f, 0x682e6ff3] ++
    [0x748f82ee, 0x78a5636f, 0x84c87814, 0x8cc70208, 0x90befffa, 0xa4506ceb, 0xbef9a3f7, 0xc67178f2]

/-- The initial hash value. -/
def shaH : List W32 := [0x6a09e667, 0xbb67ae85, 0x3c6ef372, 0xa54ff53a, 0x510e527f, 0x9b05688c, 0x1f83d9ab, 0x5be0cd19]

def shaBig0 (x : W32) : W32 := x.rotateRight 2 ^^^ x.rotateRight 13 ^^^ x.rotateRight 22
def shaBig1 (x : W32) : W32 := x.rotateRight 6 ^^^ x.rotateRight 11 ^^^ x.rotateRight 25
def shaSmall0 (x : W32) : W32 := x.rotateRight 7 ^^^ x.rotateRight 18 ^^^ (x >>> 3)
def shaSmall1 (x : W32) : W32 := x.rotateRight 17 ^^^ x.rotateRight 19 ^^^ (x >>> 10)

/-- `n` further words of the message schedule, newest first. -/
def shaSchedule : Nat → List W32 → List W32
  | 0, w => w
  | n + 1, w => shaSchedule n ((shaSmall1 (lget w 1 0) + lget w 6 0 + shaSmall0 (lget w 14 0) + lget w 15 0) :: w)

/-- One round on the eight working variables. -/
def shaRound (v : List W32) (kw : W32 × W32) : List W32 :=
  let a := lget v 0 0
  let e := lget v 4 0
  let t1 := lget v 7 0 + shaBig1 e + ((e &&& lget v 5 0) ^^^ (~~~e &&& lget v 6 0)) + kw.1 + kw.2
  let t2 := shaBig0 a + ((a &&& lget v 1 0) ^^^ (a &&& lget v 2 0) ^^^ (lget v 1 0 &&& lget v 2 0))
  [t1 + t2, a, lget v 1 0, lget v 2 0, lget v 3 0 + t1, e, lget v 5 0, lget v 6 0]

/-- A block's sixteen big-endian words. -/
def shaWords : Nat → List Nat → List W32
  | 0, _ => []
  | n + 1, l => BitVec.ofNat 32 (beNat (l.take 4)) :: shaWords n (l.drop 4)

def shaBlock (h : List W32) (blk : List Nat) : List W32 :=
  let w := (shaSchedule 48 (shaWords 16 blk).reverse).reverse
  List.zipWith (· + ·) h ((shaK.zip w).foldl shaRound h)

def shaBlocks : Nat → List W32 → List Nat → List W32
  | 0, h, _ => h
  | n + 1, h, l => shaBlocks n (shaBlock h (l.take 64)) (l.drop 64)

/-- SHA-256 of a message of bytes: 32 bytes. -/
def sha256 (m : List Byte) : List Byte :=
  let pad := 0x80 :: List.replicate ((119 - m.length % 64) % 64) 0
  let l := bytesN m ++ pad ++ beBytes 8 (8 * m.length)
  nBytes ((shaBlocks (l.length / 64) shaH l).flatMap (fun w => beBytes 4 w.toNat))

/-! ### SHA-384 -/

/-- The round constants of SHA-384. -/
def sha5K : List Word :=
  [0x428a2f98d728ae22, 0x7137449123ef65cd, 0xb5c0fbcfec4d3b2f, 0xe9b5dba58189dbbc, 0x3956c25bf348b538] ++
    [0x59f111f1b605d019, 0x923f82a4af194f9b, 0xab1c5ed5da6d8118, 0xd807aa98a3030242, 0x12835b0145706fbe] ++
    [0x243185be4ee4b28c, 0x550c7dc3d5ffb4e2, 0x72be5d74f27b896f, 0x80deb1fe3b1696b1, 0x9bdc06a725c71235] ++
    [0xc19bf174cf692694, 0xe49b69c19ef14ad2, 0xefbe4786384f25e3, 0x0fc19dc68b8cd5b5, 0x240ca1cc77ac9c65] ++
    [0x2de92c6f592b0275, 0x4a7484aa6ea6e483, 0x5cb0a9dcbd41fbd4, 0x76f988da831153b5, 0x983e5152ee66dfab] ++
    [0xa831c66d2db43210, 0xb00327c898fb213f, 0xbf597fc7beef0ee4, 0xc6e00bf33da88fc2, 0xd5a79147930aa725] ++
    [0x06ca6351e003826f, 0x142929670a0e6e70, 0x27b70a8546d22ffc, 0x2e1b21385c26c926, 0x4d2c6dfc5ac42aed] ++
    [0x53380d139d95b3df, 0x650a73548baf63de, 0x766a0abb3c77b2a8, 0x81c2c92e47edaee6, 0x92722c851482353b] ++
    [0xa2bfe8a14cf10364, 0xa81a664bbc423001, 0xc24b8b70d0f89791, 0xc76c51a30654be30, 0xd192e819d6ef5218] ++
    [0xd69906245565a910, 0xf40e35855771202a, 0x106aa07032bbd1b8, 0x19a4c116b8d2d0c8, 0x1e376c085141ab53] ++
    [0x2748774cdf8eeb99, 0x34b0bcb5e19b48a8, 0x391c0cb3c5c95a63, 0x4ed8aa4ae3418acb, 0x5b9cca4f7763e373] ++
    [0x682e6ff3d6b2b8a3, 0x748f82ee5defb2fc, 0x78a5636f43172f60, 0x84c87814a1f0ab72, 0x8cc702081a6439ec] ++
    [0x90befffa23631e28, 0xa4506cebde82bde9, 0xbef9a3f7b2c67915, 0xc67178f2e372532b, 0xca273eceea26619c] ++
    [0xd186b8c721c0c207, 0xeada7dd6cde0eb1e, 0xf57d4f7fee6ed178, 0x06f067aa72176fba, 0x0a637dc5a2c898a6] ++
    [0x113f9804bef90dae, 0x1b710b35131c471b, 0x28db77f523047d84, 0x32caab7b40c72493, 0x3c9ebe0a15c9bebc] ++
    [0x431d67c49c100d4c, 0x4cc5d4becb3e42b6, 0x597f299cfc657e2a, 0x5fcb6fab3ad6faec, 0x6c44198c4a475817]

/-- The initial hash value of SHA-384. -/
def sha5H : List Word :=
  [0xcbbb9d5dc1059ed8, 0x629a292a367cd507, 0x9159015a3070dd17, 0x152fecd8f70e5939] ++
    [0x67332667ffc00b31, 0x8eb44a8768581511, 0xdb0c2e0d64f98fa7, 0x47b5481dbefa4fa4]

def sha5Big0 (x : Word) : Word := x.rotateRight 28 ^^^ x.rotateRight 34 ^^^ x.rotateRight 39
def sha5Big1 (x : Word) : Word := x.rotateRight 14 ^^^ x.rotateRight 18 ^^^ x.rotateRight 41
def sha5Small0 (x : Word) : Word := x.rotateRight 1 ^^^ x.rotateRight 8 ^^^ (x >>> 7)
def sha5Small1 (x : Word) : Word := x.rotateRight 19 ^^^ x.rotateRight 61 ^^^ (x >>> 6)

/-- `n` further words of SHA-384's message schedule, newest first. -/
def sha5Schedule : Nat → List Word → List Word
  | 0, w => w
  | n + 1, w => sha5Schedule n ((sha5Small1 (lget w 1 0) + lget w 6 0 + sha5Small0 (lget w 14 0) + lget w 15 0) :: w)

def sha5Round (v : List Word) (kw : Word × Word) : List Word :=
  let a := lget v 0 0
  let e := lget v 4 0
  let t1 := lget v 7 0 + sha5Big1 e + ((e &&& lget v 5 0) ^^^ (~~~e &&& lget v 6 0)) + kw.1 + kw.2
  let t2 := sha5Big0 a + ((a &&& lget v 1 0) ^^^ (a &&& lget v 2 0) ^^^ (lget v 1 0 &&& lget v 2 0))
  [t1 + t2, a, lget v 1 0, lget v 2 0, lget v 3 0 + t1, e, lget v 5 0, lget v 6 0]

def sha5Words : Nat → List Nat → List Word
  | 0, _ => []
  | n + 1, l => BitVec.ofNat 64 (beNat (l.take 8)) :: sha5Words n (l.drop 8)

def sha5Block (h : List Word) (blk : List Nat) : List Word :=
  let w := (sha5Schedule 64 (sha5Words 16 blk).reverse).reverse
  List.zipWith (· + ·) h ((sha5K.zip w).foldl sha5Round h)

def sha5Blocks : Nat → List Word → List Nat → List Word
  | 0, h, _ => h
  | n + 1, h, l => sha5Blocks n (sha5Block h (l.take 128)) (l.drop 128)

/-- SHA-384 of a message of bytes: 48 bytes. -/
def sha384 (m : List Byte) : List Byte :=
  let pad := 0x80 :: List.replicate ((239 - m.length % 128) % 128) 0
  let l := bytesN m ++ pad ++ beBytes 16 (8 * m.length)
  nBytes (((sha5Blocks (l.length / 128) sha5H l).take 6).flatMap (fun w => beBytes 8 w.toNat))

end Sys2Proof.Machine
end

