-- ==== Sys2Proof/Machine/PlanOps.lean ====
section
/-! DEFINITION. Plans (R134 to R137): the checks on an image, the placement of its logical tiles, its weights. -/

namespace Sys2Proof.Machine

/-! ### The image (tables "Plan header", "Tile table entry", "Entry table entry") -/

/-- A little-endian field of an image. -/
def fld (l : List Byte) (i n : Nat) : Nat := leNat (slice l i n)

/-- Bytes that must be zero. -/
def zeroes (l : List Byte) (i n : Nat) : Bool := (slice l i n).all (fun b => b == 0)

/-- A tile table entry: its code segment and its die (0xFF for any). -/
structure TileEntry where
  off : Nat
  len : Nat
  die : Nat
deriving DecidableEq, Repr

def tileEntry (img : List Byte) (i : Nat) : TileEntry :=
  let e := slice img (fld img 36 4 + 16 * i) 16
  { off := fld e 0 4, len := fld e 4 4, die := fld e 8 1 }

def tileEntryOk (img : List Byte) (i : Nat) : Bool :=
  let t := tileEntry img i
  decide (t.off + t.len ≤ img.length) && decide (t.len ≤ fld img 20 4) && (decide (t.die ≤ 3) || t.die == 0xFF) && zeroes img (fld img 36 4 + 16 * i + 9) 7

/-- R121 for a tile's code segment: the matrix engine takes every operand pair that the code uses. The code's encoding belongs to the plan toolchain, so which pairs these are is open (log 51). -/
def codePairsOk (img : List Byte) (i : Nat) : Bool :=
  let t := tileEntry img i
  t.len == 0 || (Config.pairsOf (slice img t.off t.len)).all (fun p => pairOk p.1 p.2)

/-- The kinds of an entry's arguments: 0 SCALAR, 1 BUFFER_RD, 2 BUFFER_WR, 3 BUFFER_RW. -/
def argKinds (img : List Byte) (at_ n : Nat) : List Nat := (List.range n).map (fun i => fld img (at_ + i / 4) 1 / 4 ^ (i % 4) % 4)

def planEntry (img : List Byte) (i : Nat) : PlanEntry :=
  let e := slice img (fld img 32 4 + 32 * i) 32
  { pc := fld e 0 4, session := natBit (fld e 6 1) 0, batchable := natBit (fld e 6 1) 1, batchMax := fld e 7 1, kinds := argKinds img (fld e 8 4) (fld e 4 2),
    energyBase := fld e 12 4, energyPer := fld e 16 4, deferLimit := fld e 20 4, maxCycles := fld e 24 4 }

def planEntryOk (img : List Byte) (i : Nat) : Bool :=
  let e := slice img (fld img 32 4 + 32 * i) 32
  let n := fld e 4 2
  let d := fld e 20 4
  let k := fld e 8 4
  decide (fld e 0 4 % 16 = 0) && decide (fld e 0 4 < fld img 20 4) && decide (n ≤ 511) && decide (fld e 6 1 < 4) && decide (1 ≤ fld e 7 1 ∧ fld e 7 1 ≤ 64)
    && decide (k + cdiv n 4 ≤ img.length) && (n % 4 == 0 || decide (fld img (k + n / 4) 1 < 4 ^ (n % 4)))
    && (d == 0 || decide (1000 ≤ d ∧ d ≤ 10000000)) && zeroes e 28 4

/-- R134: the image can be loaded. -/
def imageOk (img : List Byte) : Bool :=
  let entries := fld img 6 2
  let tiles := fld img 12 2
  let w := fld img 16 4
  let c := fld img 20 4
  let sc := fld img 24 4
  fld img 0 4 == 0x4E414C50 && fld img 4 2 == 1 && decide (1 ≤ entries ∧ entries ≤ 256) && fld img 8 4 == img.length && decide (1 ≤ tiles ∧ tiles ≤ 384)
    && zeroes img 14 2 && w % 64 == 0 && c % 64 == 0 && sc % 64 == 0 && decide (w + c + sc ≤ 3932160)
    && decide (fld img 32 4 + 32 * entries ≤ img.length) && decide (fld img 36 4 + 16 * tiles ≤ img.length) && zeroes img 40 56
    && sha256 (img.drop 128) == slice img 96 32
    && (List.range entries).all (planEntryOk img) && (List.range tiles).all (tileEntryOk img) && (List.range tiles).all (codePairsOk img)

/-! ### Placement (R135) -/

/-- The bytes that each of a plan's tiles holds. -/
def Plan.area (p : Plan) : Nat := p.weight + p.code + p.scratch

/-- The spans (start, size) of plan space taken on a tile. -/
def State.spansOn (s : State) (t : Nat) : List (Nat × Nat) :=
  s.talon.plans.flatMap (fun e => ((e.2.tiles.zip e.2.offs).filter (fun x => x.1 == t)).map (fun x => (x.2, e.2.area)))

/-- The lowest free span of `n` bytes beside the spans taken. -/
def gapFor (spans : List (Nat × Nat)) (n : Nat) : Option Nat :=
  ((0 :: spans.map (fun x => x.1 + x.2)).filter (fun o => decide (o + n ≤ planAreaBytes) && spans.all (fun x => !rangesMeet o n x.1 x.2))).foldl
    (fun a o => match a with | none => some o | some b => some (min o b)) none

/-- A tile may take work of a plan. -/
def State.tileSound (s : State) (t : Nat) : Bool := !s.talon.faulty.contains t

/-- The candidate that a logical tile takes: one that holds plans before an empty one, the lowest number among equals. -/
def State.pickTile (s : State) (die n : Nat) (used : List Nat) : Option (Nat × Nat) :=
  let c := (List.range 384).filter (fun t => (die == 0xFF || t / 96 == die) && s.tileSound t && !used.contains t && (gapFor (s.spansOn t) n).isSome)
  match (match c.find? (fun t => s.spansOn t != []) with | some t => some t | none => c.head?) with
  | none => none
  | some t => (gapFor (s.spansOn t) n).map (fun o => (t, o))

/-- The mapping of logical tiles, in the order given; none where one has no candidate. -/
def State.placeTiles (s : State) (n : Nat) : List (Nat × Nat) → Tab (Nat × Nat) → Option (Tab (Nat × Nat))
  | [], m => some m
  | (i, die) :: r, m =>
    match s.pickTile die n (m.map (fun e => e.2.1)) with
    | none => none
    | some x => s.placeTiles n r (Tab.put m i x)

/-- The whole mapping: logical tiles whose DIE names a die first. -/
def State.placement (s : State) (dies : List Nat) (n : Nat) : Option (Tab (Nat × Nat)) :=
  let l := (List.range dies.length).zip dies
  s.placeTiles n (l.filter (fun e => e.2 != 0xFF) ++ l.filter (fun e => e.2 == 0xFF)) []

/-- Bytes written into a tile's SRAM; whole lines lose their poison (R127). -/
def State.tileStore (s : State) (t off : Nat) (l : List Byte) (poison : Bool) : State :=
  if l = [] then s else (s.writeLines (splitLines (tileAddr t off) l) poison).1

/-- A plan's code segments are written into their tiles. -/
def State.storeCode (s : State) (img : List Byte) (w : Nat) : List (Nat × Nat × Nat) → State
  | [] => s
  | (i, t, o) :: r =>
    let e := tileEntry img i
    (s.tileStore t (o + w) (slice img e.off e.len) false).storeCode img w r

/-- The lowest free plan ID, 1 to 65,535. -/
def State.freePlan (s : State) : Option Nat := let n := freeFrom s.talon.plans 1; if n < 65536 then some n else none

/-- PLAN_LOAD of a whole image: the plan ID, or the status and code that refuse it. -/
def State.planInstall (s : State) (img : List Byte) (domain : Nat) : State × (Nat ⊕ Nat) :=
  if !imageOk img then (s, .inr Stat.badParam)
  else
    let tiles := fld img 12 2
    let n := fld img 16 4 + fld img 20 4 + fld img 24 4
    match s.freePlan, s.placement ((List.range tiles).map (fun i => (tileEntry img i).die)) n with
    | some id, some m =>
      let p : Plan := {
        entries := (List.range (fld img 6 2)).map (planEntry img), weight := fld img 16 4, code := fld img 20 4, scratch := fld img 24 4, group := fld img 28 4,
        domain := domain, tiles := m.map (fun e => e.2.1), offs := m.map (fun e => e.2.2), unloading := false }
      let s := { s with talon := { s.talon with plans := Tab.put s.talon.plans id p } }
      (s.storeCode img p.weight m, .inl id)
    | _, _ => (s, .inr Stat.busy)

/-! ### Weights (R136) -/

/-- 64 bytes at an offset of a plan's weight placement. -/
def State.weightStore (s : State) (p : Plan) (o : Nat) (l : List Byte) (poison : Bool) : State × Nat :=
  let i := o / p.weight
  (s.tileStore (lget p.tiles i 0) (lget p.offs i 0 + o % p.weight) l poison, KSt.ok)

def State.planOf? (s : State) (id : Nat) : Option Plan := match Tab.get? s.talon.plans id with | some p => if p.unloading then none else some p | none => none

/-- Unloads whose runs have all completed end: the placement is released (R112, R137). -/
def State.unloadPlans (s : State) : State :=
  s.talon.plans.foldl (fun s e =>
    if e.2.unloading && !s.planBusy e.1 then
      let s := { s with talon := { s.talon with plans := Tab.del s.talon.plans e.1 } }
      let s := s.updPwr (fun p => { p with
        ratios := p.ratios.filter (fun x => x.1 / 65536 != e.1), durs := p.durs.filter (fun x => x.1 / 65536 != e.1) })
      s.endAll (fun r => r.wait == .plan && r.arg == e.1) Stat.ok
    else s) s

end Sys2Proof.Machine
end

