-- ==== Sys2Proof/Machine/UnitOps.lean ====
section
/-! DEFINITION. A tile's units at work (R122 to R127): what a sequencer makes the matrix engine and the vector unit do on the tile's accumulators, registers and SRAM, and what a tile's work costs. -/

namespace Sys2Proof.Machine

def State.setTalon (s : State) (f : TalonState → TalonState) : State := { s with talon := f s.talon }

/-! ### Accumulators and vector registers -/

def State.tileUnits (s : State) (t : Nat) : TileUnits := Tab.get s.talon.units t .reset
def State.setUnits (s : State) (t : Nat) (u : TileUnits) : State :=
  s.setTalon (fun x => { x with units := if u = .reset then Tab.del x.units t else Tab.put x.units t u })

def TileUnits.acc (u : TileUnits) (set i : Nat) : Nat := Tab.get u.accs (1024 * (set % 8) + i % 1024) 0
def TileUnits.setAcc (u : TileUnits) (set i v : Nat) : TileUnits :=
  let k := 1024 * (set % 8) + i % 1024
  { u with accs := if v % 2 ^ 32 = 0 then Tab.del u.accs k else Tab.put u.accs k (v % 2 ^ 32) }

def zeroLanes : List Nat := List.replicate 512 0
def TileUnits.reg (u : TileUnits) (r : Nat) : List Nat := Tab.get u.regs (r % 64) zeroLanes
def TileUnits.setReg (u : TileUnits) (r : Nat) (l : List Nat) : TileUnits :=
  { u with regs := if l = zeroLanes then Tab.del u.regs (r % 64) else Tab.put u.regs (r % 64) l }

/-- One lane takes a value. -/
def TileUnits.setLane (u : TileUnits) (r lane v : Nat) : TileUnits := u.setReg r ((List.range 512).map (fun i => if i = lane % 512 then v % 2 ^ 32 else lget (u.reg r) i 0))

/-- Each lane takes `f` of its number. -/
def TileUnits.lanes (u : TileUnits) (r : Nat) (f : Nat → Nat) : TileUnits := u.setReg r ((List.range 512).map f)

/-! ### Operations -/

/-- Lines of a tile's SRAM, read through their code: the bytes, and whether one is poisoned. -/
def State.tileLines (s : State) (t : Nat) : Nat → Nat → State × List Byte × Bool
  | 0, _ => (s, [], false)
  | n + 1, off =>
    match s.tileLine (tileAddr t (off / 64 * 64)) with
    | (s, l, p) =>
      match s.tileLines t n (off + 64) with
      | (s, r, q) => (s, l ++ r, p || q)

/-- The lines at some offsets are read: whether one is poisoned. -/
def State.readAt (s : State) (t : Nat) : List Nat → State × Bool
  | [] => (s, false)
  | o :: r =>
    match s.tileLines t 1 o with
    | (s, _, p) =>
      match s.readAt t r with
      | (s, q) => (s, p || q)

/-- What an operation does to a tile's accumulators and registers, given the 2,048 bytes that a load brings. -/
def unitsAfter (o : TileOp) (u : TileUnits) (data : List Byte) : TileUnits :=
  match o with
  | .accSet set i v => u.setAcc set i v
  | .dot set i ta tb k _ => if pairOk ta tb then u.setAcc set i (dotInto ta tb (u.acc set i) k) else u
  | .accOut set i r lane => u.setLane r lane (u.acc set i)
  | .load r _ => u.lanes r (fun i => leNat (slice data (4 * i) 4))
  | .vec op d a b c => u.lanes d (fun i => op.lane (lget (u.reg a) i 0) (lget (u.reg b) i 0) (lget (u.reg c) i 0))
  | .cmp rel a b => { u with mask := (List.range 512).map (fun i => rel.holds (lget (u.reg a) i 0) (lget (u.reg b) i 0)) }
  | .select d a b => u.lanes d (fun i => if lget u.mask i false then lget (u.reg a) i 0 else lget (u.reg b) i 0)
  | .sum d a lane => u.setLane d lane (treeSum 9 (u.reg a))
  | .quant ty a blk d sreg =>
    let b := toMx ty (slice (u.reg a) (32 * (blk % 16)) 32)
    (u.lanes d (fun i => if i / 32 = blk % 16 then lget b.elems (i % 32) 0 else lget (u.reg d) i 0)).setLane sreg (blk % 16) b.scale
  | .dequant ty a blk sreg d =>
    let scale := lget (u.reg sreg) (blk % 16) 0 % 256
    u.lanes d (fun i => if i / 32 = blk % 16 then ofMx ty scale (lget (u.reg a) i 0) else lget (u.reg d) i 0)
  | .store _ _ | .put _ _ => u

/-- An operation of a tile's units; true where it consumes poison (R127), and then it has no result. -/
def State.tileOp (s : State) (t : Nat) (o : TileOp) : State × Bool :=
  let u := s.tileUnits t
  match o with
  | .dot _ _ _ _ _ rd => match s.readAt t rd with | (s, p) => if p then (s, true) else (s.setUnits t (unitsAfter o u []), false)
  | .load _ off => match s.tileLines t 32 off with | (s, l, p) => if p then (s, true) else (s.setUnits t (unitsAfter o u l), false)
  | .store r off => (s.tileStore t (off / 64 * 64) ((u.reg r).flatMap (leBytes 4)) false, false)
  | .put off l => (s.tileStore t off l false, false)
  | _ => (s.setUnits t (unitsAfter o u []), false)

/-- Operations in order, until one consumes poison. -/
def State.tileOps (s : State) (t : Nat) : List TileOp → State × Bool
  | [] => (s, false)
  | o :: r => match s.tileOp t o with | (s, true) => (s, true) | (s, false) => s.tileOps t r

/-! ### What tiles have done (R126, R143) -/

/-- Energy in nJ, RUNNING cycles and bank waits (R126) are counted on a tile. -/
def State.countTile (s : State) (t : Nat) (u : TileUse) : State :=
  let waits := tileWaits (1000 * s.rd R.TALON_DIE_CLOCK.MHZ (t / 96)) u.acc
  ((s.bump R.TALON_TILE_ENERGY u.energy (t / 96) (t % 96)).bump R.TALON_TILE_CYCLES u.cycles (t / 96) (t % 96)).bump R.TALON_TILE_CONFLICT_CNT waits (t / 96) (t % 96)

/-- What the tiles of a pass, in logical-tile order, have done since they were last told of: the errors that their cells have developed, their units' work, their counters. None where a unit consumes
poison, which POISON_CONSUMED tells of. -/
def State.countUse (s : State) : List (Nat × TileUse) → Option State
  | [] => some s
  | (t, u) :: r =>
    match (s.decay (u.cells.map (fun c => (tileAddr t (c.1 % 0x400000), c.2)))).tileOps t u.ops with
    | (_, true) => none
    | (s, false) => (s.countTile t u).countUse r

end Sys2Proof.Machine
end

