-- ==== Sys2Proof/Machine/TileOps.lean ====
section
/-! DEFINITION. Runs and passes on the Talon tiles (R118 to R120, R137 to R145, R461): dispatch, completion, stops, a tile's reset. -/

namespace Sys2Proof.Machine

def tIdle : Nat := 0
def tLoading : Nat := 1
def tRunning : Nat := 2
def tGated : Nat := 4
def tReset : Nat := 5
def tFaulted : Nat := 6

def State.setTile (s : State) (t v : Nat) : State := s.wr R.TALON_TILE_STATUS.STATE v (t / 96) (t % 96)
def State.tileState (s : State) (t : Nat) : Nat := s.rd R.TALON_TILE_STATUS.STATE (t / 96) (t % 96)

/-- The tile's group (12 · die + column), which is also its reset unit. -/
def groupOf (t : Nat) : Nat := 12 * (t / 96) + t % 12

def State.gated (s : State) (g : Nat) : Bool := natBit (s.rd R.TALON_DIE_GATE.GATED (g / 12)) (g % 12)

/-! ### Full-power energy (R318) -/

/-- What a pass would have drawn at full power since it was last counted is added. -/
def State.accrue (s : State) (p : Pass) : Pass :=
  { p with full := p.full + s.fullMw (s.planTiles p.plan) * ((s.now - p.since) / 1000), since := s.now }

/-- Before clocks change, every started pass is brought up to date. -/
def State.accrueAll (s : State) : State := s.setTalon (fun t => { t with passes := t.passes.map (fun p => if p.started then s.accrue p else p) })

/-! ### Clocks (R119, R320, R328) -/

/-- A die's scale at a clock, in 1/32,768: 1 at 2,000 MHz, else as measured. -/
def scaleOf (d f : Nat) : Nat := if 2000 ≤ f then 32768 else Config.scaleAt d f % 32769

def State.clockOf (s : State) (d : Nat) : Nat := s.rd R.PWR_DIE.CLOCK_MHZ d
def State.clockMin (s : State) : Nat := s.rd R.PWR_CLOCK_CFG.CLOCK_MIN_MHZ

/-- A die takes a clock, and its scale with it; a lowering from 2,000 MHz is an event. -/
def State.setClock (s : State) (d f : Nat) : State :=
  if s.clockOf d = f then s
  else
    let s := if s.clockOf d = 2000 ∧ f < 2000 then s.flag R.PWR_EVENT.CLOCK_LIMITED R.PWR_CLK_CNT.COUNT else s
    let s := s.accrueAll
    ((s.wr R.PWR_DIE.CLOCK_MHZ f d).wr R.PWR_DIE.SCALE (scaleOf d f) d).wr R.TALON_DIE_CLOCK.MHZ f d

/-- Powered tiles of a die that are not among those that `busy` passes run on. -/
def State.tilesBeside (s : State) (d : Nat) (busy : Pass → Bool) : Nat :=
  let taken := (s.talon.passes.filter (fun p => p.started && busy p)).flatMap (fun p => s.planTiles p.plan)
  ((List.range 96).filter (fun i => !s.gated (groupOf (96 * d + i)) && !taken.contains (96 * d + i))).length

/-- Powered tiles of a die that run no pass. -/
def State.restCount (s : State) (d : Nat) : Nat := s.tilesBeside d (fun _ => true)

/-- n_d: powered tiles of a die with idle cycles, which ballast fills (R144). Tiles whose entry draws full power (α = 1) have none (log 140). -/
def State.idleCount (s : State) (d : Nat) : Nat := s.tilesBeside d (fun p => decide (32768 ≤ s.alpha p.plan p.entry))

/-- The ballast in mW that a pass on these tiles replaces. -/
def State.replaced (s : State) (tiles : List Nat) : Nat :=
  ((List.range 4).map (fun d => lget s.pwr.ballast d 0 * (tiles.filter (fun t => t / 96 == d)).length / max 1 (s.idleCount d))).sum

/-- A pass's load in mW with its dies at clock `f` at most. -/
def State.loadAt (s : State) (plan entry f : Nat) : Nat :=
  s.alpha plan entry * ((s.planTiles plan).map (fun t => s.tileWorkMw t * scaleOf (t / 96) (min f (s.clockOf (t / 96))) / 32768)).sum / 32768

/-- The clocks from 2,000 MHz down to CLOCK_MIN_MHZ. -/
def State.clocks (s : State) : List Nat := ((List.range 81).map (fun k => 2000 - 25 * k)).filter (fun f => decide (s.clockMin ≤ f))

/-- The highest clock at which a pass's step over the ballast it replaces is at most STEP_FREE_W (R328). -/
def State.startClock (s : State) (plan entry : Nat) : Option Nat :=
  let b := s.replaced (s.planTiles plan)
  s.clocks.find? (fun f => decide (s.loadAt plan entry f ≤ b + 1000 * s.rd R.PWR_GOV_CFG.STEP_FREE_W))

/-! ### KV pages of a run (R45, R132) -/

/-- HBM frames for a session's pages from page `p` on, `n` pages of each of `groups` layer groups; none where they are short. -/
def State.newPages (s : State) : List Nat → Tab PageEnt → Option (State × Tab PageEnt)
  | [], t => some (s, t)
  | k :: r, t =>
    match s.allocHbm with
    | none => none
    | some (s, f) => s.newPages r (Tab.put t k { tier := 1, clean := false, buddy := false, hbm := f, roost := 0 })

/-- The page keys between two lengths. -/
def keysBetween (groups a b : Nat) : List Nat :=
  (List.range groups).flatMap (fun g => ((List.range (kvPages b)).filter (fun p => decide (kvPages a ≤ p))).map (fun p => pageKey g p))

/-- Those of them whose chunks this package holds. -/
def Session.localKeys (x : Session) (a b : Nat) : List Nat := (keysBetween x.groups a b).filter (fun k => (Tab.get? x.shards (k % 65536 / 512)).isNone)

/-- A page loses its clean Roost copy. -/
def State.dirtyPage (s : State) (x : Session) (k : Nat) : State × Session :=
  match Tab.get? x.pages k with
  | none => (s, x)
  | some e =>
    let s := if e.clean then s.releaseFrames [e.roost] else s
    (s, { x with pages := Tab.put x.pages k (if e.clean then { e with clean := false, buddy := false, roost := 0 } else { e with buddy := false }) })

/-- The run is that of a SESSION_APPEND: its window is still counted from 0, and its pages are still to be allocated. -/
def State.appends (s : State) (r : TileRun) : Bool := match s.runOf r.seq with | some x => x.i.c.opcode == 0x0101 | none => false

/-- The session's side of the dispatch of a run: LENGTH, and for an append the pages of its write window; the last page is written into, and the buddy copy is STALE. None where frames are short, or where what has run since has left no room for it (R41). -/
def State.runBegin (s : State) (r : TileRun) : Option (State × TileRun) :=
  match r.slot with
  | none => some (s, r)
  | some slot =>
    match s.sesAt slot with
    | none => none
    | some x =>
      if !s.appends r then some (s, { r with len := x.length })
      else if 2 ^ 24 < x.length + r.hi then none
      else
        match s.newPages (x.localKeys x.length (x.length + r.hi)) x.pages with
        | none => none
        | some (s, pages) =>
          let x := { x with pages := pages, buddy := if x.buddy = .none_ then .none_ else .stale }
          let (s, x) := if x.length % 256 = 0 then (s, x)
            else (List.range x.groups).foldl (fun (a : State × Session) g => a.1.dirtyPage a.2 (pageKey g (x.length / 256))) (s, x)
          some (s.setSes slot x, { r with len := x.length, lo := x.length, hi := x.length + r.hi, args := r.args.take 4 ++ [x.length] ++ r.args.drop 5 })

/-- A run has ended: a session's LENGTH becomes `len`, and pages beyond it are freed. -/
def State.runEndPages (s : State) (r : TileRun) (len : Nat) : State :=
  match r.slot with
  | none => s
  | some slot =>
    match s.sesAt slot with
    | none => s
    | some x =>
      if r.lo = 0 ∧ r.hi = 0 ∨ r.hi ≤ r.len then s
      else
        let gone := x.pages.filter (fun e => decide (kvPages len ≤ e.1 % 65536))
        let s := s.freeHbm (gone.map (fun e => e.2.hbm))
        s.setSes slot { x with
          length := len, pages := x.pages.filter (fun e => decide (e.1 % 65536 < kvPages len)), shards := x.shards.filter (fun e => decide (e.1 < chunks len)) }

/-! ### Dispatch (R137, R141, R461) -/

/-- A run waits for nothing but its turn: its session is ACTIVE, and no earlier run of the session is unfinished. -/
def State.runReady (s : State) (r : TileRun) : Bool :=
  match r.slot with
  | none => true
  | some slot =>
    (match s.sesAt slot with | some x => x.st == .active && !x.closing | none => false)
      && !s.talon.ready.any (fun q => q.slot == some slot && decide (q.seq < r.seq)) && !s.talon.passes.any (fun p => p.runs.any (fun q => q.slot == some slot))

/-- A plan's tiles run no pass, and none of its dies is tripped. -/
def State.planFree (s : State) (id : Nat) : Bool :=
  let t := s.planTiles id
  !s.talon.passes.any (fun p => (s.planTiles p.plan).any t.contains) && !s.pwr.tripped.any (fun d => t.any (fun x => x / 96 == d))

/-- A plan's tiles can work: no unit of theirs is quarantined, in reset or failed. -/
def State.planSound (s : State) (id : Nat) : Bool := (s.planTiles id).all (fun t => s.tileSound t && s.unitState (groupOf t) == Unit.normal)

def State.entryOf (s : State) (plan entry : Nat) : Option PlanEntry := match Tab.get? s.talon.plans plan with | some p => p.entries[entry]? | none => none

/-- The runs that the next pass of a ready run's entry takes: the oldest ready ones, up to BATCH_MAX. -/
def State.batchOf (s : State) (r : TileRun) : List TileRun :=
  match s.entryOf r.plan r.entry with
  | some e => if e.batchable then (s.talon.ready.filter (fun q => q.plan == r.plan && q.entry == r.entry && s.runReady q)).take e.batchMax else [r]
  | none => [r]

/-- The passes that could be dispatched now, each as its runs, by their oldest run. -/
def State.candidatePasses (s : State) : List (List TileRun) :=
  let heads := s.talon.ready.filter (fun r => s.runReady r && s.planFree r.plan && s.planSound r.plan)
  (heads.foldl (fun (a : List (List TileRun)) r => if a.any (fun l => l.contains r) then a else a ++ [s.batchOf r]) [])

/-- A tile starts on a pass. -/
def State.startTile (s : State) (plan n t : Nat) : State :=
  let s := ((s.wr R.TALON_TILE_STATUS.PLAN plan (t / 96) (t % 96)).wr R.TALON_TILE_STATUS.BATCH n (t / 96) (t % 96)).setTile t tRunning
  (List.range 4).foldl (fun s c => (s.wr R.TALON_TILE_DMA.STATE 0 (t / 96) (t % 96) c).wr R.TALON_TILE_DMA.ERR 0 (t / 96) (t % 96) c) s

/-- A dispatched pass starts on its tiles. -/
def State.startPass (s : State) (p : Pass) : State :=
  let s := s.setTalon (fun t => { t with passes := t.passes.map (fun q => if q.id = p.id then { q with started := true, since := s.now } else q) })
  (s.planTiles p.plan).foldl (fun s t => s.startTile p.plan p.runs.length t) s

/-- A dispatched pass whose groups are awake starts, at the highest clock whose step is free; until there is one it waits for the pre-ramp (R328). -/
def State.tryStart (s : State) (p : Pass) : State :=
  if p.started ∨ p.wakes ≠ [] then s
  else
    match s.startClock p.plan p.entry with
    | none => s
    | some f =>
      let dies := ((s.planTiles p.plan).map (fun t => t / 96)).foldl sinsert []
      (dies.foldl (fun s d => if f < s.clockOf d then s.setClock d f else s) s).startPass p

/-- The runs of a batch that can begin, begun. -/
def State.beginRuns (s : State) : List TileRun → State × List TileRun
  | [] => (s, [])
  | r :: l =>
    match s.runBegin r with
    | none => s.beginRuns l
    | some (s, r) =>
      let (s, l) := s.beginRuns l
      (s, r :: l)

/-- Tirlo writes the arguments into the private areas of a pass's tiles that have power: they are LOADING until the pass starts. -/
def State.loadTiles (s : State) (p : Pass) : State :=
  if p.started then s else (s.planTiles p.plan).foldl (fun s t => if s.tileState t = tIdle then s.setTile t tLoading else s) s

/-- A pass of the given runs is dispatched; groups that are gated are to wake first (R120). False where none of its runs can begin. -/
def State.dispatchPass (s : State) (l : List TileRun) : State × Bool :=
  match s.beginRuns l with
  | (s, []) => (s, false)
  | (s, r :: rest) =>
    let runs := r :: rest
    let seqs := runs.map (fun q => q.seq)
    let groups := ((s.planTiles r.plan).map groupOf).foldl sinsert []
    let p : Pass := {
      id := s.talon.next, plan := r.plan, entry := r.entry, runs := runs, full := 0, since := s.now, at_ := s.now, wakes := groups.filter s.gated, started := false,
      crit := runs.any (fun q => q.crit) }
    let s := s.setTalon (fun t => { t with ready := t.ready.filter (fun q => !seqs.contains q.seq), passes := t.passes ++ [p], next := t.next + 1 })
    ((s.loadTiles p).tryStart p, true)

/-- Tile cycles since a pass was dispatched, at the highest clock of its dies. -/
def State.cyclesSince (s : State) (p : Pass) : Nat := (s.now - p.at_) * ((s.planTiles p.plan).foldl (fun f t => max f (s.clockOf (t / 96))) 0) / 1000

/-- A group has power: the passes that waited for it alone start, and the time that they waited counts towards their tile cycles (R120). -/
def State.groupWoke (s : State) (g : Nat) : State :=
  let s := s.setTalon (fun t => { t with passes := t.passes.map (fun p =>
    if p.wakes = [g] then { p with wakes := [], waited := s.cyclesSince p } else { p with wakes := p.wakes.filter (· != g) }) })
  let s := s.talon.passes.foldl State.loadTiles s
  s.talon.passes.foldl State.tryStart s

/-- Ready runs that can never begin end: their plan's tiles are unsound, LENGTH would pass its limit, or no frame is free and no park frees one (R41, R45, R353). -/
def State.sweepReady (s : State) : State :=
  s.talon.ready.foldl (fun s r =>
    let drop := fun (s : State) => s.setTalon (fun t => { t with ready := t.ready.filter (fun q => q.seq != r.seq) })
    if !s.planSound r.plan then (drop s).endRun r.seq Stat.faulted
    else
      match r.slot with
      | none => s
      | some slot =>
        match s.sesAt slot with
        | none => (drop s).endRun r.seq Stat.badSession
        | some x =>
          if s.runReady r && s.appends r && decide (2 ^ 24 < x.length + r.hi) then (drop s).endRun r.seq Stat.badParam
          else if s.runReady r && s.appends r && s.frameGain == 0 && decide (s.kvFree < (x.localKeys x.length (x.length + r.hi)).length)
          then (drop s).endRetry r.seq Stat.busy 10 else s) s

/-! ### The end of a pass (R140, R143) -/

/-- What a pass's tiles have done since they were last told of is taken: the state and the pass after it. None where a unit consumes poison. -/
def State.takeUse (s : State) (p : Pass) (use : List TileUse) : Option (State × Pass) :=
  match s.countUse ((s.planTiles p.plan).zip use) with
  | none => none
  | some s =>
    let q := { p with drawn := p.drawn + (use.map (fun u => u.energy)).sum }
    some (s.setTalon (fun t => { t with passes := t.passes.map (fun x => if x.id = p.id then q else x) }), q)

/-- The descriptors of some runs are dropped; channels with none left are IDLE, unless they have stopped. -/
def State.dropJobs (s : State) (f : DmaJob → Bool) : State :=
  let gone := s.talon.dma.filter f
  let s := s.setTalon (fun t => { t with dma := t.dma.filter (fun j => !f j) })
  gone.foldl (fun s j =>
    if s.talon.dma.any (fun x => x.tile == j.tile && x.ch == j.ch) || s.rd R.TALON_TILE_DMA.STATE (j.tile / 96) (j.tile % 96) j.ch != 1 then s
    else s.wr R.TALON_TILE_DMA.STATE 0 (j.tile / 96) (j.tile % 96) j.ch) s

/-- Descriptors of a run that its channels have not completed. -/
def State.hasJobs (s : State) (seq : Nat) : Bool := s.talon.dma.any (fun j => j.seq == seq)

/-- The tiles of a pass are idle again. -/
def State.idleTiles (s : State) (p : Pass) : State :=
  let s := (s.planTiles p.plan).foldl (fun s t =>
    let s := (s.wr R.TALON_TILE_STATUS.PLAN 0 (t / 96) (t % 96)).wr R.TALON_TILE_STATUS.BATCH 0 (t / 96) (t % 96)
    if s.tileState t = tRunning ∨ s.tileState t = tLoading then s.setTile t tIdle else s) s
  s.updPwr (fun w => { w with groupIdle := (((s.planTiles p.plan).map groupOf).foldl sinsert []).foldl (fun g k => Tab.put g k s.now) w.groupIdle })

/-- The share of a run of `pos` positions in a pass's energy, in whole µJ rounded up; `all`: the positions of every run of the pass. -/
def shareUj (e : Nat) (session : Bool) (all : List Nat) (pos : Nat) : Nat :=
  if session ∧ 0 < all.sum then cdiv (e * pos) (all.sum * 1000) else cdiv e (all.length * 1000)

/-- The positions of a pass's runs, those that have left it among them. -/
def Pass.positions (p : Pass) : List Nat := p.runs.map (fun r => r.positions) ++ p.left

/-- The energy that a pass's runs are charged, in µJ (R143). -/
def State.passUj (s : State) (p : Pass) : Nat :=
  let session := match s.entryOf p.plan p.entry with | some e => e.session | none => false
  (p.positions.map (shareUj p.drawn session p.positions)).sum

/-- The pass leaves the tiles: the charges of its runs are taken from the credits (R143, R317), its entry's ratio and duration are taken (R318). `learn`: it ran to its end. -/
def State.passLeaves (s : State) (p : Pass) (learn : Bool) : State :=
  let p := if p.started then s.accrue p else p
  let s := (s.idleTiles p).chargeWork (s.passUj p - p.charged)
  let s := s.setTalon (fun t => { t with passes := t.passes.filter (fun q => q.id != p.id) })
  if !learn then s
  else
    let k := 65536 * p.plan + p.entry
    s.updPwr (fun w => { w with
      ratios := if p.full = 0 then w.ratios else Tab.upd w.ratios k [] (fun l => ((p.drawn * 32768 / p.full) :: l).take 16),
      durs := Tab.upd w.durs k [] (fun l => (((s.now - p.at_) / 1000) :: l).take 16) })

/-- A run that ran to its end completes. -/
def State.runDone (s : State) (r : TileRun) (session : Bool) (uj cycles out : Nat) : State :=
  match r.stop with
  | some st =>
    if st = Stat.timeout then
      (s.runEndPages r (r.len + r.positions)).endRun r.seq Stat.ok 0 0
    else (s.runEndPages r r.len).endRun r.seq st
  | none =>
    if r.hi ≤ r.len ∨ !session then s.endRun r.seq Stat.ok uj cycles
    else
      let out := min out (r.hi - r.len - r.positions)
      let len := r.len + r.positions + out
      (s.runEndPages r len).endRun r.seq Stat.ok (len + out * 2 ^ 32) (uj % 2 ^ 48)

/-- RUN_COMPLETE: every tile has reached its end, and every channel of its runs is idle with all writes acknowledged (R140). -/
def State.passComplete (s : State) (id : Nat) (use : List TileUse) (cycles : Nat) (outs : List Nat) : State :=
  match s.talon.passes.find? (fun p => p.id == id) with
  | none => s
  | some p =>
    match s.entryOf p.plan p.entry with
    | none => s
    | some en =>
      let total := cycles + p.waited
      if !p.started || (en.maxCycles != 0 && decide (en.maxCycles < total)) || p.runs.any (fun r => s.hasJobs r.seq) then s
      else
        match s.takeUse p use with
        | none => s
        | some (s, p) =>
          (p.runs.zip (List.range p.runs.length)).foldl
            (fun (s : State) x => s.runDone x.1 en.session (shareUj p.drawn en.session p.positions x.1.positions) total (lget outs x.2 0)) (s.passLeaves p true)

/-- Runs leave a pass; the pass ends when none is left. -/
def State.leaveRuns (s : State) (p : Pass) (seqs : List Nat) : State :=
  let gone := p.runs.filter (fun r => seqs.contains r.seq)
  let rest := p.runs.filter (fun r => !seqs.contains r.seq)
  let s := s.dropJobs (fun j => gone.any (fun r => r.seq == j.seq))
  let s := if rest = [] then s.passLeaves p false
    else
      let s := s.setTalon (fun t => { t with passes := t.passes.map (fun q =>
        if q.id = p.id then { q with runs := rest, crit := rest.any (fun r => r.crit), left := q.left ++ gone.map (fun r => r.positions) } else q) })
      if p.started then (s.planTiles p.plan).foldl (fun s t => s.wr R.TALON_TILE_STATUS.BATCH rest.length (t / 96) (t % 96)) s else s
  gone.foldl (fun s r => s.runEndPages r r.len) s

/-- Runs leave a pass, and their commands end with a status. -/
def State.leavePass (s : State) (p : Pass) (seqs : List Nat) (st r0 : Nat) : State :=
  (p.runs.filter (fun r => seqs.contains r.seq)).foldl (fun s r => s.endRun r.seq st r0) (s.leaveRuns p seqs)

/-- The work told of is taken, and runs leave the pass; where a unit consumed poison nothing happens. -/
def State.leaveWith (s : State) (p : Pass) (seqs : List Nat) (st r0 : Nat) (use : List TileUse) : State :=
  match s.takeUse p use with
  | none => s
  | some (s, p) => s.leavePass p seqs st r0

/-- Every run of the passes that `p` selects ends with a status. -/
def State.killPasses (s : State) (f : Pass → Bool) (st : Nat) : State :=
  (s.talon.passes.filter f).foldl (fun s p => s.leavePass p (p.runs.map (fun r => r.seq)) st 0) s

/-- RUN_ABORT_POINT: a run that was asked to stop, and whose descriptors already issued have completed, leaves its pass (R140). -/
def State.abortPoint (s : State) (id seq : Nat) (use : List TileUse) : State :=
  match s.talon.passes.find? (fun p => p.id == id) with
  | none => s
  | some p =>
    match p.runs.find? (fun r => r.seq == seq) with
    | none => s
    | some r => match r.stop with | some st => if s.hasJobs seq then s else s.leaveWith p [seq] st 0 use | none => s

/-- RUN_WATCHDOG: a tile has exceeded MAX_CYCLES, the time that its pass waits for groups to wake among them (R120). -/
def State.watchdog (s : State) (id t : Nat) (use : List TileUse) : State :=
  match s.talon.passes.find? (fun p => p.id == id) with
  | none => s
  | some p =>
    let limit := match s.entryOf p.plan p.entry with | some e => e.maxCycles | none => 0
    if limit == 0 || !(s.planTiles p.plan).contains t || (!p.started && decide (s.cyclesSince p ≤ limit)) then s
    else
      match s.takeUse p use with
      | none => s
      | some (s, p) =>
        (s.flag R.TALON_TILE_EVENT.WDOG R.TALON_TILE_WDOG_CNT.COUNT (t / 96) (t % 96)).leavePass p (p.runs.map (fun r => r.seq)) Stat.faulted 0

/-- DEFER_LIMIT of an entry in µs. -/
def State.deferLimit (s : State) (plan entry : Nat) : Nat :=
  match s.entryOf plan entry with | some e => if e.deferLimit = 0 then 100000 else e.deferLimit | none => 100000

/-- A run in ENERGY_DEFERRED: its limit has passed since its admission at `at_`. -/
def State.deferDue (s : State) (plan entry at_ : Nat) : Bool := decide (at_ + 1000 * s.deferLimit plan entry ≤ s.epoch)

/-- The plan and entry that a run's command names. -/
def runEntry (c : Cmd) : Option (Nat × Nat) :=
  let w := if c.opcode = 0x0303 then some (c.p 1) else if c.opcode = 0x0101 then some (c.p 2) else none
  w.map (fun w => (w % 65536, w / 65536 % 65536))

/-- RUN_DEFER_TIMEOUT: a run not begun within its entry's DEFER_LIMIT of its admission (R142), whether its command still waits in the intake, the run is ready, or its pass has not started. -/
def State.runDefer (s : State) (seq : Nat) : State :=
  match s.talon.ready.find? (fun r => r.seq == seq) with
  | some r =>
    if !s.deferDue r.plan r.entry r.at_ then s
    else
      ((s.setTalon (fun t => { t with ready := t.ready.filter (fun q => q.seq != seq) })).deferred).endRetry seq Stat.deferred (s.deferCode (creditsOf (s.passMw r.plan r.entry)))
  | none =>
    match s.talon.passes.find? (fun p => p.runs.any (fun r => r.seq == seq)) with
    | some p =>
      (match p.runs.find? (fun r => r.seq == seq) with
        | some r =>
          if p.started || !s.deferDue p.plan p.entry r.at_ then s
          else
            let code := s.deferCode (creditsOf (s.passMw p.plan p.entry))
            ((s.leaveRuns p [seq]).deferred).endRetry seq Stat.deferred code
        | none => s)
    | none =>
      match s.tci.intake.find? (fun i => i.seq == seq) with
      | none => s
      | some i =>
        match runEntry i.c with
        | none => s
        | some (plan, entry) =>
          if !s.deferDue plan entry i.at_ then s
          else ((s.dispatch i).deferred).endRetry seq Stat.deferred (s.deferCode (creditsOf (s.passMw plan entry)))

/-! ### Resets (R145) -/

/-- A tile's reset: its channels and private area are cleared; its plan areas stay. -/
def State.resetTile (s : State) (t : Nat) : State :=
  let s := { s with
    mem := s.mem.filter (fun e => !(decide (tileAddr t planAreaBytes ≤ e.1) && decide (e.1 < tileAddr t 0x400000))),
    poison := s.poison.filter (fun a => !(decide (tileAddr t planAreaBytes ≤ a) && decide (a < tileAddr t 0x400000))) }
  let s := s.dropJobs (fun j => j.tile == t)
  let s := s.setTalon (fun x => { x with cleared := sinsert x.cleared t, units := Tab.del x.units t })
  (List.range 4).foldl (fun s c => s.csrPut (R.TALON_TILE_DMA.addr (t / 96) (t % 96) c) 0) s

/-- The passes on any of these tiles stop: every run on them ends with a status. -/
def State.stopTiles (s : State) (tiles : List Nat) (st : Nat) : State :=
  s.killPasses (fun p => (s.planTiles p.plan).any tiles.contains) st

/-- The tiles of a group. -/
def groupTiles (g : Nat) : List Nat := (List.range 8).map (fun r => 96 * (g / 12) + 12 * r + g % 12)

/-- A BLOCK reset of a tile group begins: its runs end FAULTED. -/
def State.tileGroupReset (s : State) (g : Nat) : State :=
  (groupTiles g).foldl (fun s t => (s.resetTile t).setTile t tReset) (s.stopTiles (groupTiles g) Stat.faulted)

/-- A tile group leaves its reset. -/
def State.tileGroupBack (s : State) (g : Nat) : State :=
  (groupTiles g).foldl (fun s t => s.setTile t (if s.talon.faulty.contains t then tFaulted else if s.gated g then tGated else tIdle)) s

end Sys2Proof.Machine
end

