-- ==== Sys2Proof/Machine/DmaOps.lean ====
section
/-! DEFINITION. Tile DMA (R118, R129 to R133): descriptors, the identities and the walker behind an access, the lines of a descriptor, its completion and its stop; poison consumed by a tile's units (R127). -/

namespace Sys2Proof.Machine

/-! ### Error codes (table "TALON_TILE_DMA_n", R133) -/

def DErr.none_ : Nat := 0
def DErr.jess : Nat := 1
def DErr.decode : Nat := 2
def DErr.group : Nat := 3
def DErr.window : Nat := 4
def DErr.poison : Nat := 5
def DErr.noRoute : Nat := 6
def DErr.failed : Nat := 7

def dErrOf (k : Nat) : Nat := if k = KSt.jess ∨ k = KSt.csr then DErr.jess else if k = KSt.decode then DErr.decode else if k = KSt.noRoute then DErr.noRoute else DErr.failed

/-- The status of R133. -/
def statOfErr (e : Nat) : Nat := if e = DErr.jess ∨ e = DErr.group ∨ e = DErr.window then Stat.denied else Stat.faulted

/-! ### Descriptors (table "DMA descriptor") -/

structure Desc where
  src : Nat
  dst : Nat
  len : Nat
  srcStride : Nat
  dstStride : Nat
  kind : Nat
  op : Nat
  cls : Nat
  ordered : Bool
  signal : Bool
  rows : Nat
deriving DecidableEq, Repr

def descOf (l : List Byte) : Desc :=
  let c := fld l 28 2
  { src := fld l 0 8, dst := fld l 8 8, len := fld l 16 4, srcStride := fld l 20 4, dstStride := fld l 24 4, kind := c % 8, op := c / 8 % 8, cls := c / 64 % 4,
    ordered := natBit c 8, signal := natBit c 9, rows := fld l 30 2 }

/-- The address of a KV descriptor's other side is a tile window address. -/
def Desc.windowOk (d : Desc) : Bool :=
  if d.kind = 2 then rangeOf (d.dst % 2 ^ 50) == .tile else if d.kind = 3 then rangeOf (d.src % 2 ^ 50) == .tile else true

/-- The descriptor meets its table. One that does not is ignored by its channel; the reserved bits [15:10] of CTRL are not looked at (log 141). -/
def Desc.ok (d : Desc) : Bool :=
  d.len % 64 == 0 && decide (64 ≤ d.len ∧ d.len ≤ 4194304) && d.srcStride % 64 == 0 && d.dstStride % 64 == 0 && decide (d.kind ≤ 3) && (d.kind != 1 || decide (d.op ≤ 4)) && decide (1 ≤ d.rows)
    && d.windowOk

/-- The lines of a descriptor in order: (offset in the source, offset in the destination). -/
def Desc.lines (d : Desc) : List (Nat × Nat) :=
  (List.range d.rows).flatMap (fun r => (List.range (d.len / 64)).map (fun j => (r * d.srcStride + 64 * j, r * d.dstStride + 64 * j)))

/-- The class of a descriptor's requests: CRIT only in a pass that holds a CRIT run, NORM otherwise (R130). The reserved code 3 acts as NORM (log 141). -/
def Desc.class_ (d : Desc) (crit : Bool) : ReqClass := if d.cls = 1 then .bulk else if d.cls = 2 ∧ crit then .crit else .norm

/-- The tile's own identity (R118). -/
def tileMaster (t : Nat) : Master := ⟨0x2000 + t, .s, false⟩

/-- What the lines of a descriptor are given to work on. -/
structure DmaCtx where
  job : Nat
  tile : Nat
  ch : Nat
  plan : Plan
  pass : Nat
  run : TileRun
  acting : Master
  cls : ReqClass
  d : Desc
deriving DecidableEq, Repr

/-! ### KV pages (R132) -/

/-- A KV locator's line at byte `o` beyond its offset: its rack physical address, where the walker permits the access. A page whose chunk another package holds is followed to that package; a locator
that is malformed or leaves its page is refused as the walker refuses other accesses (log 142). -/
def State.walk (s : State) (r : TileRun) (write : Bool) (loc o : Nat) : Option Nat :=
  let page := loc % 65536
  let group := loc / 2 ^ 16 % 1024
  let at_ := loc / 2 ^ 32 % 65536 + o
  let pos := page * 256 + at_ / 256
  let inside := if write then decide (r.lo ≤ pos ∧ pos < r.hi) else decide (pos < r.len)
  if loc / 2 ^ 26 % 64 ≠ 0 ∨ 2 ^ 48 ≤ loc ∨ at_ % 64 ≠ 0 ∨ 65536 ≤ at_ ∨ !inside then none
  else
    match r.slot with
    | none => none
    | some slot =>
      match s.sesAt slot with
      | none => none
      | some x =>
        match Tab.get? x.shards (page / 512) with
        | some t => some (t * 2 ^ 50 + Config.shardFrame x.handle (pageKey group page) % (hbmEnd / 65536) * 65536 + at_)
        | none =>
          match Tab.get? x.pages (pageKey group page) with
          | some e => if e.tier = 1 then some (s.pkg * 2 ^ 50 + e.hbm * 65536 + at_) else none
          | none => none

/-! ### Identity and refusal (R24, R26, R130, R131) -/

/-- R131 on this package: the tile whose window an access reaches refuses it. -/
def State.tileRefuses (s : State) (p : Plan) (a : Nat) : Bool :=
  let t := (a - tileBase) / 0x400000
  decide (planAreaBytes ≤ (a - tileBase) % 0x400000) || !s.talon.plans.any (fun e => e.2.tiles.contains t && e.2.group == p.group && e.2.domain == p.domain)

/-- The address, the identity and the refusal of an access at `a`: an address that does not decode is reported on the tile's die; one beyond a die-to-die link that has failed ends in an error (R18); a tile window and a KV page are reached with the tile's identity. -/
def State.dmaGate (s : State) (c : DmaCtx) (kv : Bool) (a : Nat) : State × (Nat ⊕ Master) :=
  let l := a % 2 ^ 50
  if 2 ^ 56 ≤ a ∨ (a / 2 ^ 50 = s.pkg ∧ !decodes l 64) then (s.report (portSrc (tileMaster c.tile)) Cls.uc Cause.addrDecode, .inl DErr.decode)
  else if (if a / 2 ^ 50 = s.pkg then s.linkCut (c.tile / 96) l else natBit (s.rd R.TOP_D2D_STATUS.LINK_FAILED) (c.tile / 96)) then (s, .inl DErr.failed)
  else if rangeOf l = .tile then (s, if a / 2 ^ 50 = s.pkg ∧ s.tileRefuses c.plan l then .inl DErr.group else .inr (tileMaster c.tile))
  else (s, .inr (if kv then tileMaster c.tile else c.acting))

/-! ### One line -/

/-- What a source gives of a line: an ERR code, its bytes and poison, or a read that has left for another package. -/
inductive DmaSrc where
  | err (e : Nat)
  | sent
  | line (l : List Byte) (poison : Bool)
deriving DecidableEq, Repr

/-- The line of a source: number `i`, at offset `o`. -/
def State.dmaGet (s : State) (c : DmaCtx) (i o : Nat) : State × DmaSrc :=
  match (if c.d.kind = 2 then s.walk c.run false c.d.src o else some (c.d.src + o)) with
  | none => (s, .err DErr.window)
  | some a =>
    match s.dmaGate c (c.d.kind == 2) a with
    | (s, .inl e) => (s, .err e)
    | (s, .inr who) =>
      if a / 2 ^ 50 ≠ s.pkg then (s.sendRead (a / 2 ^ 50) who c.cls a 1 (.dma c.job i true), .sent)
      else
        match s.actRead who (a % 2 ^ 50) 64 c.cls with
        | (s, .inl k) => (s, .err (dErrOf k))
        | (s, .inr (l, p)) => (s, .line l p)

/-- Bytes of a COPY or ADD destination that lie in a run's argument buffers (R133). -/
def State.inArgs (s : State) (r : TileRun) (a n : Nat) : Nat :=
  match s.entryOf r.plan r.entry with
  | none => 0
  | some e =>
    if (List.range e.kinds.length).any (fun i =>
        decide (2 ≤ lget e.kinds i 0) && decide (lget r.args i 0 ≤ a) && decide (a + n ≤ lget r.args i 0 + lget r.args (i + 1) 0)) then n else 0

/-- The bytes of a line that has been written are counted to its run. -/
def State.countWrote (s : State) (c : DmaCtx) (o : Nat) : State :=
  let b := if 2 ≤ c.d.kind then 0 else s.inArgs c.run (c.d.dst + o) 64
  if b = 0 then s
  else
    s.setTalon (fun t => { t with
      passes := t.passes.map (fun q => if q.id = c.pass then { q with runs := q.runs.map (fun r => if r.seq = c.run.seq then { r with wrote := r.wrote + b } else r) } else q) })

/-- A page that a run writes into loses its clean copies. -/
def State.dirtyFor (s : State) (c : DmaCtx) : State :=
  match c.run.slot with
  | none => s
  | some slot =>
    match s.sesAt slot with
    | none => s
    | some x =>
      match s.dirtyPage x (pageKey (c.d.dst / 2 ^ 16 % 1024) (c.d.dst % 65536)) with
      | (s, x) => s.setSes slot x

/-- A Kite add of a line of this package: it joins its ordered slot, or is performed. The ERR code, 0 when done. -/
def State.dmaAdd (s : State) (c : DmaCtx) (i o a : Nat) (who : Master) (l : List Byte) (poison : Bool) : State × Nat :=
  if rangeOf a = .hbm ∧ c.d.ordered ∧ c.d.op < 3 then
    match s.jessFails (s.checkerOf a) who .a a 64 with
    | some f => (s.jessRefuse (s.checkerOf a) who .a f, DErr.jess)
    | none =>
      if !s.answers (s.modeAt (s.checkerOf a) a).1 a then (s, DErr.failed)
      else
        (s.ordSubmit [{ cls := c.cls, m := who, addr := a / 64 * 64, op := c.d.op, src := s.pkg, data := l, poison := poison, reply := none, run := some (.dma c.job i false) }], 0)
  else
    match s.actAdd who c.d.op (a / 64 * 64) l poison c.cls with
    | (s, 0) => (s.countWrote c o, 0)
    | (s, k + 1) => (s, dErrOf (k + 1))

/-- The destination takes line number `i` at offset `o`: the ERR code, 0 when it is done or has left. -/
def State.dmaPut (s : State) (c : DmaCtx) (i o : Nat) (l : List Byte) (poison : Bool) : State × Nat :=
  match (if c.d.kind = 3 then s.walk c.run true c.d.dst o else some (c.d.dst + o)) with
  | none => (s, DErr.window)
  | some a =>
    match s.dmaGate c (c.d.kind == 3) a with
    | (s, .inl e) => (s, e)
    | (s, .inr who) =>
      let s := if c.d.kind = 3 then s.dirtyFor c else s
      if a / 2 ^ 50 ≠ s.pkg then
        (if c.d.kind = 1 then s.sendAdd (a / 2 ^ 50) who c.cls c.d.op (a / 64 * 64) l c.d.ordered poison (.dma c.job i false)
         else s.sendWrites (a / 2 ^ 50) who c.cls poison (.dma c.job i false) (splitLines a l), 0)
      else if c.d.kind = 1 then s.dmaAdd c i o (a % 2 ^ 50) who l poison
      else
        match s.actWrite who (a % 2 ^ 50) l poison c.cls with
        | (s, 0) => ((if rangeOf (a % 2 ^ 50) = .tile then s.tilePoison ((a % 2 ^ 50 - tileBase) / 0x400000) else s).countWrote c o, 0)
        | (s, k + 1) => (s, dErrOf (k + 1))

/-! ### A descriptor -/

/-- How far a descriptor has come: a refusal at an ERR code, a read under way, or every line done or sent. -/
inductive DmaEnd where
  | err (e : Nat)
  | reading
  | sent
deriving DecidableEq, Repr

/-- The lines of a descriptor from number `i` on, until one is refused or is to be read on another package. -/
def State.dmaLines (s : State) (c : DmaCtx) : List (Nat × Nat) → Nat → State × Nat × DmaEnd
  | [], i => (s, i, .sent)
  | (a, b) :: r, i =>
    match s.dmaGet c i a with
    | (s, .err e) => (s, i, .err e)
    | (s, .sent) => (s, i, .reading)
    | (s, .line l p) =>
      match s.dmaPut c i b l p with
      | (s, 0) => s.dmaLines c r (i + 1)
      | (s, e + 1) => (s, i, .err (e + 1))

/-- The pass and the run that a descriptor belongs to, on a channel that is not stopped. -/
def State.dmaCtx (s : State) (j : DmaJob) : Option DmaCtx :=
  match s.talon.passes.find? (fun p => p.started && p.runs.any (fun r => r.seq == j.seq)), s.runOf j.seq with
  | some p, some c =>
    match p.runs.find? (fun r => r.seq == j.seq), Tab.get? s.talon.plans p.plan with
    | some r, some pl =>
      let d := descOf j.desc
      if pl.tiles.contains j.tile && decide (j.ch < 4) && s.rd R.TALON_TILE_DMA.STATE (j.tile / 96) (j.tile % 96) j.ch != 2 && d.ok then
        some { job := j.id, tile := j.tile, ch := j.ch, plan := pl, pass := p.id, run := r, acting := s.acting c.i.c, cls := d.class_ p.crit, d := d }
      else none
    | _, _ => none
  | _, _ => none

def State.putJob (s : State) (j : DmaJob) : State := s.setTalon (fun t => { t with dma := t.dma.map (fun x => if x.id = j.id then j else x) })

/-- Writes and adds of a descriptor that have not been answered, or wait for an ordered slot. -/
def State.dmaOut (s : State) (job : Nat) : Bool :=
  let mine := fun (f : OutFor) => match f with | .dma j _ rd => j == job && !rd | _ => false
  s.ktl.outst.any (fun o => mine o.for_) || s.ktl.todo.any (fun t => mine t.1.for_) || s.hbm.ordWait.any (fun o => match o.run with | some f => mine f | none => false)

/-- A request of a descriptor is refused or fails (R133): its channel stops with the ERR code, and the run with it. -/
def State.dmaHalt (s : State) (c : DmaCtx) (e : Nat) : State :=
  let s := (s.wr R.TALON_TILE_DMA.STATE 2 (c.tile / 96) (c.tile % 96) c.ch).wr R.TALON_TILE_DMA.ERR e (c.tile / 96) (c.tile % 96) c.ch
  let s := s.flag R.TALON_TILE_EVENT.DMA_ERR R.TALON_TILE_DMA_ERR_CNT.COUNT (c.tile / 96) (c.tile % 96)
  match s.talon.passes.find? (fun q => q.id == c.pass) with
  | none => s
  | some q =>
    let wrote := match q.runs.find? (fun r => r.seq == c.run.seq) with | some r => r.wrote | none => 0
    s.leavePass q [c.run.seq] (statOfErr e) wrote

/-- A descriptor has completed: the completion count takes it, and it leaves its channel (R129). -/
def State.dmaDone (s : State) (j : DmaJob) : State :=
  let s := s.dropJobs (fun x => x.id == j.id)
  if (descOf j.desc).signal then s.bump R.TALON_TILE_DMA.DONE 1 (j.tile / 96) (j.tile % 96) j.ch else s

/-- A descriptor works from its next line on; `got`: the bytes of that line, where they came from another package. -/
def State.dmaWork (s : State) (j : DmaJob) (c : DmaCtx) (got : Option (List Byte × Bool)) : State × DmaEnd :=
  let rest := c.d.lines.drop j.pos
  let r := match got, rest with
    | some (l, p), x :: r =>
      (match s.dmaPut c j.pos x.2 l p with
        | (s, 0) => s.dmaLines c r (j.pos + 1)
        | (s, e + 1) => (s, j.pos, DmaEnd.err (e + 1)))
    | _, _ => s.dmaLines c rest j.pos
  (r.1.putJob { j with pos := r.2.1, reading := r.2.2 == .reading }, r.2.2)

/-- The oldest descriptor of a channel. -/
def State.dmaHead (s : State) (t ch : Nat) : Option DmaJob := s.talon.dma.find? (fun j => j.tile == t && j.ch == ch)

/-- A channel executes its descriptors in ring order, each once the one before it has completed. -/
def State.dmaChannel (s : State) (t ch : Nat) : Nat → State
  | 0 => s
  | n + 1 =>
    match s.dmaHead t ch with
    | none => s
    | some j =>
      match s.dmaCtx j with
      | none => s
      | some c =>
        if j.reading then s
        else
          match s.dmaWork j c none with
          | (s, .err e) => s.dmaHalt c e
          | (s, .reading) => s
          | (s, .sent) => if s.dmaOut j.id then s else (s.dmaDone j).dmaChannel t ch n

/-- Every descriptor of a channel could complete. -/
def State.dmaGo (s : State) (t ch : Nat) : State := s.dmaChannel t ch s.talon.dma.length

/-- A request of a descriptor has been answered. -/
def State.dmaAnswered (s : State) (job line : Nat) (rd : Bool) (r : Option KMsg) : State :=
  match s.talon.dma.find? (fun j => j.id == job) with
  | none => s
  | some j =>
    match s.dmaCtx j with
    | none => s
    | some c =>
      match r with
      | none => s.dmaHalt c DErr.noRoute
      | some m =>
        if m.status ≠ KSt.ok then s.dmaHalt c (dErrOf m.status)
        else if rd then
          match s.dmaWork j c (some (m.data.take 64, natBit m.poison 0)) with
          | (s, .err e) => s.dmaHalt c e
          | (s, .reading) => s
          | (s, .sent) => if s.dmaOut j.id then s else (s.dmaDone j).dmaGo j.tile j.ch
        else (s.countWrote c (match c.d.lines[line]? with | some x => x.2 | none => 0)).dmaGo j.tile j.ch

/-- The sequencer pushes a descriptor onto a channel's ring of 64, after the work of its tile's units that it tells of. A run that is to stop issues none (R140). -/
def State.dmaPush (s : State) (v : DmaEv) : Option (State × DmaJob × DmaCtx) :=
  let j : DmaJob := { id := s.talon.jobs, tile := v.tile, ch := v.ch, seq := v.seq, desc := v.desc, pos := 0, reading := false }
  match s.dmaCtx j with
  | none => none
  | some c =>
    if c.run.stop.isSome ∨ 64 ≤ (s.talon.dma.filter (fun x => x.tile == v.tile && x.ch == v.ch)).length then none
    else
      match s.tileOps v.tile v.work with
      | (_, true) => none
      | (s, false) =>
        some ((s.setTalon (fun t => { t with dma := t.dma ++ [j], jobs := t.jobs + 1 })).wr R.TALON_TILE_DMA.STATE 1 (v.tile / 96) (v.tile % 96) v.ch, j, c)

/-- The channel has no older descriptor. -/
def State.dmaFirst (s : State) (j : DmaJob) : Bool := s.dmaHead j.tile j.ch == some j

/-- DMA_DESCRIPTOR_COMPLETE: a descriptor is executed in its turn, and is complete when the last of its writes has been acknowledged. One that is refused as it is executed stops its channel, which
DMA_CHANNEL_STOP tells of. -/
def State.dmaComplete (s : State) (v : DmaEv) : State :=
  match s.dmaPush v with
  | none => s
  | some (t, j, c) =>
    if !t.dmaFirst j then t
    else
      match t.dmaWork j c none with
      | (_, .err _) => s
      | (t, .reading) => t
      | (t, .sent) => if t.dmaOut j.id then t else t.dmaDone j

/-- The tiles of a run's pass have done some work. -/
def State.runUse (s : State) (seq : Nat) (use : List TileUse) : Option State :=
  match s.talon.passes.find? (fun p => p.runs.any (fun r => r.seq == seq)) with
  | none => none
  | some p => (s.takeUse p use).map (·.1)

/-- DMA_CHANNEL_STOP: the lines before the refused one are done; the channel stops, and the run with it. -/
def State.dmaStop (s : State) (v : DmaEv) (use : List TileUse) : State :=
  match (s.runUse v.seq use).bind (fun s => s.dmaPush v) with
  | none => s
  | some (t, j, c) =>
    if !t.dmaFirst j then s
    else
      match t.dmaWork j c none with
      | (t, .err e) => t.dmaHalt c e
      | _ => s

/-! ### Poison consumed (R127, R133) -/

/-- A channel of a tile whose unit consumed poison, with descriptors of a run that stops for it, stops with ERR 5 (log 143). -/
def State.poisonChannels (s : State) (t : Nat) (hit : List Nat) : State :=
  ((s.talon.dma.filter (fun j => j.tile == t && hit.contains j.seq)).map (fun j => j.ch)).foldl (fun s ch =>
    (s.wr R.TALON_TILE_DMA.STATE 2 (t / 96) (t % 96) ch).wr R.TALON_TILE_DMA.ERR DErr.poison (t / 96) (t % 96) ch) s

/-- POISON_CONSUMED: a unit of the tile consumes the poison of a line, after the work told of; the runs that did stop, each reporting the bytes it has written. -/
def State.poisonRun (s : State) (id t off : Nat) (hit : List Nat) (use : List TileUse) : State :=
  match s.talon.passes.find? (fun p => p.id == id) with
  | none => s
  | some p =>
    if !p.started || !(s.planTiles p.plan).contains t || !p.runs.any (fun r => hit.contains r.seq) then s
    else
      match s.takeUse p use with
      | none => s
      | some (u, p) =>
        match u.tileLines t 1 off with
        | (u, _, poison) =>
          if !poison then s
          else
            let u := (u.report (Src.tileGrp (t / 96) (t % 96)) Cls.uc Cause.poisonConsumed (tileDetail t off)).poisonChannels t hit
            (p.runs.filter (fun r => hit.contains r.seq)).foldl (fun v r => v.endRun r.seq Stat.faulted r.wrote) (u.leaveRuns p hit)

end Sys2Proof.Machine
end

