-- ==== Sys2Proof/Machine/PowerOps.lean ====
section
/-! DEFINITION. The power manager and the ramp governor as shared operations (R301, R302, R311 to R329, R468): credit windows, dispatch against the grant, clocks, ballast, gating. -/

namespace Sys2Proof.Machine

/-! ### Values in force (R314, R315) -/

/-- A regulator does not answer, or none is polled (R410). -/
def State.vrAbsent (s : State) : Bool :=
  s.rd R.PWR_VR_STATUS.ABSENT != 0 || (List.range 8).all (fun k => s.rd R.MGMT_CTL_DEV.ENABLE k == 0)

/-- 0.9 times a set value while a regulator is absent. -/
def State.derate (s : State) (v : Nat) : Nat := if s.vrAbsent then v * 9 / 10 else v

def State.capSet (s : State) : Nat := clampN 600 2400 (s.rd R.PWR_CAP.CAP_W)

/-- The cap, the burst ceiling and the bucket's length take their set values; LEVEL is clipped to the new capacity. -/
def State.capsInForce (s : State) : State :=
  let cap := s.derate s.capSet
  let ms := min 50 (s.rd R.PWR_CAP.BUCKET_MS)
  s.updPwr (fun p => { p with
    capW := cap, burstW := s.derate (max s.capSet (min 3000 (s.rd R.PWR_CAP.BURST_W))), bucketMs := ms, level := min p.level (cap * ms * 1000 : Nat) })

/-- VR_FALLBACK follows the regulators' answers. -/
def State.vrFallback (s : State) : State :=
  if s.vrAbsent then
    (if s.rd R.PWR_STATUS.VR_FALLBACK = 1 then s else (s.wr R.PWR_STATUS.VR_FALLBACK 1).flag R.PWR_EVENT.VR_FALLBACK R.PWR_FALLBACK_CNT.COUNT)
  else s.wr R.PWR_STATUS.VR_FALLBACK 0

/-! ### The end of a window (R312, R317, R318) -/

/-- The ballast energies that a meter gives of tiles with power: gated ones run none (R144). -/
def State.ballastOf (s : State) (i : WindowIn) : List (Nat × Nat) := i.ballast.filter (fun x => decide (x.1 < 384) && !s.gated (groupOf x.1))

/-- Ballast energy of a window in µJ. -/
def State.ballastUj (s : State) (i : WindowIn) : Nat := ((s.ballastOf i).map (fun x => x.2)).sum / 1000

/-- A tile of a running pass has drawn energy: it counts on the tile, and to the pass, which is charged the whole µJ of it in this window (R143, R317). -/
def State.drawTile (s : State) (x : Nat × Nat) : State :=
  match s.talon.passes.find? (fun p => p.started && (s.planTiles p.plan).contains x.1) with
  | none => s
  | some p =>
    let q := { p with drawn := p.drawn + x.2, charged := (p.drawn + x.2) / 1000 }
    ((s.bump R.TALON_TILE_ENERGY x.2 (x.1 / 96) (x.1 % 96)).chargeWork (q.charged - p.charged)).setTalon (fun t => { t with passes := t.passes.map (fun y => if y.id = p.id then q else y) })

/-- The window that ends is settled: bucket, base and unused credits. -/
def State.closeWindow (s : State) (i : WindowIn) : State :=
  let p := s.pwr
  let cap := p.capW
  let level : Int := max (-(cap * 1000 : Nat)) (min (cap * p.bucketMs * 1000 : Nat) (p.level + (cap * 100 : Nat) - (i.energy : Nat)))
  let grant := s.rd R.PWR_GRANT.GRANT
  s.updPwr (fun p => { p with
    level := level, baseHist := (((i.energy : Int) - (s.ballastUj i + p.charged : Nat)) :: p.baseHist).take 10, slackHist := ((grant - i.energy, grant) :: p.slackHist).take 10 })

/-- The energy counters and PWR_LAST take what the meter gave. -/
def State.meter (s : State) (i : WindowIn) : State :=
  let uj := s.ballastUj i
  let l := s.ballastOf i
  let s := ((s.bump R.PWR_ENERGY i.energy).bump R.PWR_BALLAST_ENERGY uj).wr R.PWR_LAST.POWER_W (i.energy / 100)
  let s := s.wr R.PWR_LAST.BALLAST uj
  let s := l.foldl (fun s x => s.bump R.TALON_TILE_BALLAST_ENERGY x.2 (x.1 / 96) (x.1 % 96)) s
  s.updPwr (fun p => { p with charged := 0, workUj := 0, other := 10 * (i.energy - p.workUj - uj) })

def avgInt (l : List Int) : Int := match l with | [] => 0 | l => l.foldl (· + ·) 0 / (l.length : Nat)

/-! ### The grant (table "Terms of the grant") -/

/-- H in 0.1 °C. -/
def State.headroom (s : State) : Int :=
  let dies := (List.range 4).map (fun d => ((s.rd R.PWR_THERM_CFG.DIE_LIMIT_C * 10 : Nat) : Int) - (s.rd R.PWR_DIE.TEMP_DC d : Nat))
  let hbmHeads := (List.range 8).map (fun k =>
    (((s.rd R.HBM_STK_THERM_CFG.THROTTLE_C k : Nat) : Int) - (s.rd R.PWR_THERM_CFG.STACK_MARGIN_C : Nat) - (s.rd R.HBM_STK_TEMP.TEMP_C k : Nat)) * 10)
  (dies ++ hbmHeads).foldl min 10000

/-- The four terms, in the order of LIMIT's codes; `e`: the energy of the last window. -/
def State.grantTerms (s : State) (e : Nat) : List Int :=
  let h := s.headroom
  let w : Nat := if h ≥ (s.rd R.PWR_THERM_CFG.BURST_HEADROOM_C * 10 : Nat) then s.pwr.burstW else s.pwr.capW
  [s.pwr.level, (w * 100 : Nat), (e : Int) + (s.rd R.PWR_THERM_CFG.THERM_GAIN : Nat) * h * 10,
    ((if s.rd R.PWR_VR_STATUS.WARNING = 1 then e * 95 / 100 else s.rd R.PWR_VR_CFG.VR_LIMIT_W * 100 : Nat) : Int)]

def minInt (l : List Int) : Int := match l with | [] => 0 | a :: r => r.foldl min a

/-- The window's grant is computed. -/
def State.setGrant (s : State) (e : Nat) : State :=
  let t := s.grantTerms e
  let g := (minInt t).toNat
  let s := ((s.wr R.PWR_GRANT.GRANT g).wr R.PWR_STATUS.LIMIT (t.findIdx (fun x => x == minInt t))).wr R.PWR_STATUS.BURST (b2n (decide (s.pwr.capW * 100 < g)))
  s.updPwr (fun p => { p with terms := (minInt t.tail).toNat })

/-! ### Credits at the clocks that they allow (R319, R320) -/

def State.targetOf (s : State) (d : Nat) : Nat := lget s.pwr.target d 0
def State.setTarget (s : State) (d f : Nat) : State := s.updPwr (fun p => { p with target := lset p.target d f })

/-- The claim of a pass at the clocks that its dies are to have, in mW. -/
def State.tgtMw (s : State) (plan entry : Nat) : Nat :=
  s.alpha plan entry * ((s.planTiles plan).map (fun t => s.tileWorkMw t * scaleOf (t / 96) (s.targetOf (t / 96)) / 32768)).sum / 32768

def State.tgtClaims (s : State) : Nat :=
  (s.talon.passes.map (fun p => creditsOf (s.tgtMw p.plan p.entry))).sum + (if s.xferRunning then creditsOf s.xferMw else 0)

/-- Credits of the window that nothing has claimed. -/
def State.freeCredits (s : State) : Int := (s.rd R.PWR_GRANT.GRANT : Nat) - s.pwr.baseEst - (s.ballastCr : Nat) - (s.tgtClaims : Nat)

/-- The free credits and the booked ones are brought up to date. -/
def State.rebook (s : State) : State := (s.updPwr (fun p => { p with freeCr := s.freeCredits })).wr R.PWR_GRANT.BOOKED s.tgtClaims

/-- The dies that passes selected by `f` run on. -/
def State.diesOf (s : State) (f : Pass → Bool) : List Nat :=
  (((s.talon.passes.filter f).flatMap (fun p => s.planTiles p.plan)).map (fun t => t / 96)).foldl sinsert []

def State.critDies (s : State) : List Nat := s.diesOf (fun p => p.crit)
def State.otherDies (s : State) : List Nat := (s.diesOf (fun _ => true)).filter (fun d => !s.critDies.contains d)

/-- Equal 25 MHz steps down over the given dies, until `ok`. -/
def State.lowerSteps (dies : List Nat) (ok : State → Bool) : Nat → State → State
  | 0, s => s
  | n + 1, s =>
    if ok s || dies.all (fun d => decide (s.targetOf d ≤ s.clockMin)) then s
    else State.lowerSteps dies ok n (dies.foldl (fun s d => s.setTarget d (max s.clockMin (s.targetOf d - 25))) s)

/-- Equal 25 MHz steps up over the given dies, while the credits last. -/
def State.raiseSteps (dies : List Nat) : Nat → State → State
  | 0, s => s
  | n + 1, s =>
    let s' := dies.foldl (fun s d => s.setTarget d (min 2000 (s.targetOf d + 25))) s
    if s'.freeCredits < 0 ∨ s'.pwr.target = s.pwr.target then s else State.raiseSteps dies n s'

/-- Clocks follow the credits: lowered on dies of other work and then on CRIT ones, or raised in the reverse order. Dies with no pass may have 2,000 MHz. -/
def State.fitClocks (s : State) : State :=
  let low := s.otherDies
  let high := s.critDies
  let s := ((List.range 4).filter (fun d => !low.contains d && !high.contains d)).foldl (fun s d => s.setTarget d 2000) s
  let ok := fun (s : State) => decide (0 ≤ s.freeCredits)
  let s := if ok s then State.raiseSteps low 48 (State.raiseSteps high 48 s) else State.lowerSteps high ok 48 (State.lowerSteps low ok 48 s)
  s.wr R.PWR_STATUS.CLOCK_LIMITED (b2n (s.pwr.target.any (fun f => decide (f < 2000))))

/-! ### Dispatch (R319) -/

/-- An item of the dispatch order. -/
inductive Item where
  | xfer (seq : Nat)
  | pass (runs : List TileRun)
deriving DecidableEq, Repr

/-- The items in class order, each with whether it is CRIT. -/
def State.items (s : State) : List (Bool × Item) :=
  let x := fun (c : Transfer → Bool) => (s.xferOrder c).map (fun t => Item.xfer t.seq)
  let p := fun (crit : Bool) => (s.candidatePasses.filter (fun l => l.any (fun r => r.crit) == crit)).map Item.pass
  ((x (fun t => t.kind == .unpark && t.cls == 1) ++ p true).map (fun i => (true, i)))
    ++ ((x (fun t => t.kind == .park && t.cls == 2) ++ x (fun t => t.kind == .unpark && t.cls != 1) ++ p false
      ++ x (fun t => !(t.kind == .unpark || (t.kind == .park && t.cls == 2)))).map (fun i => (false, i)))

/-- The credits that an item needs, and what dispatching it does; none where it is no longer ready. -/
def State.itemOf (s : State) : Item → Option (Nat × (State → State))
  | .xfer q =>
    match s.roost.xfers.find? (fun t => t.seq == q && !t.running) with
    | none => none
    | some t =>
      if s.runMax ≤ s.runCount ∨ s.roostUp = false then none else some (if s.xferRunning then 0 else creditsOf s.xferMw, fun s => (s.xferBegin t).1)
  | .pass l =>
    match l with
    | [] => none
    | r :: _ =>
      if l.all (fun q => s.talon.ready.contains q && s.runReady q) && s.planFree r.plan && s.planSound r.plan then
        some (creditsOf (s.tgtMw r.plan r.entry), fun s => (s.dispatchPass l).1)
      else none

/-- Dispatch in order, until an item does not fit. A CRIT item has the clocks of other work lowered for it. -/
def State.dispatchItems : List (Bool × Item) → State → State
  | [], s => s
  | (crit, i) :: r, s =>
    match s.itemOf i with
    | none => State.dispatchItems r s
    | some (claim, go) =>
      let ok := fun (s : State) => decide ((claim : Int) ≤ s.freeCredits)
      if ok s then State.dispatchItems r (go s)
      else if crit then
        let s' := State.lowerSteps s.otherDies ok 48 s
        if ok s' then State.dispatchItems r (go s') else s
      else s

/-- R322: energy-policy park requests, once per ms. -/
def State.parkPolicy (s : State) : State :=
  let f := s.rd R.PWR_POLICY.PARK_FREE_PCT
  let unused := (s.pwr.slackHist.map (fun x => x.1)).sum
  let grants := (s.pwr.slackHist.map (fun x => x.2)).sum
  if s.rd R.PWR_WINDOW % 10 = 0 ∧ s.kvFree * 100 < f * s.ses.kvCount ∧ s.rd R.PWR_POLICY.PARK_SLACK_PCT * grants < unused * 100
      ∧ s.rd R.PWR_STATUS.CLOCK_LIMITED = 0 then
    s.updPwr (fun p => { p with parkReqs := s.rd R.PWR_POLICY.PARK_REQ_MAX })
  else s

/-- The hottest sensors; a die below DIE_TRIP_C can trip again. -/
def State.dieTemps (s : State) (l : List Nat) : State :=
  let s := (l.take 4).zip (List.range 4) |>.foldl (fun s x => s.wr R.PWR_DIE.TEMP_DC x.1 x.2) s
  s.updPwr (fun p => { p with tripped := p.tripped.filter (fun d => decide (s.rd R.PWR_THERM_CFG.DIE_TRIP_C * 10 ≤ s.rd R.PWR_DIE.TEMP_DC d)) })

/-- CREDIT_WINDOW_START. -/
def State.windowStart (s : State) (i : WindowIn) : State :=
  let k := s.epoch / 100000
  if !s.coreOn || !s.time.fastRun || (s.pwr.windows != 0 && s.rd R.PWR_WINDOW == k) then s
  else
    let first := s.pwr.windows = 0
    let s := i.work.foldl State.drawTile s
    let s := if first then s else s.closeWindow i
    let s := (s.meter i).capsInForce.vrFallback
    let s := (s.dieTemps i.dieTemp).wr R.PWR_WINDOW k
    let s := s.updPwr (fun p => { p with windows := p.windows + 1, baseEst := if first then (i.energy : Nat) else avgInt p.baseHist })
    let s := (s.setGrant i.energy).raiseWarden 4
    let s := s.parkPolicy.sweepReady
    (State.dispatchItems s.items s).fitClocks.rebook

/-- Windows begin anew, with an empty bucket (R311). -/
def State.windowsReset (s : State) : State :=
  s.updPwr (fun p => { p with level := 0, windows := 0, baseHist := [], slackHist := [], charged := 0, workUj := 0, freeCr := 0, baseEst := 0, terms := 0 })

/-- DIE_THERMAL_TRIP (R313). -/
def State.dieTrip (s : State) (d t : Nat) : State :=
  if !s.coreOn || t < s.rd R.PWR_THERM_CFG.DIE_TRIP_C * 10 || s.pwr.tripped.contains d || !decide (d < 4) then s
  else
    let s := (s.wr R.PWR_DIE.TEMP_DC t d).updPwr (fun p => { p with tripped := sinsert p.tripped d })
    let s := (s.flag R.PWR_EVENT.THERM_TRIP R.PWR_TRIP_CNT.COUNT).killPasses (fun p => (s.planTiles p.plan).any (fun x => x / 96 == d)) Stat.faulted
    s.report (Src.dieTherm d) Cls.fa Cause.thermalTrip

/-! ### Gating (R302, R468) -/

/-- A pass needs the group, or the state is FLIGHT. -/
def State.groupWanted (s : State) (g : Nat) : Bool :=
  s.pwr.pstate == .flight || s.talon.passes.any (fun p => p.wakes.contains g)

def State.waking (s : State) (g : Nat) : Bool := natBit (s.rd R.TALON_DIE_GATE.WAKING (g / 12)) (g % 12)

def State.setGated (s : State) (g : Nat) (v : Bool) : State :=
  let old := s.rd R.TALON_DIE_GATE.GATED (g / 12)
  s.wr R.TALON_DIE_GATE.GATED (if natBit old (g % 12) == v then old else if v then old + 2 ^ (g % 12) else old - 2 ^ (g % 12)) (g / 12)

def State.setWaking (s : State) (g : Nat) (v : Bool) : State :=
  let old := s.rd R.TALON_DIE_GATE.WAKING (g / 12)
  s.wr R.TALON_DIE_GATE.WAKING (if natBit old (g % 12) == v then old else if v then old + 2 ^ (g % 12) else old - 2 ^ (g % 12)) (g / 12)

/-- A gating step may be taken: at most one per µs. -/
def State.stepFree (s : State) : Bool := decide (s.pwr.gateStep + 1000 ≤ s.now)

/-- GROUP_WAKE_COMPLETE: a waking group has power. -/
def State.groupWakeDone (s : State) (g : Nat) : State :=
  if !s.waking g || !decide (g < 48) then s
  else
    let s := ((s.setWaking g false).setGated g false).updPwr (fun p => { p with groupAt := Tab.del p.groupAt g, groupIdle := Tab.put p.groupIdle g s.now })
    let s := (groupTiles g).foldl (fun s t => if s.tileState t = tGated then s.setTile t tIdle else s) s
    s.groupWoke g

def State.gateGroup (s : State) (g : Nat) : State :=
  (groupTiles g).foldl (fun s t => if s.tileState t = tIdle then s.setTile t tGated else s) (s.setGated g true)

/-- The group has run no pass for GATE_IDLE_US, and its tiles are idle. -/
def State.groupIdle (s : State) (g : Nat) : Bool :=
  !s.gated g && !s.groupWanted g && decide (Tab.get s.pwr.groupIdle g 0 + 1000 * s.rd R.PWR_POLICY.GATE_IDLE_US ≤ s.now)
    && !s.talon.passes.any (fun p => (s.planTiles p.plan).any (fun t => groupOf t == g))

def State.allPowered (s : State) : Bool := (List.range 4).all (fun d => s.rd R.TALON_DIE_GATE.GATED d == 0)

/-! ### The ramp governor (R324 to R328) -/

/-- The tiles' work in mW. -/
def State.workMw (s : State) : Nat := ((s.talon.passes.filter (fun p => p.started)).map (fun p => s.passMw p.plan p.entry)).sum

/-- The work of a die's started passes with the die at clock `f`, in mW. -/
def State.dieMw (s : State) (d f : Nat) : Nat :=
  ((s.talon.passes.filter (fun p => p.started)).map (fun p =>
    s.alpha p.plan p.entry * (((s.planTiles p.plan).filter (fun t => t / 96 == d)).map (fun t => s.tileWorkMw t * scaleOf d f / 32768)).sum / 32768)).sum

/-- A tile's ballast at DUTY 64 on a die, in mW. -/
def State.tileBallast (s : State) (d : Nat) : Nat := s.rd R.TALON_DIE_BALLAST_MW.TILE_BALLAST_MW d * s.scale d / 32768

/-- The most ballast that a die's powered idle tiles reach, in mW (R326). -/
def State.ballastTop (s : State) (d : Nat) : Nat := s.restCount d * s.tileBallast d

/-- The most ballast that the governor gives a die; a tripped die's is not raised, unless the reserve stands at its bound (R313, R324). -/
def State.ballastMax (s : State) (d : Nat) : Nat :=
  if s.pwr.tripped.contains d then min (s.ballastTop d) (lget s.pwr.ballast d 0) else s.ballastTop d

/-- The package's load in mW. -/
def State.loadMw (s : State) : Nat := s.workMw + s.pwr.other + s.pwr.ballast.sum

/-- A group's step of load in mW: eight tiles at 1.5 W (R468). -/
def groupMw : Nat := 12000

/-- P_ref has reached the load that results from waking or gating `n` groups (R329). -/
def State.refReached (s : State) (wake : Bool) (n : Nat) : Bool :=
  if wake then decide (s.loadMw + groupMw * n ≤ s.pwr.pRef) else decide (s.pwr.pRef + groupMw * n ≤ s.loadMw)

/-- The groups that the next step wakes: at most two of those that are wanted. -/
def State.nextWakes (s : State) : List Nat := ((List.range 48).filter (fun g => s.gated g && !s.waking g && s.groupWanted g)).take 2

/-- The groups that the next step gates: in GLIDE, at most two that have idled long enough. -/
def State.nextGates (s : State) : List Nat := if s.pwr.pstate = .glide then ((List.range 48).filter s.groupIdle).take 2 else []

/-- The load that P_ref moves towards: work at the clocks allowed, work that waits for its pre-ramp, the rest, what drains a negative reserve, and the groups to be woken or gated next. -/
def State.rampGoal (s : State) : Nat :=
  let passes := s.talon.passes.filter (fun p => p.wakes == [])
  s.pwr.other + (passes.map (fun p => s.tgtMw p.plan p.entry)).sum + (-s.pwr.reserve).toNat / (100 * max 1 (s.rd R.PWR_GOV_CFG.TAU_US)) + groupMw * s.nextWakes.length
    - (if s.nextWakes = [] then groupMw * s.nextGates.length else 0)

/-- The next step wakes its groups, once P_ref has reached the load that results. -/
def State.wakeGroups (s : State) : State :=
  let l := s.nextWakes
  if l = [] ∨ !s.stepFree ∨ !s.refReached true l.length then s
  else
    l.foldl (fun s g => s.setWaking g true) (s.updPwr (fun p => { p with gateStep := s.now, groupAt := l.foldl (fun t g => Tab.put t g s.now) p.groupAt }))

/-- GROUP_GATE_IDLE: the next step gates its groups, once P_ref has reached the load that results. -/
def State.gateIdle (s : State) : State :=
  let l := s.nextGates
  if l = [] ∨ !s.stepFree ∨ !s.refReached false l.length then s
  else l.foldl State.gateGroup (s.updPwr (fun p => { p with gateStep := s.now }))

def approach (a goal step : Nat) : Nat := if a < goal then min goal (a + step) else max goal (a - step)

/-- A die takes its share of the ballast wanted, and the duty that gives it. -/
def State.setBallast (s : State) (want : Nat) (extreme : Bool) : State :=
  let m := (List.range 4).map (if extreme then s.ballastTop else s.ballastMax)
  let all := m.sum
  let share := m.map (fun x => if extreme then x else if all = 0 then 0 else min x (cdiv (want * x) all))
  let s := s.updPwr (fun p => { p with ballast := share })
  (List.range 4).foldl (fun s d =>
    let b := lget share d 0
    let per := s.idleCount d * s.tileBallast d
    let duty := if extreme then 64 else if per = 0 then 0 else min 64 (cdiv (64 * b) per)
    (s.wr R.TALON_DIE_BALLAST.DUTY duty d).wr R.TALON_DIE_BALLAST.ACTIVE (b2n (b != 0)) d) s

/-- RESERVE_UJ in units of 10 pJ. -/
def State.reserveMax (s : State) : Nat := s.rd R.PWR_FUSE.RESERVE_UJ * 100000

/-- The reserve takes a cycle's difference, and stands at its bound at most. -/
def State.addReserve (s : State) (d : Int) : State :=
  let v := s.pwr.reserve + d
  let m : Int := (s.reserveMax : Nat)
  let out := decide (m < v) || decide (v < -m)
  let s := if out && !s.pwr.limited then s.flag R.PWR_EVENT.RESERVE_LIMIT R.PWR_RESLIM_CNT.COUNT else s
  s.updPwr (fun p => { p with reserve := max (-m) (min m v), limited := out })

/-- Clocks of the dies move towards what the credits allow, along P_ref; one step at most on each die. -/
def State.moveClock (s : State) (d : Nat) : State :=
  let f := s.clockOf d
  let t := s.targetOf d
  let load := s.workMw + s.pwr.other
  if s.pwr.limited && decide (s.pwr.reserve < 0) then
    (if s.pwr.stepAt + 500 ≤ s.now ∧ s.clockMin < f then (s.setClock d (max s.clockMin (f - 25))) else s)
  else if f < t then
    (if s.dieMw d f = 0 then (if lget s.pwr.ballast d 0 = 0 then s.setClock d t else s)
     else if load + (s.dieMw d (min t (f + 25)) - s.dieMw d f) ≤ s.pwr.pRef then s.setClock d (min t (f + 25)) else s)
  else if t < f then
    (if s.dieMw d f = 0 then s else if s.pwr.pRef < load then s.setClock d (max t (f - 25)) else s)
  else s

/-- One cycle of the governor. -/
def State.governor (s : State) : State :=
  if !s.coreOn then s
  else
    let p := approach s.pwr.pRef s.rampGoal (10 * min 25 (s.rd R.PWR_GOV_CFG.RAMP_W_PER_US))
    let s := s.updPwr (fun w => { w with pRef := p })
    let load := s.workMw + s.pwr.other
    let want : Int := (p : Int) + s.pwr.reserve / (100 * max 1 (s.rd R.PWR_GOV_CFG.TAU_US) : Nat) - (load : Nat)
    let s := s.setBallast want.toNat (s.pwr.limited && decide (0 < s.pwr.reserve))
    let s := s.addReserve ((p : Int) - (load + s.pwr.ballast.sum : Nat))
    let slow := s.pwr.limited && decide (s.pwr.reserve < 0) && decide (s.pwr.stepAt + 500 ≤ s.now)
    let s := (List.range 4).foldl State.moveClock s
    let s := if slow then s.updPwr (fun w => { w with stepAt := s.now }) else s
    (s.talon.passes.foldl State.tryStart s).wakeGroups

/-- Ten ns in which no command waits. -/
def State.idle (s : State) : State := s.tickTime.governor

/-! ### Register writes (R315, R332) -/

/-- A write of PWR_CAP: out-of-range values are clamped as they are written. -/
def capClamp (v : Word) : Word :=
  ((v.setField 0 12 (clampN 600 2400 (v.field 0 12))).setField 12 12 (min 3000 (v.field 12 12))).setField 24 8 (min 50 (v.field 24 8))

/-- The ranges of PWR_THERM_CFG, PWR_GOV_CFG and PWR_POLICY. -/
def cfgOk (which : PwrCfg) (v : Word) : Bool :=
  let r := fun lo w a b => decide (a ≤ v.field lo w ∧ v.field lo w ≤ b)
  match which with
  | .therm => r 0 8 85 115 && r 8 8 (v.field 0 8 + 5) 125 && r 16 8 0 40 && r 24 12 10 400 && r 40 4 0 10
  | .gov => r 0 5 1 25 && r 8 8 0 100 && r 16 8 5 100
  | .policy => r 0 7 1 100 && r 8 7 0 100 && r 16 8 1 255 && r 32 16 20 65535

def cfgAddr : PwrCfg → Nat
  | .therm => R.PWR_THERM_CFG.addr 0 0 0
  | .gov => R.PWR_GOV_CFG.addr 0 0 0
  | .policy => R.PWR_POLICY.addr 0 0 0

end Sys2Proof.Machine
end

