-- ==== Sys2Proof/Machine/SecOps.lean ====
section
/-! DEFINITION. Keys, OTP, the entropy source, boot images, attestation as shared operations (16_security.md). -/

namespace Sys2Proof.Machine

/-! ### AES key wrap with padding (NIST SP 800-38F) -/

/-- The wrapping function W: `n` steps from step number `t` on, over the semiblock A and the others. -/
def kwpW (key : Nat) : Nat → Nat → Nat → List Nat → List Nat
  | 0, _, a, r => a :: r
  | _ + 1, _, a, [] => [a]
  | n + 1, t, a, x :: r =>
    let b := aesEnc key (beBytes 8 a ++ beBytes 8 x)
    kwpW key n (t + 1) (beNat (b.take 8) ^^^ t) (r ++ [beNat (b.drop 8)])

/-- Its inverse, from step `n` down; the other semiblocks stand last first. -/
def kwpUnW (key : Nat) : Nat → Nat → List Nat → List Nat
  | 0, a, r => a :: r.reverse
  | _ + 1, a, [] => [a]
  | n + 1, a, x :: r =>
    let b := aesDec key (beBytes 8 (a ^^^ (n + 1)) ++ beBytes 8 x)
    kwpUnW key n (beNat (b.take 8)) (r ++ [beNat (b.drop 8)])

def semiblocks : Nat → List Nat → List Nat
  | 0, _ => []
  | n + 1, l => beNat (l.take 8) :: semiblocks n (l.drop 8)

/-- AES-256-KWP of a message of more than 8 bytes. -/
def kwpWrap (key : Nat) (m : List Byte) : List Byte :=
  let l := bytesN m ++ List.replicate ((8 - m.length % 8) % 8) 0
  let n := l.length / 8
  nBytes ((kwpW key (6 * n) 1 (0xA65959A6 * 2 ^ 32 + m.length) (semiblocks n l)).flatMap (beBytes 8))

/-- The unwrap of a message of more than 8 bytes; none where its integrity check fails. -/
def kwpUnwrap (key : Nat) (c : List Byte) : Option (List Byte) :=
  let n := c.length / 8 - 1
  match semiblocks (n + 1) (bytesN c) with
  | [] => none
  | a :: r =>
    match kwpUnW key (6 * n) a r.reverse with
    | [] => none
    | a :: r =>
      let len := a % 2 ^ 32
      let l := r.flatMap (beBytes 8)
      if a / 2 ^ 32 = 0xA65959A6 ∧ len ≤ 8 * n ∧ 8 * n < len + 8 ∧ (l.drop len).all (· == 0) then some (nBytes (l.take len)) else none

/-! ### State of the security functions -/

def State.updSec (s : State) (f : SecState → SecState) : State := { s with sec := f s.sec }
def State.secMode (s : State) : Nat := s.rd R.SEC_STATUS.MODE

def modeBoot : Nat := 0
def modeNormal : Nat := 1
def modeHooded : Nat := 2
def modeUnprov : Nat := 3
def modeHalted : Nat := 4

/-- The current DUS bank: the lowest-numbered valid one. -/
def State.dusBank (s : State) : Option Nat := (List.range 4).find? (fun k => lget s.sec.banks k 0 == 1)

def State.tampered (s : State) : Bool := s.rd R.SEC_TAMPER.TAMPER == 1

/-! ### The TRNG (R378) -/

/-- 64 random bits. -/
def State.rand64 (s : State) : State × Nat := (s.draw, (Config.trng s.free).toNat)

/-- 256 random bits. -/
def State.rand256 (s : State) : State × Nat :=
  let (s, a) := s.rand64
  let (s, b) := s.rand64
  let (s, c) := s.rand64
  let (s, d) := s.rand64
  (s, a + b * 2 ^ 64 + c * 2 ^ 128 + d * 2 ^ 192)

/-! ### The sealed key table -/

def keyBytes (k : Nat) : List Byte := nBytes (beBytes 32 k)
def KeySet.material (k : KeySet) : List Byte :=
  keyBytes k.xts1 ++ keyBytes k.xts2 ++ keyBytes k.tag ++ keyBytes k.ex1 ++ keyBytes k.ex2 ++ keyBytes k.exTag

/-- A key set from its 192 bytes. -/
def keySetOf (m : List Byte) (version : Nat) : KeySet :=
  let k := fun i => beNat (bytesN (slice m (32 * i) 32))
  { xts1 := k 0, xts2 := k 1, tag := k 2, ex1 := k 3, ex2 := k 4, exTag := k 5, version := version }

/-- A record of the table is written: 200 bytes wrapped under TABLE_KEY, then 48 zeros. -/
def State.sealRecord (s : State) (d : Nat) (b : Bool) : State :=
  match s.sec.tableKey with
  | none => s
  | some key =>
    let k := (s.domKeys d).pick b
    let cur := (s.rd R.CRYPT_DOM.CURRENT d == 1) == b
    let m := leBytes 2 d ++ leBytes 1 (b2n (k.isSome && cur) + 2 * b2n k.isSome) ++ leBytes 1 0
      ++ (match k with | some k => leBytes 4 k.version ++ k.material | none => List.replicate 196 0)
    s.store (roostBase + 0x2000000 + (2 * d + b2n b) * 256) (kwpWrap key m ++ List.replicate 48 0)

/-- A domain's set is sealed, or its record loses VALID; the cache groups drop what they held of it. -/
def State.setKey (s : State) (d : Nat) (b : Bool) (k : Option KeySet) : State :=
  let s := s.updCrypt (fun c => { c with keys := Tab.upd c.keys d { a := none, b := none } (fun x => if b then { x with b := k } else { x with a := k }) })
  let s := s.updSec (fun x => { x with groups := x.groups.filter (· != 2 * d + b2n b) })
  (s.domRefresh d).sealRecord d b

/-- A drawn key set: the export keys are zero where `ex` is false. -/
def State.drawKeys (s : State) (version : Nat) (ex : Bool) : State × KeySet :=
  let (s, a) := s.rand256
  let (s, b) := s.rand256
  let (s, c) := s.rand256
  let (s, d) := s.rand256
  let (s, e) := s.rand256
  let (s, f) := s.rand256
  (s, { xts1 := a, xts2 := b, tag := c, ex1 := if ex then d else 0, ex2 := if ex then e else 0, exTag := if ex then f else 0, version := version })

/-- Every record is not VALID, and key domain 0 receives a new set A (R373). -/
def State.keyTableNew (s : State) : State :=
  let old := s.crypt.keys.map (·.1)
  let s := s.updCrypt (fun c => { c with keys := [] })
  let s := old.foldl (fun s d => s.domRefresh d) s
  let (s, k) := s.drawKeys 1 false
  (s.wr R.CRYPT_DOM.CURRENT 0 0).setKey 0 false (some k)

/-- The STATE, CURRENT and HELD fields of the domains are rebuilt from the table (R373). -/
def State.keyTableRebuild (s : State) : State :=
  s.crypt.keys.foldl (fun s e => s.domRefresh e.1) s

/-- Every slot of the key store is zeroized, with the scramble copies, the Crypt engine's pipes and the merge buffer (R380, R389). -/
def State.zeroize (s : State) : State :=
  let s := s.crypt.merge.foldl (fun s e => s.answerAll e.waiters false) s
  let old := s.crypt.keys.map (·.1)
  let s := (s.updCrypt (fun c => { c with keys := [], merge := [], scramble := 0, rekey := none })).updSec (fun x => { x with tableKey := none, groups := [] })
  let s := old.foldl (fun s d => s.domRefresh d) s
  ((s.wr R.SEC_STATUS.DERIVED 0).wr R.SEC_KEYSTORE.TABLE_KEY_VALID 0).wr R.CRYPT_STATUS.REKEY 0

/-! ### Blobs (R374) -/

def blobLen : Nat := 1920

def zeros (n : Nat) : List Byte := List.replicate n 0

/-- The key set and KEY_VERSION that a blob for domain `d` unwraps to. -/
def State.unwrapBlob (s : State) (d : Nat) (b : List Byte) : Option KeySet :=
  let ver := fld b 8 4
  if b.length ≠ blobLen ∨ fld b 0 4 ≠ 0x424F4C42 ∨ fld b 4 2 ≠ 1 ∨ fld b 6 2 ≠ d ∨ ver = 0 ∨ fld b 12 4 ≠ blobLen
      ∨ !(zeroes b 16 8 && zeroes b 121 7 && zeroes b 1896 24) then none
  else
    match s.dusBank with
    | none => none
    | some k =>
      match Config.transportSecret k (slice b 24 97) (slice b 128 1568) with
      | none => none
      | some z =>
        let key := beNat (bytesN ((sha384 ([0, 0, 0, 1] ++ z ++ b.take 1696)).take 32))
        match kwpUnwrap key (slice b 1696 200) with
        | none => none
        | some m => if m.length = 192 then some (keySetOf m ver) else none

def State.keyFail (s : State) : State := s.flag R.SEC_EVENT.KEY_FAIL R.SEC_KEYFAIL_CNT.COUNT

/-! ### Boot images (R369) -/

def bootSlotAt (b : Bool) : Nat := if b then 0x2000000 else 0
def State.flashBytes (s : State) (a n : Nat) : List Byte := (List.range n).map (fun i => s.flashByte (a + i))

/-- A header that steps 2 and 3 accept. -/
def State.headerOk (s : State) (h : List Byte) : Bool :=
  let len := fld h 12 4
  fld h 0 4 == 0x4F4C5254 && fld h 4 2 == 1 && fld h 6 2 == 0 && decide (fld h 8 4 ≤ 64) && len % 64 == 0 && decide (64 ≤ len ∧ len ≤ 8388608)
    && fld h 16 8 % 65536 == 0 && decide (fld h 16 8 + len ≤ hbmEnd) && fld h 24 8 % 4 == 0 && decide (fld h 24 8 < len)
    && zeroes h 80 48 && zeroes h 225 31 && zeroes h 7571 621
    && sha384 (slice h 128 97) == Config.bootHashEc && sha384 (slice h 256 2592) == Config.bootHashMl && decide (s.sec.svn ≤ fld h 8 4)
    && Config.ecVerify (slice h 128 97) (h.take 128) (slice h 2848 96) && Config.mlVerify (slice h 256 2592) (h.take 128) (slice h 2944 4627)

/-- The image in a flash slot, where steps 2 to 4 accept it: its header and its body. -/
def State.bootImage (s : State) (b : Bool) : Option (List Byte × List Byte) :=
  let h := s.flashBytes (bootSlotAt b) 8192
  if !s.headerOk h then none
  else
    let body := s.flashBytes (bootSlotAt b + 8192) (fld h 12 4)
    if sha384 body = slice h 32 48 then some (h, body) else none

/-- DIGEST is written to SEC_MEASURE. -/
def State.setMeasure (s : State) (d : List Byte) : State := (List.range 6).foldl (fun s i => s.wr R.SEC_MEASURE (leNat (slice d (8 * i) 8)) i) s
def State.measure (s : State) : List Byte := (List.range 6).flatMap (fun i => leBytes 8 (s.rd R.SEC_MEASURE i))

/-- MODE and the derived keys at a start (R371). -/
def State.fillKeys (s : State) : State :=
  let s := s.wr R.SEC_STATUS.OTP_SVN s.sec.svn
  if s.tampered then s.wr R.SEC_STATUS.MODE modeHooded
  else
    match s.dusBank with
    | none => s.wr R.SEC_STATUS.MODE modeUnprov
    | some k => ((s.wr R.SEC_STATUS.MODE modeNormal).wr R.SEC_STATUS.DUS_BANK k).wr R.SEC_STATUS.DERIVED 1

/-! ### OTP (R372) and attestation (R379) -/

/-- A write of TARGET. -/
def State.svnAdvance (s : State) (target : Nat) : State :=
  if s.rd R.SEC_STATUS.IMAGE_SVN < target ∨ 64 < target ∨ target ≤ s.sec.svn then s
  else (s.updSec (fun x => { x with svn := target })).wr R.SEC_STATUS.OTP_SVN target

/-- The report's bytes before its signatures. -/
def State.reportBody (s : State) (nonce : List Byte) : List Byte :=
  let bank := s.dusBank.getD 0
  let state := s.secMode + 8 * b2n s.tampered + 16 * s.rd R.SEC_PORT.PORT_OPEN + 32 * s.rd R.SEC_STATUS.DUS_BANK + 128 * s.rd R.SEC_STATUS.BOOT_SLOT
  let keys := if s.secMode = modeNormal then Config.trEcPub bank ++ zeros 7 ++ Config.trKemPub bank else zeros 1672
  leBytes 4 0x54415454 ++ leBytes 2 1 ++ leBytes 1 s.pkg ++ leBytes 1 (s.rd R.TOP_IDENT.STEPPING) ++ leBytes 8 (s.rd R.TIME_NONCE) ++ leBytes 8 s.epoch
    ++ (nonce ++ zeros 64).take 64 ++ s.measure ++ leBytes 4 (s.rd R.SEC_STATUS.IMAGE_SVN) ++ leBytes 4 s.sec.svn ++ leBytes 4 state ++ zeros 12
    ++ (keys ++ zeros 1672).take 1672

/-- The attestation report: 6,555 bytes. -/
def State.attestReport (s : State) (nonce : List Byte) : List Byte :=
  let body := s.reportBody nonce
  let bank := s.dusBank.getD 0
  if s.secMode = modeNormal then (body ++ (Config.attEcSign bank body ++ zeros 96).take 96 ++ (Config.attMlSign bank body ++ zeros 4627).take 4627)
  else body ++ zeros 4723

end Sys2Proof.Machine
end

