-- ==== Sys2Proof/Machine/KeyOps.lean ====
section
/-! DEFINITION. The work of the commands that read a source buffer (MEM_COPY, PLAN_LOAD, WEIGHTS_LOAD, KEY_DOMAIN_LOAD, CRYPT_REKEY, ATTEST), and how it goes on once the buffer's bytes have come from another
package. -/

namespace Sys2Proof.Machine

/-! ### Plans and weights -/

/-- PLAN_LOAD's work: the image is read, checked and placed. -/
def State.planMove (s : State) (i : ICmd) (ext : ExtRead) : State :=
  match s.gather (s.acting i.c) (i.c.p 0) ext i.cls (i.c.p 1 / 64) 0 with
  | (s, .inl k) => s.endK i.seq k 0
  | (s, .inr img) =>
    match s.planInstall img (s.cmdDomain i.c) with
    | (s, .inl id) => s.endRun i.seq Stat.ok id
    | (s, .inr st) => s.endRetry i.seq st (if st = Stat.busy then 10 else noRetry)

/-- WEIGHTS_LOAD's move. -/
def State.weightsMove (s : State) (i : ICmd) (ext : ExtRead) (p : Plan) : State :=
  let m := s.acting i.c
  let r := s.copyLines (fun s o => s.srcRead m (i.c.p 1) ext o 64 i.cls) (fun s o l q => s.weightStore p (i.c.p 3 + o) l q) (i.c.p 2 / 64) 0
  (p.tiles.foldl State.tilePoison r.1).copyEnd i.seq r.2.1 r.2.2

/-! ### Keys -/

/-- The walk of a domain starts, or goes on, from a boundary. -/
def State.walk0 (s : State) (i : ICmd) (d from_ : Nat) : State :=
  let s := s.updCrypt (fun c => { c with rekey := some { domain := d, next := max 16384 from_, resealed := 0, failed := [], running := true } })
  (s.wr R.CRYPT_STATUS.REKEY 1).waitOn i.seq .rekey d

/-- A rekey of a domain that is not MIXED starts with its new set (R225, R230). -/
def State.rekeyStart (s : State) (i : ICmd) (d : Nat) (k : KeySet) : State :=
  let newB := s.rd R.CRYPT_DOM.CURRENT d == 0
  let s := ((s.setKey d newB (some k)).journal d 0 1 (b2n newB) 1).domRefresh d
  (s.updCrypt (fun c => { c with marker := some d })).walk0 i d 0

/-- The version of a domain's current set. -/
def State.currentVersion (s : State) (d : Nat) : Nat :=
  match (s.domKeys d).pick (s.rd R.CRYPT_DOM.CURRENT d == 1) with | some k => k.version | none => 0

/-- CRYPT_REKEY of domain 0: the new set is drawn, once the TRNG gives output (R375, R378). -/
def State.rekeyZero (s : State) (i : ICmd) : State :=
  if s.sec.trngFail then s.waitOn i.seq .draw
  else
    match s.drawKeys (s.currentVersion 0 + 1) false with
    | (s, k) => s.rekeyStart i 0 k

/-- CRYPT_REKEY with an unwrapped blob. -/
def State.rekeyBlob (s : State) (i : ICmd) (d : Nat) (k : KeySet) : State :=
  if s.domState d = Dom.mixed then
    (if (s.domKeys d).pick (s.rd R.CRYPT_JOURNAL.NEW_SET == 1) = some k then s.walk0 i d (s.rd R.CRYPT_JOURNAL.BOUNDARY) else s.endRun i.seq Stat.badParam)
  else if k.version ≤ s.currentVersion d then s.endRun i.seq Stat.badParam
  else s.rekeyStart i d k

/-- Another CRYPT_REKEY runs, or another domain is MIXED (R106). -/
def State.rekeyBusy (s : State) (i : ICmd) (d : Nat) : Bool :=
  s.crypt.rekey.isSome || s.tci.running.any (fun r => r.i.seq != i.seq && (r.wait == .draw || (r.wait == .fetch && r.i.c.opcode == 0x0702)))
    || (s.rd R.CRYPT_JOURNAL.RUNNING == 1 && s.rd R.CRYPT_JOURNAL.DOMAIN != d)

/-- The key set of a key command's blob, or the response STATUS or status that refuses it. -/
def State.blobKeys (s : State) (i : ICmd) (ext : ExtRead) : State × (Nat ⊕ KeySet) :=
  match s.gather (s.acting i.c) (i.c.p 1) ext i.cls (i.c.p 2 / 64) 0 with
  | (s, .inl k) => (s, .inl (stOfK k))
  | (s, .inr b) => match s.unwrapBlob (i.c.p 0 % 4096) b with | none => (s.keyFail, .inl Stat.badParam) | some k => (s, .inr k)

/-- CRYPT_REKEY's work on a domain other than 0. -/
def State.rekeyMove (s : State) (i : ICmd) (ext : ExtRead) : State :=
  let d := i.c.p 0 % 4096
  if s.rekeyBusy i d then s.endRetry i.seq Stat.notReady 20
  else
    match s.blobKeys i ext with
    | (s, .inl st) => s.endRun i.seq st
    | (s, .inr k) => s.rekeyBlob i d k

/-- KEY_DOMAIN_LOAD's work. -/
def State.keyLoadMove (s : State) (i : ICmd) (ext : ExtRead) : State :=
  let d := i.c.p 0 % 4096
  if s.domState d ≠ Dom.empty then s.endRun i.seq Stat.badParam
  else
    match s.blobKeys i ext with
    | (s, .inl st) => s.endRun i.seq st
    | (s, .inr k) => ((s.wr R.CRYPT_DOM.CURRENT 0 d).setKey d false (some k)).endRun i.seq Stat.ok

/-! ### Attestation -/

/-- The report's bytes are written to a buffer, a line at a time. -/
def State.putBytes (s : State) (m : Master) (seq w : Nat) (c : ReqClass) : Nat → Nat → List Byte → State × Nat × Nat
  | 0, o, _ => (s, o, KSt.ok)
  | n + 1, o, l =>
    if l = [] then (s, o, KSt.ok)
    else
      match s.dstWrite m seq w o (l.take 64) false c with
      | (s, 0) => s.putBytes m seq w c n (o + (l.take 64).length) (l.drop 64)
      | (s, k + 1) => (s, o, k + 1)

/-- ATTEST's move. -/
def State.attestMove (s : State) (i : ICmd) (ext : ExtRead) : State :=
  let m := s.acting i.c
  match s.gather m (i.c.p 0) ext i.cls 1 0 with
  | (s, .inl k) => s.endRun i.seq (stOfK k)
  | (s, .inr nonce) =>
    let r := s.putBytes m i.seq (i.c.p 1) i.cls 128 0 (s.attestReport nonce)
    r.1.copyEnd i.seq r.2.1 r.2.2

/-! ### A source buffer on another package (R25) -/

/-- The work of a command whose source buffer's bytes are at hand. -/
def State.runMove (s : State) (i : ICmd) (ext : ExtRead) : State :=
  match i.c.opcode with
  | 0x0200 => s.copyMove i ext
  | 0x0300 => s.planMove i ext
  | 0x0302 => match s.planOf? (i.c.p 0 % 65536) with | none => s.endRun i.seq Stat.badParam | some p => s.weightsMove i ext p
  | 0x0700 => s.keyLoadMove i ext
  | 0x0702 => s.rekeyMove i ext
  | _ => s.attestMove i ext

/-- The work of a command with the source buffer `w` of `n` bytes: at once, or once RD messages have brought the bytes. -/
def State.startMove (s : State) (i : ICmd) (ext : ExtRead) (w n : Nat) : State := if s.bufRemote w then s.fetchStart i w n else s.runMove i ext

/-- A read of a command's source buffer has been answered: the next one leaves, or the command goes on with what has come. -/
def State.srcAnswered (s : State) (seq off n : Nat) (r : Option KMsg) : State :=
  match s.runOf seq with
  | none => s
  | some x =>
    if x.wait != .fetch then s
    else
      let ext := srcMore (Tab.get s.tci.srcs seq { data := [], status := KSt.ok }) off r
      if ext.status ≠ KSt.ok ∨ x.arg2 ≤ off + n then (s.updTci (fun t => { t with srcs := Tab.del t.srcs seq })).runMove x.i ext
      else (s.updTci (fun t => { t with srcs := Tab.put t.srcs seq ext })).fetchNext x.i x.arg x.arg2 (off + n)

end Sys2Proof.Machine
end

