-- ==== Sys2Proof/Machine/MgmtOps.lean ====
section
/-! DEFINITION. The two-wire ports, the mailbox and the UARTs as shared operations (17_management_buses.md). -/

namespace Sys2Proof.Machine

def State.updBus (s : State) (f : MgmtState → MgmtState) : State := { s with bus := f s.bus }

/-! ### The status block (R400) -/

/-- Stage codes (table "Stage codes"). -/
def State.stageCode (s : State) : Nat :=
  match s.pwr.pstate with
  | .off | .noPwr => 0
  | .hooded => 5
  | .entering | .perch | .waking => 4
  | .flight | .glide =>
    if s.secMode = modeHalted then 6
    else match s.boot.stage with | .rom => 1 | .tirlo => 2 | .ready => 3 | .resetting => 7 | _ => 0

/-- The power state of byte 3. -/
def State.powerCode (s : State) : Nat :=
  match s.pwr.pstate with
  | .flight => 0 | .glide => 1 | .perch => 2 | .hooded => 3 | .entering | .waking => 4
  | .noPwr | .off => Config.powerCode % 8

def State.pendingSrcs (s : State) : Nat := ((List.range 310).filter (fun n => s.rd R.WATCH_SRC_STATUS.PENDING n == 1)).length

def State.statusBlock (s : State) : List Byte :=
  let flags := b2n s.tampered + 2 * s.rd R.SEC_PORT.PORT_OPEN + 4 * s.rd R.WATCH_STATUS.ALARM + 8 * b2n s.top.idValid + 16 * s.rd R.MGMT_TGT_STATUS.MBOX_LIVE
    + 32 * b2n s.bus.changed
  let power := if s.pwr.pstate = .flight ∨ s.pwr.pstate = .glide then s.rd R.PWR_LAST.POWER_W else 0
  leBytes 1 1 ++ leBytes 1 s.stageCode ++ leBytes 1 flags ++ leBytes 1 (s.secMode + 8 * s.powerCode) ++ leBytes 4 (s.rd R.TOP_IDENT.IDCODE)
    ++ leBytes 1 (s.rd R.TOP_IDENT.STEPPING) ++ leBytes 1 s.pkg ++ leBytes 1 (s.rd R.MGMT_TGT_STATUS.SLOT) ++ leBytes 1 0 ++ leBytes 2 s.pendingSrcs
    ++ leBytes 2 power ++ leBytes 8 (s.rd R.TIME_NONCE)

/-! ### ALERT and CHANGED (R400, R403) -/

def State.alertSet (s : State) : State :=
  if s.rd R.MGMT_TGT_STATUS.ALERT = 1 then s else (s.wr R.MGMT_TGT_STATUS.ALERT 1).emit (.pin "MGMT_ALERT_N" false)

def State.alertClear (s : State) : State :=
  if s.rd R.MGMT_TGT_STATUS.ALERT = 0 then s else (s.wr R.MGMT_TGT_STATUS.ALERT 0).emit (.pin "MGMT_ALERT_N" true)

/-- With neither REPLY_READY nor CHANGED, ALERT clears. -/
def State.alertCheck (s : State) : State := if s.rd R.MGMT_TGT_STATUS.REPLY_READY = 0 ∧ s.bus.changed = false then s.alertClear else s

/-- What CHANGED watches. -/
def State.statusKey (s : State) : List Nat := [s.stageCode, b2n s.tampered, s.rd R.SEC_PORT.PORT_OPEN, s.rd R.WATCH_STATUS.ALARM, s.powerCode]

/-- CHANGED is set when one of them has changed. -/
def State.watchStatus (s : State) : State :=
  if s.statusKey = s.bus.seen then s
  else
    let first := s.bus.seen = []
    let s := s.updBus (fun b => { b with seen := s.statusKey, changed := if first then b.changed else true })
    if first then s else s.alertSet

/-! ### The target port (R391 to R404) -/

/-- SMBus CRC-8. -/
def crc8 (l : List Nat) : Nat :=
  let bit := fun (c : Nat) => if 128 ≤ c then (c * 2 % 256) ^^^ 7 else c * 2
  l.foldl (fun c b => (List.range 8).foldl (fun c _ => bit c) (c ^^^ b)) 0

/-- The target's address byte of a write. -/
def State.tgtAddr (s : State) : Nat := (0x60 + s.rd R.MGMT_TGT_STATUS.SLOT) * 2

/-- A transfer can reach the target: it answers, and no stretched write holds SCL. -/
def State.tgtFree (s : State) : Bool := s.bus.answers && s.pwr.pstate != .off && s.bus.stretch.isNone

def State.pecErr (s : State) : State := s.flag R.MGMT_TGT_EVENT.PEC_ERR R.MGMT_TGT_PEC_CNT.COUNT
def State.busyNack (s : State) : State := s.flag R.MGMT_TGT_EVENT.BUSY_NACK R.MGMT_TGT_BUSY_CNT.COUNT

/-- Whether a write's PEC is accepted: none is checked where it ends with its last data byte. -/
def State.pecOk (s : State) (bytes : List Nat) (pec : Option Nat) : Bool := match pec with | none => true | some p => crc8 (s.tgtAddr :: bytes) == p

/-- STATUS, or a command code that is not assigned (R394). `whole`: the transfer delivers its last byte. -/
def State.tgtStatus (s : State) (code : Nat) (whole : Bool) : State :=
  if !s.tgtFree then s
  else if code = 1 then
    let s := s.emit (.bytes "TGT" (s.statusBlock.map BitVec.toNat))
    if whole then (s.updBus (fun b => { b with changed := false })).alertCheck else s
  else if code = 2 ∨ code = 3 ∨ code = 0x10 ∨ code = 0x11 ∨ code = 0x12 then s
  else s.flag R.MGMT_TGT_EVENT.BAD_CMD R.MGMT_TGT_BADCMD_CNT.COUNT

def State.mboxByte (s : State) : Nat :=
  let f := fun (r : RF) => s.rd r
  f R.MGMT_TGT_STATUS.STAGE_FULL + 2 * f R.MGMT_TGT_STATUS.REPLY_READY + 4 * f R.MGMT_TGT_STATUS.MBOX_LIVE + 8 * f R.MGMT_TGT_STATUS.ALERT
    + 16 * f R.MGMT_TGT_STATUS.REPLIES

def State.tgtSetMode (s : State) (data : Nat) (pec : Option Nat) : State :=
  if !s.tgtFree || decide (2 ≤ data) then s
  else if s.pecOk [3, data] pec then s.wr R.MGMT_TGT_CFG.MODE data else s.pecErr

/-- An MBOX_WRITE that is not busy: an accepted one fills the write stage, and `wake` is what it does to a package in PERCH. -/
def State.mboxAccept (s : State) (wake : State → State) (count : Nat) (data : List Byte) (pec : Option Nat) : State :=
  if count ≠ 64 ∨ data.length ≠ 64 then s
  else if !s.pecOk (0x10 :: 64 :: bytesN data) pec || (pec.isNone && s.rd R.MGMT_TGT_CFG.PEC_REQ == 1) then s.pecErr
  else wake ((s.updBus (fun b => { b with stage := some data })).wr R.MGMT_TGT_STATUS.STAGE_FULL 1)

def State.mboxBusy (s : State) : Bool := s.bus.stage.isSome || s.pwr.pstate == .hooded

def State.mboxWrite (s : State) (wake : State → State) (count : Nat) (data : List Byte) (pec : Option Nat) : State :=
  if !s.tgtFree then s
  else if !s.mboxBusy then s.mboxAccept wake count data pec
  else if s.rd R.MGMT_TGT_CFG.MODE = 0 then s.busyNack
  else
    ((s.updBus (fun b => { b with stretch := some { since := s.now, count := count, entry := data, pec := pec } })).wr R.MGMT_TGT_STATUS.STRETCHING 1).emit
      (.pin "TGT_SCL" false)

/-- SCL is released. -/
def State.stretchEnd (s : State) : State :=
  ((s.updBus (fun b => { b with stretch := none })).wr R.MGMT_TGT_STATUS.STRETCHING 0).emit (.pin "TGT_SCL" true)

/-- STRETCH_TIMEOUT (R398). -/
def State.stretchTimeout (s : State) : State :=
  match s.bus.stretch with
  | none => s
  | some x => if s.due (x.since + 10000000) then s.stretchEnd.busyNack else s

/-- A stretched write that has stopped being busy within 10 ms proceeds (R398). -/
def State.stretchGo (s : State) (wake : State → State) : State :=
  match s.bus.stretch with
  | none => s
  | some x =>
    if s.mboxBusy then s
    else if s.due (x.since + 10000000) then s.stretchEnd.busyNack
    else s.stretchEnd.mboxAccept wake x.count x.entry x.pec

/-- TARGET_BUS_TIMEOUT (R399). -/
def State.tgtTimeout (s : State) : State :=
  if !s.bus.answers then s
  else
    let s := if s.bus.stretch.isSome then s.stretchEnd else s
    (s.flag R.MGMT_TGT_EVENT.TIMEOUT R.MGMT_TGT_TMO_CNT.COUNT).report Src.mgmtTgt Cls.ce Cause.timeout

/-! ### The mailbox engine (R401, R402) -/

def State.mboxLive (s : State) : Bool := s.rd R.MGMT_TGT_STATUS.MBOX_LIVE == 1

/-- Replies of queue pair 4,095 that have not been popped. -/
def State.repliesWaiting (s : State) : Nat :=
  (s.rd R.TCI_QP_PTR.RQ_TAIL mgmtQp + s.rqDepth mgmtQp - s.rd R.TCI_QP_PTR.RQ_HEAD mgmtQp) % s.rqDepth mgmtQp

/-- REPLIES follows the ring while the engine runs. -/
def State.countReplies (s : State) : State := if s.mboxLive then s.wr R.MGMT_TGT_STATUS.REPLIES (min 15 s.repliesWaiting) else s

/-- MAILBOX_MOVE: the staged entry goes into the next SQ slot of queue pair 4,095. -/
def State.mailboxMove (s : State) (wake : State → State) : State :=
  match s.bus.stage with
  | none => s
  | some e =>
    if !s.mboxLive || s.qpState mgmtQp != qpLive || decide (15 ≤ s.sqWait mgmtQp) then s
    else
      let tail := s.rd R.TCI_QP_PTR.SQ_TAIL mgmtQp
      match s.cacheWrite mailboxEngine (s.sqBase mgmtQp + tail * 64) e with
      | (s, false) => s.qpError mgmtQp
      | (s, true) =>
        let s := s.sqRing mgmtQp ((tail + 1) % s.sqDepth mgmtQp)
        ((s.updBus (fun b => { b with stage := none })).wr R.MGMT_TGT_STATUS.STAGE_FULL 0).stretchGo wake

/-- MAILBOX_REPLY_STAGE: the oldest reply not popped is copied into the reply stage. -/
def State.mailboxReply (s : State) : State :=
  if s.bus.reply.isSome || !s.mboxLive || s.repliesWaiting == 0 then s
  else
    match s.cacheRead mailboxEngine (s.rqBase mgmtQp + s.rd R.TCI_QP_PTR.RQ_HEAD mgmtQp * 32) 32 with
    | (s, some (l, false)) => ((s.updBus (fun b => { b with reply := some l })).wr R.MGMT_TGT_STATUS.REPLY_READY 1).alertSet.countReplies
    | (s, _) => s.qpError mgmtQp

/-- A pop is applied to queue pair 4,095's RQ head. -/
def State.popHead (s : State) : State :=
  (s.wr R.TCI_QP_PTR.RQ_HEAD ((s.rd R.TCI_QP_PTR.RQ_HEAD mgmtQp + 1) % s.rqDepth mgmtQp) mgmtQp).countReplies

def State.mboxPop (s : State) (pec : Option Nat) : State :=
  if !s.tgtFree || s.bus.reply.isNone then s
  else if !s.pecOk [0x12] pec then s.pecErr
  else
    let s := ((s.updBus (fun b => { b with reply := none })).wr R.MGMT_TGT_STATUS.REPLY_READY 0).alertCheck
    if s.mboxLive then s.popHead
    else (s.updBus (fun b => { b with pops := b.pops + 1 })).wr R.MGMT_TGT_STATUS.REPLIES (s.rd R.MGMT_TGT_STATUS.REPLIES - 1)

/-- Queue pair 4,095 as R61 and R402 fix it, with empty rings. -/
def State.mgmtQpNew (s : State) : State :=
  let q := mgmtQp
  let s := (((s.wr R.TCI_QP_ATTR.PARTNER mgmtPartner q).wr R.TCI_QP_ATTR.PRIV 1 q).wr R.TCI_QP_ATTR.CRIT_OK 1 q).wr R.TCI_QP_ATTR.ONCE_EN 1 q
  let s := ((s.wr R.TCI_QP_ATTR.LOC 2 q).wr R.TCI_QP_SIZE.SQ_LOG2 4 q).wr R.TCI_QP_SIZE.RQ_LOG2 4 q
  let s := (s.wr R.TCI_QP_SIZE.COAL_COUNT 1 q).wr R.TCI_QP_SIZE.COAL_TIME 0 q
  let s := (s.csrPut (R.TCI_QP_SQB.addr q 0 0) (BitVec.ofNat 64 Config.mboxSq)).csrPut (R.TCI_QP_RQB.addr q 0 0) (BitVec.ofNat 64 Config.mboxRq)
  s.setQp q qpLive

/-- MBOX_LIVE becomes 1: pops made meanwhile are applied. -/
def State.mboxGo (s : State) : State :=
  if s.mboxLive then s
  else
    let s := if s.qpState mgmtQp = qpAbsent then s.mgmtQpNew else s
    let s := s.wr R.MGMT_TGT_STATUS.MBOX_LIVE 1
    let n := s.bus.pops
    ((List.range n).foldl (fun s _ => s.popHead) (s.updBus (fun b => { b with pops := 0 }))).countReplies

/-! ### The controller port (R405 to R410) -/

def State.devEnabled (s : State) (i : Nat) : Bool := s.rd R.MGMT_CTL_DEV.ENABLE i == 1

/-- LINEAR11 watts in mW. -/
def linear11 (v : Nat) : Nat :=
  let y := v % 2048
  let x := v / 2048 % 32
  if 1024 ≤ y then 0 else if x < 16 then 1000 * y * 2 ^ x else 1000 * y / 2 ^ (32 - x)

def State.setAbsent (s : State) (i : Nat) (v : Bool) : State :=
  let old := s.rd R.MGMT_CTL_STATUS.ABSENT
  s.wr R.MGMT_CTL_STATUS.ABSENT (if natBit old i == v then old else if v then old + 2 ^ i else old - 2 ^ i)

/-- A failed attempt on an entry. -/
def State.ctlFailed (s : State) (i : Nat) (f : CtlFail) : State :=
  let s := s.flag R.MGMT_CTL_EVENT.RETRY R.MGMT_CTL_RETRY_CNT.COUNT
  let s := if f = .arb then s.flag R.MGMT_CTL_EVENT.ARB_LOST R.MGMT_CTL_ARB_CNT.COUNT else s
  let s := if f = .sdaLow then (s.flag R.MGMT_CTL_EVENT.STUCK R.MGMT_CTL_STUCK_CNT.COUNT).wr R.MGMT_CTL_STATUS.STUCK 1 else s
  let n := Tab.get s.bus.retries i 0
  if n = 4 then s.updBus (fun b => { b with tryAt := Tab.put b.tryAt i (b.round + 100) })
  else if n = 3 then
    let s := s.updBus (fun b => { b with retries := Tab.put b.retries i 4, tryAt := Tab.put b.tryAt i (b.round + 100) })
    ((s.setAbsent i true).flag R.MGMT_CTL_EVENT.ABSENT R.MGMT_CTL_ABS_CNT.COUNT).report Src.mgmtCtl Cls.ce Cause.partnerAbsent
  else s.updBus (fun b => { b with retries := Tab.put b.retries i (n + 1) })

/-- A successful attempt on an entry. -/
def State.ctlRead (s : State) (i : Nat) (t : CtlTry) : State :=
  let s := (s.setAbsent i false).updBus (fun b => { b with retries := Tab.del b.retries i, valAt := Tab.put b.valAt i s.now })
  let s := s.wr R.MGMT_CTL_STATUS.STUCK 0
  if i < 8 then (s.wr R.MGMT_CTL_VAL.VALUE (linear11 t.w0) i).wr R.MGMT_CTL_VAL.STATUS_WORD t.w1 i else s.wr R.MGMT_CTL_VAL.VALUE (t.w0 % 65536) i

/-- READ_PIN's word of an entry whose STATUS_WORD then fails. -/
def State.ctlPin (s : State) (i : Nat) (t : CtlTry) : State :=
  if i < 8 ∧ t.second then (s.wr R.MGMT_CTL_VAL.VALUE (linear11 t.w0) i).updBus (fun b => { b with valAt := Tab.put b.valAt i s.now }) else s

/-- An entry's turn in a round (R406, R407). -/
def State.ctlAttempt (s : State) (tries : List (Nat × CtlTry)) (i : Nat) : State :=
  match tries.find? (fun t => t.1 == i) with
  | none => s.ctlFailed i .nack
  | some (_, t) =>
    match t.fail with
    | some f => if f = .pec ∧ s.rd R.MGMT_CTL_DEV.PEC_EN i = 0 then s.ctlRead i t else (s.ctlPin i t).ctlFailed i f
    | none => s.ctlRead i t

/-- The sensor entry whose turn it is. -/
def State.nextSensor (s : State) : Option Nat :=
  let l := (List.range 8).map (· + 8) |>.filter s.devEnabled
  match l.find? (fun i => decide (s.bus.sensor < i)) with | some i => some i | none => l.head?

/-- The entries of a round in order: retries first, then absent entries that are due, the other regulators, one sensor. -/
def State.roundEntries (s : State) : List Nat :=
  let on := (List.range 16).filter s.devEnabled
  let n := fun i => Tab.get s.bus.retries i 0
  let retry := on.filter (fun i => decide (1 ≤ n i) && decide (n i ≤ 3))
  let late := on.filter (fun i => n i == 4 && decide (Tab.get s.bus.tryAt i 0 ≤ s.bus.round))
  let regs := on.filter (fun i => decide (i < 8) && n i == 0)
  retry ++ late ++ regs ++ (match s.nextSensor with | some i => if n i = 0 then [i] else [] | none => [])

/-- The regulators' side of PWR_VR_STATUS, and the meter's calibration (R314, R407, R408). -/
def State.vrUpdate (s : State) (meterMw : Nat) : State :=
  let regs := (List.range 8).filter s.devEnabled
  let warn := regs.any (fun i => (s.rd R.MGMT_CTL_VAL.STATUS_WORD i) &&& 0xE03C != 0)
  let s := (s.wr R.PWR_VR_STATUS.ABSENT (s.rd R.MGMT_CTL_STATUS.ABSENT % 256)).wr R.PWR_VR_STATUS.WARNING (b2n warn)
  let sum := (regs.map (fun i => s.rd R.MGMT_CTL_VAL.VALUE i)).sum
  if s.vrAbsent ∨ meterMw = 0 then s else s.wr R.PWR_VR_STATUS.CAL (clampN 26214 40960 (sum * 32768 / meterMw))

/-- CONTROLLER_ROUND. -/
def State.controllerRound (s : State) (tries : List (Nat × CtlTry)) (meterMw : Nat) : State :=
  let ms := s.epoch / 1000000
  if !(s.pwr.pstate == .flight || s.pwr.pstate == .glide) || s.rd R.MGMT_CTL_CFG.ENABLE == 0 || ms == s.bus.roundMs then s
  else
    let l := s.roundEntries
    let s := s.wr R.MGMT_CTL_STATUS.LATE (b2n (decide (10 ≤ s.epoch % 1000000)))
    let s := l.foldl (fun s i => s.ctlAttempt tries i) s
    let s := s.updBus (fun b => { b with
      round := b.round + 1, roundMs := ms, sensor := match s.nextSensor with | some i => i | none => b.sensor })
    s.vrUpdate meterMw

/-- A configuration of the controller port that R405 admits, with an entry's word replaced; `cfg`: RATE's word. -/
def State.ctlCfgOk (s : State) (cfg : Word) (dev : Option (Nat × Word)) : Bool :=
  let word := fun i => match dev with | some (j, w) => if i = j then w else s.csrAt (R.MGMT_CTL_DEV.addr i 0 0) | none => s.csrAt (R.MGMT_CTL_DEV.addr i 0 0)
  let on := fun i => (word i).field 7 1 == 1
  let addr := fun i => (word i).field 0 7
  let all := (List.range 16).filter on
  let limit := if cfg.field 1 1 = 0 then 8 else 3
  decide ((all.filter (fun i => decide (i < 8))).length ≤ limit)
    && (match dev with | some (j, _) => !(decide (addr j ≤ 7) || addr j == 0x0C || decide (0x78 ≤ addr j)) | none => true)
    && all.all (fun i => all.all (fun j => i == j || addr i != addr j))

/-! ### The UARTs (R411 to R414) -/

def State.uart (s : State) (n : Nat) : Uart := if n = 0 then s.bus.uart0 else s.bus.uart1
def State.setUart (s : State) (n : Nat) (u : Uart) : State := s.updBus (fun b => if n = 0 then { b with uart0 := u } else { b with uart1 := u })

/-- The levels follow the FIFOs, and an enabled condition that has become true raises identity 9 (R414): UART1's in the supervisor file of tenant core CORE, 4 to 15. -/
def State.uartDone (s : State) (n : Nat) : State :=
  let u := s.uart n
  let s := ((s.wr R.MGMT_UART_STATUS.RX_LEVEL u.rx.length n).wr R.MGMT_UART_STATUS.TX_LEVEL u.tx.length n).wr R.MGMT_UART_STATUS.TX_BUSY (b2n u.line.isSome) n
  let ev := (s.csrAt (R.MGMT_UART_EVENT.FRAMING.addr n 0 0)).field 0 5
  let c := (b2n (u.rx != []) + 2 * b2n (u.tx == []) + 4 * b2n (ev != 0)) &&& s.rd R.MGMT_UART_CFG.IRQ_EN n
  let rise := (List.range 3).any (fun i => natBit c i && !natBit u.conds i)
  let s := s.setUart n { u with conds := c }
  let core := s.rd R.MGMT_UART_CFG.CORE 1
  if !rise then s else if n = 0 then s.raiseWarden 9 else if 4 ≤ core then s.raiseAt core 1 9 else s

/-- The UARTs run in FLIGHT and GLIDE, each while it is enabled. -/
def State.uartOn (s : State) (n : Nat) : Bool := (s.pwr.pstate == .flight || s.pwr.pstate == .glide) && s.rd R.MGMT_UART_CFG.ENABLE n == 1

/-- With the line free, the oldest queued byte starts. -/
def State.uartStart (s : State) (n : Nat) : State :=
  let u := s.uart n
  match u.line, u.tx with
  | none, b :: r => if s.uartOn n then s.setUart n { u with line := some b, tx := r } else s
  | _, _ => s

/-- What the receiver makes of a character (R412). -/
inductive UartRx where
  | none_ | byte (b : Nat) (parityOk : Bool) | break_ | framing
deriving DecidableEq, Repr

def uartMajority (smp : List Bool) (a : Nat) : Bool :=
  decide (2 ≤ ((List.range 3).filter (fun i => lget smp (a + i) true)).length)

/-- The pseudocode of R412 on the samples from the first low one of the start bit. -/
def uartReceive (parity : Bool) (smp : List Bool) : UartRx :=
  let n := if parity then 10 else 9
  if uartMajority smp 7 then .none_
  else
    let bits := (List.range (n - 1)).map (fun b => uartMajority smp (16 * (b + 1) + 7))
    if uartMajority smp (16 * n + 7) then
      .byte (((List.range 8).filter (fun i => lget bits i false)).map (fun i => 2 ^ i)).sum (!parity || (bits.filter (fun b => b)).length % 2 == 0)
    else if bits.all (fun b => !b) ∧ lget smp (16 * n + 15) true = false then .break_
    else .framing

/-- UART_RX_CHARACTER. -/
def State.uartRx (s : State) (n : Nat) (smp : List Bool) : State :=
  if 2 ≤ n ∨ s.uartOn n = false then s
  else
    let u := s.uart n
    (match uartReceive (s.rd R.MGMT_UART_CFG.PARITY_EN n == 1) smp with
      | .none_ => s
      | .framing => s.flag R.MGMT_UART_EVENT.FRAMING R.MGMT_UART_FRM_CNT.COUNT n
      | .break_ => s.flag R.MGMT_UART_EVENT.BREAK R.MGMT_UART_BRK_CNT.COUNT n
      | .byte b ok =>
        let s := if ok then s else s.flag R.MGMT_UART_EVENT.PARITY R.MGMT_UART_PAR_CNT.COUNT n
        if 64 ≤ u.rx.length then s.flag R.MGMT_UART_EVENT.OVERRUN R.MGMT_UART_OVR_CNT.COUNT n else s.setUart n { u with rx := u.rx ++ [b] }).uartDone n

/-- A byte is queued for transmission, or dropped. -/
def State.uartQueue (s : State) (n b : Nat) : State :=
  let u := s.uart n
  (if 64 ≤ u.tx.length then s.flag R.MGMT_UART_EVENT.TX_DROP R.MGMT_UART_DROP_CNT.COUNT n else s.setUart n { u with tx := u.tx ++ [b] }).uartStart n |>.uartDone n

/-- A read of MGMT_UARTn_DATA: its value, with VALID where it removed a byte. -/
def State.uartTake (s : State) (n : Nat) : State × Nat :=
  let u := s.uart n
  match u.rx with
  | [] => (s, 0)
  | b :: r => ((s.setUart n { u with rx := r }).uartDone n, b + 256)

/-- UART_TX_COMPLETE. -/
def State.uartSent (s : State) (n : Nat) : State :=
  let u := s.uart n
  match u.line with
  | none => s
  | some b =>
    let s := (s.setUart n { u with line := none }).drive (.bytes (if n = 0 then "UART0" else "UART1") [b])
    (s.uartStart n).uartDone n

/-- PERCH entry, WARM and COLD reset empty the FIFOs (R414). -/
def State.uartsEmpty (s : State) : State :=
  (List.range 2).foldl (fun s n =>
    let s := s.setUart n { s.uart n with rx := [], tx := [], line := none, conds := 0 }
    ((s.wr R.MGMT_UART_STATUS.RX_LEVEL 0 n).wr R.MGMT_UART_STATUS.TX_LEVEL 0 n).wr R.MGMT_UART_STATUS.TX_BUSY 0 n) s

end Sys2Proof.Machine
end

