-- ==== Sys2Proof/Machine/BootOps.lean ====
section
/-! DEFINITION. Bring-up, resets and power states as shared operations (13_power_energy.md, 16_security.md, 18_bringup_reset.md): Perch power-on, the COLD start, the boot ROM, training, READY, the WARM reset
and its revalidation, PERCH entry and the stoop wake, the tamper event. -/

namespace Sys2Proof.Machine

/-! ### What a reset keeps of the registers (R9, R426) -/

/-- Registers that show state which a WARM reset keeps, though their tables do not mark them as kept: the identity, the die-to-die links, the queue pairs (R82), the tiles' states and the governor's duties, the states of
stacks, bridges and links, the power manager, the time unit, the measurement, the flash's protection. -/
def liveRegs : List (Nat × Nat) :=
  [(0x8, 0x10), (0x18, 0x20)] ++ [(R.TCI_STATUS.base, R.TCI_STATUS.base + 8), (R.TCI_ADMIN_SQ_BASE.base, R.TCI_ADMIN_SQ_BASE.base + 8),
    (R.TCI_ADMIN_RQ_BASE.base, R.TCI_ADMIN_RQ_BASE.base + 8), (R.TCI_ADMIN_CFG.base, R.TCI_ADMIN_CFG.base + 8)]
  ++ [(R.CRYPT_STATUS.base, R.CRYPT_STATUS.base + 8), (R.ROOST_ENG_STATUS.base, R.ROOST_ENG_STATUS.base + 8), (R.KTL_GLB_STATUS.base, R.KTL_GLB_STATUS.base + 8)]
  ++ [(R.PWR_STATUS.base, R.PWR_STATUS.base + 8), (R.PWR_GRANT.base, R.PWR_GRANT.base + 8), (R.PWR_LAST.base, R.PWR_LAST.base + 8), (R.PWR_BUCKET.base, R.PWR_BUCKET.base + 8),
    (R.PWR_GOV_STATUS.base, R.PWR_GOV_STATUS.base + 8), (R.PWR_FUSE.base, R.PWR_FUSE.base + 8), (R.PWR_VR_STATUS.base, R.PWR_VR_STATUS.base + 8)]
  ++ [(R.TIME_STATUS.base, R.TIME_STATUS.base + 8), (R.TIME_PPS_STAMP.base, R.TIME_PPS_STAMP.base + 8), (R.SEC_STATUS.base, R.SEC_STATUS.base + 8),
    (R.SEC_KEYSTORE.base, R.SEC_KEYSTORE.base + 8), (R.MEWS_FLASH_PROTECT.base, R.MEWS_FLASH_PROTECT.base + 8)]

/-- The offset is that of an instance of a field's register, of `n` by `m` instances. -/
def RF.among (f : RF) (n m a : Nat) : Bool :=
  (List.range n).any (fun i => if f.s2 = 0 then a == f.addr i 0 0
    else decide (f.addr i 0 0 ≤ a) && decide (a < f.addr i m 0) && (a - f.addr i 0 0) % f.s2 == 0)

/-- The same for registers that have instances. -/
def liveIndexed (a : Nat) : Bool :=
  R.TCI_QP_ATTR.among 4096 0 a || R.TCI_QP_SQB.among 4096 0 a || R.TCI_QP_RQB.among 4096 0 a || R.TCI_QP_SIZE.among 4096 0 a || R.TCI_QP_PTR.among 4096 0 a
    || R.TALON_TILE_STATUS.among 4 96 a || R.TALON_DIE_GATE.among 4 0 a || R.TALON_DIE_BALLAST.among 4 0 a || R.TALON_DIE_BALLAST_MW.among 4 0 a
    || R.TALON_DIE_CLOCK.among 4 0 a || R.PWR_DIE.among 4 0 a || R.HBM_STK_STATUS.among 8 0 a || R.HBM_PC_STATUS.among 8 64 a || R.ROOST_BR_STATUS.among 2 0 a
    || R.ROOST_CH_STATUS.among 8 0 a || R.KTL_LINK_STATUS.among 64 0 a || R.KTL_ROUTE.among 64 0 a || R.KTL_PEER_LINKS.among 64 0 a || R.SEC_MEASURE.among 6 0 a

def liveReg (a : Nat) : Bool := liveRegs.any (fun r => decide (r.1 ≤ a) && decide (a < r.2)) || liveIndexed a

/-- A COLD reset keeps the registers of the Perch domain, and the identity until the straps are latched again. -/
def coldKeeps (a : Nat) : Bool := a == R.TOP_POSITION.base || (match findReg a with | some r => r.perch | none => false)

def warmKeeps (a : Nat) : Bool := (match findReg a with | some r => r.perch || r.warm | none => false) || liveReg a

def State.resetRegs (s : State) (keep : Nat → Bool) : State := { s with csr := s.csr.filter (fun e => keep e.1) }

/-! ### COLD reset -/

/-- A COLD reset: only what R426 keeps is left. `held`: Roost is held in self-refresh; `p`: the power state that follows. -/
def State.coldReset (s : State) (held : Bool) (p : PState) : State :=
  let s := s.resetRegs coldKeeps
  { State.reset with
    pending := s.pending, now := s.now, csr := s.csr, free := s.free, out := s.out, memGen := s.memGen + 1,
    mem := if held then s.mem.filter (fun e => decide (roostBase ≤ e.1) && decide (e.1 < roostEnd)) else [],
    poison := if held then s.poison.filter (fun a => decide (roostBase ≤ a) && decide (a < roostEnd)) else [],
    cells := if held then s.cells.filter (fun e => decide (roostBase ≤ e.1) && decide (e.1 < roostEnd)) else [],
    top := { s.top with runs := [] },
    ses := { SessState.reset with gen := s.ses.gen },
    mews := { MewsState.reset with flash := s.mews.flash },
    crypt := { CryptState.reset with keys := s.crypt.keys, marker := s.crypt.marker },
    pwr := { PowerState.reset with
      pstate := p, coreLowAt := s.pwr.coreLowAt, wakePend := s.pwr.wakePend, pwrOk := s.pwr.pwrOk, corePg := s.pwr.corePg, resetN := s.pwr.resetN,
      perstN := s.pwr.perstN, pwrOkPend := s.pwr.pwrOkPend, perchUpAt := s.pwr.perchUpAt },
    time := s.time.cold,
    boot := { BootState.reset with stage := .waitPwr },
    sec := { s.sec with image := none },
    bus := { MgmtState.reset with
      answers := s.bus.answers, stage := s.bus.stage, reply := s.bus.reply, pops := s.bus.pops, stretch := s.bus.stretch, changed := s.bus.changed, seen := s.bus.seen },
    tap := s.tap }

/-- CORE_EN falls. -/
def State.coreLow (s : State) : State :=
  if s.rd R.PWR_PERCH_STATE.CORE_EN = 0 then s
  else ((s.wr R.PWR_PERCH_STATE.CORE_EN 0).updPwr (fun p => { p with coreLowAt := some s.now })).emit (.pin "CORE_EN" false)

/-- CORE_EN rises, once it has been low for 2 ms (R303). -/
def State.coreHigh (s : State) : State :=
  let soon := match s.pwr.coreLowAt with | some t => decide (s.now < t + 2000000) | none => false
  if soon then s.updPwr (fun p => { p with wakePend := true })
  else
    let s := (s.wr R.PWR_PERCH_STATE.CORE_EN 1).updPwr (fun p => { p with
      wakePend := false, coreLowAt := none, pstate := if p.pstate = .perch then .waking else p.pstate })
    s.emit (.pin "CORE_EN" true)

/-! ### Perch power-on and loss -/

/-- What neither supply nor reset takes: the boot flash with its rekey marker, and the OTP. The pins from the tray are low. -/
def State.dark (s : State) : State :=
  { State.reset with
    pending := s.pending, now := s.now, free := s.free, memGen := s.memGen + 1, out := s.out,
    mews := { MewsState.reset with flash := s.mews.flash }, crypt := { CryptState.reset with marker := s.crypt.marker },
    sec := { SecState.reset with banks := s.sec.banks, svn := s.sec.svn } }

/-- The draws of Perch power-on (R333, R373), once the entropy source passes its tests. -/
def State.perchDraws (s : State) : State :=
  let s := (s.wr R.TIME_NONCE ((Config.epochNonce s.free).val + 1)).draw
  let (s, k) := s.rand256
  let s := s.updSec (fun x => { x with tableKey := some k, nonceWait := false })
  (s.wr R.SEC_KEYSTORE.TABLE_KEY_VALID 1).keyTableNew

/-- PERCH_POWER_ON: the Perch rail is valid. -/
def State.perchOn (s : State) (addrSel : Nat) (ok : Bool) : State :=
  if s.pwr.pstate ≠ .off then s
  else
    let s := s.dark
    let s := s.updPwr (fun p => { p with pstate := .noPwr, perchUpAt := s.now })
    let s := s.updBoot (fun b => { b with stage := .waitPwr })
    let s := s.wr R.MGMT_TGT_STATUS.SLOT (addrSel % 4)
    if ok then s.perchDraws else s.updSec (fun x => { x with trngFail := true, nonceWait := true })

/-- PERCH_POWER_LOSS. -/
def State.perchOff (s : State) : State := if s.pwr.pstate = .off then s else s.coreLow.dark

/-! ### PWR_OK, CORE_PG and the PLLs -/

/-- The sensors that are asserted and not masked. -/
def State.liveSensors (s : State) : Nat :=
  (List.range 5).foldl (fun a i => if natBit (s.rd R.SEC_TAMPER.LIVE) i && !natBit (s.rd R.SEC_TAMPER_MASK.MASK) i then a + 2 ^ i else a) 0

/-- A COLD start begins: the identity is latched, and CORE_EN rises unless HOODED holds it. -/
def State.powerStart (s : State) : State :=
  let s := s.updPwr (fun p => { p with pwrOkPend := false })
  let (t, q) := (s.top.trayPins % 16, s.top.selPins % 4)
  let s := (((s.csrPut R.TOP_POSITION.base 0).wr R.TOP_POSITION.PKG_ID (4 * t + q)).wr R.TOP_POSITION.TRAY t).wr R.TOP_POSITION.POS q
  let s := s.updTop (fun x => { x with idValid := true })
  if s.pwr.pstate = .hooded ∧ s.liveSensors ≠ 0 then s
  else
    let s := s.updPwr (fun p => { p with pstate := .noPwr })
    (s.updBoot (fun b => { b with stage := .waitPwr })).coreHigh

/-- PWR_OK_RISE. -/
def State.pwrOkUp (s : State) (tray sel : Nat) : State :=
  if s.pwr.pstate = .off ∨ s.pwr.pwrOk then s
  else
    let s := (s.updPwr (fun p => { p with pwrOk := true })).updTop (fun t => { t with trayPins := tray % 16, selPins := sel % 4 })
    if s.now < s.pwr.perchUpAt + 2000000 then s.updPwr (fun p => { p with pwrOkPend := true }) else s.powerStart

/-- Boot training has completed since PWR_OK rose. -/
def State.roostTrained (s : State) : Bool :=
  [0, 1].all (fun b => s.rd R.ROOST_BR_STATUS.STATE b != brOff && s.rd R.ROOST_BR_STATUS.STATE b != brTraining)

/-- ROOST_HELD as a fall of PWR_OK leaves it (R204): every channel is in self-refresh, and none is FAILED. -/
def State.heldNow (s : State) : Bool :=
  if s.roostTrained then (List.range 8).all (fun ch => s.chSleeps ch && !s.chFailed ch) else s.rd R.PWR_PERCH_STATE.ROOST_HELD == 1

/-- Power is lost to all but the Perch domain: Roost enters self-refresh, then the COLD reset (R204, R330). -/
def State.powerFall (s : State) : State :=
  match s.pwr.pstate with
  | .off | .hooded => s
  | .noPwr => (s.coreLow.coldReset (s.rd R.PWR_PERCH_STATE.ROOST_HELD == 1) .noPwr)
  | _ =>
    let s := if s.coreOn then (s.mergeFlush).roostSelfRefresh else s
    let held := s.heldNow
    let s := (s.timeStop false).coreLow
    (s.coldReset held .noPwr).wr R.PWR_PERCH_STATE.ROOST_HELD (b2n held)

/-- PWR_OK_FALL. -/
def State.pwrOkDown (s : State) : State :=
  if !s.pwr.pwrOk then s
  else ((s.updPwr (fun p => { p with pwrOk := false, pwrOkPend := false, wakePend := false })).powerFall)

/-- CORE_PG_RISE: the fast PLLs start; the test port answers from the first one on (R451). -/
def State.corePgUp (s : State) : State :=
  if s.pwr.corePg ∨ s.rd R.PWR_PERCH_STATE.CORE_EN = 0 then s
  else { s.updPwr (fun p => { p with corePg := true }) with tap := { s.tap with up := true } }

/-- CORE_PG_FALL: while CORE_EN is high it acts as a fall of PWR_OK. -/
def State.corePgDown (s : State) : State :=
  if !s.pwr.corePg then s
  else
    let s := s.updPwr (fun p => { p with corePg := false })
    if s.rd R.PWR_PERCH_STATE.CORE_EN = 1 then s.powerFall else s

/-- The die clocks start at 2,000 MHz, and the credit windows begin anew (R311). -/
def State.clocksOn (s : State) : State :=
  let s := (List.range 4).foldl (fun s d => (s.setClock d 2000).setTarget d 2000) s
  s.windowsReset

/-- The fused values (R324, R468). -/
def State.fuses (s : State) : State :=
  let s := s.wr R.PWR_FUSE.RESERVE_UJ Config.reserveUj
  (List.range 4).foldl (fun s d => (s.wr R.TALON_DIE_BALLAST_MW.TILE_BALLAST_MW Config.tileBallastMw d).wr R.TALON_DIE_BALLAST_MW.TILE_WORK_MW Config.tileWorkMw d) s

/-- The enabled ring pool and lock ranges are to be refilled (R296). -/
def State.refillRanges (s : State) : State :=
  s.updMews (fun m => { m with filling := (List.range 9).filter (fun i => (s.lockRange i).en) })

/-- The scramble key is drawn (R212). -/
def State.drawScramble (s : State) : State :=
  let (s, k) := s.rand64
  (s.updCrypt (fun c => { c with scramble := BitVec.ofNat 64 k })).updSec (fun x => { x with scrWait := false })

/-- The COLD start from the PLLs' lock on: the scramble key is drawn, or its draw waits for the entropy source (R212, R378); the router starts (R271). -/
def State.coldGo (s : State) : State :=
  let s := if s.sec.trngFail then s.updSec (fun x => { x with scrWait := true }) else s.drawScramble
  let s := (s.updPwr (fun p => { p with pstate := .glide })).timeStart
  let s := (List.range 48).foldl (fun s g => (s.setGated g true)) (s.fuses.clocksOn)
  let s := s.kettleCold
  s.updBoot (fun b => { b with stage := .rom, pllLocked := true })

/-- PLL_LOCK. -/
def State.pllUp (s : State) : State :=
  if !s.pwr.corePg ∨ s.rd R.PWR_PERCH_STATE.CORE_EN = 0 then s
  else
    match s.pwr.pstate with
    | .noPwr => s.coldGo
    | .waking =>
      if s.time.fastRun then s
      else (((s.timeStart).clocksOn).allUp []).refillRanges
    | _ => s

/-! ### Tamper (R380 to R387) -/

def lowestBit (v : Nat) : Nat := ((List.range 8).find? (natBit v)).getD 7

/-- The bank that OPEN programs is destroyed. -/
def State.destroyBank (s : State) : State :=
  match s.dusBank with
  | some k => s.updSec (fun x => { x with banks := lset x.banks k 2 })
  | none => s

/-- The latch of a tamper event: the first event's FIRST, time and generation stand. -/
def State.tamperLatch (s : State) (bits first : Nat) : State :=
  let s := s.wr R.SEC_TAMPER.SENSORS (s.rd R.SEC_TAMPER.SENSORS ||| bits)
  if s.tampered then s
  else (((s.wr R.SEC_TAMPER.FIRST first).wr R.SEC_TAMPER.TAMPER 1).wr R.SEC_TAMPER_TIME.TICKS s.time.ticks).wr R.SEC_TAMPER_GEN.GEN s.ses.gen

/-- The package enters HOODED: dispatched commands are answered TAMPERED, everything but the Perch domain stops, HBM and Roost are lost, CORE_EN falls. -/
def State.hood (s : State) : State :=
  let early := s.coreOn && !s.boot.tirloRuns
  let s := if s.coreOn then
      (s.updTci (fun t => { t with intake := [] })).endAll (fun r => !r.dead) Stat.tampered else s
  let s := (s.timeStop true).coreLow
  let s := (s.coldReset false .hooded).wr R.PWR_PERCH_STATE.ROOST_HELD 0
  let s := s.updBoot (fun b => { b with stage := .hooded })
  if early then s.wr R.SEC_STATUS.MODE modeHalted else s

/-- A tamper event. `bankDone`: an OPEN that runs has programmed its bank. -/
def State.tamper (s : State) (bits first : Nat) (bankDone : Bool) : State :=
  if s.tampered then s.tamperLatch bits first
  else
    let s := s.tamperLatch bits first
    let s := if s.sec.opening && bankDone then s.destroyBank else s
    let s := (s.updSec (fun x => { x with opening := false })).wr R.SEC_PORT.OPEN_BUSY 0
    s.zeroize.hood

/-- TAMPER_EVENT: the sensors' levels are now `sensors`. -/
def State.sensorsAre (s : State) (sensors : Nat) (bankDone : Bool) : State :=
  if s.pwr.pstate = .off then s
  else
    let s := s.wr R.SEC_TAMPER.LIVE (sensors % 32)
    if s.liveSensors = 0 then s else s.tamper s.liveSensors (lowestBit s.liveSensors) bankDone

/-! ### The boot ROM and Tirlo's start -/

/-- Lines of the image body, held dirty and locked in the cache (R369 step 4, R370). -/
def State.bootLines (s : State) (a : Nat) : List (List Byte) → State
  | [] => s
  | l :: r => State.bootLines (s.cputLine a { data := l, dirty := true, poison := false, lock := 2, way := s.lockWay a }) (a + 64) r

/-- The image of a slot is loaded, measured and started (R369 steps 4 to 6). -/
def State.bootLoad (s : State) (slotB : Bool) (h body : List Byte) : State :=
  let at_ := fld h 16 8
  let size := cdiv body.length 65536
  let s := ((s.wr R.MEWS_LOCK.ENABLE 1 0).wr R.MEWS_LOCK.BASE (at_ / 65536) 0).wr R.MEWS_LOCK.SIZE size 0
  let s := s.bootLines at_ (linesOf (body.length / 64) body)
  let s := s.setMeasure (slice h 32 48)
  let s := s.wr R.MEWS_FLASH_PROTECT (s.rd R.MEWS_FLASH_PROTECT ||| (if slotB then 2 else 1))
  let s := (s.wr R.SEC_STATUS.BOOT_SLOT (b2n slotB)).wr R.SEC_STATUS.IMAGE_SVN (fld h 8 4)
  (s.updSec (fun x => { x with image := some { load := at_, len := body.length, entry := fld h 24 8 } })).fillKeys

/-- ADMIN_LIVE is 1 while TCI_ADMIN_CFG.ENABLE is set and Tirlo's admin service runs (R423). -/
def State.adminCheck (s : State) : State := s.wr R.TCI_STATUS.ADMIN_LIVE (b2n (s.tci.adminService && s.rd R.TCI_ADMIN_CFG.ENABLE == 1))

/-- Tirlo starts: the warden cores run, the admin service is up, the configuration space is released (R435 steps 1 to 4). -/
def State.tirloStart (s : State) : State :=
  let s := (List.range 4).foldl State.coreStart s
  let s := (s.updTci (fun t => { t with adminService := true })).adminCheck
  s.updBoot (fun b => { b with stage := .tirlo, tirloRuns := true, cfgReleased := true })

/-- Both flash slots fail: MODE is HALTED and warden core 0 halts. -/
def State.bootFails (s : State) : State :=
  (s.wr R.SEC_STATUS.MODE modeHalted).updBoot (fun b => { b with stage := .bootFail })

/-- Steps 2 to 6 of R369. -/
def State.bootFlash (s : State) : State × Bool :=
  match s.bootImage false with
  | some (h, body) => (s.bootLoad false h body, true)
  | none =>
    let s := s.flag R.SEC_EVENT.BOOT_FALLBACK R.SEC_FALLBACK_CNT.COUNT
    match s.bootImage true with
    | some (h, body) => (s.bootLoad true h body, true)
    | none => (s.bootFails, false)

/-- Die-to-die modules of a link (table "Die-to-die links"). -/
def d2dModules (n : Nat) : Nat := if n < 4 then 8 else if n < 8 then 12 else 2

/-- The requests in flight over a link leave a queue; each completes to its master with an error response. -/
def State.cutQueue (s : State) (q : MQueue) (across : QReq → Bool) (put : State → MQueue → State) : State :=
  let hit := q.all.filter (fun x => across x && x.mode != rewriteMode)
  if hit = [] then s
  else
    let keep := fun (l : List QReq) => l.filter (fun x => !hit.contains x)
    (put s { q with rq := keep q.rq, wq := keep q.wq, held := keep q.held }).emits (hit.map (fun x => .error x.r.m))

/-- The die from which a request that waits for Kettle, or a contribution that waits for its slot, went out: that of the tile whose descriptor it serves, else its master's. -/
def State.userDie (s : State) (m : Master) : Option OutFor → Nat
  | some (.dma job _ _) => match s.talon.dma.find? (fun x => x.id == job) with | some x => x.tile / 96 | none => 4
  | _ => masterDie m

/-- The contributions that wait beyond the link end, in order of arrival. -/
def State.cutOrds (s : State) (n : Nat) : List OrdReq → State
  | [] => s
  | o :: r =>
    if (d2dPath (s.userDie o.m o.run) (s.stackOf o.addr / 2)).contains n then (s.ordDone r o KSt.failed).cutOrds n r
    else (s.updHbm (fun h => { h with ordWait := h.ordWait ++ [o] })).cutOrds n r

/-- The transactions in flight over die-to-die link `n` end: requests and contributions that wait in a queue beyond it, requests of the die beyond it to other packages, and its writes that wait for their sector. -/
def State.cutLink (s : State) (n : Nat) : State :=
  let s := s.hbm.pcs.foldl (fun s e =>
    s.cutQueue e.2 (fun x => (d2dPath (masterDie x.r.m) (e.1 / 128)).contains n) (fun s q => s.setHq (e.1 / 64) (e.1 % 64) q)) s
  let s := s.roost.subs.foldl (fun s e =>
    s.cutQueue e.2 (fun x => (roostPath (masterDie x.r.m) (e.1 / 2)).contains n) (fun s q => s.setRq (e.1 / 2) (e.1 % 2) q)) s
  let s := (s.updHbm (fun h => { h with ordWait := [] })).cutOrds n s.hbm.ordWait
  if 4 ≤ n then s
  else
    let gone := s.ktl.outst.filter (fun o => s.userDie o.m (some o.for_) == n)
    let s := s.updKtl (fun k => { k with outst := k.outst.filter (fun o => !gone.contains o), todo := k.todo ++ gone.map (fun o => (o, some { s.newMsg .ack s.pkg [] with status := KSt.failed })) })
    let past := fun (w : Waiter) => match w with | .master m => masterDie m == n | .kettle _ _ => false
    let ws := s.crypt.merge.flatMap (fun e => e.waiters.filter past)
    (s.updCrypt (fun c => { c with merge := c.merge.map (fun e => { e with waiters := e.waiters.filter (fun w => !past w) }) })).answerAll ws false

/-- A die-to-die link fails (R18): its flag, its fault, and an error for each transaction in flight. -/
def State.d2dFail (s : State) (n : Nat) : State :=
  let s := s.wr R.TOP_D2D_STATUS.LINK_FAILED (s.rd R.TOP_D2D_STATUS.LINK_FAILED ||| 2 ^ n)
  let s := s.wr R.TOP_D2D_STATUS.LINK_UP (let u := s.rd R.TOP_D2D_STATUS.LINK_UP; if natBit u n then u - 2 ^ n else u)
  let s := s.report (Src.d2d n) Cls.fa Cause.linkFailed
  (s.updTop (fun t => { t with runs := Tab.del t.runs n })).cutLink n

/-- The training of the die-to-die links at a start (R19): `fails` gives the modules of a link that failed. -/
def State.d2dTrain (s : State) (fails : List (Nat × Nat)) : State :=
  (List.range 10).foldl (fun s n =>
    let k := min (d2dModules n) ((fails.filter (fun f => f.1 == n)).map (fun f => f.2)).sum
    let s := (List.range k).foldl (fun s _ => s.report (Src.d2d n) Cls.ce Cause.trainFailed) s
    if k = d2dModules n then s.d2dFail n
    else
      let s := s.wr R.TOP_D2D_STATUS.LINK_UP (s.rd R.TOP_D2D_STATUS.LINK_UP ||| 2 ^ n)
      if k = 0 then s
      else if n < 4 then s.wr R.TOP_D2D_STATUS.DEGRADED_MEWS (s.rd R.TOP_D2D_STATUS.DEGRADED_MEWS ||| 2 ^ n)
      else if n < 8 then s.wr R.TOP_D2D_STATUS.DEGRADED_RING (s.rd R.TOP_D2D_STATUS.DEGRADED_RING ||| 2 ^ (n - 4))
      else s.wr R.TOP_D2D_STATUS.DEGRADED_BRIDGE (s.rd R.TOP_D2D_STATUS.DEGRADED_BRIDGE ||| 2 ^ (n - 8))) s

/-- The digest of the image resident at LOAD_ADDR, as warden core 0 reads it (R428). -/
def State.residentDigest (s : State) (i : ImageAt) : List Byte := sha384 (s.readLines (i.len / 64) i.load).2.1

/-- Warden core 0 is released from reset: the package-wide shadow window closes 50 µs later (R360). -/
def State.warmReleased (s : State) : State :=
  s.updWatch (fun w => { w with shadows := w.shadows.map (fun x => if x.unit = packageWindow then { x with closeAt := some (s.now + 50000) } else x) })

/-- The boot ROM of a WARM reset (R428): the stacks leave self-refresh, and Tirlo starts from the resident image or from flash. -/
def State.bootWarm (s : State) : State :=
  let s := (List.range 8).foldl State.hbmWake s.warmReleased
  let same := match s.sec.image with | some i => s.residentDigest i == s.measure | none => false
  match (if same then (s, true) else s.bootFlash) with
  | (s, false) => s
  | (s, true) => ((s.tirloStart).allUp []).refillRanges

/-- BOOT_ROM_START. -/
def State.bootRom (s : State) (d2dFails : List (Nat × Nat)) : State :=
  if s.boot.stage = .resetting ∧ s.boot.warm ∧ s.coreOn ∧ !s.pwr.warmHold then s.bootWarm
  else if s.boot.stage ≠ .rom ∨ !s.coreOn then s
  else
    let s := s.d2dTrain d2dFails
    let s := if s.tampered then s.report Src.secTamper Cls.fa Cause.tamper else s
    if s.liveSensors ≠ 0 ∧ !s.tampered then s.tamper s.liveSensors (lowestBit s.liveSensors) false
    else
      match s.bootFlash with
      | (s, false) => s
      | (s, true) => s.tirloStart

/-- HBM and Roost training start, and the keepers with them (R435 step 6). -/
def State.trainStart (s : State) : State :=
  if s.boot.stage ≠ .tirlo ∨ s.boot.warm ∨ !s.coreOn then s
  else
    let s := (List.range 8).foldl (fun s st => if s.stkState st = stkOff then s.wr R.HBM_STK_STATUS.STATE stkTraining st else s) s
    [0, 1].foldl (fun s b => if s.rd R.ROOST_BR_STATUS.STATE b = brOff then s.wr R.ROOST_BR_STATUS.STATE brTraining b else s) s

/-- Data rates of an HBM stack by RATE, in Mb/s. -/
def stkRate (r : Nat) : Nat := if r = 0 then 6400 else if r = 1 then 7200 else 8000

def State.allStacks (s : State) : Bool := (List.range 8).all (fun st => s.stkState st == stkReady)

/-- The KV pool, the session table and the page tables are placed once HBM is READY (R94, R435 step 7). -/
def State.placePool (s : State) : State :=
  if s.allStacks ∧ s.ses.kvCount = 0 then
    s.updSes (fun t => { t with kvFirst := Config.kvFirst, kvCount := Config.kvCount, tabFirst := Config.tabFirst, tabCount := Config.tabCount })
  else s

/-- PROB's registers of a stack are seeded from the TRNG (R178). -/
def State.seedProb (s : State) (st : Nat) : State :=
  (List.range 64).foldl (fun s p => match s.rand64 with | (s, k) => s.setHq st p { s.hq st p with lfsr := k % 2 ^ 32 }) s

/-- HBM_TRAINING_DONE (R172, R178, R424). `ppr`: the results of the repair list's entries. Training draws PROB's seeds, so it is not done while the entropy source withholds (R378). -/
def State.hbmTrained (s : State) (st : Nat) (ok : Bool) (ppr : List Nat) : State :=
  if 8 ≤ st ∨ s.boot.stage ≠ .tirlo ∨ !s.coreOn ∨ s.sec.trngFail ∨ (s.stkState st ≠ stkTraining ∧ s.stkState st ≠ stkOff) then s
  else
    let s := (List.range 16).foldl (fun s n =>
      if s.rd R.HBM_STK_PPR.VALID st n = 1 then s.wr R.HBM_STK_PPR.RESULT (lget ppr n 1) st n else s) s
    if ok then
      let s := (s.wr R.HBM_STK_STATUS.STATE stkReady st).wr R.HBM_STK_STATUS.RATE_MBPS (stkRate (s.rd R.HBM_STK_CFG.RATE st)) st
      (s.updHbm (fun h => { h with readyAt := Tab.put h.readyAt st s.now })).placePool.seedProb st
    else if Tab.get s.boot.trainTries st 0 = 0 then
      (s.wr R.HBM_STK_STATUS.STATE stkTraining st).updBoot (fun b => { b with trainTries := Tab.put b.trainTries st 1 })
    else (s.wr R.HBM_STK_STATUS.STATE stkFailed st).report (Src.hbmMem st 0) Cls.uc Cause.trainFailed

/-- Nothing is kept of the bytes from `lo` to below `hi`, of their poison or of errors in their cells. -/
def State.forget (s : State) (lo hi : Nat) : State :=
  { s with
    mem := s.mem.filter (fun e => !(decide (lo ≤ e.1) && decide (e.1 < hi))), poison := s.poison.filter (fun a => !(decide (lo ≤ a) && decide (a < hi))),
    cells := s.cells.filter (fun e => !(decide (lo ≤ e.1) && decide (e.1 < hi))) }

/-- Roost contents are lost (R204): every line is undefined, the key table is new, and a domain that a rekey marker names is unrecoverable (R230). -/
def State.roostLost (s : State) : State :=
  let s := { s with memGen := s.memGen + 1 }.forget roostBase roostEnd
  let s := if s.tampered then s else s.keyTableNew
  let s := s.csrPut R.CRYPT_JOURNAL.base 0
  match s.crypt.marker with
  | some d => ((s.wr R.CRYPT_LOST.DOMAIN d).wr R.CRYPT_LOST.VALID 1).updCrypt (fun c => { c with marker := none })
  | none => s

/-- Zero-filled metadata: the commit records, the frame map and the buddy directory (R204, R435 step 8). -/
def State.zeroRecords (s : State) : State :=
  let s := (s.forget roostBase (mapBase + 0x400000)).forget dirBase (dirBase + 0x1000000)
  { s with ses := { s.ses with buddies := [] } }

/-- How a channel's training went, where it was not well. -/
def chTrain (results : List ChTrain) (ch : Nat) : Option ChTrain := results.find? (fun r => r.ch == ch)

/-- The step that failed, 1 to 6; none where every step passed. -/
def chStep (results : List ChTrain) (ch : Nat) : Option Nat := (chTrain results ch).bind (fun r => if 1 ≤ r.step ∧ r.step ≤ 6 then some r.step else none)

/-- PROB's registers of the sixteen sub-channels are seeded from the TRNG (R178, R200). -/
def State.seedRoost (s : State) : State :=
  (List.range 16).foldl (fun s p => match s.rand64 with | (s, k) => s.setRq (p / 2) (p % 2) { s.rq (p / 2) (p % 2) with lfsr := k % 2 ^ 32 }) s

/-- ROOST_TRAINING_DONE (R192, R200, R203, R204). `results` names the channels that failed a step, and those whose contents were lost (step 0). Not while the entropy source withholds the draws of a new key table and of PROB's seeds (R373, R378). -/
def State.roostTrainedAll (s : State) (results : List ChTrain) (fig : TrainFigures) : State :=
  if s.boot.stage ≠ .tirlo ∨ s.boot.warm ∨ !s.coreOn ∨ s.roostTrained ∨ s.sec.trngFail then s
  else
    let held := s.rd R.PWR_PERCH_STATE.ROOST_HELD == 1
    let s := (List.range 8).foldl (fun s ch =>
      let n := chStep results ch
      let s := s.wr R.ROOST_BR_TRAIN.PASSED (2 ^ (n.getD 7 - 1) - 1) (ch / 4) (ch % 4)
      let s := s.wr R.ROOST_BR_TRAIN.TRAIN_US fig.us (ch / 4) (ch % 4)
      s.wr R.ROOST_BR_TRAIN.FAILED_NIBBLE (if n.isSome then ((chTrain results ch).map (·.nibble)).getD 0xFF else 0xFF) (ch / 4) (ch % 4)) s
    let s := [0, 1].foldl (fun s b =>
      let s := (s.wr R.ROOST_BR_STATUS.STATE brReady b).wr R.ROOST_BR_STATUS.TEMP_C (lget fig.temps b 0) b
      s.wr R.ROOST_BR_STATUS.TRAIN_TEMP_C (lget fig.temps b 0) b) s
    let s := (s.wr R.ROOST_ENG_STATUS.STATE engReady).updRoost (fun r => { r with upAt := s.now })
    let s := (List.range 8).foldl (fun s ch => if (chStep results ch).isSome then s.chFail ch else s) s
    let s := s.wr R.PWR_PERCH_STATE.ROOST_HELD 0
    let kept := held && (List.range 8).all (fun ch => (chTrain results ch).isNone)
    let s := if kept then s else s.roostLost
    (s.zeroRecords.keyTableRebuild.seedRoost).updBoot (fun b => { b with keyTable := true })

/-- TILE_SELF_TEST_DONE (R425): the tiles (die, tile) that fail read FAULTED; every plan area reads zero. -/
def State.selfTested (s : State) (failed : List (Nat × Nat)) : State :=
  if s.boot.stage ≠ .tirlo ∨ s.boot.selfTest ∨ s.boot.warm ∨ !s.coreOn then s
  else
    let l := failed.filter (fun f => decide (f.1 < 4) && decide (f.2 < 96))
    let s := s.forget tileBase tileEnd
    let s := s.setTalon (fun t => { t with faulty := l.foldl (fun a f => sinsert a (96 * f.1 + f.2)) t.faulty, cleared := List.range 384 })
    let s := l.foldl (fun s f => (s.setTile (96 * f.1 + f.2) tFaulted).report (Src.tileGrp f.1 f.2) Cls.ce Cause.trainFailed f.2) s
    s.updBoot (fun b => { b with selfTest := true })

/-! ### READY (R423, R81) -/

def State.roostSettled (s : State) : Bool :=
  s.roostDead || [0, 1].all (fun b => s.rd R.ROOST_BR_STATUS.STATE b == brReady)

/-- The conditions of R423. -/
def State.readyOk (s : State) : Bool :=
  s.allStacks && s.roostSettled && s.boot.keyTable && s.mews.filling == [] && s.boot.selfTest && (List.range 64).all s.boot.slotsHad.contains
    && !s.boot.reval && s.rd R.TOP_D2D_STATUS.LINK_FAILED == 0

/-- READY becomes 1 (R81): every partner is signalled, and live queue pairs are fetched up to their last accepted tail. -/
def State.goReady (s : State) : State :=
  let s := (s.wr R.TCI_STATUS.READY 1).adminCheck
  let s := if s.boot.pcieUp then s.emit (.msix 0) else s
  let gw := s.pkg
  let s := if s.linkOpen gw then s.sendOn gw (s.newMsg .ready gw [s.pkg, s.rd R.TIME_NONCE]) else s
  let s := s.sendPresence prReady
  s.updTci (fun t => { t with pendingMap := s.qps.filter (fun q => s.qpState q == qpLive && decide (0 < s.sqWait q)) })

/-- A WARM reset has come to READY: the warm watch is met (R356), and pending buddy copies are sent again (R431). -/
def State.warmDone (s : State) : State :=
  let s := s.endAll (fun r => r.wait == .warm) Stat.aborted
  let s := (s.wr R.WATCH_STATUS.WARM_WATCH 0).updWatch (fun w => { w with warmAt := none })
  s.updBoot (fun b => { b with warm := false })

def State.resendBuddies (s : State) : State := s.ses.table.foldl (fun s e => if e.2.buddy == .pending then s.buddyStart e.1 else s) s

/-- TCI_READY. -/
def State.tciReady (s : State) : State :=
  match s.pwr.pstate with
  | .waking =>
    if s.coreOn ∧ s.allStacks ∧ s.roostSettled ∧ s.mews.filling = [] then
      let p := if s.rd R.PWR_PERCH_STATE.PRIOR = 0 then PState.flight else PState.glide
      ((s.updPwr (fun x => { x with pstate := p })).updBoot (fun b => { b with stage := .ready })).goReady
    else s
  | _ =>
    if s.boot.stage = .tirlo ∧ s.coreOn ∧ s.readyOk then
      let warm := s.boot.warm
      let s := if warm then s.warmDone else s
      let s := (s.updBoot (fun b => { b with stage := .ready, everReady := true })).goReady
      if warm then s.resendBuddies else s
    else s

/-- MBOX_LIVE becomes 1 once HBM is READY and the ring pool is resident. -/
def State.mboxPoll (s : State) : State :=
  if s.coreOn ∧ s.boot.tirloRuns ∧ s.allStacks ∧ !s.mews.filling.contains 0 then s.mboxGo else s

/-! ### WARM reset (R427, R429) -/

/-- Dispatched and admitted commands stop; they are answered ABORTED_RESET before READY. A ONCE command's outcome is IN_DOUBT across the reset (R75). -/
def State.holdCommands (s : State) : State :=
  let l := (s.tci.running.filter (fun r => !r.dead)).map (fun r => { r with wait := Wait.warm })
    ++ s.tci.intake.map (fun i => { i := i, wait := Wait.warm, arg := 0, arg2 := 0, dead := false })
  let s := l.foldl (fun s r => if r.i.c.once then s.dupSet (dupKey r.i.c) r.i.c.rid (.inDoubt true) else s) s
  s.updTci (fun t => { t with running := l, intake := [], pendingMap := [], unsig := [], adminService := false })

/-- The passes stop: their runs leave, with the pages of KV positions that they had not completed, and their work is charged. -/
def State.warmTiles (s : State) : State :=
  let s := s.talon.passes.foldl (fun s p => s.leaveRuns p (p.runs.map (fun r => r.seq))) s
  let s := (List.range 384).foldl (fun s t => (if s.tileState t = tRunning ∨ s.tileState t = tLoading then s.setTile t tIdle else s).resetTile t) s
  s.setTalon (fun t => { t with ready := [], passes := [] })

/-- What a WARM reset makes of the live registers that hold events too: STRAP_CHANGED clears, and a die-to-die link that failed at run time is up again (R9; log 145). -/
def State.warmTop (s : State) : State :=
  let s := s.wr R.TOP_POSITION.STRAP_CHANGED 0
  let s := s.wr R.TOP_D2D_STATUS.LINK_UP (s.rd R.TOP_D2D_STATUS.LINK_UP ||| s.rd R.TOP_D2D_STATUS.LINK_FAILED)
  s.wr R.TOP_D2D_STATUS.LINK_FAILED 0

/-- Every block but those that keep running is reset; memory is in self-refresh. -/
def State.warmBlocks (s : State) : State :=
  let s := (List.range 15).foldl State.jessMustReload s.warmTiles
  let s := (List.range 16).foldl State.coreHalt s
  let s := s.updMews (fun m => { m with resv := [], imsic := [], tenantIrq := [], flashCmd := none, fences := [] })
  let s := s.updHbm (fun h => { h with pcs := h.pcs.map (fun e => (e.1, e.2.emptied)), ords := [], ordWait := [] })
  let s := s.updRoost (fun r => { r with subs := r.subs.map (fun e => (e.1, e.2.emptied)), xfers := [], msgs := [], retrain := [] })
  let s := s.updSes (fun t => { t with imports := [], incoming := [], claims := t.claims })
  let s := s.updKtl (fun k => { k with outst := [], todo := [], routes := k.routes.map (fun e => (e.1, { e.2 with held := [] })) })
  let s := s.rekeyStop.uartsEmpty
  (List.range 8).foldl State.showSpares (s.resetRegs warmKeeps).warmTop

/-- A WARM reset (R427), or before the first READY a new COLD start at the boot ROM (R429). -/
def State.warmReset (s : State) : State :=
  if !s.coreOn then s
  else if !s.boot.everReady then
    let hold := decide (s.pwr.resetN = false)
    let held := s.rd R.PWR_PERCH_STATE.ROOST_HELD == 1
    let s := ((s.timeStop false).coldReset held .noPwr).coldGo
    s.updPwr (fun p => { p with warmHold := hold })
  else
    let s := (s.wr R.TCI_STATUS.READY 0).wr R.TCI_STATUS.ADMIN_LIVE 0
    let s := s.updBoot (fun b => { b with stage := .resetting, warm := true, reval := true, tirloRuns := false })
    let s := s.updPwr (fun p => { p with
      pstate := if p.pstate = .entering ∨ p.pstate = .waking then (if s.rd R.PWR_PERCH_STATE.PRIOR = 0 then .flight else .glide) else p.pstate,
      warmAt := none, perchAt := none, perchHoldAt := none, warmHold := decide (p.resetN = false), groupAt := p.groupAt })
    let s := (s.sendPresence prResetting).allKeeper
    let s := (s.holdCommands.emptyCache).mergeFlush
    let s := ((List.range 8).foldl State.hbmSelfRefresh s).roostSelfRefresh
    (s.wr R.MGMT_TGT_STATUS.MBOX_LIVE 0).warmBlocks

/-! ### Revalidation (R430 to R433) -/

/-- The outcome of one session. -/
def State.revalidate (s : State) (slot : Nat) (x : Session) : State :=
  let s := s.freeHbm (if x.unparking then x.hbmFrames else [])
  let x := if x.unparking then { x with unparking := false, hbmFreed := true, pages := x.pages.map (fun e => (e.1, { e.2 with tier := 2 })) } else x
  let x := { x with under := false, runnable := false, crit := false, framesAt := none }
  let x := if x.st = .active then { x with st := .waiting, idleAt := s.epoch } else x
  if !x.parking then s.setSes slot x
  else
    match s.current slot x with
    | some r =>
      if x.lastCommit < r.seq then
        let pages := x.committedPages
        let s := pages.foldl (fun s e => s.setFrame e.2.roost Frame.used) s
        let s := s.setSes slot { x with st := .parked, parking := false, pages := pages, newFrames := [], ptFrames := [], hbmFreed := false, lastCommit := r.seq }
        s.freeParked slot
      else s.setSes slot { x with parking := false, newFrames := [], ptFrames := [] }
    | none => s.setSes slot { x with parking := false, newFrames := [], ptFrames := [] }

/-- The Roost frames that a level-2 entry, a page-table image of a commit record or a buddy directory record references. -/
def State.referenced (s : State) : List Nat :=
  s.ses.table.flatMap (fun e => e.2.roostFrames ++ e.2.recs.flatMap (fun r => r.pt)) ++ s.ses.buddies.flatMap (fun b => b.frames)

/-- REVALIDATION. Request IDs in doubt have no effect record, since a command's effect and its reply are one step: they are forgotten. -/
def State.revalidation (s : State) : State :=
  if !s.boot.reval ∨ !s.boot.tirloRuns ∨ !s.coreOn ∨ !s.allStacks then s
  else
    let s := s.ses.table.foldl (fun s e => if e.2.closing then s.finishClose e.1 e.2 else s.revalidate e.1 e.2) s
    let refs := s.referenced
    let s := s.releaseFrames ((s.roost.frames.filter (fun e => (e.2 == Frame.used || e.2 == Frame.clean) && !refs.contains e.1)).map (fun e => e.1))
    let s := s.updTci (fun t => { t with dup := t.dup.map (fun e => (e.1, e.2.filter (fun d => match d.st with | .inDoubt _ => false | _ => true))) })
    s.updBoot (fun b => { b with reval := false })

/-! ### PERCH (R301 to R308) -/

/-- A session or a transfer keeps the package from PERCH (R103, R304). -/
def State.perchBusy (s : State) : Bool :=
  s.ses.table.any (fun e => e.2.st == .active) || s.roost.xfers.any (fun x => x.kind == .park || x.kind == .unpark || x.kind == .export_)

/-- The state goes back to the one before PERCH, with READY. -/
def State.perchBack (s : State) : State :=
  let p := if s.rd R.PWR_PERCH_STATE.PRIOR = 0 then PState.flight else PState.glide
  let s := s.updPwr (fun x => { x with pstate := p, entryStep := 0, perchHoldAt := none })
  s.goReady

/-- An entry is abandoned or reversed (R308): the steps taken are reversed, in reverse order. -/
def State.perchAbort (s : State) : State :=
  let s := s.flag R.PWR_EVENT.PERCH_ABORT R.PWR_ABORT_CNT.COUNT
  let s := if s.pwr.entryStep < 2 then s
    else
      let s := if s.rd R.KTL_GLB_STATUS.KEEPER_ALL = 1 then s.allUp [] else s.sendLinkstate
      let s := (List.range 8).foldl State.roostChWake s
      let s := [0, 1].foldl (fun s b => if s.rd R.ROOST_BR_STATUS.STATE b = brRetain then s.bridgeBack b else s) s
      ((List.range 8).foldl State.hbmWake s).refillRanges
  s.perchBack

/-- LINKSTATE with every link down on every link (R273). -/
def State.linkstateDown (s : State) : State :=
  let s := s.updKtl (fun k => { k with lsSeq := k.lsSeq + 1 })
  (List.range 64).foldl (fun s n => if s.linkOpen n then s.mgmt n .linkstate [0, s.ktl.lsSeq % 2 ^ 32] else s) s

/-- Steps 3 to 6 of R304. -/
def State.perchSteps (s : State) : State :=
  let s := (s.sendPresence prPerch).linkstateDown
  let s := s.emptyCache
  let s := (List.range 48).foldl State.gateGroup s
  let s := s.mergeFlush
  let s := ((List.range 8).foldl State.hbmSelfRefresh s).roostSelfRefresh
  (s.uartsEmpty).updPwr (fun p => { p with entryStep := 2, perchHoldAt := some (s.now + 1000000) })

/-- Step 2 of R304, as long as it holds the entry. -/
def State.perchPoll (s : State) : State :=
  if s.pwr.pstate ≠ .entering ∨ s.pwr.entryStep ≠ 1 then s
  else if s.perchBusy then s.perchAbort
  else if s.tci.running = [] then s.perchSteps else s

/-- A wake source fires (R306): it is recorded, and the entry is reversed or the stoop wake starts. -/
def State.wakeBy (s : State) (f : RF) : State :=
  match s.pwr.pstate with
  | .entering => (s.wr f 1).perchAbort
  | .perch => (s.wr f 1).coreHigh
  | .waking => s.wr f 1
  | _ => s

/-- The timer source: ENABLE clears when it fires. -/
def State.wakeTimer (s : State) : State :=
  if s.rd R.PWR_WAKE_AT.ENABLE = 1 ∧ s.rd R.PWR_WAKE_AT.TICK ≤ s.time.ticks ∧ (s.pwr.pstate = .entering ∨ s.pwr.pstate = .perch) then
    (s.wr R.PWR_WAKE_AT.ENABLE 0).wakeBy R.PWR_WAKE_CAUSE.TIMER
  else s

/-- A WAKE message on link `n`. -/
def State.wakeKettle (s : State) (n : Nat) : State := (s.wakeBy R.PWR_WAKE_CAUSE.KETTLE).wr R.PWR_WAKE_CAUSE.LINK (if s.pwr.pstate = .entering ∨ s.pwr.pstate = .perch then n else s.rd R.PWR_WAKE_CAUSE.LINK)

/-- What an accepted MBOX_WRITE does to a package in PERCH. -/
def State.wakeMgmt (s : State) : State := s.wakeBy R.PWR_WAKE_CAUSE.MGMT

/-- PERCH_ENTRY_START: 100 µs after the reply. -/
def State.perchEntry (s : State) : State :=
  match s.pwr.perchAt with
  | none => s
  | some t =>
    if !s.due t ∨ (s.pwr.pstate ≠ .flight ∧ s.pwr.pstate ≠ .glide) ∨ s.boot.stage ≠ .ready then s
    else
      let s := s.wr R.PWR_PERCH_STATE.PRIOR (if s.pwr.pstate = .flight then 0 else 1)
      let s := s.csrPut R.PWR_WAKE_CAUSE.base 0
      let s := s.updPwr (fun p => { p with perchAt := none, pstate := .entering, entryStep := 1, entryAt := s.now })
      (s.wr R.TCI_STATUS.READY 0).wakeTimer

/-- PERCH_ENTRY_TIMEOUT. -/
def State.perchTimeout (s : State) : State :=
  if s.pwr.pstate = .entering ∧ s.pwr.entryStep = 1 ∧ s.due (s.pwr.entryAt + 10000000) ∧ s.tci.running ≠ [] then s.perchAbort else s

/-- PERCH_KEEPER_EXPIRY: steps 7 and 8. -/
def State.perchKeeper (s : State) : State :=
  match s.pwr.perchHoldAt with
  | none => s
  | some t =>
    if s.pwr.pstate ≠ .entering ∨ !s.due t then s
    else
      let s := (s.allKeeper).wr R.MGMT_TGT_STATUS.MBOX_LIVE 0
      let s := (s.timeStop true).updPwr (fun p => { p with pstate := .perch, entryStep := 0, perchHoldAt := none, ballast := [0, 0, 0, 0] })
      s.coreLow

/-- CORE_PG follows CORE_EN's fall within the tray: CORE_EN_LOW_EXPIRY raises CORE_EN where a rise waits for the 2 ms. -/
def State.coreLowOver (s : State) : State :=
  match s.pwr.coreLowAt with
  | some t => if s.pwr.wakePend ∧ s.due (t + 2000000) then s.coreHigh else s
  | none => s

end Sys2Proof.Machine
end

