-- ==== Sys2Proof/Machine/TapOps.lean ====
section
/-! DEFINITION. The test access port as shared operations (19_electrical_test.md, 16_security.md). What shifts out of a data register is presented as bytes of the port TDO. -/

namespace Sys2Proof.Machine

/-- Instruction codes (table "Instructions"). -/
def Ir.extest : Nat := 0x00
def Ir.idcode : Nat := 0x01
def Ir.sample : Nat := 0x02
def Ir.clamp : Nat := 0x03
def Ir.highz : Nat := 0x04
def Ir.pulse : Nat := 0x05
def Ir.train : Nat := 0x06
def Ir.dbgMem : Nat := 0x10
def Ir.open_ : Nat := 0x80
def Ir.bypass : Nat := 0xFF

/-- The TAP answers (R451): while PWR_OK is high, from the first CORE_PG on, and not in HOODED. -/
def State.tapAnswers (s : State) : Bool := s.tap.up && s.pwr.pwrOk && s.pwr.pstate != .hooded && s.pwr.pstate != .off

def State.updTap (s : State) (f : TapState → TapState) : State := { s with tap := f s.tap }

def State.tapIr (s : State) (ir : Nat) : State := s.updTap (fun t => { t with ir := ir })

def State.portOpen (s : State) : Bool := s.rd R.SEC_PORT.PORT_OPEN == 1

/-! ### Balls and boundary cells (R449, R454) -/

/-- A pin of a Roost half-block: device `k`'s DQS pair and its DQ0 to DQ3, the command address, the chip selects, the clock, ALERT_N, DRST_N. -/
inductive RoostPin where
  | dqs (k : Nat) | dq (k b : Nat) | ca (i : Nat) | cs (rank : Nat) | ck | alert | drst
deriving DecidableEq, Repr

/-- A signal with boundary cells: number `i` of the management table (rows, then columns, ascending), a PCIe lane, a Kettle lane, a pin of a Roost sub-channel. -/
inductive Signal where
  | mgmt (i : Nat)
  | pcieTx (l : Nat) | pcieRx (l : Nat)
  | ktx (n lane : Nat) | krx (n lane : Nat)
  | roost (c sub : Nat) (p : RoostPin)
deriving DecidableEq, Repr

/-- The management signals with cells: PWR_OK, CORE_PG, CORE_EN, RESET_N, TAMPER_N, FAULT_N, TRAY_ID (4), ADDR_SEL (2), TGT_SCL, TGT_SDA, MGMT_ALERT_N, CTL_SCL, CTL_SDA, UART0_TXD,
UART0_RXD, UART1_TXD, UART1_RXD, RTIME_PPS, PPS_OUT, PERST_N, XSPI_CK, XSPI_CS_N, XSPI_DQS, XSPI_RESET_N, XSPI_IO (8): row, column and number of cells. -/
def mgmtBalls : List (Nat × Nat × Nat) :=
  (List.range 6).map (fun i => (64, 2 + i, 1)) ++ (List.range 6).map (fun i => (65, 2 + i, 1)) ++ (List.range 3).map (fun i => (66, 2 + i, 1))
    ++ [(67, 2, 2), (67, 3, 2), (67, 4, 2), (67, 5, 1), (67, 6, 2), (67, 7, 1), (68, 2, 1), (68, 3, 2), (68, 4, 1)]
    ++ (List.range 4).map (fun i => (70, 2 + i, 2)) ++ (List.range 8).map (fun i => (71, 2 + i, 2))

/-- Index of a pin in its half-block (table "Roost half-block indices"); of a pair, that of its positive side. -/
def RoostPin.index : RoostPin → Nat
  | .dqs k => 6 * k
  | .dq k b => 6 * k + 2 + b
  | .ca i => 60 + i
  | .cs r => 74 + r
  | .ck => 76
  | .alert => 78
  | .drst => 79

/-- A pin's first cell within its sub-channel. -/
def RoostPin.cell : RoostPin → Nat
  | .dqs k => 10 * k
  | .dq k b => 10 * k + 2 + 2 * b
  | .ca i => 100 + 2 * i
  | .cs r => 128 + 2 * r
  | .ck => 132
  | .alert => 134
  | .drst => 135

/-- The first boundary cell of a signal (table "Boundary register"). -/
def Signal.cell : Signal → Nat
  | .mgmt i => ((mgmtBalls.take i).map (fun b => b.2.2)).sum
  | .pcieTx l => 53 + 3 * l
  | .pcieRx l => 53 + 3 * l + 2
  | .ktx n lane => 101 + 12 * n + 2 * lane
  | .krx n lane => 101 + 12 * n + 8 + lane
  | .roost c sub p => 869 + 274 * c + 137 * sub + p.cell

/-- The number of cells of a signal: data and enable of an output, one of an input and of an observe-only signal. -/
def Signal.cells : Signal → Nat
  | .mgmt i => (mgmtBalls.map (fun b => b.2.2)).getD i 0
  | .pcieTx _ | .ktx _ _ => 2
  | .pcieRx _ | .krx _ _ | .roost _ _ .alert => 1
  | .roost _ _ _ => 2

/-- Row and column of the ball of a signal; of a pair, of its positive side (table "Ball map by block"). -/
def Signal.ball : Signal → Nat × Nat
  | .mgmt i => match mgmtBalls[i]? with | some b => (b.1, b.2.1) | none => (0, 0)
  | .pcieTx l => (13 + 3 * l, 2)
  | .pcieRx l => (13 + 3 * l, 5)
  | .ktx n lane => (lget [2, 7, 105, 110] (n / 16) 0 + lane / 2, 2 + 7 * (n % 16) + 3 * (lane % 2))
  | .krx n lane => (lget [2, 7, 105, 110] (n / 16) 0 + 2 + lane / 2, 2 + 7 * (n % 16) + 3 * (lane % 2))
  | .roost c sub p => (13 + 11 * c + p.index / 8, 98 + 8 * sub + p.index % 8)

/-- Boundary cells. -/
def boundaryCells : Nat := 3061

/-- The cells that only observe: CORE_EN, FAULT_N, TGT_SCL, TGT_SDA, MGMT_ALERT_N. -/
def observeOnly : List Nat := [2, 5, 12, 13, 14]

/-- Bit `i` of `v` becomes `b`. -/
def bitPut (v i : Nat) (b : Bool) : Nat := if natBit v i == b then v else if b then v + 2 ^ i else v - 2 ^ i

/-- The input pins whose levels the package's state holds, by cell. -/
def State.pinLevels (s : State) : List (Nat × Bool) :=
  [(0, s.pwr.pwrOk), (1, s.pwr.corePg), (2, s.rd R.PWR_PERCH_STATE.CORE_EN == 1), (3, s.pwr.resetN), (28, s.pwr.perstN)]
    ++ (List.range 4).map (fun i => (6 + i, natBit s.top.trayPins i)) ++ (List.range 2).map (fun i => (10 + i, natBit s.top.selPins i))

/-- What the boundary register captures: `pins` gives the levels that no state of the package holds. -/
def State.capture (s : State) (pins : Nat) : Nat := s.pinLevels.foldl (fun v p => bitPut v p.1 p.2) (pins % 2 ^ boundaryCells)

/-- What an update leaves in the latches: no instruction drives the cells that only observe. -/
def driven (update : Nat) : Nat := observeOnly.foldl (fun v i => bitPut v i false) (update % 2 ^ boundaryCells)

/-- What the data register shifts out. -/
def State.tdo (s : State) (v : Nat) : State := s.emit (.bytes "TDO" [v])

/-- A sealed instruction selects the bypass register and is recorded (R388). -/
def State.sealedReject (s : State) : State := (s.tapIr Ir.bypass).flag R.SEC_EVENT.SEALED_REJECT R.SEC_SEALED_CNT.COUNT

/-- An instruction that acts while the port is open only. -/
def State.tapOpenOnly (s : State) (f : State → State) : State :=
  if !s.tapAnswers then s else if s.portOpen then f s else s.sealedReject

/-- The device's own logic drives no ball that has an output cell: every Kettle link is declared down (R455). -/
def State.leavesMission (s : State) : State := (List.range 64).foldl State.linkDown s

/-- EXTEST and its 1149.6 forms: the boundary register captures `pins`, and `update` drives the outputs. -/
def State.tapDrive (s : State) (ir pins update : Nat) : State :=
  s.tapOpenOnly (fun s => (((s.tapIr ir).leavesMission).tdo (s.capture pins)).updTap (fun t => { t with bound := driven update }))

/-- CLAMP and HIGHZ: bypass is selected, and the outputs are held or float. -/
def State.tapHold (s : State) (ir : Nat) : State := s.tapOpenOnly (fun s => ((s.tapIr ir).leavesMission).tdo 0)

/-- SAMPLE/PRELOAD. -/
def State.tapSample (s : State) (pins update : Nat) : State :=
  if s.tapAnswers then ((s.tapIr Ir.sample).tdo (s.capture pins)).updTap (fun t => { t with bound := driven update }) else s

/-- The OPEN register as Capture-DR loads it (R456). -/
def State.openWord (s : State) : Nat := s.rd R.SEC_PORT.OPEN_BUSY + 2 * s.rd R.SEC_PORT.PORT_OPEN + 4 * s.rd R.SEC_PORT.OPEN_FAIL

/-- OPEN with an Update-DR of `v`: the key starts the sequence of R389. -/
def State.tapOpen (s : State) (v : Nat) : State :=
  if !s.tapAnswers then s
  else
    let s := (s.tapIr Ir.open_).tdo s.openWord
    if v ≠ 0x4F50454E ∨ s.sec.opening then s
    else ((s.zeroize).updSec (fun x => { x with opening := true })).wr R.SEC_PORT.OPEN_BUSY 1

/-- OPEN ends: the bank is destroyed, and the port opens, or the failed verification acts as a tamper event with FIRST 7. -/
def State.openDone (s : State) (ok : Bool) : State :=
  if !s.sec.opening then s
  else
    let s := (s.destroyBank.updSec (fun x => { x with opening := false })).wr R.SEC_PORT.OPEN_BUSY 0
    if ok then
      let s := s.wr R.SEC_PORT.PORT_OPEN 1
      if s.coreOn ∧ s.secMode = modeNormal then (s.wr R.SEC_STATUS.MODE modeUnprov).wr R.SEC_STATUS.DERIVED 0 else s
    else (s.wr R.SEC_PORT.OPEN_FAIL 1).tamper 0 7 false

/-- Fields of the DBG_MEM register (R457). -/
def dbgOp (w : Nat) : Nat := if w % 4 = 3 then 0 else w % 4
def dbgMaster (w : Nat) : Master := ⟨0x6000 + w / 4 % 4, Priv.ofCode (if w / 16 % 4 = 3 then 0 else w / 16 % 4), false⟩
def dbgAddr (w : Nat) : Nat := w / 2 ^ 8 % 2 ^ 56 / 8 * 8
def dbgData (w : Nat) : Nat := w / 2 ^ 64 % 2 ^ 64

/-- The result of the previous access, as Capture-DR gives it. -/
def State.dbgCapture (s : State) : Nat := s.tap.res + s.tap.data * 2 ^ 64

def State.dbgResult (s : State) (res data : Nat) : State := s.updTap (fun t => { t with res := res, data := data })

end Sys2Proof.Machine
end

