-- ==== Sys2Proof/Machine/Resets.lean ====
section
/-! DEFINITION. What follows from a command in the same step: the resets and quarantines that Watch has decided on (R353 to R368), the answers that have come to this package's requests, the work that a
timeout or a delete stops (R77, R83), and the commands whose condition now holds. `State.settle` does it, and every meaning ends with it. -/

namespace Sys2Proof.Machine

/-! ### BLOCK resets, unit by unit (table "Reset units") -/

/-- The registers of a unit's CSR range return to their Reset column but those kept across BLOCK reset (R9). -/
def State.unitRegs (s : State) (u : Nat) : State :=
  s.resetRegs (fun a => csrUnit a != some u || (match findReg a with | some r => r.block || r.perch | none => true))

/-- What BLOCK_RESET and Watch do to a unit when its reset begins (R145, R161, R202, R59, R231, R277, R282). -/
def State.unitStops (s : State) (u : Nat) : State :=
  if u < 48 then ((s.stopTiles (groupTiles u) Stat.faulted).unitRegs u).tileGroupReset u
  else if u < 56 then
    let st := u - 48
    let up := s.stkState st == stkReady
    let s := ((((s.keepSlots st).hbmBlockReset st).ordCut st).unitRegs u).showSpares st
    if up then
      let s := (List.range 64).foldl (fun s p => s.wr R.HBM_PC_STATUS.SELF_REFRESH 1 st p) s
      s.wr R.HBM_STK_STATUS.STATE stkSelfRefresh st
    else s
  else if u < 66 then
    let chs := if u < 58 then (List.range 4).map (fun k => 4 * (u - 56) + k) else [u - 58]
    let b := if u < 58 then u - 56 else (u - 58) / 4
    let s := if u < 58 ∨ s.rd R.ROOST_CH_STATUS.RETRAINING (u - 58) = 1 then s.retrainCut b else s
    let s := (chs.foldl State.roostChReset (s.keepBursts.roostEngineStops)).unitRegs u
    let s := chs.foldl (fun s c => if s.chUp c then s.wr R.ROOST_CH_STATUS.SELF_REFRESH 1 c else s) s
    if u < 58 ∧ s.rd R.ROOST_BR_STATUS.STATE (u - 56) = brReady then s.wr R.ROOST_BR_STATUS.STATE brReset (u - 56) else s
  else if u = 66 then
    let s := s.roostEngineStops.unitRegs u
    if s.rd R.ROOST_ENG_STATUS.STATE = engReady then s.wr R.ROOST_ENG_STATUS.STATE engReset else s
  else if u = 67 then ((s.cryptBlockReset).endAll (fun r => r.wait == .rekey) Stat.faulted).unitRegs u
  else if u < 132 then (s.linkDown (u - 68)).unitRegs u
  else (s.coreHalt (u - 132)).wr R.MEWS_CORE_STATUS.STATE coreInReset (u - 132)

/-- A unit leaves its reset. -/
def State.unitBack (s : State) (u : Nat) : State :=
  if u < 48 then s.tileGroupBack u
  else if u < 56 then (s.jessMustReload (1 + (u - 48))).hbmWake (u - 48)
  else if u < 66 then
    let chs := if u < 58 then (List.range 4).map (fun k => 4 * (u - 56) + k) else [u - 58]
    let s := chs.foldl State.roostChWake s
    if u < 58 ∧ s.rd R.ROOST_BR_STATUS.STATE (u - 56) = brReset then s.bridgeBack (u - 56) else s
  else if u = 66 then (if s.rd R.ROOST_ENG_STATUS.STATE = engReset then s.wr R.ROOST_ENG_STATUS.STATE engReady else s)
  else if u = 67 then s.cryptBack
  else if u < 132 then s
  else if s.rd R.MEWS_CORE_STATUS.STATE (u - 132) = coreInReset then s.wr R.MEWS_CORE_STATUS.STATE coreHalted (u - 132) else s

/-- The Roost engine's commands end FAULTED. -/
def State.roostFaulted (s : State) : State :=
  s.roost.xfers.foldl (fun s t =>
    match t.kind with
    | .park => s.endPark t.obj Stat.faulted noRetry
    | .unpark => (s.stopUnpark t.obj).failUnpark t.obj Stat.faulted noRetry
    | .export_ => s.endExport t.obj Stat.faulted noRetry
    | .import_ => s.endImport t.obj Stat.faulted noRetry
    | .buddySend | .buddyRecv => s.xferDead t) s

/-- QUARANTINE of a unit (R353): its work stops at its next abort point, and the commands that need it complete with FAULTED. -/
def State.unitQuarantined (s : State) (u : Nat) : State :=
  if u < 48 then
    let on := fun (r : TileRun) => (s.planTiles r.plan).any (groupTiles u).contains
    (s.dropReady on Stat.faulted).stopRuns on Stat.faulted
  else if u < 56 then s
  else if u < 67 then s.roostFaulted
  else if u = 67 then s.rekeyStop.endAll (fun r => r.wait == .rekey) Stat.faulted
  else if u < 132 then s.linkDown (u - 68)
  else s.coreHalt (u - 132)

/-- Commands that wait for a unit's reset end. -/
def State.joinersEnd (s : State) (u st : Nat) : State := s.endAll (fun r => r.wait == .unitReset && r.arg == u) st

/-- One action that Watch has decided on is carried out. -/
def State.carry (s : State) : Act → State
  | .quarantine u => s.unitQuarantined u
  | .blockReset u => s.unitStops u
  | .release _ => s
  | .warm _ => s.warmReset
  | .resetEnded u => (s.unitBack u).joinersEnd u Stat.ok

def State.carryAll (s : State) : State :=
  let l := s.watch.acts
  l.foldl State.carry (s.updWatch (fun w => { w with acts := [] }))

/-! ### Answers to this package's requests -/

/-- The least offset of a command's writes that have no good answer, from the one that failed on. -/
def State.donePrefix (s : State) (seq off : Nat) : Nat :=
  let least := fun (n : Nat) (f : OutFor) => match f with | .reduce q k => if q = seq then min n k else n | _ => n
  let n := s.ktl.outst.foldl (fun n o => least n o.for_) off
  let n := s.hbm.ordWait.foldl (fun n o => match o.run with | some f => least n f | none => n) n
  s.ktl.todo.foldl (fun n t => if (match t.2 with | some m => m.status == 0 | none => false) then n else least n t.1.for_) n

/-- A master's own access has been answered. -/
def State.accessAnswered (s : State) (o : OutReq) (k : AccKind) (addr off len : Nat) (r : Option KMsg) : State :=
  let bad : Bool := match r with | none => true | some m => m.status != 0
  let data := match r with | some m => slice m.data off len | none => []
  let poison : Bool := match r with | some m => m.poison % 2 == 1 | none => false
  if o.m.cls = 6 then s.dbgResult (if bad then 2 else 0) (if bad ∨ k = .w then 0 else leNat data)
  else if o.m.cls = 2 then s
  else if bad then s.accFault o.m k addr
  else if k = .w then s.emit (.done o.m [])
  else if poison && (coreOf o.m).isSome then s.poisonUse o.m k addr
  else if poison then s.emit (.poisoned o.m (data.map BitVec.toNat))
  else s.emit (.done o.m (data.map BitVec.toNat))

/-- A forwarded command's reply comes back (R36), or no route reaches its home (R97). -/
def State.forwardAnswered (s : State) (seq : Nat) (r : Option KMsg) : State :=
  match r with
  | none => s.endFlags seq stLinkLost 0 0 retryLinkLost 4
  | some m =>
    match m.reps with
    | [] => s.endFlags seq Stat.faulted 0 0 noRetry 4
    | x :: _ => s.endAt seq x.status x.r0 x.r1 x.retry (4 + x.flags / 8 % 2 * 8) x.doneNs

/-- The read of a REDUCE_WAIT counter of another package. -/
def State.counterRead (s : State) (i : ICmd) : State :=
  let a := i.c.p 0
  let t := a / 2 ^ 50 % 64
  s.request t { s.newMsg .rd t [] with addr := a / 64 * 64 } (s.acting i.c) (.counter i.seq)

def State.counterAnswered (s : State) (seq : Nat) (r : Option KMsg) : State :=
  match s.runOf seq, r with
  | none, _ => s
  | some _, none => s.endRun seq Stat.faulted
  | some x, some m =>
    if m.status ≠ 0 then s.endRun seq (stOfK m.status)
    else
      let v := leNat (slice m.data (x.i.c.p 0 % 64) 8)
      if x.i.c.p 1 ≤ v then s.endRun seq Stat.ok v else s.counterRead x.i

/-- One request of this package has ended, with its response if one came. -/
def State.answered (s : State) (o : OutReq) (r : Option KMsg) : State :=
  match o.for_ with
  | .access k addr off len => s.accessAnswered o k addr off len r
  | .fwd seq => s.forwardAnswered seq r
  | .reduce seq off =>
    let st := match r with | some m => m.status | none => 255
    (match s.runOf seq with
     | none => s
     | some x =>
       if st = 0 then s
       else if st = 255 ∧ x.i.c.opcode = 0x0402 then s.endFlags seq stLinkLost (s.donePrefix seq off) 0 retryLinkLost 0
       else s.endRun seq (if st = 255 then Stat.faulted else stOfK st) (s.donePrefix seq off))
  | .counter seq => s.counterAnswered seq r
  | .src seq off n => s.srcAnswered seq off n r
  | .dma job line rd => s.dmaAnswered job line rd r
  | .claim old new =>
    if (match r with | some m => m.status == 0 | none => false) then s
    else s.updSes (fun t => { t with claims := t.claims ++ [(old, new)] })
  | .buddy slot => s.buddyAnswer slot o.kind r
  | .buddyDel => s
  | .export_ slot => s.exportAnswer slot r
  | .imp stream => match r with | none => s.endImport stream stLinkLost retryLinkLost | some _ => s

/-- The requests that had ended when the step's own effect was done, oldest first. -/
def State.answersOf : Nat → State → State
  | 0, s => s
  | n + 1, s =>
    match s.ktl.todo with
    | [] => s
    | (o, r) :: l => State.answersOf n ((s.updKtl (fun k => { k with todo := l })).answered o r)

/-! ### Work that stops (R77, R83, R84) -/

/-- A command's work is to stop with a status: a run on tiles at its abort point, a transfer at once. -/
def State.stopRun (s : State) (r : Run) (st : Nat) : State :=
  let seq := r.i.seq
  match r.wait with
  | .run => (s.dropReady (fun x => x.seq == seq) st).stopRuns (fun x => x.seq == seq) st
  | .export_ => s.endExport r.arg st noRetry
  | .import_ => s.endImport r.arg st noRetry
  | .rekey => s.rekeyStop.endRun seq st
  | .counter | .unpark | .link | .none_ | .draw | .fetch => s.endRun seq st
  | _ => s

/-- The work of commands that have been answered TIMEOUT, or whose queue pair has failed, stops. -/
def State.stopDead (s : State) : State := (s.tci.running.filter (fun r => r.dead)).foldl (fun s r => s.stopRun r Stat.timeout) s

/-- QUEUE_DELETE steps 1 to 3 (R83): what the queue pair has not fetched is discarded, what it dispatched stops; a command that was admitted and not dispatched is answered as a dispatched one is (log 144). `self`: the
deleting command, which goes on. -/
def State.queueDrain (s : State) (q self : Nat) : State :=
  let mine := fun (i : ICmd) => i.c.qp == q && i.c.fwdFrom.isNone && i.seq != self
  let s := (s.setQp q qpDraining).updTci (fun t => { t with
    pendingMap := t.pendingMap.filter (· != q), intake := t.intake.filter (fun i => !mine i),
    running := t.running ++ (t.intake.filter mine).map (fun i => { i := i, wait := .none_, arg := 0, arg2 := 0, dead := false }) })
  let s := s.stormCheck
  (s.tci.running.filter (fun r => mine r.i && !r.dead)).foldl (fun s r =>
    match r.wait with
    | .run | .export_ | .import_ | .rekey => s.stopRun r Stat.aborted
    | _ => s.endRun r.i.seq Stat.aborted) s

/-- Steps 4 and 5: nothing of the queue pair runs any more. -/
def State.queueGone (s : State) (q : Nat) : State :=
  (s.setQp q qpAbsent).updTci (fun t => { t with
    dup := Tab.del t.dup q, reserved := Tab.del t.reserved q, phase0 := t.phase0.filter (· != q), unsig := Tab.del t.unsig q,
    blocks := t.blocks.filter (fun e => e.1 / 65536 != q), links := t.links.filter (fun e => e.1 / 65536 != q) })

/-- A queue pair that is being deleted, and whose commands have all stopped, becomes ABSENT, in ERROR too where a reply's write has failed meanwhile. -/
def State.queueEnd (s : State) (q self : Nat) : State :=
  if (s.qpState q = qpDraining ∨ s.qpState q = qpErrorSt) ∧ !s.tci.running.any (fun r => r.i.c.qp == q && r.i.c.fwdFrom.isNone && r.i.seq != self) then s.queueGone q else s

/-- Queue pair 0 while its ENABLE is 0: its delete goes on (R83). -/
def State.adminEnd (s : State) : State := if s.rd R.TCI_ADMIN_CFG.ENABLE = 0 then s.queueEnd 0 (2 ^ 64) else s

/-! ### Commands whose condition now holds -/

/-- What a REDUCE or a copy to other packages waits for has ended; a REDUCE then adds 1 to its counter (R113), unless it has been answered TIMEOUT: its work stops there (R77). -/
def State.reducePoll (s : State) (r : Run) : State :=
  let seq := r.i.seq
  if s.reducing seq then s
  else if r.arg2 = 1 ∧ r.dead then s.endRun seq Stat.timeout r.arg
  else if r.arg2 = 1 then
    let a := r.i.c.p 4
    let t := a / 2 ^ 50 % 64
    let who := s.acting r.i.c
    let s := s.waitOn seq .reduce r.arg 2
    if t = s.pkg then
      match s.actAdd who 4 (a % 2 ^ 50) (1 :: List.replicate 63 0) false r.i.cls with
      | (s, k) => if k = KSt.ok then s.endRun seq Stat.ok r.arg else s.endRun seq (stOfK k) r.arg
    else s.sendAdd t who r.i.cls 4 a (1 :: List.replicate 63 0) false false (.reduce seq r.arg)
  else s.endRun seq Stat.ok r.arg

/-- The counter of this package that a REDUCE_WAIT watches. The look at it leaves no trace unless it is refused. -/
def State.counterPoll (s : State) (r : Run) : State :=
  let a := r.i.c.p 0
  if a / 2 ^ 50 % 64 ≠ s.pkg then s
  else
    match s.actRead (s.acting r.i.c) (a % 2 ^ 50) 8 r.i.cls with
    | (s', .inl k) => s'.endRun r.i.seq (stOfK k)
    | (_, .inr (l, _)) => if r.i.c.p 1 ≤ leNat l then s.endRun r.i.seq Stat.ok (leNat l) else s

/-- Every session is PARKED or EXPORTED, or closed (R113). -/
def State.drained (s : State) : Bool :=
  s.ses.table.all (fun e => (e.2.st == .parked && !e.2.runnable && !e.2.unparking && !e.2.closing) || e.2.st == .exported)

/-- RESULT bytes 8 to 15 of PKG_DRAIN: the sessions PARKED, and those with no HELD buddy copy. -/
def State.drainCounts (s : State) : Nat :=
  (s.ses.table.filter (fun e => e.2.st == .parked)).length + (s.ses.table.filter (fun e => e.2.buddy != .held)).length * 2 ^ 32

/-- PKG_DRAIN completes: LEAVE goes out on every link that is up (R276). -/
def State.drainPoll (s : State) (r : Run) : State :=
  if !s.drained ∨ !s.ses.draining then s
  else
    let counts := s.drainCounts
    let s := s.updKtl (fun k => { k with draining := true })
    let s := (List.range 64).foldl (fun s n => if s.linkOpen n then s.mgmt n .leave [s.pkg] else s) s
    s.endRun r.i.seq Stat.ok counts

/-- While the package drains, WAITING sessions park regardless of park_after. -/
def State.drainParks (s : State) : State :=
  if !s.ses.draining then s
  else s.ses.table.foldl (fun s e =>
    if e.2.st == .waiting && !e.2.parking && !e.2.closing && !e.2.under && !e.2.damaged && !e.2.tampered && decide (e.2.notBefore ≤ s.epoch) then (s.startPark e.1 false).1 else s) s

/-- A waiting command is looked at once more. -/
def State.poll (s : State) (r : Run) : State :=
  let seq := r.i.seq
  match r.wait with
  | .sync => if s.jess.syncs.any (fun x => x.1 == r.arg) then s else s.endRun seq Stat.ok
  | .link => if s.lstate r.arg = (if r.arg2 = 1 then lkDisabled else lkUp) then s.endRun seq Stat.ok else s
  | .drain => s.drainPoll r
  | .queueDrain =>
    let s := s.queueEnd r.arg seq
    if s.qpState r.arg = qpAbsent then s.endRun seq Stat.ok else s
  | .power => if s.allPowered then s.endRun seq Stat.ok else s
  | .reduce => s.reducePoll r
  | .counter => s.counterPoll r
  | _ => s

/-- Every waiting command is looked at; one that has been answered TIMEOUT still ends there. -/
def State.pollAll (s : State) : State := s.tci.running.foldl (fun s r => s.poll r) s

/-! ### Settling -/

/-- Something of the package waits on what a step has done. Where this is false, a step's own effect is all of it. -/
def State.busy (s : State) : Bool :=
  s.watch.acts != [] || s.ktl.todo != [] || s.tci.running != [] || s.hbm.ordWait != [] || s.crypt.ended != [] || s.mews.fences != [] || s.ses.claims != [] || s.ses.draining
    || s.ses.table.any (fun e => e.2.st == .active || e.2.closing || e.2.under) || s.talon.plans.any (fun e => e.2.unloading) || s.pwr.pstate == .entering

/-- One round: Watch's actions, the answers, stopped work, then each thing that waits. -/
def State.settleOnce (s : State) : State :=
  let s := s.carryAll
  let s := State.answersOf s.ktl.todo.length s
  let s := (s.stopDead.pollAll).adminEnd
  let s := if s.boot.reval then s else s.idleSessions
  let s := ((s.closeSessions.queueExports).sendClaims).drainParks
  ((s.ordServe.fenceServe).mergeReplies.unloadPlans).perchPoll

def State.settleRounds : Nat → State → State
  | 0, s => s
  | n + 1, s => if s.busy then State.settleRounds n s.settleOnce else s

/-- Everything that follows in the same step. -/
def State.settle (s : State) : State := State.settleRounds 4 s

/-- The outcome of a command: what it did, with all that follows; the queue of waiting commands is not the command's to change. -/
def fin (s t : State) : Host.Outcome State Fault Refusal := .next { t.settle with pending := s.pending }

end Sys2Proof.Machine
end

