-- ==== Sys2Proof/Machine/Live.lean ====
section
/-! DEFINITION. Reading a register: the fields that show what a block is doing at the moment of the read, the SNAP latches (R10, R11), and the effect of a load from the CSR space (R4 to R6, R15). -/

namespace Sys2Proof.Machine

/-- The index of the instance of a register at offset `a`, of `n` instances. -/
def RF.at1 (f : RF) (n a : Nat) : Option Nat :=
  let o := a - f.base
  if f.base ≤ a ∧ o % f.s1 = 0 ∧ o / f.s1 < n then some (o / f.s1) else none

/-- The two indices of the instance of a register at offset `a`, of `n` by `m` instances. -/
def RF.at2 (f : RF) (n m a : Nat) : Option (Nat × Nat) :=
  let o := a - f.base
  if f.base ≤ a ∧ o / f.s1 < n ∧ o % f.s1 % f.s2 = 0 ∧ o % f.s1 / f.s2 < m then some (o / f.s1, o % f.s1 / f.s2) else none

/-- A register's value with some of its fields set. -/
def setFields (v : Word) (l : List (RF × Nat)) : Word := l.foldl (fun v e => v.setField e.1.lo e.1.w e.2) v

/-- A whole number in two's complement of `w` bits. -/
def twos (w : Nat) (v : Int) : Nat := (v % (2 ^ w : Nat)).toNat

/-- A count in the bits [base + class] of the classes that requests are held in. -/
def holdBits (l : List QReq) : Nat :=
  b2n (l.any (fun x => x.r.cls == .crit)) + 2 * b2n (l.any (fun x => x.r.cls == .norm)) + 4 * b2n (l.any (fun x => x.r.cls == .bulk))

/-- The fields of the tile and die registers (table "TALON registers"). -/
def State.liveTalon (s : State) (a : Nat) : List (RF × Nat) :=
  match R.TALON_TILE_STATUS.at2 4 96 a with
  | some (d, t) =>
    if s.rd R.TALON_TILE_STATUS.STATE d t = tIdle ∧ s.gated (groupOf (96 * d + t)) then [(R.TALON_TILE_STATUS.STATE, tGated)] else []
  | none =>
    match R.TALON_DIE_CLOCK.at1 4 a with
    | some d => [(R.TALON_DIE_CLOCK.CHANGING, b2n (s.time.fastRun && s.clockOf d != lget s.pwr.target d 0))]
    | none => []

def State.liveHbm (s : State) (a : Nat) : List (RF × Nat) :=
  match R.HBM_PC_STATUS.at2 8 64 a with
  | some (st, p) =>
    let q := s.hq st p
    [(R.HBM_PC_STATUS.RQ_OCC, q.rq.length), (R.HBM_PC_STATUS.WQ_OCC, q.wq.length), (R.HBM_PC_STATUS.DRAIN, if q.drain then 1 else if q.rq = [] && q.wq != [] then 2 else 0),
      (R.HBM_PC_STATUS.BAND, s.rd R.HBM_STK_TEMP.BAND st), (R.HBM_PC_STATUS.OWED, (q.owed.filter (fun e => e.2 != 0)).length), (R.HBM_PC_STATUS.HOLD, holdBits q.held)]
  | none =>
    match R.HBM_PC_SLOTS.at2 8 64 a with
    | some (st, p) => [(R.HBM_PC_SLOTS, s.rd R.HBM_PC_SLOTS st p + s.slotsSince st)]
    | none =>
      match R.HBM_KITE_STATUS.at1 8 a with
      | some st => [(R.HBM_KITE_STATUS.SLOTS_USED, (s.hbm.ords.filter (fun e => s.stackOf e.1 == st)).length)]
      | none => []

def State.liveRoost (s : State) (a : Nat) : List (RF × Nat) :=
  match R.ROOST_CH_STATUS.at1 8 a with
  | some c =>
    let q0 := s.rq c 0
    let q1 := s.rq c 1
    [(R.ROOST_CH_STATUS.RQ_OCC, q0.rq.length + q1.rq.length), (R.ROOST_CH_STATUS.WQ_OCC, q0.wq.length + q1.wq.length),
      (R.ROOST_CH_STATUS.HOLD, holdBits (q0.held ++ q1.held))]
  | none =>
    match R.ROOST_CH_SLOTS.at1 8 a with
    | some c => [(R.ROOST_CH_SLOTS, s.rd R.ROOST_CH_SLOTS c + s.burstsSince c)]
    | none =>
      if a = R.ROOST_ENG_STATUS.base then [(R.ROOST_ENG_STATUS.QUEUED, s.roost.xfers.length), (R.ROOST_ENG_STATUS.RUNNING, s.runCount)]
      else if a = R.ROOST_ENG_FRAMES.base then [(R.ROOST_ENG_FRAMES.FREE, s.freeFrames), (R.ROOST_ENG_FRAMES.CLEAN, s.cleanFrames)]
      else []

def State.liveKettle (s : State) (a : Nat) : List (RF × Nat) :=
  match R.KTL_LINK_STATUS.at1 64 a with
  | some n => if s.lstate n = lkUp then [(R.KTL_LINK_STATUS.UP_MS, min 0xFFFFFFFF ((s.now - (s.link n).upAt) / 1000000))] else []
  | none =>
    match R.KTL_ROUTE.at1 64 a with
    | some t =>
      let r := s.route t
      [(R.KTL_ROUTE.HOLD, b2n (r.held != [])), (R.KTL_ROUTE.NONE_MS, match r.noneAt with | some n => min 0xFFFFFFFF ((s.now - n) / 1000000) | none => 0)]
    | none => if a = R.KTL_GLB_STATUS.base then [(R.KTL_GLB_STATUS.SLOT, s.curSlot)] else []

/-- The table's regions with a property, counted. -/
def regionCount (p : Nat → Bool) : Nat := ((List.range 256).filter p).length

def State.liveJess (s : State) (a : Nat) : List (RF × Nat) :=
  if a = R.JESS_STATUS.base then
    [(R.JESS_STATUS.PENDING, ((List.range 15).map (fun k => b2n ((s.checker k).queue != [] || (s.checker k).reloading) * 2 ^ k)).sum), (R.JESS_STATUS.SYNC_BUSY, b2n (s.jess.syncs != [])),
      (R.JESS_STATUS.ENABLED, regionCount (fun n => s.rd R.JESS_REGION_ATTR.ENABLE n == 1)), (R.JESS_STATUS.LOCKED, regionCount (fun n => s.rd R.JESS_REGION_ATTR.LOCK n == 1))]
  else []

/-- The code of PWR_STATUS.STATE. -/
def State.pwrState (s : State) : Nat :=
  match s.pwr.pstate with
  | .flight => 0 | .entering => 2 | .waking => 3 | _ => 1

def State.livePower (s : State) (a : Nat) : List (RF × Nat) :=
  let ballast := s.pwr.ballast.sum
  if a = R.PWR_STATUS.base then [(R.PWR_STATUS.STATE, s.pwrState), (R.PWR_STATUS.RAMPING, b2n (s.pwr.pRef != s.rampGoal || ballast != 0))]
  else if a = R.PWR_BUCKET.base then [(R.PWR_BUCKET.LEVEL_MJ, twos 32 (s.pwr.level / 1000))]
  else if a = R.PWR_GOV_STATUS.base then
    [(R.PWR_GOV_STATUS.P_REF_W, s.pwr.pRef / 1000), (R.PWR_GOV_STATUS.LOAD_W, (s.workMw + ballast + s.pwr.other) / 1000),
      (R.PWR_GOV_STATUS.RESERVE, twos 16 (s.pwr.reserve / 100000)), (R.PWR_GOV_STATUS.BALLAST_W, ballast / 1000)]
  else []

def State.liveTime (s : State) (a : Nat) : List (RF × Nat) :=
  if a = R.TIME_STATUS.base then
    [(R.TIME_STATUS.QUALITY, s.time.quality.code), (R.TIME_STATUS.PPS_OUT_ACTIVE, b2n s.ppsActive), (R.TIME_STATUS.UNC_NS, min 0xFFFFFFFF s.uncNs)]
  else if a = R.TIME_EPOCH_NS.base then [(R.TIME_EPOCH_NS, s.epoch)]
  else if a = R.TIME_RACK_NS.base then [(R.TIME_RACK_NS, if s.time.quality = .unset then 0 else s.rackNs)]
  else if a = R.TIME_ELAPSED.base then [(R.TIME_ELAPSED.TICKS, s.time.ticks)]
  else []

/-- The fields of the register at offset `a` that follow the state of their block from moment to moment. -/
def State.liveFields (s : State) (a : Nat) : List (RF × Nat) :=
  let n := a / 0x1000000
  if n = 1 then (if a = R.TCI_INTAKE.base then [(R.TCI_INTAKE.OCCUPANCY, s.tci.intake.length)] else [])
  else if n = 2 then
    (if a = R.WATCH_STATUS.base then
      [(R.WATCH_STATUS.PENDING_SRCS, s.pendingSrcs), (R.WATCH_STATUS.SHADOWS_OPEN, (s.watch.shadows.filter (fun x => x.unit != packageWindow)).length)]
     else [])
  else if n = 3 then s.liveJess a
  else if n = 4 then s.livePower a
  else if n = 5 then s.liveTime a
  else if n = 6 then (if a = R.SEC_KEYSTORE.base then [(R.SEC_KEYSTORE.CACHE_USED, s.sec.groups.length)] else [])
  else if n = 7 then
    (match R.MGMT_CTL_VAL.at1 16 a with
     | some i => [(R.MGMT_CTL_VAL.AGE_MS, match Tab.get? s.bus.valAt i with | some t => min 0xFFFF ((s.now - t) / 1000000) | none => 0xFFFF)]
     | none => [])
  else if n = 8 then (if a = R.CRYPT_STATUS.base then [(R.CRYPT_STATUS.MERGE_USED, s.crypt.merge.length)] else [])
  else if n = 9 then s.liveRoost a
  else if n = 10 then s.liveKettle a
  else if n = 11 then
    (if a = R.MEWS_STATUS.base then
      [(R.MEWS_STATUS.CACHE_READY, b2n s.boot.pllLocked), (R.MEWS_STATUS.FILLING, b2n (s.mews.filling != [])), (R.MEWS_STATUS.DIRTY, (s.mews.cache.filter (fun e => e.2.dirty)).length)]
     else [])
  else if 16 ≤ n ∧ n < 20 then s.liveTalon a
  else if 32 ≤ n ∧ n < 40 then s.liveHbm a
  else []

/-- The value of the register at offset `a` as a read finds it. -/
def State.csrValue (s : State) (a : Nat) : Word := setFields (s.csrAt a) (s.liveFields a)

/-! ### SNAP latches (R10, R11) -/

/-- A lower-half read of a SNAP register captures the upper half: into the master's own latch, a free one, or the one filled longest ago. -/
def State.snapFill (s : State) (a id upper : Nat) : State :=
  let b := a / 0x1000000
  let l := s.snap.filter (fun x => !(x.reg == a && x.master == id))
  let full := 16 ≤ (l.filter (fun x => x.block == b)).length
  let l := if full then (match l.find? (fun x => x.block == b) with | some o => l.filter (· != o) | none => l) else l
  { s with snap := l ++ [{ block := b, reg := a, master := id, upper := upper }] }

/-- The master's latch for the register. -/
def State.snapOf (s : State) (a id : Nat) : Option SnapLatch := s.snap.find? (fun x => x.reg == a && x.master == id)

/-- A read of `size` bytes from byte `sub` of the register at offset `a` by master `id`: the value, with what the read does to latches and RC fields. -/
def State.csrTake (s : State) (a id size sub : Nat) : State × Nat :=
  let v := (s.csrValue a).toNat
  match R.MGMT_UART_DATA.at1 2 a with
  | some n =>
    if size = 4 ∧ sub = 4 then (s, 0) else s.uartTake n
  | none =>
    let snap := match findReg a with | some r => r.snap | none => false
    if size = 8 then (s, v)
    else if sub = 0 then (if snap then s.snapFill a id (v / 2 ^ 32) else s, v % 2 ^ 32)
    else
      match (if snap then s.snapOf a id else none) with
      | some x => ({ s with snap := s.snap.filter (· != x) }, x.upper)
      | none => (s, v / 2 ^ 32)

/-- A read of a register by a master: refused as csrGate says, or answered. -/
def State.csrLoad (s : State) (a : Nat) (m : Master) (size sub : Nat) : State :=
  match s.csrGate a .r m size sub true with
  | some s' => s'
  | none =>
    match s.csrTake a m.id size sub with
    | (s, v) => s.emit (.done m ((leBytes size v).map BitVec.toNat))

end Sys2Proof.Machine
end

