-- ==== Sys2Proof/Machine/WriteOps.lean ====
section
/-! DEFINITION. Writes to registers: what each register that acts on a write does (the Interface tables of chapters 01 to 17), and the write of any register by its offset. -/

namespace Sys2Proof.Machine

/-- A write whose effect is that of its fields' access codes (R6, R7). -/
def State.plainWrite (s : State) (a : Nat) (w : CsrWr) : State := s.csrWrite a w (fun s => s.csrPut a (s.csrMerged a w))

/-- The same, for a register that only WARDEN_CORE at privilege F writes (R281, R299, R390, R415). -/
def State.plainWriteF (s : State) (a : Nat) (w : CsrWr) : State := s.csrWriteF a w (fun s => s.csrPut a (s.csrMerged a w))

/-- A write whose merged value passes through `f` before it is stored. -/
def State.shapedWrite (s : State) (a : Nat) (w : CsrWr) (f : Word → Word) : State := s.csrWrite a w (fun s => s.csrPut a (f (s.csrMerged a w)))

/-- A field held between two values. -/
def clampField (v : Word) (f : RF) (lo hi : Nat) : Word := v.setField f.lo f.w (clampN lo hi (v.field f.lo f.w))

/-- The value that a write gives a write-only field; 0 where the write does not address it. -/
def written (w : CsrWr) (f : RF) : Nat := (csrWord w).field f.lo f.w

/-! ### TCI (03_tci_transport.md) -/

/-- Queue pair 0 becomes LIVE with its fixed attributes (R61), its rings those of the TCI_ADMIN registers. -/
def State.adminOn (s : State) : State :=
  if s.qpState 0 ≠ qpAbsent then s
  else
    let s := ((s.csrPut (R.TCI_QP_ATTR.addr 0 0 0) 0).wr R.TCI_QP_ATTR.PRIV 1 0).wr R.TCI_QP_ATTR.CRIT_OK 1 0
    let s := (s.wr R.TCI_QP_ATTR.ONCE_EN 1 0).csrPut (R.TCI_QP_SIZE.addr 0 0 0) 0
    let s := (s.wr R.TCI_QP_SIZE.SQ_LOG2 (clampN 4 16 (s.rd R.TCI_ADMIN_CFG.SQ_LOG2)) 0).wr R.TCI_QP_SIZE.RQ_LOG2 (clampN 4 16 (s.rd R.TCI_ADMIN_CFG.RQ_LOG2)) 0
    let s := (s.csrPut (R.TCI_QP_SQB.addr 0 0 0) (s.csrAt (R.TCI_ADMIN_SQ_BASE.addr 0 0 0))).csrPut (R.TCI_QP_RQB.addr 0 0 0) (s.csrAt (R.TCI_ADMIN_RQ_BASE.addr 0 0 0))
    (s.csrPut (R.TCI_QP_PTR.addr 0 0 0) 0).setQp 0 qpLive

/-- Queue pair 0 is deleted as QUEUE_DELETE does (R83). -/
def State.adminOff (s : State) : State :=
  if s.qpState 0 = qpAbsent then s else (s.queueDrain 0 (2 ^ 64)).queueEnd 0 (2 ^ 64)

/-- TCI_ADMIN_CFG takes a value: the depths are fixed while ENABLE is 1. -/
def State.adminCfg (s : State) (v : Word) : State :=
  let a := R.TCI_ADMIN_CFG.addr 0 0 0
  let on := s.rd R.TCI_ADMIN_CFG.ENABLE == 1
  let v := if on then (s.csrAt a).setField 0 1 (v.field 0 1) else v
  let s := s.csrPut a v
  let s := if v.field 0 1 = 1 then s.adminOn else if on then s.adminOff else s
  s.adminCheck

def State.adminCfgWrite (s : State) (w : CsrWr) : State :=
  let a := R.TCI_ADMIN_CFG.addr 0 0 0
  s.csrWrite a w (fun s => s.adminCfg (s.csrMerged a w))

/-- A ring base of queue pair 0: ignored while ENABLE is 1. -/
def State.adminBaseWrite (s : State) (a : Nat) (w : CsrWr) : State :=
  s.csrWrite a w (fun s => if s.rd R.TCI_ADMIN_CFG.ENABLE = 1 then s else s.csrPut a (s.csrMerged a w))

def State.intakeWrite (s : State) (w : CsrWr) : State :=
  let a := R.TCI_INTAKE.addr 0 0 0
  s.csrWrite a w (fun s => (s.csrPut a (clampField (s.csrMerged a w) R.TCI_INTAKE.REJECT_LEVEL 1024 16384)).stormCheck)

def State.sqDoorbellWrite (s : State) (q : Nat) (w : CsrWr) : State := s.csrWrite (R.TCI_DB_SQ.addr q 0 0) w (fun s => s.sqDoorbellAt q w)
def State.rqDoorbellWrite (s : State) (q : Nat) (w : CsrWr) : State := s.csrWrite (R.TCI_DB_RQ.addr q 0 0) w (fun s => s.rqDoorbellAt q w)

/-! ### HBM (06_hbm_channels.md, 07_hbm_integrity.md) -/

/-- R169: a write of GO names a row to be spared. -/
def State.spareCmdWrite (s : State) (st p : Nat) (w : CsrWr) : State :=
  s.csrWrite (R.HBM_PC_SPARE_CMD.addr st p 0) w (fun s =>
    let row := written w R.HBM_PC_SPARE_CMD.ROW
    if written w R.HBM_PC_SPARE_CMD.GO = 1 ∧ row < 49152 then s.spareRow st p (written w R.HBM_PC_SPARE_CMD.BANK) row 1 else s)

/-- R149: the map's register changes at once, the decoders later. -/
def State.locWrite (s : State) (hi : Bool) (w : CsrWr) : State :=
  let a := if hi then R.HBM_GLB_LOC_HI.addr 0 0 0 else R.HBM_GLB_LOC_LO.addr 0 0 0
  s.csrWrite a w (fun s => (s.csrPut a (s.csrMerged a w)).wr R.HBM_GLB_LOC_STATUS.PENDING 1)

/-- Every decoder uses the map that the registers hold. -/
def State.locDone (s : State) : State :=
  if s.rd R.HBM_GLB_LOC_STATUS.PENDING = 0 then s
  else
    (s.updHbm (fun h => { h with loc := s.rd R.HBM_GLB_LOC_LO + s.rd R.HBM_GLB_LOC_HI.LOC * 2 ^ 64 })).wr R.HBM_GLB_LOC_STATUS.PENDING 0

/-- The bounds of R153. -/
def pcCfgOk (v : Word) : Bool :=
  let hi := v.field 0 6
  let n := v.field 16 6
  decide (v.field 8 6 < hi) && decide (9 ≤ hi) && decide (hi ≤ 31) && decide (8 ≤ n) && decide (n ≤ 63)

def State.pcCfgWrite (s : State) (st p : Nat) (w : CsrWr) : State :=
  let a := R.HBM_PC_CFG.addr st p 0
  s.csrWrite a w (fun s =>
    if pcCfgOk (s.csrMerged a w) then s.csrPut a (s.csrMerged a w) else s.flag R.HBM_PC_EVENT.BAD_CFG R.HBM_PC_BAD_CFG_CNT.COUNT st p)

/-- R147. -/
def State.stkCfgWrite (s : State) (st : Nat) (w : CsrWr) : State :=
  let a := R.HBM_STK_CFG.addr st 0 0
  s.csrWrite a w (fun s => if s.stkState st = stkOff then s.csrPut a (s.csrMerged a w) else s)

/-- The bounds of R176; MIN_DUTY 0 stands for 16. -/
def thermCfgOk (v : Word) : Bool :=
  let t := v.field 0 8
  let stop := v.field 12 8
  decide (85 ≤ t) && decide (t + 2 ≤ stop) && decide (stop ≤ 125) && decide (1 ≤ v.field 8 4) && decide (v.field 20 4 ≠ 1)

def State.thermCfgWrite (s : State) (st : Nat) (w : CsrWr) : State :=
  let a := R.HBM_STK_THERM_CFG.addr st 0 0
  s.csrWrite a w (fun s => if thermCfgOk (s.csrMerged a w) then s.csrPut a (s.csrMerged a w) else s)

/-- HBM_STK_PPR_n: writes while STATE is not OFF are ignored. -/
def State.pprWrite (s : State) (st : Nat) (a : Nat) (w : CsrWr) : State :=
  s.csrWrite a w (fun s => if s.stkState st = stkOff then s.csrPut a (s.csrMerged a w) else s)

/-! ### Roost (08_roost_tier.md) -/

/-- The bounds of R195. -/
def chCfgOk (v : Word) : Bool :=
  let hi := v.field 40 8
  decide (v.field 48 8 < hi) && decide (16 ≤ hi) && decide (hi ≤ 159) && decide (16 ≤ v.field 56 8)

def State.chCfgWrite (s : State) (ch : Nat) (w : CsrWr) : State :=
  let a := R.ROOST_CH_CFG.addr ch 0 0
  s.csrWrite a w (fun s =>
    if chCfgOk (s.csrMerged a w) then s.csrPut a (s.csrMerged a w) else s.flag R.ROOST_CH_EVENT.BAD_CFG R.ROOST_CH_BAD_CFG_CNT.COUNT ch)

/-- ROOST_BR_CFG: RATE is writable only while the bridge is OFF. -/
def State.brCfgWrite (s : State) (b : Nat) (w : CsrWr) : State :=
  let a := R.ROOST_BR_CFG.addr b 0 0
  s.csrWrite a w (fun s =>
    let v := s.csrMerged a w
    s.csrPut a (if s.rd R.ROOST_BR_STATUS.STATE b = brOff then v else v.setField 8 1 (s.rd R.ROOST_BR_CFG.RATE b)))

/-! ### Crypt (09_inline_crypt.md) -/

def State.cryptCtrlWrite (s : State) (w : CsrWr) : State :=
  let a := R.CRYPT_CTRL.addr 0 0 0
  s.csrWrite a w (fun s => s.cryptCtrl (s.csrMerged a w))

/-- CRYPT_STBL_BASE: ignored while ENABLE is 1. -/
def State.stblWrite (s : State) (w : CsrWr) : State :=
  let a := R.CRYPT_STBL_BASE.addr 0 0 0
  s.csrWrite a w (fun s => if s.rd R.CRYPT_CTRL.ENABLE = 1 then s else s.csrPut a (s.csrMerged a w))

/-! ### Jess (10_jess_access.md) -/

def State.stageGoWrite (s : State) (w : CsrWr) : State :=
  s.csrWrite (R.JESS_STAGE_CMD.addr 0 0 0) w (fun s =>
    if written w R.JESS_STAGE_CMD.GO = 1 then s.jessCommit (written w R.JESS_STAGE_CMD.REGION) else s)

def State.syncGoWrite (s : State) (w : CsrWr) : State :=
  s.csrWrite (R.JESS_SYNC.addr 0 0 0) w (fun s => if written w R.JESS_SYNC.GO = 1 then s.jessSyncGo else s)

/-! ### Kettle (R272) -/

/-- ENABLE of a link: a DISABLE that still runs becomes a RETRAIN. -/
def State.linkEnable (s : State) (n : Nat) : State :=
  match (s.link n).withdraw with
  | some (_, t) => s.setLink n { s.link n with withdraw := some (true, t) }
  | none => s.enableLink n

def State.linkCtrlWrite (s : State) (n : Nat) (w : CsrWr) : State :=
  let a := R.KTL_LINK_CTRL.addr n 0 0
  s.csrWrite a w (fun s =>
    let v := s.csrMerged a w
    let s := s.csrPut a v
    let s := if (csrMask w).field 0 1 = 0 then s else if v.field 0 1 = 0 then s.withdrawLink n false else s.linkEnable n
    if written w R.KTL_LINK_CTRL.RETRAIN = 1 ∧ v.field 0 1 = 1 then s.withdrawLink n true else s)

/-! ### Mews (12_mews_cores.md) -/

/-- MEWS_CORE_c_CTRL: RELEASE starts a HALTED core; RESET is a BLOCK reset of the core's unit (R281, R282). -/
def State.coreCtrlWrite (s : State) (c : Nat) (w : CsrWr) : State :=
  s.csrWriteF (R.MEWS_CORE_CTRL.addr c 0 0) w (fun s =>
    let s := if written w R.MEWS_CORE_CTRL.RELEASE = 1 ∧ s.rd R.MEWS_CORE_STATUS.STATE c = coreHalted then s.coreStart c else s
    if written w R.MEWS_CORE_CTRL.RESET = 1 then s.requestReset (132 + c) .register else s)

def State.coreVectorWrite (s : State) (c : Nat) (w : CsrWr) : State :=
  let a := R.MEWS_CORE_VECTOR.addr c 0 0
  s.csrWriteF a w (fun s => if s.rd R.MEWS_CORE_STATUS.STATE c = coreHalted then s.csrPut a (s.csrMerged a w) else s)

/-- MEWS_RING_POOL (0) and MEWS_LOCK_i (i + 1). -/
def State.lockRegWrite (s : State) (i : Nat) (w : CsrWr) : State :=
  s.csrWrite (lockAddr i) w (fun s => s.lockWrite i (s.csrMerged (lockAddr i) w))

def State.cacheMaintWrite (s : State) (w : CsrWr) : State :=
  s.csrWrite (R.MEWS_CACHE_MAINT.addr 0 0 0) w (fun s => if written w R.MEWS_CACHE_MAINT.CLEAN_ALL = 1 then s.cleanAll else s)

/-- Four bytes in the other order. -/
def swap32 (v : Nat) : Nat := v % 256 * 2 ^ 24 + v / 256 % 256 * 2 ^ 16 + v / 65536 % 256 * 256 + v / 2 ^ 24 % 256

/-- A write to an interrupt file: each half written raises the identity that it holds (AIA). -/
def State.imsicWrite (s : State) (core file : Nat) (w : CsrWr) : State :=
  s.csrWrite (R.MEWS_IMSIC.addr core file 0) w (fun s =>
    (s.raiseAt core file (written w R.MEWS_IMSIC.SETEIPNUM_LE)).raiseAt core file (swap32 (written w R.MEWS_IMSIC.SETEIPNUM_BE)))

def State.flashCmdWrite (s : State) (w : CsrWr) : State :=
  s.csrWriteF (R.MEWS_FLASH_CMD.addr 0 0 0) w (fun s =>
    if written w R.MEWS_FLASH_CMD.GO = 1 ∧ written w R.MEWS_FLASH_CMD.OP < 3 then s.flashGo (written w R.MEWS_FLASH_CMD.OP) else s)

/-! ### Power (13_power_energy.md) -/

def State.capWrite (s : State) (w : CsrWr) : State := s.shapedWrite (R.PWR_CAP.addr 0 0 0) w capClamp

/-- R332. -/
def State.pwrCfgStore (s : State) (which : PwrCfg) (w : CsrWr) : State :=
  let a := cfgAddr which
  s.csrWrite a w (fun s =>
    if cfgOk which (s.csrMerged a w) then s.csrPut a (s.csrMerged a w) else s.flag R.PWR_EVENT.BAD_CFG R.PWR_BADCFG_CNT.COUNT)

/-- PWR_CLOCK_CFG: clamped, then rounded down to a step of 25 MHz. -/
def clockCfgShape (v : Word) : Word := v.setField 0 12 (clampN 800 2000 (v.field 0 12) / 25 * 25)

/-- PWR_WAKE_AT: a tick already passed fires at once. -/
def State.wakeAtWrite (s : State) (w : CsrWr) : State :=
  let a := R.PWR_WAKE_AT.addr 0 0 0
  s.csrWrite a w (fun s => (s.csrPut a (s.csrMerged a w)).wakeTimer)

/-! ### Time (14_time_base.md) -/

/-- TIME_CFG: clamped; R345 governs the first rise after PPS_OUT_EN changes. -/
def State.timeCfgWrite (s : State) (w : CsrWr) : State :=
  let a := R.TIME_CFG.addr 0 0 0
  s.csrWrite a w (fun s =>
    let v := clampField (clampField (s.csrMerged a w) R.TIME_CFG.PPS_WIDTH_US 10 500) R.TIME_CFG.SLEW_PPM 1 200
    let s' := s.csrPut a v
    if v.field 0 1 = s.rd R.TIME_CFG.PPS_OUT_EN then s' else s'.updTime (fun t => { t with ppsSkip := true }))

def State.alarmWrite (s : State) (w : CsrWr) : State :=
  let a := R.TIME_ALARM.addr 0 0 0
  s.csrWrite a w (fun s => (s.csrPut a (s.csrMerged a w)).alarmCheck)

def State.captureWrite (s : State) (w : CsrWr) : State :=
  s.csrWrite (R.TIME_CAPTURE.addr 0 0 0) w (fun s => if written w R.TIME_CAPTURE.GO = 1 then s.timeSample else s)

/-! ### Watch (15_watch_faults.md) -/

def watchGraceShape (v : Word) : Word :=
  clampField (clampField (clampField v R.WATCH_GRACE.FA_US 200 10000) R.WATCH_GRACE.UC_MS 1 1000) R.WATCH_GRACE.DE_MS 10 10000

def watchCfgShape (v : Word) : Word :=
  let v := clampField (clampField v R.WATCH_CFG.CE_THRESH 1 65535) R.WATCH_CFG.CE_WINDOW_S 1 255
  clampField (clampField (clampField v R.WATCH_CFG.TMO_US 20 45) R.WATCH_CFG.WARM_LIMIT_MS 100 10000) R.WATCH_CFG.REPEAT_WARM_S 1 255

/-- An acknowledgement of a source (R357); one that has no effect is stray. -/
def State.watchAck (s : State) (n code : Nat) : State :=
  let ok := srcUsed n && s.ladder n == Ladder.running && (code == 1 || (code == 2 && decide (s.rd R.WATCH_SRC_STATUS.EXTENDS n < 3)) || code == 3)
  if !ok then s.flag R.WATCH_EVENT.ACK_STRAY R.WATCH_STRAY_CNT.COUNT
  else
    let cls := Tab.get s.watch.cls n Cls.de
    let s := s.wlog n cls false false 2 code (some (s.rd R.WATCH_SRC_STATUS.PRIMARY_SEQ n)) 0
    if code = 1 then s.endLadder Ladder.handled n
    else if code = 2 then
      (s.bump R.WATCH_SRC_STATUS.EXTENDS 1 n).updWatch (fun w => { w with
        timers := Tab.put w.timers n (s.now + s.grace cls) })
    else s.takeStep n (s.rd R.WATCH_SRC_STATUS.STEP n + 1)

def State.ackWrite (s : State) (w : CsrWr) : State :=
  s.csrWrite (R.WATCH_ACK.addr 0 0 0) w (fun s =>
    if (csrMask w).field 0 1 = 0 then s else s.watchAck (written w R.WATCH_ACK.SOURCE) (written w R.WATCH_ACK.CODE))

/-- FAULT_N is released (R356). -/
def State.alarmClear (s : State) : State :=
  if s.rd R.WATCH_STATUS.ALARM = 0 then s else (s.wr R.WATCH_STATUS.ALARM 0).emit (.pin "FAULT_N" true)

def State.alarmClrWrite (s : State) (w : CsrWr) : State :=
  s.csrWrite (R.WATCH_ALARM_CLR.addr 0 0 0) w (fun s => if written w R.WATCH_ALARM_CLR.CLEAR = 1 then s.alarmClear else s)

/-- A source's status is cleared (R358). -/
def State.clearSource (s : State) (n : Nat) : State :=
  let s := s.wr R.WATCH_SRC_STATUS.PENDING 0 n
  if s.ladder n = Ladder.running then s
  else ((s.wr R.WATCH_SRC_STATUS.CLASS 0 n).wr R.WATCH_SRC_STATUS.STEP 0 n).wr R.WATCH_SRC_STATUS.LADDER 0 n |>.wr R.WATCH_SRC_STATUS.EXTENDS 0 n

def State.srcStatusWrite (s : State) (n : Nat) (w : CsrWr) : State :=
  s.csrWrite (R.WATCH_SRC_STATUS.addr n 0 0) w (fun s => if written w R.WATCH_SRC_STATUS.PENDING = 1 ∧ srcUsed n then s.clearSource n else s)

/-- One injected event on a source (R364). -/
def State.inject (s : State) (n : Nat) : State := s.report n (s.rd R.WATCH_SRC_CFG.INJ_CLASS n) Cause.injected

/-- The bounds of R366. -/
def srcCfgOk (v : Word) : Bool :=
  let first := v.field 4 3
  let top := v.field 7 3
  decide (1 ≤ first) && decide (first ≤ top) && decide (top ≤ 5) && decide (1 ≤ v.field 10 3) && decide (v.field 10 3 ≤ 4)

/-- WATCH_SRC_n_CFG: the registers of an unused source read 0 and ignore writes. -/
def State.srcCfg (s : State) (n : Nat) (w : CsrWr) : State :=
  let a := R.WATCH_SRC_CFG.addr n 0 0
  s.csrWrite a w (fun s =>
    if !srcUsed n then s
    else if !srcCfgOk (s.csrMerged a w) then s.flag R.WATCH_EVENT.BAD_CFG R.WATCH_BADCFG_CNT.COUNT
    else
      let s := s.csrPut a (s.csrMerged a w)
      if written w R.WATCH_SRC_CFG.FORCE = 1 then s.inject n else s)

/-- RELEASE ends a unit's quarantine (R353). -/
def State.releaseUnit (s : State) (u : Nat) : State :=
  if s.unitState u = Unit.quarantined then (s.wr R.WATCH_RU_STATUS.STATE Unit.normal u).act (.release u) else s

/-- WATCH_RU_u_CFG. -/
def State.ruCfgWrite (s : State) (u : Nat) (w : CsrWr) : State :=
  let a := R.WATCH_RU_CFG.addr u 0 0
  s.csrWrite a w (fun s =>
    if !unitUsed u then s
    else
      let s := s.csrPut a (s.csrMerged a w)
      let s := if written w R.WATCH_RU_CFG.RELEASE = 1 then s.releaseUnit u else s
      if written w R.WATCH_RU_CFG.RESET = 1 then s.requestReset u .register else s)

/-! ### Security (16_security.md) -/

def State.svnWrite (s : State) (w : CsrWr) : State :=
  s.csrWriteF (R.SEC_SVN_ADVANCE.addr 0 0 0) w (fun s => s.svnAdvance (written w R.SEC_SVN_ADVANCE.TARGET))

/-- SEC_TAMPER_MASK: a sensor that asserts and is no longer masked latches and reacts. -/
def State.maskWrite (s : State) (w : CsrWr) : State :=
  let a := R.SEC_TAMPER_MASK.addr 0 0 0
  s.csrWriteF a w (fun s =>
    if !s.portOpen then s
    else
      let s := s.csrPut a (s.csrMerged a w)
      s.sensorsAre (s.rd R.SEC_TAMPER.LIVE) false)

/-! ### Buses (17_management_buses.md) -/

/-- MGMT_CTL_CFG, or MGMT_CTL_DEV_i (R405). -/
def State.ctlCfgWrite (s : State) (dev : Option Nat) (w : CsrWr) : State :=
  let a := match dev with | some i => R.MGMT_CTL_DEV.addr i 0 0 | none => R.MGMT_CTL_CFG.addr 0 0 0
  s.csrWriteF a w (fun s =>
    let v := s.csrMerged a w
    let ok := match dev with | some i => s.ctlCfgOk (s.csrAt (R.MGMT_CTL_CFG.addr 0 0 0)) (some (i, v)) | none => s.ctlCfgOk v none
    if ok then s.csrPut a v else s.flag R.MGMT_CTL_EVENT.BAD_CFG R.MGMT_CTL_BADCFG_CNT.COUNT)

/-- A write to UART `n`'s page: UART1's is decided by Jess alone (R415). -/
def State.uartWrite (s : State) (n a : Nat) (w : CsrWr) (f : State → State) : State := if n = 1 then s.csrWrite a w f else s.csrWriteF a w f

/-- MGMT_UARTn_CFG: the transmitter starts once it is enabled; a condition that is now enabled and true raises its identity. -/
def State.uartCfgWrite (s : State) (n : Nat) (w : CsrWr) : State :=
  let a := R.MGMT_UART_CFG.addr n 0 0
  s.uartWrite n a w (fun s =>
    ((s.csrPut a (s.csrMerged a w)).uartStart n).uartDone n)

def State.uartEventWrite (s : State) (n : Nat) (w : CsrWr) : State :=
  let a := R.MGMT_UART_EVENT.addr n 0 0
  s.uartWrite n a w (fun s => (s.csrPut a (s.csrMerged a w)).uartDone n)

def State.uartDataStore (s : State) (n : Nat) (w : CsrWr) : State :=
  s.uartWrite n (R.MGMT_UART_DATA.addr n 0 0) w (fun s => if (csrMask w).field 0 1 = 0 then s else s.uartQueue n ((csrWord w).toNat % 256))

/-! ### The write of a register by its offset -/

/-- The registers that only WARDEN_CORE at privilege F writes, among those with no act of their own. -/
def onlyF (a : Nat) : Bool :=
  a / 0x1000000 == 6 || (a / 0x1000000 == 7 && !(decide (0x7002000 ≤ a) && decide (a < 0x7003000)))
    || (decide (R.MEWS_FLASH_CMD.base ≤ a) && decide (a ≤ R.MEWS_FLASH_PROTECT.base))

def State.otherWrite (s : State) (a : Nat) (w : CsrWr) : State := if onlyF a then s.plainWriteF a w else s.plainWrite a w

def State.tciWrite (s : State) (a : Nat) (w : CsrWr) : State :=
  if a = R.TCI_ADMIN_CFG.base then s.adminCfgWrite w
  else if a = R.TCI_ADMIN_SQ_BASE.base ∨ a = R.TCI_ADMIN_RQ_BASE.base then s.adminBaseWrite a w
  else if a = R.TCI_INTAKE.base then s.intakeWrite w
  else
    match R.TCI_DB_SQ.at1 4096 a, R.TCI_DB_RQ.at1 4096 a with
    | some q, _ => s.sqDoorbellWrite q w
    | none, some q => s.rqDoorbellWrite q w
    | none, none => s.otherWrite a w

def State.hbmWrite (s : State) (a : Nat) (w : CsrWr) : State :=
  if a = R.HBM_GLB_LOC_LO.base then s.locWrite false w
  else if a = R.HBM_GLB_LOC_HI.base then s.locWrite true w
  else
    match R.HBM_PC_CFG.at2 8 64 a, R.HBM_PC_SPARE_CMD.at2 8 64 a with
    | some (st, p), _ => s.pcCfgWrite st p w
    | none, some (st, p) => s.spareCmdWrite st p w
    | none, none =>
      match R.HBM_STK_CFG.at1 8 a, R.HBM_STK_THERM_CFG.at1 8 a, R.HBM_STK_PPR.at2 8 16 a, R.HBM_KITE_CFG.at1 8 a with
      | some st, _, _, _ => s.stkCfgWrite st w
      | none, some st, _, _ => s.thermCfgWrite st w
      | none, none, some (st, _), _ => s.pprWrite st a w
      | none, none, none, some _ => s.shapedWrite a w (fun v => clampField v R.HBM_KITE_CFG.ORD_HOLD_US 100 1000000)
      | none, none, none, none => s.otherWrite a w

def State.mewsWrite (s : State) (a : Nat) (w : CsrWr) : State :=
  if a = R.MEWS_CACHE_MAINT.base then s.cacheMaintWrite w
  else if a = R.MEWS_FLASH_CMD.base then s.flashCmdWrite w
  else if a = R.MEWS_RING_POOL.base then s.lockRegWrite 0 w
  else
    match R.MEWS_LOCK.at1 8 a, R.MEWS_CORE_CTRL.at1 16 a, R.MEWS_CORE_VECTOR.at1 16 a, R.MEWS_IMSIC.at2 16 6 a with
    | some i, _, _, _ => s.lockRegWrite (i + 1) w
    | none, some c, _, _ => s.coreCtrlWrite c w
    | none, none, some c, _ => s.coreVectorWrite c w
    | none, none, none, some (c, f) => s.imsicWrite c f w
    | none, none, none, none => s.otherWrite a w

def State.watchWrite (s : State) (a : Nat) (w : CsrWr) : State :=
  if a = R.WATCH_GRACE.base then s.shapedWrite a w watchGraceShape
  else if a = R.WATCH_CFG.base then s.shapedWrite a w watchCfgShape
  else if a = R.WATCH_ACK.base then s.ackWrite w
  else if a = R.WATCH_ALARM_CLR.base then s.alarmClrWrite w
  else
    match R.WATCH_SRC_STATUS.at1 512 a, R.WATCH_SRC_CFG.at1 512 a, R.WATCH_RU_CFG.at1 256 a with
    | some n, _, _ => s.srcStatusWrite n w
    | none, some n, _ => s.srcCfg n w
    | none, none, some u => s.ruCfgWrite u w
    | none, none, none => s.otherWrite a w

def State.pwrWrite (s : State) (a : Nat) (w : CsrWr) : State :=
  if a = R.PWR_CAP.base then s.capWrite w
  else if a = R.PWR_THERM_CFG.base then s.pwrCfgStore .therm w
  else if a = R.PWR_GOV_CFG.base then s.pwrCfgStore .gov w
  else if a = R.PWR_POLICY.base then s.pwrCfgStore .policy w
  else if a = R.PWR_CLOCK_CFG.base then s.shapedWrite a w clockCfgShape
  else if a = R.PWR_WAKE_AT.base then s.wakeAtWrite w
  else s.otherWrite a w

def State.busWrite (s : State) (a : Nat) (w : CsrWr) : State :=
  if a = R.MGMT_CTL_CFG.base then s.ctlCfgWrite none w
  else
    match R.MGMT_CTL_DEV.at1 16 a, R.MGMT_UART_CFG.at1 2 a, R.MGMT_UART_EVENT.at1 2 a, R.MGMT_UART_DATA.at1 2 a with
    | some i, _, _, _ => s.ctlCfgWrite (some i) w
    | none, some n, _, _ => s.uartCfgWrite n w
    | none, none, some n, _ => s.uartEventWrite n w
    | none, none, none, some n => s.uartDataStore n w
    | none, none, none, none => s.otherWrite a w

/-- A write to the register at offset `a`. -/
def State.csrStore (s : State) (a : Nat) (w : CsrWr) : State :=
  let n := a / 0x1000000
  if n = 1 then s.tciWrite a w
  else if n = 2 then s.watchWrite a w
  else if n = 3 then
    (if a = R.JESS_STAGE_CMD.base then s.stageGoWrite w else if a = R.JESS_SYNC.base then s.syncGoWrite w else s.otherWrite a w)
  else if n = 4 then s.pwrWrite a w
  else if n = 5 then
    (if a = R.TIME_CFG.base then s.timeCfgWrite w else if a = R.TIME_ALARM.base then s.alarmWrite w else if a = R.TIME_CAPTURE.base then s.captureWrite w else s.otherWrite a w)
  else if n = 6 then
    (if a = R.SEC_SVN_ADVANCE.base then s.svnWrite w else if a = R.SEC_TAMPER_MASK.base then s.maskWrite w else s.otherWrite a w)
  else if n = 7 then s.busWrite a w
  else if n = 8 then
    (if a = R.CRYPT_CTRL.base then s.cryptCtrlWrite w else if a = R.CRYPT_STBL_BASE.base then s.stblWrite w
     else if a = R.CRYPT_CFG.base then s.shapedWrite a w (fun v => clampField v R.CRYPT_CFG.MERGE_HOLD_NS 100 10000) else s.otherWrite a w)
  else if n = 9 then
    (match R.ROOST_BR_CFG.at1 2 a, R.ROOST_CH_CFG.at1 8 a with
     | some b, _ => s.brCfgWrite b w
     | none, some c => s.chCfgWrite c w
     | none, none => s.otherWrite a w)
  else if n = 10 then (match R.KTL_LINK_CTRL.at1 64 a with | some l => s.linkCtrlWrite l w | none => s.otherWrite a w)
  else if n = 11 then s.mewsWrite a w
  else if 32 ≤ n ∧ n < 40 then s.hbmWrite a w
  else s.otherWrite a w

/-- A BAR0 access (R305, R306): in PERCH it is dropped, and it wakes a package that is in PERCH or enters it. -/
def State.barAccess (s : State) (m : Master) (f : State → State) : State :=
  if m.cls ≠ 5 ∨ m.remote then f s
  else if s.pwr.pstate = .perch then s.wakeBy R.PWR_WAKE_CAUSE.PCIE
  else (f s).wakeBy R.PWR_WAKE_CAUSE.PCIE

end Sys2Proof.Machine
end

