-- ==== Sys2Proof/Machine/Access.lean ====
section
/-! DEFINITION. The register accesses that have no row of their own: 32-bit reads, and writes (00_scope.md). -/

namespace Sys2Proof.Machine

/-- SNAP_LOWER_READ (R10): a 32-bit read of a register's lower half. -/
def execSnapLowerRead (m : Master) (addr : Nat) (s : State) : Host.Outcome State Fault Refusal := fin s (s.csrLoad addr m 4 0)

/-- SNAP_UPPER_READ (R11): a 32-bit read of a register's upper half. -/
def execSnapUpperRead (m : Master) (addr : Nat) (s : State) : Host.Outcome State Fault Refusal := fin s (s.csrLoad addr m 4 4)

/-- REGISTER_WRITE (R7): a write to the register at an offset of the CSR space. -/
def execRegisterWrite (addr : Nat) (w : CsrWr) (s : State) : Host.Outcome State Fault Refusal :=
  fin s (s.barAccess w.m (fun s => s.csrStore addr w))

end Sys2Proof.Machine
end

