-- ==== Sys2Proof/Machine/CmdOps.lean ====
section
/-! DEFINITION. What the commands of the TCI share when they are dispatched (R89 to R94): the bits that each parameter word may set, the buffer words, the handle, the checks in their order, and what a
command for a session meets. -/

namespace Sys2Proof.Machine

/-- The bits that the parameter words of an opcode may set (R91, 04_tci_commands.md); the word of a buffer is checked apart. -/
def paramMasks (op : Nat) : List Nat :=
  let f := 2 ^ 64 - 1
  match op with
  | 0x0002 => [0xFFF, 0x3FFFFFFF3FFF, f, f, 0xFFFFFFFF001FFFFF]
  | 0x0003 | 0x0004 => [0xFFF]
  | 0x0005 => [0xFFF, 0xFFFFFFFF00000003]
  | 0x0100 => [0xFFFFFFFF000007FF, 0x7F]
  | 0x0101 => [0x1FFFFFF, f, 0xFFFFFFFF, f, 0x1FFFFFF]
  | 0x0104 => [0x3, 0xFFFFFFFF, 0x7F]
  | 0x0106 => [0xFFFFFFFF]
  | 0x0107 => [0xFFFFFFFF, 0x7F]
  | 0x0108 => [0x1]
  | 0x0200 => [f, f, f, 0x3]
  | 0x0203 => [0x7F]
  | 0x0301 => [0xFFFF]
  | 0x0302 => [0xFFFF, f, f, f]
  | 0x0303 => [f, 0xFFFFFFFF, 0xFFFFFFFFFFFF, 0, 0]
  | 0x0400 => [0x3F]
  | 0x0401 => [0x3F, 0x3]
  | 0x0402 => [f, f, f, 0xF, f]
  | 0x0404 => [0x1]
  | 0x0501 => [0xFFF]
  | 0x0502 => [0x3]
  | 0x0600 => [0x1]
  | 0x0700 | 0x0702 => [0xFFF, f, f]
  | 0x0701 | 0x0703 => [0xFFF]
  | 0x0704 => [0xFF, f, f, 0xFFF33FF77703]
  | 0x0800 | 0x0802 | 0x0803 => [0x1FF]
  | 0x0801 => [0xFFFF]
  | 0x0804 => [0xFF]
  | _ => []

/-- The parameter words that are buffer addresses. -/
def paramBufs (op : Nat) : List Nat :=
  match op with
  | 0x0101 => [1, 3]
  | 0x0200 | 0x0707 => [0, 1]
  | 0x0201 | 0x0300 => [0]
  | 0x0302 | 0x0700 | 0x0702 => [1]
  | 0x0402 => [0, 1, 4]
  | 0x0403 => [0]
  | _ => []

/-- A word sets no bit outside a mask. -/
def within (v mask : Nat) : Bool := v &&& mask == v

/-- R91 for the whole command. -/
def State.badParams (s : State) (c : Cmd) : Bool :=
  ((paramMasks c.opcode).zipIdx).any (fun m => !within (c.p m.2) m.1) || (paramBufs c.opcode).any (fun k => s.badBuf c (c.p k))

/-- R90 for an opcode that names no session: HANDLE is 0. -/
def handleBad (c : Cmd) : Bool := c.handle != 0 && c.opcode != 0x0303

/-- A command of an opcode that names no session: step 7 and step 8 of R89, then its effect. -/
def State.plain (s : State) (op : Nat) (c : Cmd) (f : State → ICmd → State) : State :=
  s.command op c (fun s i => if handleBad i.c || s.badParams i.c then s.endRun i.seq Stat.badParam else f s i)

/-- A command of a session opcode: step 7 finds the session, step 8 checks the parameters, then its effect on the session of a slot. -/
def State.onSession (s : State) (op : Nat) (c : Cmd) (f : State → ICmd → Nat → Session → State) : State :=
  s.command op c (fun s i =>
    match s.sessionFor i.c with
    | .inr st => s.endRun i.seq st
    | .inl slot =>
      if s.badParams i.c then s.endRun i.seq Stat.badParam
      else match s.sesAt slot with
        | none => s.endRun i.seq Stat.badSession
        | some x => f s i slot x)

/-- The session's status word as it stands. -/
def State.wordOf (s : State) (slot : Nat) : Nat := match s.sesAt slot with | some x => x.word | none => 0

/-- A buddy package that R54 admits, or none (0x7F). -/
def State.buddyOk (s : State) (b : Nat) : Bool := b == 0x7F || (decide (b < 64) && decide (b / 4 ≠ s.pkg / 4))

end Sys2Proof.Machine
end

