-- ==== Sys2Proof/Machine/Admin.lean ====
section
/-! DEFINITION. The admin group of commands (R109) and TCI's own events: doorbells, the fetcher, timers, queue pair 0 (03_tci_transport.md, 04_tci_commands.md). -/

namespace Sys2Proof.Machine

/-! ### Doorbells, fetching, timers -/

/-- SQ_DOORBELL (R63). -/
def execSqDoorbell (q : Nat) (w : CsrWr) (s : State) : Host.Outcome State Fault Refusal := fin s (if q < 4096 then s.barAccess w.m (fun s => s.sqDoorbellWrite q w) else s)

/-- RQ_DOORBELL (R63). -/
def execRqDoorbell (q : Nat) (w : CsrWr) (s : State) : Host.Outcome State Fault Refusal := fin s (if q < 4096 then s.barAccess w.m (fun s => s.rqDoorbellWrite q w) else s)

/-- FETCH_TURN (R68). -/
def execFetchTurn (host : List HostEnt) (fail : Bool) (s : State) : Host.Outcome State Fault Refusal :=
  fin s (if s.coreOn then s.fetchTurn host fail else s)

/-- COMMAND_TIMEOUT (R77). -/
def execCommandTimeout (q tag ridLo : Nat) (s : State) : Host.Outcome State Fault Refusal := fin s (s.cmdTimeout q tag ridLo)

/-- COALESCE_TIMER (R72). -/
def execCoalesceTimer (q : Nat) (s : State) : Host.Outcome State Fault Refusal := fin s (s.coalesce q)

/-- ONCE_ID_EXPIRY (R74). -/
def execOnceIdExpiry (q rid : Nat) (s : State) : Host.Outcome State Fault Refusal := fin s (s.dupExpire q rid)

/-- ADMIN_QP_ENABLE (R80): the write of TCI_ADMIN_CFG that has ENABLE 1. -/
def execAdminQpEnable (w : CsrWr) (s : State) : Host.Outcome State Fault Refusal :=
  fin s (if written w R.TCI_ADMIN_CFG.ENABLE = 1 then s.barAccess w.m (fun s => s.adminCfgWrite w) else s)

/-- ADMIN_QP_DISABLE (R83): the write of TCI_ADMIN_CFG that has ENABLE 0. -/
def execAdminQpDisable (w : CsrWr) (s : State) : Host.Outcome State Fault Refusal :=
  fin s (if written w R.TCI_ADMIN_CFG.ENABLE = 0 then s.barAccess w.m (fun s => s.adminCfgWrite w) else s)

/-! ### The admin opcodes -/

/-- NOP (R109). -/
def execNop (c : Cmd) (s : State) : Host.Outcome State Fault Refusal := fin s (s.plain 0x0000 c (fun s i => s.endRun i.seq Stat.ok))

/-- RESULT bytes 8 to 15 of IDENTIFY. -/
def State.identity (s : State) : Nat :=
  s.rd R.TOP_IDENT.IDCODE + s.rd R.TOP_IDENT.STEPPING * 2 ^ 32 + s.pkg * 2 ^ 40 + Config.tirloVersion % 65536 * 2 ^ 48

/-- IDENTIFY (R109). -/
def execIdentify (c : Cmd) (s : State) : Host.Outcome State Fault Refusal :=
  fin s (s.plain 0x0001 c (fun s i => s.endRun i.seq Stat.ok s.identity (s.rd R.TIME_NONCE)))

/-- A field of a word that is to go to a register. -/
def fieldOf (v : Nat) (f : RF) : Nat := v / 2 ^ f.lo % 2 ^ f.w

/-- The bytes that the rings of MEWS-located queue pairs hold (R60). -/
def State.mewsRings (s : State) : Nat :=
  (s.qps.map (fun q => if s.rd R.TCI_QP_ATTR.LOC q = 2 then 64 * s.sqDepth q + 32 * s.rqDepth q else 0)).sum

/-- The BAD_PARAM cases of QUEUE_CREATE (R60, R101). -/
def State.createBad (s : State) (c : Cmd) : Bool :=
  let q := c.p 0 % 4096
  let attr := c.p 1
  let sq := fieldOf (c.p 4) R.TCI_QP_SIZE.SQ_LOG2
  let rq := fieldOf (c.p 4) R.TCI_QP_SIZE.RQ_LOG2
  q == 0 || q == mgmtQp || q == c.qp || s.qpState q != qpAbsent || decide (5 ≤ fieldOf attr R.TCI_QP_ATTR.PARTNER)
    || fieldOf attr R.TCI_QP_ATTR.PRIV == 3 || fieldOf attr R.TCI_QP_ATTR.LOC == 3 || decide (sq < 4 ∨ 16 < sq ∨ rq < 4 ∨ 16 < rq)
    || c.p 2 % 4096 != 0 || c.p 3 % 4096 != 0
    || (fieldOf attr R.TCI_QP_ATTR.LOC == 2 && decide (0x800000 < s.mewsRings + 64 * 2 ^ sq + 32 * 2 ^ rq))

/-- The ACCESS_DENIED cases of QUEUE_CREATE (R60, R101): a PRIV above the creator's, PRIV F outside the open port's exception, another key domain. -/
def State.createDenied (s : State) (c : Cmd) : Bool :=
  let attr := c.p 1
  let priv := fieldOf attr R.TCI_QP_ATTR.PRIV
  let partner := fieldOf attr R.TCI_QP_ATTR.PARTNER
  (if priv = 2 then !(c.qp == 0 && s.rd R.SEC_PORT.PORT_OPEN == 1 && (partner == pcie || partner == tenant)) else decide (s.cmdPriv c < priv))
    || (c.qp != 0 && fieldOf attr R.TCI_QP_ATTR.KEY_DOMAIN != s.cmdDomain c)

/-- The new queue pair is LIVE with its attributes, bases and depths. -/
def State.createQp (s : State) (c : Cmd) : State :=
  let q := c.p 0 % 4096
  let s := s.csrPut (R.TCI_QP_ATTR.addr q 0 0) (BitVec.ofNat 64 (c.p 1 / 8 * 8))
  let s := ((s.csrPut (R.TCI_QP_SQB.addr q 0 0) (BitVec.ofNat 64 (c.p 2))).csrPut (R.TCI_QP_RQB.addr q 0 0) (BitVec.ofNat 64 (c.p 3)))
  ((s.csrPut (R.TCI_QP_SIZE.addr q 0 0) (BitVec.ofNat 64 (c.p 4))).csrPut (R.TCI_QP_PTR.addr q 0 0) 0).setQp q qpLive

/-- QUEUE_CREATE (R60). -/
def execQueueCreate (c : Cmd) (s : State) : Host.Outcome State Fault Refusal :=
  fin s (s.plain 0x0002 c (fun s i =>
    if s.createBad i.c then s.endRun i.seq Stat.badParam
    else if s.createDenied i.c then s.endRun i.seq Stat.denied
    else (s.createQp i.c).endRun i.seq Stat.ok))

/-- QUEUE_DELETE (R83). -/
def execQueueDelete (c : Cmd) (s : State) : Host.Outcome State Fault Refusal :=
  fin s (s.plain 0x0003 c (fun s i =>
    let q := i.c.p 0 % 4096
    if q = 0 ∨ q = mgmtQp ∨ q = i.c.qp then s.endRun i.seq Stat.badParam
    else if s.qpState q = qpAbsent then s.endRun i.seq Stat.ok
    else (s.queueDrain q i.seq).waitOn i.seq .queueDrain q))

/-- QUEUE_QUERY (R109): a U queue pair may name itself only. -/
def execQueueQuery (c : Cmd) (s : State) : Host.Outcome State Fault Refusal :=
  fin s (s.plain 0x0004 c (fun s i =>
    let q := i.c.p 0 % 4096
    if s.cmdPriv i.c = 0 ∧ q ≠ i.c.qp then s.endRun i.seq Stat.denied
    else s.endRun i.seq Stat.ok (s.csrAt (R.TCI_QP_ATTR.addr q 0 0)).toNat (s.csrAt (R.TCI_QP_PTR.addr q 0 0)).toNat))

/-- QUEUE_MODIFY (R109); the PRIO of queue pairs 0 and 4,095 is fixed (R61). On a queue pair in ERROR only QUEUE_DELETE acts (R84). -/
def execQueueModify (c : Cmd) (s : State) : Host.Outcome State Fault Refusal :=
  fin s (s.plain 0x0005 c (fun s i =>
    let q := i.c.p 0 % 4096
    if s.qpState q = qpAbsent ∨ s.qpState q = qpErrorSt then s.endRun i.seq Stat.badParam
    else
      let s := if q = 0 ∨ q = mgmtQp then s else s.wr R.TCI_QP_ATTR.PRIO (i.c.p 1 % 4) q
      let s := (s.wr R.TCI_QP_SIZE.COAL_COUNT (fieldOf (i.c.p 1) R.TCI_QP_SIZE.COAL_COUNT) q).wr R.TCI_QP_SIZE.COAL_TIME (fieldOf (i.c.p 1) R.TCI_QP_SIZE.COAL_TIME) q
      s.endRun i.seq Stat.ok))

/-- RESET_WARM (R102): the reply, and the reset 100 µs later. -/
def execResetWarm (c : Cmd) (s : State) : Host.Outcome State Fault Refusal :=
  fin s (s.plain 0x0006 c (fun s i => (s.endRun i.seq Stat.ok).updPwr (fun p => { p with warmAt := some (s.now + 100000) })))

end Sys2Proof.Machine
end

