-- ==== Sys2Proof/Machine/Bringup.lean ====
section
/-! DEFINITION. The commands of bring-up, resets, pins and die-to-die links (01_machine.md, 13_power_energy.md, 18_bringup_reset.md). -/

namespace Sys2Proof.Machine

/-- PERCH_POWER_ON (R333). -/
def execPerchPowerOn (addrSel : Nat) (ok : Bool) (s : State) : Host.Outcome State Fault Refusal := fin s (s.perchOn addrSel ok)

/-- PERCH_POWER_LOSS (R301). -/
def execPerchPowerLoss (s : State) : Host.Outcome State Fault Refusal := fin s s.perchOff

/-- The moment from which the target port answers (R393), and a rise of PWR_OK that came earlier is acted on (R417). -/
def State.perchStarted (s : State) : State :=
  if s.pwr.pstate = .off ∨ !s.due (s.pwr.perchUpAt + 2000000) ∨ s.sec.nonceWait then s
  else
    let s := s.updBus (fun b => { b with answers := true })
    if s.pwr.pwrOkPend then s.powerStart else s

/-- PERCH_STARTUP_EXPIRY (R393). -/
def execPerchStartupExpiry (s : State) : Host.Outcome State Fault Refusal := fin s s.perchStarted

/-- PWR_OK_RISE (R418). -/
def execPwrOkRise (tray sel : Nat) (s : State) : Host.Outcome State Fault Refusal := fin s (s.pwrOkUp tray sel)

/-- PWR_OK_FALL (R330). -/
def execPwrOkFall (s : State) : Host.Outcome State Fault Refusal := fin s s.pwrOkDown

/-- CORE_PG_RISE (R303). -/
def execCorePgRise (s : State) : Host.Outcome State Fault Refusal := fin s s.corePgUp

/-- CORE_PG_FALL (R303). -/
def execCorePgFall (s : State) : Host.Outcome State Fault Refusal := fin s s.corePgDown

/-- PLL_LOCK (R310). -/
def execPllLock (s : State) : Host.Outcome State Fault Refusal := fin s s.pllUp

/-- BOOT_ROM_START (R369). -/
def execBootRomStart (d2dFails : List (Nat × Nat)) (s : State) : Host.Outcome State Fault Refusal := fin s ((s.bootRom d2dFails).mboxPoll)

/-- RESET_N has been low for 1 µs (R419): a WARM reset starts, and Watch logs an ACK entry with SOURCE 0x1FF and code 0 (R360). -/
def State.resetLow (s : State) : State :=
  if !s.pwr.resetN ∨ s.pwr.pstate = .off then s
  else
    let s := s.updPwr (fun p => { p with resetN := false })
    if !s.coreOn then s
    else
      let seq := s.rd R.WATCH_LOG_HEAD.NEXT_SEQ
      (s.wlog noSource 0 false false 2 0 none 0).startWarm .resetN seq

/-- RESET_N_ASSERT (R419). -/
def execResetNAssert (s : State) : Host.Outcome State Fault Refusal := fin s s.resetLow

/-- RESET_N_RELEASE (R419): warden core 0 is no longer held. -/
def execResetNRelease (s : State) : Host.Outcome State Fault Refusal := fin s (s.updPwr (fun p => { p with resetN := true, warmHold := false }))

/-- PERST_N resets the PCIe endpoint (R420). -/
def State.perstLow (s : State) : State :=
  let s := s.updPwr (fun p => { p with perstN := false })
  if !s.coreOn then s
  else
    let s := s.adminCfg ((s.csrAt (R.TCI_ADMIN_CFG.addr 0 0 0)).setField 0 1 0)
    let s := ((List.range 4095).filter (fun q => q != 0 && s.qpState q == qpLive && s.partner q == pcie)).foldl State.qpError s
    s.updBoot (fun b => { b with pcieUp := false })

/-- PERST_N_ASSERT (R420). -/
def execPerstNAssert (s : State) : Host.Outcome State Fault Refusal := fin s s.perstLow

/-- PERST_N_RELEASE (R420). -/
def execPerstNRelease (s : State) : Host.Outcome State Fault Refusal := fin s (s.updPwr (fun p => { p with perstN := true }))

/-- PCIE_LINK_UP (R420). -/
def execPcieLinkUp (s : State) : Host.Outcome State Fault Refusal :=
  fin s (if s.coreOn ∧ s.pwr.perstN then s.updBoot (fun b => { b with pcieUp := true }) else s)

/-- The straps are driven to new levels (R21): while PWR_OK is high the latched identity stands, and a difference sets STRAP_CHANGED. -/
def State.strapsAre (s : State) (tray sel : Nat) : State :=
  let was := s.top
  let s := s.updTop (fun t => { t with trayPins := tray % 16, selPins := sel % 4 })
  if s.pwr.pwrOk ∧ was.idValid ∧ (was.trayPins, was.selPins) ≠ (tray % 16, sel % 4) then s.flag R.TOP_POSITION.STRAP_CHANGED R.TOP_STRAP_CHG_CNT.COUNT else s

/-- STRAP_CHANGE (R21). -/
def execStrapChange (tray sel : Nat) (s : State) : Host.Outcome State Fault Refusal := fin s (s.strapsAre tray sel)

/-- The WARM reset of a RESET_WARM command begins 100 µs after its reply (R102); Watch logs a STEP entry with SOURCE 0x1FF and code 4 (R360). -/
def State.warmStarts (s : State) : State :=
  match s.pwr.warmAt with
  | none => s
  | some t =>
    if !s.due t ∨ !s.coreOn then s
    else
      let seq := s.rd R.WATCH_LOG_HEAD.NEXT_SEQ
      ((s.updPwr (fun p => { p with warmAt := none })).logStep noSource 0 4 none noUnit).startWarm .command seq

/-- WARM_RESET_START (R427). -/
def execWarmResetStart (s : State) : Host.Outcome State Fault Refusal := fin s s.warmStarts

/-- REVALIDATION (R431). -/
def execRevalidation (s : State) : Host.Outcome State Fault Refusal := fin s s.revalidation

/-- HBM_TRAINING_DONE (R424). -/
def execHbmTrainingDone (stack : Nat) (ok : Bool) (ppr : List Nat) (s : State) : Host.Outcome State Fault Refusal := fin s ((s.hbmTrained stack ok ppr).mboxPoll)

/-- ROOST_TRAINING_DONE (R192). -/
def execRoostTrainingDone (results : List ChTrain) (fig : TrainFigures) (s : State) : Host.Outcome State Fault Refusal := fin s (s.roostTrainedAll results fig)

/-- TILE_SELF_TEST_DONE (R425). -/
def execTileSelfTestDone (failed : List (Nat × Nat)) (s : State) : Host.Outcome State Fault Refusal := fin s (s.selfTested failed)

/-- TCI_READY (R423). -/
def execTciReady (s : State) : Host.Outcome State Fault Refusal := fin s s.tciReady

/-- A flit with a CRC error on a die-to-die link (R18): a first error asks for a replay; a replay that fails again is the next of at most 8. -/
def State.d2dCrc (s : State) (n : Nat) (onReplay : Bool) : State :=
  if 10 ≤ n ∨ !natBit (s.rd R.TOP_D2D_STATUS.LINK_UP) n ∨ !s.coreOn then s
  else
    match onReplay, Tab.get? s.top.runs n with
    | true, some r =>
      if 7 ≤ r.fails then s.d2dFail n
      else (s.updTop (fun t => { t with runs := Tab.put t.runs n { r with fails := r.fails + 1 } })).bump R.TOP_D2D_RETRY 1 n
    | _, _ => (s.updTop (fun t => { t with runs := Tab.put t.runs n { fails := 0, start := s.now } })).bump R.TOP_D2D_RETRY 1 n

/-- D2D_FLIT_CRC_ERROR (R18). -/
def execD2dFlitCrcError (link : Nat) (onReplay : Bool) (s : State) : Host.Outcome State Fault Refusal := fin s (s.d2dCrc link onReplay)

/-- A replay run has lasted 2 µs (R18). -/
def State.d2dLate (s : State) (n : Nat) : State :=
  match Tab.get? s.top.runs n with
  | some r => if s.due (r.start + 2000) ∧ s.coreOn then s.d2dFail n else s
  | none => s

/-- D2D_LINK_FAILED (R18). -/
def execD2dLinkFailed (link : Nat) (s : State) : Host.Outcome State Fault Refusal := fin s (s.d2dLate link)

end Sys2Proof.Machine
end

