-- ==== Sys2Proof/Machine/Bus.lean ====
section
/-! DEFINITION. The commands of the two-wire ports, the mailbox and the UARTs (17_management_buses.md). -/

namespace Sys2Proof.Machine

/-- What the target port shows of the package is brought up to date before a transfer. -/
def State.busView (s : State) : State := s.watchStatus.countReplies

/-- TGT_STATUS (R394, R400): STATUS, or a command code that is not assigned. -/
def execTgtStatus (code : Nat) (whole : Bool) (s : State) : Host.Outcome State Fault Refusal := fin s (s.busView.tgtStatus code whole)

/-- MBOX_STATUS (R396). -/
def execMboxStatus (s : State) : Host.Outcome State Fault Refusal :=
  let v := s.busView
  fin s (if v.tgtFree then v.emit (.bytes "TGT" [v.mboxByte]) else v)

/-- SET_MODE (R394, R404). -/
def execSetMode (data : Nat) (pec : Option Nat) (s : State) : Host.Outcome State Fault Refusal := fin s (s.busView.tgtSetMode data pec)

/-- MBOX_WRITE (R396 to R398, R401). -/
def execMboxWrite (count : Nat) (data : List Byte) (pec : Option Nat) (s : State) : Host.Outcome State Fault Refusal :=
  fin s (s.busView.mboxWrite State.wakeMgmt count data pec)

/-- MBOX_READ (R402): the staged reply, or no bytes. -/
def execMboxRead (s : State) : Host.Outcome State Fault Refusal :=
  let v := s.busView
  fin s (if v.tgtFree then v.emit (.bytes "TGT" (match v.bus.reply with | some l => l.map BitVec.toNat | none => [])) else v)

/-- MBOX_POP (R402). -/
def execMboxPop (pec : Option Nat) (s : State) : Host.Outcome State Fault Refusal := fin s (s.busView.mboxPop pec)

/-- ALERT_RESPONSE (R403): the target answers with its own address unless a lower one wins. -/
def execAlertResponse (won : Bool) (s : State) : Host.Outcome State Fault Refusal :=
  let v := s.busView
  fin s (if v.tgtFree ∧ v.rd R.MGMT_TGT_STATUS.ALERT = 1 ∧ won then (v.emit (.bytes "TGT" [v.tgtAddr])).alertClear else v)

/-- STRETCH_TIMEOUT (R398). -/
def execStretchTimeout (s : State) : Host.Outcome State Fault Refusal := fin s s.busView.stretchTimeout

/-- TARGET_BUS_TIMEOUT (R399). -/
def execTargetBusTimeout (s : State) : Host.Outcome State Fault Refusal := fin s s.busView.tgtTimeout

/-- MAILBOX_MOVE (R401). -/
def execMailboxMove (s : State) : Host.Outcome State Fault Refusal := fin s (if s.coreOn then s.mailboxMove State.wakeMgmt else s)

/-- MAILBOX_REPLY_STAGE (R402). -/
def execMailboxReplyStage (s : State) : Host.Outcome State Fault Refusal := fin s (if s.coreOn then s.mailboxReply else s)

/-- MGMT_TGT_CFG_WRITE (R404). -/
def execMgmtTgtCfgWrite (w : CsrWr) (s : State) : Host.Outcome State Fault Refusal := fin s (s.otherWrite R.MGMT_TGT_CFG.base w)

/-- CONTROLLER_ROUND (R406 to R410). -/
def execControllerRound (tries : List (Nat × CtlTry)) (meterMw : Nat) (s : State) : Host.Outcome State Fault Refusal := fin s (s.controllerRound tries meterMw)

/-- MGMT_CTL_CFG_WRITE (R405): MGMT_CTL_CFG, or MGMT_CTL_DEV_i. -/
def execMgmtCtlCfgWrite (dev : Option Nat) (w : CsrWr) (s : State) : Host.Outcome State Fault Refusal :=
  fin s (if (dev.getD 0) < 16 then s.ctlCfgWrite dev w else s)

/-- UART_RX_CHARACTER (R412). -/
def execUartRxCharacter (n : Nat) (smp : List Bool) (s : State) : Host.Outcome State Fault Refusal := fin s (s.uartRx n smp)

/-- UART_DATA_WRITE (R413). -/
def execUartDataWrite (n : Nat) (w : CsrWr) (s : State) : Host.Outcome State Fault Refusal := fin s (if n < 2 then s.uartDataStore n w else s)

/-- UART_DATA_READ (R15, R413). -/
def execUartDataRead (n : Nat) (m : Master) (size sub : Nat) (s : State) : Host.Outcome State Fault Refusal :=
  fin s (if n < 2 then s.csrLoad (R.MGMT_UART_DATA.addr n 0 0) m size sub else s)

/-- UART_TX_COMPLETE (R411). -/
def execUartTxComplete (n : Nat) (s : State) : Host.Outcome State Fault Refusal := fin s (if n < 2 ∧ s.uartOn n then s.uartSent n else s)

end Sys2Proof.Machine
end

