-- ==== Sys2Proof/Machine/Hbm.lean ====
section
/-! DEFINITION. The events of the HBM controllers and the Kite base dies (06_hbm_channels.md, 07_hbm_integrity.md). -/

namespace Sys2Proof.Machine

/-- The stack and pseudo-channel exist. -/
def pcOk (st p : Nat) : Bool := decide (st < 8) && decide (p < 64)

/-- HBM_REQUEST_INGRESS (R151). -/
def execHbmRequestIngress (r : LineReq) (s : State) : Host.Outcome State Fault Refusal := fin s (s.hbmIngress r)

/-- The oldest write of a queue has waited `age` ns: a drain starts (R152, R195). -/
def MQueue.ageDrain (q : MQueue) (age now : Nat) : MQueue :=
  match q.wq.head? with
  | none => q
  | some x => if !q.drain && decide (x.at_ + age ≤ now) then { q with drain := true, drained := 0, drains := q.drains + 1 } else q

/-- WRITE_DRAIN_AGE on a pseudo-channel. -/
def State.hbmAge (s : State) (st p : Nat) : State := s.hqStep st p (fun q => q.ageDrain 2000 s.now)

/-- WRITE_DRAIN_AGE (R152). -/
def execWriteDrainAge (st p : Nat) (s : State) : Host.Outcome State Fault Refusal := fin s (if pcOk st p then s.hbmAge st p else s)

/-- HBM_REQUEST_ISSUE (R157). -/
def execHbmRequestIssue (st p : Nat) (notReady : List Nat) (w : WireErr) (cells : CellErrs) (s : State) : Host.Outcome State Fault Refusal :=
  fin s (if pcOk st p then (s.decay cells).hbmIssue st p notReady w else s)

/-- The per-bank refresh interval of a band, in units of 0.5 ns (table "Controller timing figures"). -/
def refreshInterval (band : Nat) : Nat := if band = 0 then 12500 else if band = 1 then 6250 else 3125

/-- A refresh of a bank falls due once its interval has passed; the band of the moment sets the next one (R159, R174). -/
def State.hbmRefresh (s : State) (st p bank : Nat) : State :=
  let q := s.hq st p
  let step := refreshInterval (s.rd R.HBM_STK_TEMP.BAND st)
  let due := Tab.get q.dueAt bank (2 * Tab.get s.hbm.readyAt st 0 + step)
  if s.stkState st ≠ stkReady ∨ 2 * s.now < due then s
  else s.setHq st p ({ q with dueAt := Tab.put q.dueAt bank (2 * s.now + step) }.refreshDue bank 2)

/-- HBM_REFRESH_DUE (R159). -/
def execHbmRefreshDue (st p bank : Nat) (s : State) : Host.Outcome State Fault Refusal :=
  fin s (if pcOk st p && decide (bank < 16) then s.hbmRefresh st p bank else s)

/-- PARITY_RETRY (R167, R168). -/
def execParityRetry (st p req : Nat) (s : State) : Host.Outcome State Fault Refusal := fin s (if pcOk st p then s.hbmParity st p req else s)

/-- HBM_SPARE_CMD (R169). -/
def execHbmSpareCmd (st p : Nat) (w : CsrWr) (s : State) : Host.Outcome State Fault Refusal := fin s (if pcOk st p then s.spareCmdWrite st p w else s)

/-- SPARE_COPY_COMPLETE (R170). -/
def execSpareCopyComplete (st p e : Nat) (s : State) : Host.Outcome State Fault Refusal :=
  fin s (if pcOk st p && decide (e < 64) then s.spareCopied st p e else s)

/-- A scrubber that reads `lines` lines in PERIOD_H hours reads its next one `period · 3,600 s / lines` after the last. -/
def scrubDue (last : Option Nat) (period lines now : Nat) : Bool :=
  match last with
  | some t => decide (t + period * 3600000000000 / lines ≤ now)
  | none => true

/-- The patrol scrubber reads the line at a local address: a BULK read that takes its place in the read queue, behind an open ordered slot's flush, and meets R164 to R166 when it issues (R173). -/
def State.hbmScrub (s : State) (st p l : Nat) (w : WireErr) : State :=
  let per := s.rd R.HBM_STK_SCRUB.PERIOD_H st
  if per = 0 ∨ s.stkState st ≠ stkReady ∨ s.unitState (48 + st) = Unit.resetting ∨ !scrubDue (Tab.get? s.hbm.scrubAt (64 * st + p)) per 12582912 s.now then s
  else
    let a := hbmUnmap s.hbm.loc st p (l / 64 * 64)
    let s := s.updHbm (fun h => { h with scrubAt := Tab.put h.scrubAt (64 * st + p) s.now })
    let s := (s.decay [(a, w.errs)]).flushOrd (s.modeAt (1 + st) a).1 a false
    let (s, x) := s.hbmReq { m := ⟨0x9000, .f, false⟩, addr := a, op := .read, cls := .bulk, data := [], mask := 0, poison := false } 0 true
    if (s.hq st p).holds x then s else s.hbmEnter st p x

/-- HBM_PATROL_SCRUB (R173). -/
def execHbmPatrolScrub (st p l : Nat) (w : WireErr) (s : State) : Host.Outcome State Fault Refusal :=
  fin s (if pcOk st p && decide (l < 0x30000000) then s.hbmScrub st p l w else s)

/-- HBM_THERMAL_POLL (R174). -/
def execHbmThermalPoll (st : Nat) (t : TempReading) (s : State) : Host.Outcome State Fault Refusal := fin s (if st < 8 then s.hbmPoll st t else s)

/-- A 32 ms boundary of epoch time has passed: the disturbance counts clear (R179). -/
def State.rhClear (s : State) : State :=
  let w := s.epoch / 32000000
  if w ≤ s.hbm.rhWin then s else s.updHbm (fun h => { h with rhWin := w, pcs := h.pcs.map (fun e => (e.1, e.2.clearActs)) })

/-- RH_WINDOW_CLEAR (R179). -/
def execRhWindowClear (s : State) : Host.Outcome State Fault Refusal := fin s s.rhClear

/-- HBM_SELF_REFRESH_ENTRY (R160). -/
def execHbmSelfRefreshEntry (st : Nat) (s : State) : Host.Outcome State Fault Refusal := fin s (if st < 8 then s.hbmSelfRefresh st else s)

/-- HBM_SELF_REFRESH_EXIT (R160): not while the stack's STOP condition holds (R174). -/
def execHbmSelfRefreshExit (st : Nat) (s : State) : Host.Outcome State Fault Refusal :=
  fin s (if st < 8 ∧ s.rd R.HBM_STK_TEMP.OVERTEMP st = 0 ∧ s.coreOn then s.hbmWake st else s)

/-- An ordered contribution of a line at its stack's port (R182, R183); ORDERED is ignored on the integer adds. -/
def State.ordered (s : State) (m : Master) (addr op src : Nat) (data : List Byte) (poison : Bool) : State :=
  let a := addr / 64 * 64
  if 3 ≤ op then s.hbmIngress { m := m, addr := a, op := .add op, cls := .norm, data := data, mask := 0, poison := poison }
  else
    match s.decodeGate (portSrc m) m addr 64 with
    | some s' => s'
    | none =>
      if rangeOf a ≠ .hbm then (match s.addOutside m a 64 with | some s' => s'.errTo m | none => s)
      else
        let st := s.stackOf a
        if s.unitState (48 + st) ≠ Unit.normal ∨ s.linkCut (masterDie m) a then s.errTo m
        else if (s.stkState st ≠ stkReady ∧ s.stkState st ≠ stkSelfRefresh) ∨ (s.checker (1 + st)).reloading then s
        else
          match (if viaCache m then none else s.jessFails (1 + st) m .a a 64) with
          | some f => (s.jessRefuse (1 + st) m .a f).errTo m
          | none =>
            if 1 < (s.modeAt (1 + st) a).1 then (s.kiteRefuse a).errTo m
            else s.ordSubmit [{ m := m, addr := a, op := op, src := src % 64, data := data, poison := poison, reply := none, run := none }]

/-- ORDERED_CONTRIBUTION (R183). -/
def execOrderedContribution (m : Master) (addr op src : Nat) (data : List Byte) (poison : Bool) (s : State) : Host.Outcome State Fault Refusal :=
  fin s (if op < 5 then s.ordered m addr op src data poison else s)

/-- ORD_HOLD has passed since a slot's last contribution (R184). -/
def State.ordHold (s : State) (a : Nat) : State :=
  match Tab.get? s.hbm.ords a with
  | none => s
  | some o =>
    let st := s.stackOf a
    if o.last + 1000 * s.rd R.HBM_KITE_CFG.ORD_HOLD_US st ≤ s.epoch then s.flushOrd (s.modeAt (1 + st) a).1 a true else s

/-- ORD_HOLD_EXPIRY (R184). -/
def execOrdHoldExpiry (a : Nat) (s : State) : Host.Outcome State Fault Refusal := fin s (s.ordHold a)

/-- HBM_GLB_LOC_WRITE (R149). -/
def execHbmGlbLocWrite (hi : Bool) (w : CsrWr) (s : State) : Host.Outcome State Fault Refusal := fin s (s.locWrite hi w)

/-- LOC_PROPAGATION_DONE (R149). -/
def execLocPropagationDone (s : State) : Host.Outcome State Fault Refusal := fin s s.locDone

/-- HBM_PC_CFG_WRITE (R153). -/
def execHbmPcCfgWrite (st p : Nat) (w : CsrWr) (s : State) : Host.Outcome State Fault Refusal := fin s (if pcOk st p then s.pcCfgWrite st p w else s)

/-- HBM_STK_CFG_WRITE (R147). -/
def execHbmStkCfgWrite (st : Nat) (w : CsrWr) (s : State) : Host.Outcome State Fault Refusal := fin s (if st < 8 then s.stkCfgWrite st w else s)

/-- HBM_THERM_CFG_WRITE (R176). -/
def execHbmThermCfgWrite (st : Nat) (w : CsrWr) (s : State) : Host.Outcome State Fault Refusal := fin s (if st < 8 then s.thermCfgWrite st w else s)

end Sys2Proof.Machine
end

