-- ==== Sys2Proof/Machine/Kettle.lean ====
section
/-! DEFINITION. The commands of the fabric: flits, messages, the router's timers, link control, and what PCIe asks of the endpoint (11_kettle_fabric.md, 13_power_energy.md). -/

namespace Sys2Proof.Machine

/-- A message heard on a link of the package while its power state keeps the receiver running. -/
def State.hearMsg (s : State) (link : Nat) (m : KMsg) (f : State → State) : State :=
  if !s.coreOn ∨ 64 ≤ link then s else s.receive link m f

/-- A message that only the gateway link carries (R262); elsewhere it has no effect. -/
def State.onGateway (s : State) (link : Nat) (f : State → State) : State := if link = s.pkg then f s else s

/-- A message that only a peer package's link carries. -/
def State.fromPeer (s : State) (link : Nat) (f : State → State) : State := if link = s.pkg then s else f s

/-- A timer of a link or route `n`, while the router runs. -/
def State.ktlTimer (s : State) (n : Nat) (f : State → State) : State := if !s.coreOn ∨ 64 ≤ n then s else f s

/-! ### Flits and links -/

/-- FLIT_RECEIVE (R252, R253). -/
def execFlitReceive (link : Nat) (f : Flit) (s : State) : Host.Outcome State Fault Refusal := fin s (s.ktlTimer link (fun s => s.flitReceive link f))

/-- REPLAY_REQUEST_TIMER (R254). -/
def execReplayRequestTimer (link : Nat) (s : State) : Host.Outcome State Fault Refusal := fin s (s.ktlTimer link (fun s => s.replayAsk link))

/-- LINK_DOWN_TIMEOUT (R254). -/
def execLinkDownTimeout (link : Nat) (s : State) : Host.Outcome State Fault Refusal := fin s (s.ktlTimer link (fun s => s.downTimeout link))

/-- LOCK_LOSS (R254). -/
def execLockLoss (link : Nat) (s : State) : Host.Outcome State Fault Refusal := fin s (s.ktlTimer link (fun s => s.lockLost link))

/-- KEEPER_UP (R270, R271, R310): once Tirlo has started the keepers, in PERCH too. -/
def execKeeperUp (link : Nat) (s : State) : Host.Outcome State Fault Refusal :=
  fin s (if link < 64 ∧ s.boot.tirloRuns ∧ (s.coreOn ∨ s.pwr.pstate = .perch ∨ s.pwr.pstate = .waking) then s.keeperComes link else s)

/-- TRAINING_SLOT_START (R270, R271). -/
def execTrainingSlotStart (link : Nat) (s : State) : Host.Outcome State Fault Refusal :=
  fin s (s.ktlTimer link (fun s =>
    if s.rd R.KTL_GLB_STATUS.ALIGNED = 1 ∧ s.curSlot = s.rd R.KTL_LINK_STATUS.SLOT link then
      let s := if s.boot.slotsHad.contains link then s else s.updBoot (fun b => { b with slotsHad := b.slotsHad ++ [link] })
      s.trainingStart link
    else s))

/-- LINK_TRAINING_COMPLETE (R270, R23). -/
def execLinkTrainingComplete (link : Nat) (e : TrainEnd) (s : State) : Host.Outcome State Fault Refusal :=
  fin s (s.ktlTimer link (fun s => s.trainingEnd link e))

/-- KTL_LINK_DISABLE (R272): the write of KTL_LINK_CTRL that has ENABLE 0. -/
def execKtlLinkDisable (link : Nat) (w : CsrWr) (s : State) : Host.Outcome State Fault Refusal :=
  fin s (if link < 64 ∧ written w R.KTL_LINK_CTRL.ENABLE = 0 then s.linkCtrlWrite link w else s)

/-- KTL_LINK_ENABLE (R272): the write that has ENABLE 1 and RETRAIN 0. -/
def execKtlLinkEnable (link : Nat) (w : CsrWr) (s : State) : Host.Outcome State Fault Refusal :=
  fin s (if link < 64 ∧ written w R.KTL_LINK_CTRL.ENABLE = 1 ∧ written w R.KTL_LINK_CTRL.RETRAIN = 0 then s.linkCtrlWrite link w else s)

/-- KTL_LINK_RETRAIN (R272): the write that has ENABLE 1 and RETRAIN 1. -/
def execKtlLinkRetrain (link : Nat) (w : CsrWr) (s : State) : Host.Outcome State Fault Refusal :=
  fin s (if link < 64 ∧ written w R.KTL_LINK_CTRL.ENABLE = 1 ∧ written w R.KTL_LINK_CTRL.RETRAIN = 1 then s.linkCtrlWrite link w else s)

/-- LINK_WITHDRAW_EXPIRY (R272). -/
def execLinkWithdrawExpiry (link : Nat) (s : State) : Host.Outcome State Fault Refusal := fin s (s.ktlTimer link (fun s => s.withdrawRequest link))

/-! ### Requests (R260 to R262) -/

/-- RD (R260): a memory request that this package serves. -/
def execRd (link : Nat) (m : KMsg) (s : State) : Host.Outcome State Fault Refusal :=
  fin s (s.hearMsg link { m with kind := .rd } (fun s => s.serve link { m with kind := .rd }))

/-- WR (R260): a memory request that this package serves. -/
def execWr (link : Nat) (m : KMsg) (s : State) : Host.Outcome State Fault Refusal :=
  fin s (s.hearMsg link { m with kind := .wr } (fun s => s.serve link { m with kind := .wr }))

/-- WR_MASK (R260): a memory request that this package serves. -/
def execWrMask (link : Nat) (m : KMsg) (s : State) : Host.Outcome State Fault Refusal :=
  fin s (s.hearMsg link { m with kind := .wrMask } (fun s => s.serve link { m with kind := .wrMask }))

/-- ADD (R260): a memory request that this package serves. -/
def execAdd (link : Nat) (m : KMsg) (s : State) : Host.Outcome State Fault Refusal :=
  fin s (s.hearMsg link { m with kind := .add } (fun s => s.serve link { m with kind := .add }))

/-- CMD (R65, R467): entries for a queue pair. -/
def execCmd (link : Nat) (m : KMsg) (s : State) : Host.Outcome State Fault Refusal :=
  fin s (s.hearMsg link { m with kind := .cmd } (fun s => s.cmdMessage link m))

/-- FWD (R36, R95): a command that another package forwards. -/
def execFwd (link : Nat) (m : KMsg) (s : State) : Host.Outcome State Fault Refusal :=
  fin s (s.hearMsg link { m with kind := .fwd } (fun s => s.fwdMessage { m with kind := .fwd }))

/-- BUDDY_SEC (R54): one sector of a buddy copy. -/
def execBuddySec (link : Nat) (m : KMsg) (s : State) : Host.Outcome State Fault Refusal :=
  fin s (s.hearMsg link { m with kind := .buddySec } (fun s => s.buddySecMsg link { m with kind := .buddySec }))

/-- BUDDY_COMMIT (R54): a buddy copy is whole. -/
def execBuddyCommit (link : Nat) (m : KMsg) (s : State) : Host.Outcome State Fault Refusal :=
  fin s (s.hearMsg link { m with kind := .buddyCommit } (fun s => s.buddyCommitMsg link { m with kind := .buddyCommit }))

/-- BUDDY_DEL (R54): a buddy copy is deleted. -/
def execBuddyDel (link : Nat) (m : KMsg) (s : State) : Host.Outcome State Fault Refusal :=
  fin s (s.hearMsg link { m with kind := .buddyDel } (fun s => s.buddyDelMsg link { m with kind := .buddyDel }))

/-- CLAIM (R55): a session has been recovered elsewhere. -/
def execClaim (link : Nat) (m : KMsg) (s : State) : Host.Outcome State Fault Refusal :=
  fin s (s.hearMsg link { m with kind := .claim } (fun s => s.claimMsg link { m with kind := .claim }))

/-- EXP_HDR (R108): the header of an export, from the gateway. -/
def execExpHdr (link : Nat) (m : KMsg) (s : State) : Host.Outcome State Fault Refusal :=
  fin s (s.hearMsg link { m with kind := .expHdr } (fun s => if link = s.pkg then s.importHeader link { m with kind := .expHdr } else s.discard link { m with kind := .expHdr }))

/-- EXP_SEC (R108): one sector of an export, from the gateway. -/
def execExpSec (link : Nat) (m : KMsg) (s : State) : Host.Outcome State Fault Refusal :=
  fin s (s.hearMsg link { m with kind := .expSec } (fun s => if link = s.pkg then s.importSector link { m with kind := .expSec } else s.discard link { m with kind := .expSec }))

/-- IMP_REQ (R262): only the gateway answers it, so here it is discarded under R259. -/
def execImpReq (link : Nat) (m : KMsg) (s : State) : Host.Outcome State Fault Refusal :=
  fin s (s.hearMsg link { m with kind := .impReq } (fun s => s.discard link { m with kind := .impReq }))

/-! ### Responses (R256) -/

/-- RD_DATA (R256, R260): ends the RD that its TAG names. -/
def execRdData (link : Nat) (m : KMsg) (s : State) : Host.Outcome State Fault Refusal :=
  fin s (s.hearMsg link { m with kind := .rdData } (fun s => s.response link { m with kind := .rdData }))

/-- ACK (R256, R260): ends the request that its TAG names. -/
def execAck (link : Nat) (m : KMsg) (s : State) : Host.Outcome State Fault Refusal :=
  fin s (s.hearMsg link { m with kind := .ack } (fun s => s.response link { m with kind := .ack }))

/-- REPLY (R467): this package sends no CMD, so no request of its own is answered. -/
def execReplyMsg (link : Nat) (m : KMsg) (s : State) : Host.Outcome State Fault Refusal :=
  fin s (s.hearMsg link { m with kind := .reply } (fun s => s))

/-- FWD_REPLY (R36): the reply of a forwarded command. -/
def execFwdReply (link : Nat) (m : KMsg) (s : State) : Host.Outcome State Fault Refusal :=
  fin s (s.hearMsg link { m with kind := .fwdReply } (fun s => s.response link { m with kind := .fwdReply }))

/-- RELAY_MESSAGE (R265): a message that carries VIA. -/
def execRelayMessage (link : Nat) (m : KMsg) (s : State) : Host.Outcome State Fault Refusal :=
  fin s (s.hearMsg link { m with via := true } (fun s => s))

/-! ### Management messages -/

/-- PRESENCE (R274, R275): the peer's state. -/
def execPresence (link : Nat) (m : KMsg) (s : State) : Host.Outcome State Fault Refusal :=
  fin s (s.hearMsg link { m with kind := .presence } (fun s => s.fromPeer link (fun s => s.presenceFrom link m)))

/-- LINKSTATE (R263): the peer's link-up vector. -/
def execLinkstate (link : Nat) (m : KMsg) (s : State) : Host.Outcome State Fault Refusal :=
  fin s (s.hearMsg link { m with kind := .linkstate } (fun s => s.fromPeer link (fun s => s.linkstateFrom link m)))

/-- PROBE (R264): answered on the link that it came on. -/
def execProbe (link : Nat) (m : KMsg) (s : State) : Host.Outcome State Fault Refusal :=
  fin s (s.hearMsg link { m with kind := .probe } (fun s => s.fromPeer link (fun s => s.probeFrom link m)))

/-- PROBE_ACK (R264): the target has been reached through the link. -/
def execProbeAck (link : Nat) (m : KMsg) (s : State) : Host.Outcome State Fault Refusal :=
  fin s (s.hearMsg link { m with kind := .probeAck } (fun s => s.fromPeer link (fun s => s.probeAckFrom link m.origin)))

/-- ROUTE_FENCE (R267): answered over the old route. -/
def execRouteFence (link : Nat) (m : KMsg) (s : State) : Host.Outcome State Fault Refusal :=
  fin s (s.hearMsg link { m with kind := .routeFence } (fun s => s.fromPeer link (fun s => s.fenceFrom link m)))

/-- FENCE_ACK (R267): the route is switched. -/
def execFenceAck (link : Nat) (m : KMsg) (s : State) : Host.Outcome State Fault Refusal :=
  fin s (s.hearMsg link { m with kind := .fenceAck } (fun s => s.fromPeer link (fun s => s.fenceAckFrom link m.origin)))

/-- LEAVE (R276): the peer leaves. -/
def execLeave (link : Nat) (m : KMsg) (s : State) : Host.Outcome State Fault Refusal :=
  fin s (s.hearMsg link { m with kind := .leave } (fun s => s.fromPeer link (fun s => s.leaveFrom link)))

/-- JOIN (R276): the peer is back. -/
def execJoin (link : Nat) (m : KMsg) (s : State) : Host.Outcome State Fault Refusal :=
  fin s (s.hearMsg link { m with kind := .join } (fun s => s.fromPeer link (fun s => s.wr R.KTL_LINK_STATUS.LEAVING 0 link)))

/-- DOWN_REQ (R272): the peer withdraws the link. -/
def execDownReq (link : Nat) (m : KMsg) (s : State) : Host.Outcome State Fault Refusal :=
  fin s (s.hearMsg link { m with kind := .downReq } (fun s => s.downReqFrom link))

/-- DOWN_ACK (R272): the peer lets the link be taken down. -/
def execDownAck (link : Nat) (m : KMsg) (s : State) : Host.Outcome State Fault Refusal :=
  fin s (s.hearMsg link { m with kind := .downAck } (fun s => s.downAckFrom link))

/-- SLOT_SYNC (R269): slot 0 begins. -/
def execSlotSync (link : Nat) (m : KMsg) (s : State) : Host.Outcome State Fault Refusal :=
  fin s (s.hearMsg link { m with kind := .slotSync } (fun s => s.onGateway link (fun s => s.slotSyncFrom)))

/-- TOD (R339): EDGE_NS, UNC_NS, SEQ and FLAGS of the latest pulse. -/
def execTod (link : Nat) (m : KMsg) (s : State) : Host.Outcome State Fault Refusal :=
  fin s (s.hearMsg link { m with kind := .tod } (fun s => s.onGateway link (fun s => s.todMessage (lget m.w 0 0) (lget m.w 1 0) (lget m.w 3 0))))

/-- WAKE (R306): the Perch domain hears it, so it counts in PERCH too. -/
def execWake (link : Nat) (m : KMsg) (s : State) : Host.Outcome State Fault Refusal :=
  fin s (if 64 ≤ link ∨ !s.linkMgmt link ∨ s.msgBad link { m with kind := .wake } ∨ m.via then s.hearMsg link { m with kind := .wake } (fun s => s) else s.wakeKettle link)

/-- READY (R81): the partner is READY. -/
def execReady (link : Nat) (m : KMsg) (s : State) : Host.Outcome State Fault Refusal :=
  fin s (s.hearMsg link { m with kind := .ready } (fun s => s.readyFrom link))

/-! ### The router's timers -/

/-- RESPONSE_TIMEOUT (R261). -/
def execResponseTimeout (tag : Nat) (s : State) : Host.Outcome State Fault Refusal := fin s (if s.coreOn then s.respTimeout tag else s)

/-- LINKSTATE_TIMER (R263). -/
def execLinkstateTimer (s : State) : Host.Outcome State Fault Refusal := fin s (if s.coreOn then s.sendLinkstate else s)

/-- PROBE_ROUND_TIMEOUT (R264). -/
def execProbeRoundTimeout (t : Nat) (s : State) : Host.Outcome State Fault Refusal := fin s (s.ktlTimer t (fun s => s.probeTimeout t))

/-- STRANDED_HOLD_EXPIRY (R266). -/
def execStrandedHoldExpiry (t : Nat) (s : State) : Host.Outcome State Fault Refusal := fin s (s.ktlTimer t (fun s => s.strandExpiry t))

/-- REPROBE_TIMER (R266). -/
def execReprobeTimer (t : Nat) (s : State) : Host.Outcome State Fault Refusal :=
  fin s (s.ktlTimer t (fun s => if s.rkind t = rtNone ∧ t ≠ s.pkg then s.search t else s))

/-- ROUTE_FENCE_TIMEOUT (R267). -/
def execRouteFenceTimeout (t : Nat) (s : State) : Host.Outcome State Fault Refusal := fin s (s.ktlTimer t (fun s => s.fenceTimeout t))

/-- SLOT_SYNC_TIMEOUT (R269). -/
def execSlotSyncTimeout (s : State) : Host.Outcome State Fault Refusal :=
  fin s (if s.coreOn ∧ s.syncStale ∧ (s.rd R.KTL_GLB_STATUS.ALIGNED = 0 ∨ s.rd R.KTL_GLB_STATUS.ALIGN_SRC = 1) then s.alignByPeers else s)

/-- PRESENCE_TIMER (R275). -/
def execPresenceTimer (s : State) : Host.Outcome State Fault Refusal := fin s (if s.coreOn then s.sendPresence s.presenceState else s)

/-- PERCH_HOLD_EXPIRY (R274). -/
def execPerchHoldExpiry (t : Nat) (s : State) : Host.Outcome State Fault Refusal := fin s (s.ktlTimer t (fun s => s.perchHoldEnd t))

/-- WAKE_RESEND_TIMER (R274). -/
def execWakeResendTimer (t : Nat) (s : State) : Host.Outcome State Fault Refusal :=
  fin s (s.ktlTimer t (fun s => if s.perched t ∧ (s.route t).perchDone then s.mgmt t .wake [] else s))

/-! ### PCIe (R305, R306) -/

/-- The package in PERCH, entering it, or waking with its PLLs not yet locked. -/
def State.perchQuiet (s : State) : Bool :=
  match s.pwr.pstate with
  | .entering | .perch => true
  | .waking => !s.coreOn
  | _ => false

/-- PCIE_CONFIG_REQUEST: answered once Tirlo has released the configuration space and the link is up, else with Request Retry Status. -/
def execPcieConfigRequest (fn off : Nat) (s : State) : Host.Outcome State Fault Refusal :=
  fin s (if s.pwr.pstate = .noPwr ∨ s.pwr.pstate = .off ∨ s.pwr.pstate = .hooded then s
    else if s.perchQuiet ∨ !s.boot.cfgReleased ∨ !s.boot.pcieUp then s.emit (.bytes "PCIE_RRS" [fn, off])
    else s.emit (.bytes "PCIE_CONFIG" [fn, off, Config.pcieConfig fn off % 2 ^ 32]))

/-- PCIE_BAR0_READ: the TCI block and its doorbells; all ones, and a wake, in PERCH. -/
def execPcieBar0Read (off size : Nat) (s : State) : Host.Outcome State Fault Refusal :=
  let m : Master := ⟨0x5000, .s, false⟩
  fin s (if !s.boot.cfgReleased ∨ !s.boot.pcieUp then s
    else if s.pwr.pstate = .entering ∨ s.pwr.pstate = .perch then (s.emit (.done m (List.replicate size 255))).wakeBy R.PWR_WAKE_CAUSE.PCIE
    else if off < 0x1000 then s.csrLoad (0x1000000 + off / 8 * 8) m size (off % 8)
    else if 0x10000 ≤ off ∧ off < 0x20000 then s.csrLoad (0x1100000 + (off - 0x10000) / 8 * 8) m size (off % 8)
    else s.errTo m)

/-- PCIE_L1_EXIT. -/
def execPcieL1Exit (s : State) : Host.Outcome State Fault Refusal := fin s (s.wakeBy R.PWR_WAKE_CAUSE.PCIE)

end Sys2Proof.Machine
end

