-- ==== Sys2Proof/Machine/SessCmd.lean ====
section
/-! DEFINITION. The session group of commands (R110) and the events of the Roost engine (02_sessions.md, 08_roost_tier.md). -/

namespace Sys2Proof.Machine

/-! ### Opening -/

/-- What a command meets that needs a slot and a generation: the status and code that refuse it. The spec gives no order among them: the slot is tested first (log 134). -/
def State.noSlot (s : State) : Option (Nat × Nat) :=
  if s.freeSlot.isNone then some (Stat.busy, 10)
  else if 2 ^ 42 ≤ s.ses.gen then some (Stat.exhausted, noRetry)
  else none

/-- What SESSION_OPEN and SESSION_IMPORT meet: a package that drains refuses them (R113), and the spec gives no order among that, a free slot and a generation: the drain is tested first (log 134). -/
def State.slotRefused (s : State) : Option (Nat × Nat) := if s.ses.draining then some (Stat.busy, 20) else s.noSlot

/-- A new session in the lowest free slot, with the next generation. -/
def State.addSession (s : State) (f : Nat → Session) : State × Nat × Nat :=
  let slot := s.freeSlot.getD 0
  let h := s.handleOf slot s.ses.gen
  ((s.updSes (fun t => { t with gen := t.gen + 1 })).setSes slot (f h), slot, h)

/-- park_after as SESSION_OPEN gives it: 0 means 2,000 ms. -/
def parkAfterOf (v : Nat) : Nat := if v = 0 then 2000 else v
def parkAfterOk (v : Nat) : Bool := decide (10 ≤ v) && decide (v ≤ 3600000)

/-- SESSION_OPEN (R33). -/
def execSessionOpen (c : Cmd) (s : State) : Host.Outcome State Fault Refusal :=
  fin s (s.plain 0x0100 c (fun s i =>
    let groups := i.c.p 0 % 2048
    let after := parkAfterOf (i.c.p 0 / 2 ^ 32)
    let buddy := i.c.p 1 % 128
    if groups = 0 ∨ 1024 < groups ∨ !parkAfterOk after ∨ !s.buddyOk buddy then s.endRun i.seq Stat.badParam
    else
      match s.slotRefused with
      | some (st, rt) => s.endRetry i.seq st rt
      | none =>
        let (s, _, h) := s.addSession (fun h => newSession h groups (s.cmdDomain i.c) after buddy)
        s.endRun i.seq Stat.ok h))

/-! ### Work for a session -/

/-- The run of a SESSION_APPEND over the session's next positions. -/
def appendRun (i : ICmd) (slot len : Nat) : TileRun :=
  let n := i.c.p 0 % 2 ^ 25
  let cap := i.c.p 4 % 2 ^ 25
  { seq := i.seq, plan := i.c.p 2 % 65536, entry := i.c.p 2 / 65536 % 65536, args := [i.c.p 1, 4 * n, i.c.p 3, 4 * cap, len, n], positions := n, slot := some slot, len := len,
    lo := 0, hi := n + cap, crit := i.crit, at_ := i.at_, wrote := 0, stop := none }

/-- The entry of a plan that a command names, where the plan is loaded and has it. -/
def State.loadedEntry (s : State) (plan entry : Nat) : Option PlanEntry := match s.planOf? plan with | some p => p.entries[entry]? | none => none

/-- The argument kinds that an append supplies (R139): its two buffers, and scalars. -/
def appendKinds : List Nat := [1, 0, 2, 0, 0, 0]

/-- A command's run joins those that are ready, or that wait for their session's unpark. -/
def State.queueRun (s : State) (r : TileRun) : State :=
  ({ s with talon := { s.talon with ready := s.talon.ready ++ [r] } }).waitOn r.seq .run

/-- A free HBM or Roost frame is at hand for a new chunk: a tenth of both kinds at least (R56). -/
def State.shardHome (s : State) : Bool := decide (s.ses.kvCount + roostCapacity ≤ 10 * (s.kvFree + s.freeFrames))

/-- The free frames of a package: this one's own, or those of another that a route reaches. -/
def State.framesOf (s : State) (p : Nat) : Nat :=
  if p = s.pkg then s.kvFree + s.freeFrames else if s.routeUsable p then Config.peerFrames s.free p else 0

/-- The package with the most free frames; among equals the lowest, this package first. -/
def State.mostFree (s : State) : Nat := (List.range 64).foldl (fun b p => if s.framesOf b < s.framesOf p then p else b) s.pkg

/-- New chunks of a session go to this package, or to the one with the most free frames; none where that one has no free slot for a new shard (R56, R57). -/
def State.assignChunks (s : State) (x : Session) : List Nat → Option (State × Session)
  | [] => some (s, x)
  | c :: r =>
    if (Tab.get? x.shards c).isSome ∨ s.shardHome then s.assignChunks x r
    else
      let p := s.mostFree
      let room := x.shardPkgs.contains p || Config.peerSlot s.free p
      let s := s.draw
      if p = s.pkg then s.assignChunks x r
      else if room then s.assignChunks { x with shards := Tab.put x.shards c p } r
      else none

/-- The chunks of a session that begin before `len` are assigned; none where a package has no slot for its shard. -/
def State.placeChunks (s : State) (slot : Nat) (l : List Nat) : Option State :=
  match s.sesAt slot with
  | none => some s
  | some x => (s.assignChunks x l).map (fun e => e.1.setSes slot e.2)

/-- A run for a session: what the session's state and the buffers allow, and whether its new chunks find their place. A command that is refused has had no effect (R93, R98). -/
def State.runFor (s : State) (i : ICmd) (slot op : Nat) (bufsOk : Bool) (new : List Nat) (r : TileRun) : State :=
  match s.activate slot op i.crit with
  | (t, .fail st rt) => t.endRetry i.seq st rt
  | (t, _) =>
    if !bufsOk then s.endRun i.seq Stat.denied
    else
      match t.placeChunks slot new with
      | none => s.endRetry i.seq Stat.busy 10
      | some t => t.queueRun r

/-- The chunks that begin between two lengths. -/
def newChunks (a b : Nat) : List Nat := (List.range (chunks b)).filter (fun c => decide (chunks a ≤ c))

/-- SESSION_APPEND (R39, R41, R56, R57, R139). -/
def execSessionAppend (c : Cmd) (s : State) : Host.Outcome State Fault Refusal :=
  fin s (s.onSession 0x0101 c (fun s i slot x =>
    let r := appendRun i slot x.length
    let n := i.c.p 0 % 2 ^ 25
    let cap := i.c.p 4 % 2 ^ 25
    let entryOk := match s.loadedEntry r.plan r.entry with | some e => e.session && e.kinds == appendKinds | none => false
    if n = 0 ∨ 2 ^ 24 < n ∨ 2 ^ 24 < cap ∨ 2 ^ 24 < x.length + n + cap ∨ !entryOk then s.endRun i.seq Stat.badParam
    else s.runFor i slot 0x0101 (s.bufsOk i.c [(.r, i.c.p 1, 4 * n), (.w, i.c.p 3, 4 * cap)]) (newChunks x.length (x.length + n + cap)) r))

/-- SESSION_RESUME (R39). -/
def execSessionResume (c : Cmd) (s : State) : Host.Outcome State Fault Refusal :=
  fin s (s.onSession 0x0102 c (fun s i slot _ =>
    match s.activate slot 0x0102 i.crit with
    | (s, .fail st rt) => s.endRetry i.seq st rt
    | (s, .now) => s.endRun i.seq Stat.ok (s.wordOf slot)
    | (s, .later) => s.waitOn i.seq .unpark slot))

/-- SESSION_PARK (R39). -/
def execSessionPark (c : Cmd) (s : State) : Host.Outcome State Fault Refusal :=
  fin s (s.onSession 0x0103 c (fun s i slot x =>
    if x.gone then s.endRun i.seq Stat.badSession
    else
      match x.st with
      | .new | .active | .exported => s.endRetry i.seq Stat.notReady 10
      | .parked => if x.runnable || x.unparking then s.endRetry i.seq Stat.notReady 10 else s.endRun i.seq Stat.ok x.word
      | .waiting =>
        if x.parking then s.waitOn i.seq .park slot
        else
          match s.startPark slot false with
          | (s, true) => s.waitOn i.seq .park slot
          | (s, false) => s.endRetry i.seq Stat.busy s.xferCode))

/-! ### Settings -/

/-- A session's buddy package changes (R110). -/
def State.changeBuddy (s : State) (slot buddy : Nat) : State :=
  match s.sesAt slot with
  | none => s
  | some x =>
    if x.buddyPkg = buddy then s
    else
      let s := (s.sendBuddyDel x).dropXfer .buddySend slot
      let y := { x with buddyPkg := buddy, buddy := .none_, buddyDue := false, pages := x.pages.map (fun e => (e.1, { e.2 with buddy := false })) }
      let s := s.setSes slot y
      if x.st = .parked ∧ buddy < 64 then (s.setSes slot { y with buddy := .pending }).buddyStart slot else s

/-- SESSION_SET (R42, R54). -/
def execSessionSet (c : Cmd) (s : State) : Host.Outcome State Fault Refusal :=
  fin s (s.onSession 0x0104 c (fun s i slot x =>
    let setAfter := natBit (i.c.p 0) 0
    let setBuddy := natBit (i.c.p 0) 1
    let after := i.c.p 1 % 2 ^ 32
    let buddy := i.c.p 2 % 128
    if (setAfter && !parkAfterOk after) || (setBuddy && !s.buddyOk buddy) then s.endRun i.seq Stat.badParam
    else if x.gone then s.endRun i.seq Stat.badSession
    else
      let s := if setAfter then s.setSes slot { x with parkAfter := after } else s
      let s := if setBuddy then s.changeBuddy slot buddy else s
      s.endRun i.seq Stat.ok))

/-- SESSION_QUERY (R110): under an export too (R50), not while the session is being closed (R51). -/
def execSessionQuery (c : Cmd) (s : State) : Host.Outcome State Fault Refusal :=
  fin s (s.onSession 0x0105 c (fun s i _ x =>
    if x.closing then s.endRun i.seq Stat.badSession
    else s.endRun i.seq Stat.ok x.word (x.parkAfter + min (x.idleNs s.epoch / 1000000) 0xFFFFFFFF * 2 ^ 32)))

/-! ### Export and import -/

/-- R50: what of a session's work has not been dispatched ends; a queued or running unpark stops. -/
def State.beginExport (s : State) (slot : Nat) : State :=
  match s.sesAt slot with
  | none => s
  | some x =>
    let s := s.setSes slot { x with under := true, runnable := false, framesAt := none, crit := false }
    let s := s.dropReady (fun r => r.slot == some slot) Stat.badSession
    let s := s.endAll (fun r => r.wait == .unpark && r.arg == slot) Stat.badSession
    (s.stopUnpark slot).dropBuddySend slot

/-- SESSION_EXPORT (R50). -/
def execSessionExport (c : Cmd) (s : State) : Host.Outcome State Fault Refusal :=
  fin s (s.onSession 0x0106 c (fun s i slot x =>
    if x.st = .exported ∧ x.closing = false then s.endRetry i.seq Stat.notReady 10
    else if x.gone then s.endRun i.seq Stat.badSession
    else (s.beginExport slot).waitOn i.seq .export_ slot (i.c.p 0 % 2 ^ 32)))

/-- The class that a transfer's command gives it (R206). -/
def importClass : Nat := 5

/-- SESSION_IMPORT (R108). -/
def execSessionImport (c : Cmd) (s : State) : Host.Outcome State Fault Refusal :=
  fin s (s.plain 0x0107 c (fun s i =>
    let stream := i.c.p 0 % 2 ^ 32
    let buddy := i.c.p 1 % 128
    if !s.buddyOk buddy then s.endRun i.seq Stat.badParam
    else if s.ses.imports.any (fun j => j.stream == stream) then s.endRetry i.seq Stat.busy s.xferCode
    else
      match s.slotRefused with
      | some (st, rt) => s.endRetry i.seq st rt
      | none =>
        match s.enqueue .import_ stream importClass [] 0 with
        | (s, false) => s.endRetry i.seq Stat.busy s.xferCode
        | (s, true) =>
          let x : ImportSt := {
            stream := stream, seq := i.seq, domain := s.cmdDomain i.c, buddyPkg := buddy, header := false, groups := 0, length := 0, pt := 0, sectors := 0, got := 0, frames := [] }
          (s.updSes (fun t => { t with imports := t.imports ++ [x] })).waitOn i.seq .import_ stream))

/-- Every link and relay to a package has been down for 1 s (R55, R268). -/
def State.lostFor1s (s : State) (t : Nat) : Bool := match (s.route t).noneAt with | some n => s.due (n + 1000000000) | none => false

/-- A sector of a frame cannot be unsealed. -/
def State.frameLost (s : State) (f : Nat) : Bool := (List.range 16).any (fun k => (s.secRec (16 * f + k)).failed)

/-- The session that a held buddy copy makes (R55). -/
def State.recoverCopy (s : State) (b : BuddyEnt) : State × Nat :=
  let groups := max 1 (leNat (slice b.record 20 2))
  let len := leNat (slice b.record 24 4)
  let keys := pageKeys groups len
  let pages := (keys.zip b.frames).map (fun e => (e.1, { tier := 2, clean := false, buddy := false, hbm := 0, roost := e.2 : PageEnt }))
  let s := s.dropBuddy b
  let (s, slot, h) := s.addSession (fun h => { newSession h groups (leNat (slice b.record 22 2) % 4096) 2000 0x7F with st := .parked, length := len, pages := pages })
  ((s.firstRecord slot (b.frames.drop keys.length)).updSes (fun t => { t with claims := t.claims ++ [(b.handle, h)] }), h)

/-- SESSION_RECOVER (R55, R104), on the package that admitted it. -/
def execSessionRecover (c : Cmd) (s : State) : Host.Outcome State Fault Refusal :=
  fin s (s.command 0x0108 c (fun s i =>
    match s.ses.buddies.find? (fun e => e.handle == i.c.handle) with
    | none => s.endRun i.seq Stat.badSession
    | some b =>
      if i.c.qp ≠ 0 ∧ s.cmdDomain i.c ≠ leNat (slice b.record 22 2) then s.endRun i.seq Stat.denied
      else if s.badParams i.c then s.endRun i.seq Stat.badParam
      else if !natBit (i.c.p 0) 0 && !s.lostFor1s (hHome i.c.handle) then s.endRetry i.seq Stat.notReady 20
      else
        match s.noSlot with
        | some (st, rt) => s.endRetry i.seq st rt
        | none =>
          if s.roostDead || b.frames.any s.frameLost then s.endRun i.seq Stat.dataLost
          else
            match s.recoverCopy b with
            | (s, h) => s.endRun i.seq Stat.ok h))

/-- SESSION_CLOSE (R51). -/
def execSessionClose (c : Cmd) (s : State) : Host.Outcome State Fault Refusal :=
  fin s (s.onSession 0x0109 c (fun s i slot x =>
    if x.closing then s.endRun i.seq Stat.badSession
    else (s.beginClose slot).waitOn i.seq .close slot))

/-! ### The Roost engine's events -/

/-- PARK_EVALUATION (R44). -/
def execParkEvaluation (s : State) : Host.Outcome State Fault Refusal := fin s (if s.coreOn then s.parkEvaluation else s)

/-- TRANSFER_START (R206). -/
def execTransferStart (s : State) : Host.Outcome State Fault Refusal := fin s s.transferStart

/-- ROOST_PAGE_TRANSFER (R206). -/
def execRoostPageTransfer (s : State) : Host.Outcome State Fault Refusal := fin s s.pageTransfer

/-- PARK_COMMIT_WRITE (R46). -/
def execParkCommitWrite (slot : Nat) (s : State) : Host.Outcome State Fault Refusal := fin s (s.commitWrite slot)

/-- PARK_COMMIT_ACK (R39, R58). -/
def execParkCommitAck (slot : Nat) (freed : Bool) (shards : List (Nat × Bool)) (s : State) : Host.Outcome State Fault Refusal := fin s (s.commitAck slot freed shards)

/-- UNPARK_COMPLETE (R39, R58). -/
def execUnparkComplete (slot : Nat) (shards : List (Nat × Bool)) (s : State) : Host.Outcome State Fault Refusal := fin s (s.unparkComplete slot shards)

/-- UNPARK_DEFER_TIMEOUT (R52). -/
def execUnparkDeferTimeout (slot : Nat) (s : State) : Host.Outcome State Fault Refusal := fin s (s.unparkDefer slot)

/-- UNPARK_FRAME_TIMEOUT (R53). -/
def execUnparkFrameTimeout (slot : Nat) (s : State) : Host.Outcome State Fault Refusal := fin s (s.unparkFrames slot)

/-- BUDDY_RETRY_TIMER (R54). -/
def execBuddyRetryTimer (slot : Nat) (s : State) : Host.Outcome State Fault Refusal := fin s (s.buddyRetry slot)

end Sys2Proof.Machine
end

