-- ==== Sys2Proof/Machine/MemCmd.lean ====
section
/-! DEFINITION. The memory and compute groups of commands (R111, R112) and the events of the Talon tiles (05_talon_tiles.md). -/

namespace Sys2Proof.Machine

/-! ### Memory -/

/-- The end of a buffer on its package or in PCIe space. -/
def bufsOverlap (a b n : Nat) : Bool := bufHost a == bufHost b && rangesMeet (a % 2 ^ 63) n (b % 2 ^ 63) n

/-- MEM_COPY (R111). -/
def execMemCopy (c : Cmd) (ext : ExtRead) (s : State) : Host.Outcome State Fault Refusal :=
  fin s (s.plain 0x0200 c (fun s i =>
    let n := i.c.p 2
    if badLen n ∨ bufsOverlap (i.c.p 0) (i.c.p 1) n ∨ 2 ≤ i.c.p 3 then s.endRun i.seq Stat.badParam
    else if !s.bufsOk i.c [(.r, i.c.p 0, n), (.w, i.c.p 1, n)] then s.endRun i.seq Stat.denied
    else s.startMove i ext (i.c.p 0) n))

/-- MEM_FILL (R111). -/
def execMemFill (c : Cmd) (s : State) : Host.Outcome State Fault Refusal :=
  fin s (s.plain 0x0201 c (fun s i =>
    let n := i.c.p 1
    if badLen n then s.endRun i.seq Stat.badParam
    else if !s.bufsOk i.c [(.w, i.c.p 0, n)] then s.endRun i.seq Stat.denied
    else s.fillMove i))

/-- ROOST_STATUS (R111). -/
def execRoostStatus (c : Cmd) (s : State) : Host.Outcome State Fault Refusal :=
  fin s (s.plain 0x0202 c (fun s i =>
    let parked := (s.ses.table.filter (fun e => e.2.st == .parked)).length
    s.endRun i.seq Stat.ok (s.freeFrames + s.cleanFrames * 2 ^ 32) (parked + s.roost.xfers.length * 2 ^ 32)))

/-- ROOST_RECLAIM (R111, R208). -/
def execRoostReclaim (c : Cmd) (s : State) : Host.Outcome State Fault Refusal :=
  fin s (s.plain 0x0203 c (fun s i =>
    let pct := i.c.p 0 % 128
    if pct < 25 ∨ 100 < pct then s.endRun i.seq Stat.badParam
    else
      let t := s.reclaim (cdiv (roostCapacity * pct) 100)
      t.endRun i.seq Stat.ok (t.freeFrames - s.freeFrames)))

/-! ### Plans and weights -/

/-- PLAN_LOAD (R134, R135). -/
def execPlanLoad (c : Cmd) (ext : ExtRead) (s : State) : Host.Outcome State Fault Refusal :=
  fin s (s.plain 0x0300 c (fun s i =>
    let n := i.c.p 1
    if badLen n ∨ n < 4096 then s.endRun i.seq Stat.badParam
    else if !s.bufsOk i.c [(.r, i.c.p 0, n)] then s.endRun i.seq Stat.denied
    else s.startMove i ext (i.c.p 0) n))

/-- PLAN_UNLOAD (R112): the placement is released when the last dispatched run has ended. -/
def execPlanUnload (c : Cmd) (s : State) : Host.Outcome State Fault Refusal :=
  fin s (s.plain 0x0301 c (fun s i =>
    let id := i.c.p 0 % 65536
    match s.planOf? id with
    | none => s.endRun i.seq Stat.badParam
    | some p => ({ s with talon := { s.talon with plans := Tab.put s.talon.plans id { p with unloading := true } } }).waitOn i.seq .plan id))

/-- WEIGHTS_LOAD (R136). -/
def execWeightsLoad (c : Cmd) (ext : ExtRead) (s : State) : Host.Outcome State Fault Refusal :=
  fin s (s.plain 0x0302 c (fun s i =>
    let n := i.c.p 2
    match s.planOf? (i.c.p 0 % 65536) with
    | none => s.endRun i.seq Stat.badParam
    | some p =>
      if badLen n ∨ i.c.p 3 % 64 ≠ 0 ∨ p.tiles.length * p.weight < i.c.p 3 + n then s.endRun i.seq Stat.badParam
      else if !s.bufsOk i.c [(.r, i.c.p 1, n)] then s.endRun i.seq Stat.denied
      else s.startMove i ext (i.c.p 1) n))

/-! ### KERNEL_RUN -/

/-- The arguments of a KERNEL_RUN's extended block. -/
def kernelArgs (c : Cmd) : List Nat := (List.range (leNat (slice c.block 4 4))).map (fun k => leNat (slice c.block (8 + 8 * k) 8))

/-- The block is formed as its table says. -/
def kernelBlockOk (c : Cmd) : Bool :=
  let n := leNat (slice c.block 4 4)
  decide (n ≤ 511) && decide (n * 8 + 8 ≤ leNat (slice c.block 0 4))

/-- A buffer argument and the length that follows it (R138). -/
def argBufs : List Nat → List Nat → List (Nat × Nat × Option Nat)
  | k :: ks, a :: as => (if k = 0 then [] else [(k, a, match ks, as with | 0 :: _, n :: _ => some n | _, _ => none)]) ++ argBufs ks as
  | _, _ => []

/-- What a buffer argument is checked for: reads of BUFFER_RD and BUFFER_RW, writes of BUFFER_WR and BUFFER_RW. -/
def argChecks (l : List (Nat × Nat × Option Nat)) : List (AccKind × Nat × Nat) :=
  l.flatMap (fun b =>
    let n := b.2.2.getD 0
    (if b.1 = 1 ∨ b.1 = 3 then [(AccKind.r, b.2.1, n)] else []) ++ (if b.1 = 2 ∨ b.1 = 3 then [(AccKind.w, b.2.1, n)] else []))

/-- R138 for the arguments of an entry. -/
def State.argsOk (s : State) (c : Cmd) (e : PlanEntry) (args : List Nat) : Bool :=
  args.length == e.kinds.length
    && (argBufs e.kinds args).all (fun b => !s.badBuf c b.2.1 && (match b.2.2 with | some n => !badLen n | none => false))

/-- The run of a KERNEL_RUN. -/
def kernelRun (i : ICmd) (args : List Nat) (slot : Option Nat) : TileRun :=
  let first := i.c.p 2 % 2 ^ 24
  let n := i.c.p 2 / 2 ^ 24 % 2 ^ 24
  let on := slot.isSome && n != 0
  { seq := i.seq, plan := i.c.p 1 % 65536, entry := i.c.p 1 / 65536 % 65536, args := args, positions := if on then n else 0, slot := slot, len := 0,
    lo := if on then first else 0, hi := if on then first + n else 0, crit := i.crit, at_ := i.at_, wrote := 0, stop := none }

/-- The checks of a KERNEL_RUN with its entry, and the run: for a session, or for none. -/
def State.kernelGo (s : State) (i : ICmd) (slot : Option Nat) : State :=
  let args := kernelArgs i.c
  let r := kernelRun i args slot
  match s.loadedEntry r.plan r.entry with
  | none => s.endRun i.seq Stat.badParam
  | some e =>
    let len := match slot with | some k => (match s.sesAt k with | some x => x.length | none => 0) | none => 0
    if !kernelBlockOk i.c || !s.argsOk i.c e args || e.session != slot.isSome || decide (len < r.hi) then s.endRun i.seq Stat.badParam
    else
      let ok := s.bufsOk i.c (argChecks (argBufs e.kinds args))
      match slot with
      | some k => s.runFor i k 0x0303 ok [] r
      | none => if ok then s.queueRun r else s.endRun i.seq Stat.denied

/-- KERNEL_RUN (R89, R90, R112, R138): the handle, where there is one, comes before the parameters. -/
def execKernelRun (c : Cmd) (s : State) : Host.Outcome State Fault Refusal :=
  fin s (s.command 0x0303 c (fun s i =>
    match (if i.c.handle = 0 then Sum.inl none else match s.sessionFor i.c with | .inr st => Sum.inr st | .inl slot => Sum.inl (some slot)) with
    | .inr st => s.endRun i.seq st
    | .inl slot => if s.badParams i.c then s.endRun i.seq Stat.badParam else s.kernelGo i slot))

/-! ### The tiles' events -/

/-- RUN_COMPLETE (R140, R143). -/
def execRunComplete (pass : Nat) (use : List TileUse) (cycles : Nat) (outs : List Nat) (s : State) : Host.Outcome State Fault Refusal :=
  fin s (s.passComplete pass use cycles outs)

/-- RUN_WATCHDOG (R140). -/
def execRunWatchdog (pass tile : Nat) (use : List TileUse) (s : State) : Host.Outcome State Fault Refusal := fin s (s.watchdog pass tile use)

/-- RUN_ABORT_POINT (R140). -/
def execRunAbortPoint (pass seq : Nat) (use : List TileUse) (s : State) : Host.Outcome State Fault Refusal := fin s (s.abortPoint pass seq use)

/-- RUN_DEFER_TIMEOUT (R142). -/
def execRunDeferTimeout (seq : Nat) (s : State) : Host.Outcome State Fault Refusal := fin s (s.runDefer seq)

/-- DMA_DESCRIPTOR_COMPLETE (R129). -/
def execDmaDescriptorComplete (d : DmaEv) (s : State) : Host.Outcome State Fault Refusal := fin s (s.dmaComplete d)

/-- DMA_CHANNEL_STOP (R133). -/
def execDmaChannelStop (d : DmaEv) (use : List TileUse) (s : State) : Host.Outcome State Fault Refusal := fin s (s.dmaStop d use)

/-- POISON_CONSUMED (R127). -/
def execPoisonConsumed (pass tile off : Nat) (hit : List Nat) (use : List TileUse) (s : State) : Host.Outcome State Fault Refusal :=
  fin s (s.poisonRun pass tile off hit use)

/-- TILE_SRAM_SCRUB (R128). -/
def execTileSramScrub (tile off : Nat) (e : EccOutcome) (s : State) : Host.Outcome State Fault Refusal :=
  fin s (if tile < 384 ∧ off < 0x400000 ∧ s.rd R.TALON_DIE_SCRUB.PERIOD_H (tile / 96) ≠ 0 then s.tileSramError tile off e else s)

end Sys2Proof.Machine
end

