-- ==== Sys2Proof/Machine/KeyCmd.lean ====
section
/-! DEFINITION. The keys and security group of commands (R116), with the events of the Crypt engine, of Jess and of the security block (09_inline_crypt.md, 10_jess_access.md, 16_security.md). -/

namespace Sys2Proof.Machine

/-! ### The Crypt engine's events -/

/-- CRYPT_ENABLE (R213): the write of CRYPT_CTRL with ENABLE 1. -/
def execCryptEnable (w : CsrWr) (s : State) : Host.Outcome State Fault Refusal :=
  fin s (if written w R.CRYPT_CTRL.ENABLE = 1 then s.cryptCtrlWrite w else s)

/-- SECTOR_TABLE_FILL_DONE (R213): not before the key table has been rebuilt (R373). -/
def execSectorTableFillDone (s : State) : Host.Outcome State Fault Refusal := fin s (if s.boot.keyTable then s.cryptFilled else s)

/-- SECTOR_LINE_READ (R216). -/
def execSectorLineRead (m : Master) (addr : Nat) (s : State) : Host.Outcome State Fault Refusal :=
  fin s (s.sectorAccess { m := m, addr := addr, op := .read, cls := .norm, data := [], mask := 0, poison := false })

/-- SECTOR_LINE_WRITE (R220). -/
def execSectorLineWrite (m : Master) (addr : Nat) (data : List Byte) (s : State) : Host.Outcome State Fault Refusal :=
  fin s (s.sectorAccess { m := m, addr := addr, op := .write, cls := .norm, data := (data ++ List.replicate 64 0).take 64, mask := 2 ^ 64 - 1, poison := false })

/-- MERGE_HOLD_NS after an entry's first write, the sector is read where lines are missing and the entry is sealed and written back. -/
def State.mergeHold (s : State) (sec : Nat) : State :=
  match s.mergeOf sec with
  | none => s
  | some e =>
    if s.mergeDue e then s.mergeBack e else s

/-- MERGE_HOLD_EXPIRY (R220). -/
def execMergeHoldExpiry (sec : Nat) (s : State) : Host.Outcome State Fault Refusal := fin s (s.mergeHold sec)

/-- RAW_SECTOR_READ (R217). -/
def execRawSectorRead (m : Master) (sec : Nat) (s : State) : Host.Outcome State Fault Refusal := fin s (if sec < 2 ^ 28 then s.rawRead m sec else s)

/-- RAW_SECTOR_WRITE (R217). -/
def execRawSectorWrite (m : Master) (sec : Nat) (rec_ cipher : List Byte) (s : State) : Host.Outcome State Fault Refusal :=
  fin s (if sec < 2 ^ 28 then s.rawWrite m sec (slice (rec_ ++ List.replicate 32 0) 0 32) cipher else s)

/-! ### The rekey walk (R225 to R229) -/

/-- A commit record of domain `d` with its tag under a set. -/
def retag (k : KeySet) (rec_ : List Byte) : List Byte := rec_.take 48 ++ commitTag k (rec_.take 48)

/-- Every commit record and buddy directory record of domain `d` is re-tagged (R228). -/
def State.retagAll (s : State) (d : Nat) (k : KeySet) : State :=
  let s := (s.ses.table.filter (fun e => e.2.domain == d)).foldl (fun s e =>
    e.2.recs.foldl (fun s r => s.putLine (commitAddr e.1 r.posB) (retag k (s.storedLine (commitAddr e.1 r.posB))) false) s) s
  (s.ses.buddies.filter (fun b => leNat (slice b.record 22 2) == d)).foldl (fun s b => s.putBuddy { b with record := retag k b.record }) s

/-- The sessions that own sectors which failed in the walk are DAMAGED. -/
def State.damageOwners (s : State) (secs : List Nat) : State :=
  let frames := secs.map (fun n => n / 16)
  s.updSes (fun t => { t with table := t.table.map (fun e => if e.2.st == .parked && e.2.roostFrames.any frames.contains then (e.1, { e.2 with damaged := true }) else e) })

/-- The walk has passed the last sector: R228, and the command ends. -/
def State.rekeyEnd (s : State) (r : Rekey) : State :=
  let newB := s.rd R.CRYPT_JOURNAL.NEW_SET == 1
  let s := match (s.domKeys r.domain).pick newB with | some k => s.retagAll r.domain k | none => s
  let s := ((s.rekeyKeys r.domain).sealRecord r.domain (!newB)).sealRecord r.domain newB
  let s := s.damageOwners r.failed
  s.tci.running.foldl (fun s x =>
    if x.wait == .rekey then s.endRun x.i.seq (if r.failed = [] then Stat.ok else Stat.dataLost) r.resealed else s) s

/-- One sector of the walk, or its end. -/
def State.rekeyStep (s : State) : State :=
  match s.crypt.rekey with
  | none => s
  | some r =>
    if !s.cryptReady ∨ !s.roostUp then s
    else
      match rekeyNext s.crypt.recs r.domain (s.rd R.CRYPT_JOURNAL.NEW_SET == 1) r.next with
      | none => s.rekeyEnd r
      | some sec =>
        match s.rekeySector r sec with
        | (s, r) => s.updCrypt (fun c => { c with rekey := some r })

/-- REKEY_SECTOR (R225). -/
def execRekeySector (s : State) : Host.Outcome State Fault Refusal := fin s s.rekeyStep

/-- A key opcode acts on its own domain, or on queue pair 0 on every one (R116). -/
def State.keyDenied (s : State) (i : ICmd) (d : Nat) : Bool := i.c.qp != 0 && s.cmdDomain i.c != d

/-- The lengths that a blob may have. -/
def badBlob (n : Nat) : Bool := badLen n || decide (4096 < n)

/-- CRYPT_REKEY (R89, R106, R225, R229, R375): the parameters' values come before the state of the package. -/
def execCryptRekey (c : Cmd) (ext : ExtRead) (s : State) : Host.Outcome State Fault Refusal :=
  fin s (s.plain 0x0702 c (fun s i =>
    let d := i.c.p 0 % 4096
    if s.keyDenied i d then s.endRun i.seq Stat.denied
    else if (if d = 0 then i.c.p 1 != 0 || i.c.p 2 != 0 else badBlob (i.c.p 2)) then s.endRun i.seq Stat.badParam
    else if s.secMode ≠ modeNormal then s.endRun i.seq Stat.tampered
    else if s.rekeyBusy i d then s.endRetry i.seq Stat.notReady 20
    else if s.domState d = Dom.empty then s.endRun i.seq Stat.badParam
    else if d = 0 then (if s.domState 0 = Dom.mixed then s.walk0 i 0 (s.rd R.CRYPT_JOURNAL.BOUNDARY) else s.rekeyZero i)
    else if !s.bufsOk i.c [(.r, i.c.p 1, i.c.p 2)] then s.endRun i.seq Stat.denied
    else s.startMove i ext (i.c.p 1) (i.c.p 2)))

/-- KEY_DOMAIN_LOAD (R89, R374, R375). -/
def execKeyDomainLoad (c : Cmd) (ext : ExtRead) (s : State) : Host.Outcome State Fault Refusal :=
  fin s (s.plain 0x0700 c (fun s i =>
    let d := i.c.p 0 % 4096
    if s.keyDenied i d then s.endRun i.seq Stat.denied
    else if d = 0 ∨ badBlob (i.c.p 2) then s.endRun i.seq Stat.badParam
    else if s.secMode ≠ modeNormal then s.endRun i.seq Stat.tampered
    else if s.domState d ≠ Dom.empty then s.endRun i.seq Stat.badParam
    else if !s.bufsOk i.c [(.r, i.c.p 1, i.c.p 2)] then s.endRun i.seq Stat.denied
    else s.startMove i ext (i.c.p 1) (i.c.p 2)))

/-- Sessions, frames or a rekey of a domain are present (R116). -/
def State.domainUsed (s : State) (d : Nat) : Bool :=
  s.ses.table.any (fun e => e.2.domain == d) || s.crypt.recs.any (fun e => e.2.valid && e.2.domain == d)
    || (s.rd R.CRYPT_JOURNAL.RUNNING == 1 && s.rd R.CRYPT_JOURNAL.DOMAIN == d)

/-- KEY_DOMAIN_DELETE (R376). -/
def execKeyDomainDelete (c : Cmd) (s : State) : Host.Outcome State Fault Refusal :=
  fin s (s.plain 0x0701 c (fun s i =>
    let d := i.c.p 0 % 4096
    if s.keyDenied i d then s.endRun i.seq Stat.denied
    else if d = 0 then s.endRun i.seq Stat.badParam
    else if s.domainUsed d then s.endRetry i.seq Stat.notReady 20
    else
      let s := (s.setKey d false none).setKey d true none
      let s := if s.rd R.CRYPT_LOST.VALID = 1 ∧ s.rd R.CRYPT_LOST.DOMAIN = d then s.csrPut (R.CRYPT_LOST.addr 0 0 0) 0 else s
      s.endRun i.seq Stat.ok))

/-- CRYPT_STATUS (R116). -/
def execCryptStatus (c : Cmd) (s : State) : Host.Outcome State Fault Refusal :=
  fin s (s.plain 0x0703 c (fun s i =>
    let d := i.c.p 0 % 4096
    if s.keyDenied i d then s.endRun i.seq Stat.denied
    else
      let st := s.domState d
      s.endRun i.seq Stat.ok (st + s.rd R.CRYPT_DOM.HIGH_CTR d * 2 ^ 32) (if st = Dom.mixed then s.rd R.CRYPT_JOURNAL.BOUNDARY else 0)))

/-! ### Jess -/

/-- JESS_SET_REGION's staging and GO. -/
def State.setRegion (s : State) (i : ICmd) : State :=
  let s := (s.csrPut (R.JESS_STAGE_START.addr 0 0 0) (BitVec.ofNat 64 (i.c.p 1))).csrPut (R.JESS_STAGE_END.addr 0 0 0) (BitVec.ofNat 64 (i.c.p 2))
  let s := (s.csrPut (R.JESS_STAGE_ATTR.addr 0 0 0) (BitVec.ofNat 64 (i.c.p 3))).jessCommit (i.c.p 0 % 256)
  let r := s.rd R.JESS_STAGE_STATUS.RESULT
  s.endRun i.seq (if r = 0 then Stat.ok else if r = 1 then Stat.denied else Stat.badParam)

/-- JESS_SET_REGION (R242). -/
def execJessSetRegion (c : Cmd) (s : State) : Host.Outcome State Fault Refusal :=
  fin s (s.plain 0x0704 c (fun s i =>
    if i.c.p 1 % 64 ≠ 0 ∨ i.c.p 2 % 64 ≠ 63 ∨ 2 ^ 50 ≤ i.c.p 1 ∨ 2 ^ 50 ≤ i.c.p 2 then s.endRun i.seq Stat.badParam
    else s.setRegion i))

/-- JESS_SYNC (R246). -/
def execJessSync (c : Cmd) (s : State) : Host.Outcome State Fault Refusal :=
  fin s (s.plain 0x0705 c (fun s i =>
    let s := s.jessSyncGo
    s.waitOn i.seq .sync (s.rd R.JESS_SYNC_SEQ.REQ_SEQ)))

/-- JESS_STAGE_GO (R242). -/
def execJessStageGo (w : CsrWr) (s : State) : Host.Outcome State Fault Refusal := fin s (s.stageGoWrite w)

/-- JESS_CHECKER_APPLY (R245). -/
def execJessCheckerApply (k : Nat) (s : State) : Host.Outcome State Fault Refusal :=
  fin s (if k < 15 ∧ (s.checker k).reloading = false then s.updJess (fun j => { j with checkers := Tab.upd j.checkers k .reset Checker.applyOne }) else s)

/-- JESS_SYNC_GO (R246). -/
def execJessSyncGo (w : CsrWr) (s : State) : Host.Outcome State Fault Refusal := fin s (s.syncGoWrite w)

/-- The oldest sync completes: DONE_SEQ takes its number. -/
def State.syncDone (s : State) : State :=
  match s.jess.syncs with
  | [] => s
  | (n, _) :: r => if s.jessSyncReady then (s.updJess (fun j => { j with syncs := r })).wr R.JESS_SYNC_SEQ.DONE_SEQ n else s

/-- JESS_SYNC_DONE (R246). -/
def execJessSyncDone (s : State) : Host.Outcome State Fault Refusal := fin s s.syncDone

/-- JESS_CHECKER_RELOAD (R248). -/
def execJessCheckerReload (k : Nat) (s : State) : Host.Outcome State Fault Refusal :=
  fin s (if k < 15 ∧ (s.checker k).reloading then s.jessReload k else s)

/-! ### Security -/

/-- TRNG_READ (R378): the source releases nothing while TAMPER is latched either (R381). -/
def execTrngRead (c : Cmd) (s : State) : Host.Outcome State Fault Refusal :=
  fin s (s.plain 0x0706 c (fun s i =>
    if s.sec.trngFail ∨ s.tampered then s.endRun i.seq Stat.faulted
    else
      let (s, a) := s.rand64
      let (s, b) := s.rand64
      s.endRun i.seq Stat.ok a b))

/-- ATTEST (R379). -/
def execAttest (c : Cmd) (ext : ExtRead) (s : State) : Host.Outcome State Fault Refusal :=
  fin s (s.plain 0x0707 c (fun s i =>
    let n := i.c.p 2
    if badLen n ∨ n < 8192 then s.endRun i.seq Stat.badParam
    else if !s.bufsOk i.c [(.r, i.c.p 0, 64), (.w, i.c.p 1, n)] then s.endRun i.seq Stat.denied
    else s.startMove i ext (i.c.p 0) 64))

/-- TAMPER_EVENT (R380 to R389). -/
def execTamperEvent (sensors : Nat) (bankDone : Bool) (s : State) : Host.Outcome State Fault Refusal := fin s (s.sensorsAre sensors bankDone)

/-- A health test of the entropy source fails (R378). -/
def State.trngFails (s : State) : State :=
  if s.sec.trngFail then s
  else ((s.updSec (fun x => { x with trngFail := true })).flag R.SEC_EVENT.TRNG_HEALTH R.SEC_TRNG_CNT.COUNT).report Src.secTrng Cls.uc Cause.trngHealth

/-- TRNG_HEALTH_FAIL (R378). -/
def execTrngHealthFail (s : State) : Host.Outcome State Fault Refusal := fin s s.trngFails

/-- Draws that waited for passing output are made. -/
def State.trngRecovers (s : State) : State :=
  if !s.sec.trngFail then s
  else
    let s := s.updSec (fun x => { x with trngFail := false })
    let s := if s.sec.nonceWait then s.perchDraws else s
    let s := if s.sec.scrWait then s.drawScramble else s
    match s.tci.running.find? (fun r => r.wait == .draw && !r.dead) with
    | some r => s.rekeyZero r.i
    | none => s

/-- TRNG_HEALTH_RECOVER (R378). -/
def execTrngHealthRecover (s : State) : Host.Outcome State Fault Refusal := fin s s.trngRecovers

/-- SVN_ADVANCE (R377). -/
def execSvnAdvance (w : CsrWr) (s : State) : Host.Outcome State Fault Refusal := fin s (s.svnWrite w)

/-- TAMPER_MASK_WRITE (R383). -/
def execTamperMaskWrite (w : CsrWr) (s : State) : Host.Outcome State Fault Refusal := fin s (s.maskWrite w)

end Sys2Proof.Machine
end

