-- ==== Sys2Proof/Machine/LinkCmd.lean ====
section
/-! DEFINITION. The Kettle and collectives, power, time and fault groups of commands (R113 to R117). -/

namespace Sys2Proof.Machine

/-! ### Links -/

/-- LINK_STATUS (R113): the link status word as KTL_LINK_STATUS reads, and the replay count. -/
def execLinkStatus (c : Cmd) (s : State) : Host.Outcome State Fault Refusal :=
  fin s (s.plain 0x0400 c (fun s i =>
    let n := i.c.p 0 % 64
    s.endRun i.seq Stat.ok (s.csrValue (R.KTL_LINK_STATUS.STATE.addr n 0 0)).toNat (s.csrAt (R.KTL_LINK_REPLAYS.addr n 0 0)).toNat))

/-- R105: the command came on the link, or the link carries a push queue pair of the submitting partner. -/
def State.carries (s : State) (i : ICmd) (n : Nat) : Bool :=
  let c := i.c
  let via := fun (q : Nat) =>
    if s.partner q = gateway then some s.pkg
    else
      let t := s.rd R.TCI_QP_ATTR.PEER_PKG q
      if s.rkind t = rtDirect then some t else if s.rkind t = rtRelay then some (s.rvia t) else none
  i.link == some n || (c.fwdFrom.isNone && s.isPush c.qp && via c.qp == some n)

/-- LINK_CONTROL with one action: R105 for those that take the link away, then the action, and the command waits for the link. -/
def State.linkControl (s : State) (c : Cmd) (act : Nat) (f : State → Nat → State) : State :=
  if c.p 1 < 3 ∧ c.p 1 ≠ act then s
  else
    s.plain 0x0401 c (fun s i =>
      let n := i.c.p 0 % 64
      if i.c.p 1 ≠ act ∨ (act ≠ 0 ∧ s.carries i n) then s.endRun i.seq Stat.badParam
      else (f s n).waitOn i.seq .link n act)

/-- LINK_CONTROL_ENABLE (R272). -/
def execLinkControlEnable (c : Cmd) (s : State) : Host.Outcome State Fault Refusal :=
  fin s (s.linkControl c 0 (fun s n => (s.wr R.KTL_LINK_CTRL.ENABLE 1 n).linkEnable n))

/-- LINK_CONTROL_DISABLE (R272). -/
def execLinkControlDisable (c : Cmd) (s : State) : Host.Outcome State Fault Refusal :=
  fin s (s.linkControl c 1 (fun s n => (s.wr R.KTL_LINK_CTRL.ENABLE 0 n).withdrawLink n false))

/-- LINK_CONTROL_RETRAIN (R272). -/
def execLinkControlRetrain (c : Cmd) (s : State) : Host.Outcome State Fault Refusal :=
  fin s (s.linkControl c 2 (fun s n => s.withdrawLink n true))

/-! ### Collectives -/

/-- A line-aligned HBM address of the rack. -/
def hbmWord (w n : Nat) : Bool := !bufHost w && decide (w < 2 ^ 56) && w % 64 == 0 && decide (bufOff w + n ≤ hbmEnd)

/-- A contribution of one line to REDUCE's destination. -/
def State.contribute (s : State) (i : ICmd) (o : Nat) (l : List Byte) (p : Bool) : State × Nat :=
  let m := s.acting i.c
  let op := i.c.p 3 % 8
  let ord := natBit (i.c.p 3) 3
  let w := i.c.p 1 + o
  let t := w / 2 ^ 50 % 64
  if t ≠ s.pkg then (s.sendAdd t m i.cls op w l ord p (.reduce i.seq o), KSt.ok)
  else if ord ∧ op < 3 then
    let a := bufOff w
    let k := s.checkerOf a
    match s.jessFails k m .a a 64 with
    | some f => (s.jessRefuse k m .a f, KSt.jess)
    | none =>
      if 1 < (s.modeAt k a).1 then (s.kiteRefuse a, KSt.failed)
      else if !s.answers (s.modeAt k a).1 a || s.linkCut (masterDie m) a then (s, KSt.failed)
      else (s.ordSubmit [{ cls := i.cls, m := m, addr := a, op := op, src := s.pkg, data := l, poison := p, reply := none, run := some (.reduce i.seq o) }], KSt.ok)
  else s.actAdd m op (bufOff w) l p i.cls

/-- REDUCE's move: every line, then the counter once all have been applied (reducePoll). -/
def State.reduceMove (s : State) (i : ICmd) : State :=
  let r := s.copyLines (fun s o => s.srcRead (s.acting i.c) (i.c.p 0) { data := [], status := KSt.ok } o 64 i.cls) (fun s o l p => s.contribute i o l p) (i.c.p 2 / 64) 0
  if r.2.2 ≠ KSt.ok then r.1.endRun i.seq (stOfK r.2.2) r.2.1 else r.1.waitOn i.seq .reduce r.2.1 (if i.c.p 4 = 0 then 0 else 1)

/-- REDUCE (R113, R180 to R186). -/
def execReduce (c : Cmd) (s : State) : Host.Outcome State Fault Refusal :=
  fin s (s.plain 0x0402 c (fun s i =>
    let n := i.c.p 2
    if badLen n ∨ 5 ≤ i.c.p 3 % 8 ∨ !s.bufLocal (i.c.p 0) ∨ !hbmWord (i.c.p 1) n ∨ (i.c.p 4 ≠ 0 ∧ !hbmWord (i.c.p 4) 64) then s.endRun i.seq Stat.badParam
    else if !s.bufsOk i.c ([(.r, i.c.p 0, n), (.a, i.c.p 1, n)] ++ (if i.c.p 4 = 0 then [] else [(.a, i.c.p 4, 64)])) then s.endRun i.seq Stat.denied
    else s.reduceMove i))

/-- REDUCE_WAIT (R113): a counter of another package is read over Kettle. -/
def execReduceWait (c : Cmd) (s : State) : Host.Outcome State Fault Refusal :=
  fin s (s.plain 0x0403 c (fun s i =>
    if !hbmWord (i.c.p 0) 64 then s.endRun i.seq Stat.badParam
    else if !s.bufsOk i.c [(.r, i.c.p 0, 8)] then s.endRun i.seq Stat.denied
    else
      let s := s.waitOn i.seq .counter
      if s.bufLocal (i.c.p 0) then s else s.counterRead i))

/-- PKG_DRAIN with one of its two actions. -/
def State.pkgDrain (s : State) (c : Cmd) (act : Nat) (f : State → ICmd → State) : State :=
  if c.p 0 < 2 ∧ c.p 0 ≠ act then s else s.plain 0x0404 c f

/-- PKG_DRAIN_START (R113, R276): complete when every session is PARKED, EXPORTED or closed. -/
def execPkgDrainStart (c : Cmd) (s : State) : Host.Outcome State Fault Refusal :=
  fin s (s.pkgDrain c 1 (fun s i => (s.updSes (fun t => { t with draining := true })).waitOn i.seq .drain))

/-- The drain ends: JOIN on every link that is up (R276). -/
def State.drainEnds (s : State) : State :=
  let was := s.ktl.draining
  let s := (s.updSes (fun t => { t with draining := false })).updKtl (fun k => { k with draining := false })
  if was then (List.range 64).foldl (fun s n => if s.linkOpen n then s.mgmt n .join [s.pkg] else s) s else s

/-- PKG_DRAIN_END (R276). -/
def execPkgDrainEnd (c : Cmd) (s : State) : Host.Outcome State Fault Refusal :=
  fin s (s.pkgDrain c 0 (fun s i => s.drainEnds.endRun i.seq Stat.ok s.drainCounts))

/-! ### Power -/

/-- RESULT of POWER_QUERY (R114, R331). -/
def State.powerWords (s : State) : Nat × Nat :=
  let dies := [0, 1, 2, 3]
  let mhz := (dies.map (fun d => s.rd R.PWR_DIE.CLOCK_MHZ d)).foldl max 0
  let die := (dies.map (fun d => s.rd R.PWR_DIE.TEMP_DC d)).foldl max 0
  let stk := ((List.range 8).map (fun k => s.rd R.HBM_STK_TEMP.TEMP_C k)).foldl max 0
  (s.rd R.PWR_LAST.POWER_W + s.rd R.PWR_CAP.CAP_W * 2 ^ 16 + (s.rd R.PWR_GRANT.GRANT - s.rd R.PWR_GRANT.BOOKED) * 2 ^ 32,
    mhz + (if s.pwr.pstate = .flight then 0 else 1) * 2 ^ 16 + stk * 2 ^ 24 + die * 2 ^ 32)

/-- POWER_QUERY (R331). -/
def execPowerQuery (c : Cmd) (s : State) : Host.Outcome State Fault Refusal :=
  fin s (s.plain 0x0500 c (fun s i => s.endRun i.seq Stat.ok s.powerWords.1 s.powerWords.2))

/-- POWER_SET_CAP (R315): in force from the next whole window. -/
def execPowerSetCap (c : Cmd) (s : State) : Host.Outcome State Fault Refusal :=
  fin s (s.plain 0x0501 c (fun s i =>
    let w := i.c.p 0 % 4096
    if w < 600 ∨ 2400 < w then s.endRun i.seq Stat.badParam else (s.wr R.PWR_CAP.CAP_W w).endRun i.seq Stat.ok))

/-- POWER_STATE with one target; target 3 is invalid for every one. -/
def State.powerTo (s : State) (c : Cmd) (target : Nat) (f : State → ICmd → State) : State :=
  if c.p 0 < 3 ∧ c.p 0 ≠ target then s
  else s.plain 0x0502 c (fun s i =>
    if i.c.p 0 % 4 ≠ target then s.endRun i.seq Stat.badParam
    else if s.pwr.pstate ≠ .flight ∧ s.pwr.pstate ≠ .glide then s.endRetry i.seq Stat.notReady 10
    else f s i)

/-- POWER_STATE_FLIGHT (R301): complete when every group has power. -/
def execPowerStateFlight (c : Cmd) (s : State) : Host.Outcome State Fault Refusal :=
  fin s (s.powerTo c 0 (fun s i => (s.updPwr (fun p => { p with pstate := .flight })).waitOn i.seq .power))

/-- POWER_STATE_GLIDE (R301). -/
def execPowerStateGlide (c : Cmd) (s : State) : Host.Outcome State Fault Refusal :=
  fin s (s.powerTo c 1 (fun s i => (s.updPwr (fun p => { p with pstate := .glide })).endRun i.seq Stat.ok))

/-- POWER_STATE_PERCH (R103): the reply, and the entry 100 µs later; not while work runs. -/
def execPowerStatePerch (c : Cmd) (s : State) : Host.Outcome State Fault Refusal :=
  fin s (s.powerTo c 2 (fun s i =>
    if s.perchBusy then s.endRetry i.seq Stat.notReady 10
    else (s.endRun i.seq Stat.ok).updPwr (fun p => { p with perchAt := some (s.now + 100000) })))

/-! ### Time -/

/-- RESULT of TIME_QUERY (R115, R347). -/
def State.timeWords (s : State) (kind : Bool) : Nat × Nat :=
  if kind then
    (if s.time.quality = .unset then 0 else s.rackNs,
      min 0xFFFFFFFF s.uncNs + s.time.quality.code * 2 ^ 32 + s.rd R.TIME_STEP_CNT.COUNT % 2 ^ 24 * 2 ^ 40)
  else (s.rd R.TIME_NONCE, s.epoch)

/-- TIME_QUERY (R347). -/
def execTimeQuery (c : Cmd) (s : State) : Host.Outcome State Fault Refusal :=
  fin s (s.plain 0x0600 c (fun s i =>
    let w := s.timeWords (natBit (i.c.p 0) 0)
    s.endRun i.seq Stat.ok w.1 w.2))

/-! ### Faults -/

/-- FAULT_QUERY (R117). -/
def execFaultQuery (c : Cmd) (s : State) : Host.Outcome State Fault Refusal :=
  fin s (s.plain 0x0800 c (fun s i =>
    let n := i.c.p 0 % 512
    if !srcUsed n then s.endRun i.seq Stat.badParam
    else s.endRun i.seq Stat.ok (s.csrAt (R.WATCH_SRC_STATUS.PENDING.addr n 0 0)).toNat (s.rd R.WATCH_SRC_CE_CNT.COUNT n)))

/-- The log entry of an index, the newest first; zeros beyond the log (R365). -/
def State.logEntry (s : State) (k : Nat) : Nat × Nat :=
  if 1024 ≤ k then (0, 0)
  else
    let n := (s.rd R.WATCH_LOG_HEAD.NEXT_SEQ + 65536 - 1 - k) % 1024
    ((s.csrAt (R.WATCH_LOG_LO.addr n 0 0)).toNat, (s.csrAt (R.WATCH_LOG_HI.addr n 0 0)).toNat)

/-- FAULT_LOG_READ (R365). -/
def execFaultLogRead (c : Cmd) (s : State) : Host.Outcome State Fault Refusal :=
  fin s (s.plain 0x0801 c (fun s i =>
    let e := s.logEntry (i.c.p 0 % 65536)
    s.endRun i.seq Stat.ok e.1 e.2))

/-- FAULT_CLEAR (R358). -/
def execFaultClear (c : Cmd) (s : State) : Host.Outcome State Fault Refusal :=
  fin s (s.plain 0x0802 c (fun s i =>
    let n := i.c.p 0 % 512
    if !srcUsed n then s.endRun i.seq Stat.badParam else (s.clearSource n).endRun i.seq Stat.ok))

/-- FAULT_INJECT (R364). -/
def execFaultInject (c : Cmd) (s : State) : Host.Outcome State Fault Refusal :=
  fin s (s.plain 0x0803 c (fun s i =>
    let n := i.c.p 0 % 512
    if !srcUsed n then s.endRun i.seq Stat.badParam else (s.endRun i.seq Stat.ok).inject n))

/-- BLOCK_RESET (R368). -/
def execBlockReset (c : Cmd) (s : State) : Host.Outcome State Fault Refusal :=
  fin s (s.plain 0x0804 c (fun s i =>
    let u := i.c.p 0 % 256
    match s.resetReq u with
    | .unused => s.endRun i.seq Stat.badParam
    | .joined => s.waitOn i.seq .unitReset u
    | .started => (s.waitOn i.seq .unitReset u).requestReset u .command
    | .warm => (s.endRun i.seq Stat.aborted).requestReset u .command
    | .alarm => (s.endRun i.seq Stat.faulted).requestReset u .command))

end Sys2Proof.Machine
end

