-- ==== Sys2Proof/Machine/Mews.lean ====
section
/-! DEFINITION. The commands of the cores and the Mews cache: core release and reset, accesses, atomics, fences, maintenance, locked ranges, interrupts, the boot flash
(12_mews_cores.md). -/

namespace Sys2Proof.Machine

/-- What a master does at the cache port: nothing without power, and nothing by a core that does not run. -/
def State.byMaster (s : State) (m : Master) (f : State → State) : State :=
  let runs := match coreOf m with | some c => s.rd R.MEWS_CORE_STATUS.STATE c == coreRunning | none => true
  if s.coreOn && runs then f s else s

/-! ### Cores (R281, R282) -/

/-- CORE_RELEASE (R281): the write of MEWS_CORE_c_CTRL that has RELEASE 1. -/
def execCoreRelease (core : Nat) (w : CsrWr) (s : State) : Host.Outcome State Fault Refusal :=
  fin s (if core < 16 ∧ written w R.MEWS_CORE_CTRL.RELEASE = 1 then s.coreCtrlWrite core w else s)

/-- CORE_RESET (R282): the write of MEWS_CORE_c_CTRL that has RESET 1. -/
def execCoreReset (core : Nat) (w : CsrWr) (s : State) : Host.Outcome State Fault Refusal :=
  fin s (if core < 16 ∧ written w R.MEWS_CORE_CTRL.RESET = 1 then s.coreCtrlWrite core w else s)

/-- CORE_WFI: a running core waits for an interrupt; one that is pending lets it go on at once. -/
def execCoreWfi (core : Nat) (s : State) : Host.Outcome State Fault Refusal :=
  fin s (if core < 16 ∧ s.coreOn ∧ s.rd R.MEWS_CORE_STATUS.STATE core = coreRunning ∧ (List.range 6).all (fun f => s.pendingIds core f == [])
    then s.wr R.MEWS_CORE_STATUS.STATE coreWfiSt core else s)

/-! ### Accesses (R283 to R288) -/

/-- CACHE_ACCESS: a load, store or fetch; one of the CSR space is a read or write of it. -/
def execCacheAccess (a : CacheAcc) (s : State) : Host.Outcome State Fault Refusal :=
  fin s (s.byMaster a.m (fun s => s.cacheAccess a (fun off s =>
    match a.kind with
    | .w => s.csrStore (off / 8 * 8) ⟨a.m, a.data.length, off % 8, true, leNat a.data⟩
    | .r => s.csrLoad (off / 8 * 8) a.m a.len (off % 8)
    | k => s.accFault a.m k a.addr)))

/-! ### Atomics (R292 to R294) -/

/-- AMO (R292). -/
def execAmo (op : AmoOp) (wide : Bool) (m : Master) (addr rs2 : Nat) (s : State) : Host.Outcome State Fault Refusal :=
  fin s (s.byMaster m (fun s => s.atomic m wide addr (fun old => some (amoValue op (if wide then 64 else 32) old rs2)) id id))

/-- AMOFADD (R293). -/
def execAmofadd (wide : Bool) (m : Master) (addr rs2 : Nat) (s : State) : Host.Outcome State Fault Refusal :=
  fin s (s.byMaster m (fun s => s.atomic m wide addr (fun old => some (fpAmo wide old rs2)) id id))

/-- LOAD_RESERVED (R294). -/
def execLoadReserved (wide : Bool) (m : Master) (addr : Nat) (s : State) : Host.Outcome State Fault Refusal :=
  fin s (s.byMaster m (fun s => s.atomic m wide addr (fun _ => none) id (fun s => s.setResv m addr)))

/-- STORE_CONDITIONAL (R294). -/
def execStoreConditional (wide : Bool) (m : Master) (addr rs2 : Nat) (s : State) : Host.Outcome State Fault Refusal :=
  fin s (s.byMaster m (fun s => s.storeCond wide m addr rs2))

/-- RESERVATION_TIMEOUT (R294): 1,024 core cycles have passed with no SC. -/
def execReservationTimeout (core : Nat) (s : State) : Host.Outcome State Fault Refusal :=
  fin s (match Tab.get? s.mews.resv core with
    | some (_, t) => if s.due t then s.updMews (fun x => { x with resv := Tab.del x.resv core }) else s
    | none => s)

/-- FENCE_W (R289): it completes once the core's stores have been performed. -/
def execFenceW (core : Nat) (s : State) : Host.Outcome State Fault Refusal :=
  fin s (if core < 16 then s.byMaster (coreMaster core) (fun s => s.updMews (fun x => { x with fences := x.fences ++ [core] })) else s)

/-! ### Cache blocks (R287) -/

/-- CBO_CLEAN. -/
def execCboClean (m : Master) (addr : Nat) (s : State) : Host.Outcome State Fault Refusal :=
  fin s (s.byMaster m (fun s => s.cbo m .r addr (fun a s => s.cleanLine a)))

/-- CBO_FLUSH. -/
def execCboFlush (m : Master) (addr : Nat) (s : State) : Host.Outcome State Fault Refusal :=
  fin s (s.byMaster m (fun s => s.cbo m .r addr (fun a s => s.flushLine a)))

/-- CBO_INVAL: it acts as cbo.flush. -/
def execCboInval (m : Master) (addr : Nat) (s : State) : Host.Outcome State Fault Refusal :=
  fin s (s.byMaster m (fun s => s.cbo m .r addr (fun a s => s.flushLine a)))

/-- CBO_ZERO. -/
def execCboZero (m : Master) (addr : Nat) (s : State) : Host.Outcome State Fault Refusal :=
  fin s (s.byMaster m (fun s => s.cbo m .w addr (fun a s => s.zeroLine m a)))

/-- PREFETCH_HINT: dropped when the miss queue holds more than 48 entries. -/
def execPrefetchHint (m : Master) (addr missQueue way : Nat) (s : State) : Host.Outcome State Fault Refusal :=
  fin s (s.byMaster m (fun s => if 48 < missQueue then s else s.prefetch m addr way))

/-! ### Locked ranges and maintenance (R295, R296) -/

/-- MEWS_LOCK_WRITE (R295): a write of MEWS_RING_POOL (0) or MEWS_LOCK_i (1 + i). -/
def execMewsLockWrite (i : Nat) (w : CsrWr) (s : State) : Host.Outcome State Fault Refusal :=
  fin s (if i < 9 then s.lockRegWrite i w else s)

/-- LOCK_FILL_COMPLETE (R295). -/
def execLockFillComplete (s : State) : Host.Outcome State Fault Refusal := fin s (if s.coreOn then s.lockFill.mboxPoll else s)

/-- CLEAN_ALL: the write of MEWS_CACHE_MAINT that has CLEAN_ALL 1. -/
def execCleanAll (w : CsrWr) (s : State) : Host.Outcome State Fault Refusal :=
  fin s (if written w R.MEWS_CACHE_MAINT.CLEAN_ALL = 1 then s.cacheMaintWrite w else s)

/-- IMSIC_SETEIPNUM (R297). -/
def execImsicSeteipnum (core file : Nat) (w : CsrWr) (s : State) : Host.Outcome State Fault Refusal :=
  fin s (if core < 16 ∧ file < 6 then s.imsicWrite core file w else s)

/-! ### Boot flash (R298 to R300) -/

/-- FLASH_READ (R299): a write of MEWS_FLASH_CMD with GO and OP READ. -/
def execFlashRead (w : CsrWr) (s : State) : Host.Outcome State Fault Refusal :=
  fin s (if written w R.MEWS_FLASH_CMD.GO = 1 ∧ written w R.MEWS_FLASH_CMD.OP = 0 then s.flashCmdWrite w else s)

/-- FLASH_PROGRAM (R299). -/
def execFlashProgram (w : CsrWr) (s : State) : Host.Outcome State Fault Refusal :=
  fin s (if written w R.MEWS_FLASH_CMD.GO = 1 ∧ written w R.MEWS_FLASH_CMD.OP = 1 then s.flashCmdWrite w else s)

/-- FLASH_ERASE (R299). -/
def execFlashErase (w : CsrWr) (s : State) : Host.Outcome State Fault Refusal :=
  fin s (if written w R.MEWS_FLASH_CMD.GO = 1 ∧ written w R.MEWS_FLASH_CMD.OP = 2 then s.flashCmdWrite w else s)

/-- FLASH_COMMAND_DONE (R299). -/
def execFlashCommandDone (deviceError : Bool) (s : State) : Host.Outcome State Fault Refusal :=
  fin s (if s.coreOn then s.flashEnd deviceError else s)

/-- FLASH_PROTECT_WRITE (R300). -/
def execFlashProtectWrite (w : CsrWr) (s : State) : Host.Outcome State Fault Refusal :=
  fin s (s.otherWrite R.MEWS_FLASH_PROTECT.base w)

end Sys2Proof.Machine
end

