-- ==== Sys2Proof/Machine/Power.lean ====
section
/-! DEFINITION. The commands of the power manager: credit windows, gating, thermal trips, PERCH and its wake, its registers (13_power_energy.md). -/

namespace Sys2Proof.Machine

/-- CREDIT_WINDOW_START (R311). -/
def execCreditWindowStart (i : WindowIn) (s : State) : Host.Outcome State Fault Refusal := fin s (if s.coreOn then s.windowStart i else s)

/-- DIE_THERMAL_TRIP (R313). -/
def execDieThermalTrip (die tempDc : Nat) (s : State) : Host.Outcome State Fault Refusal := fin s (if s.coreOn ∧ die < 4 then s.dieTrip die tempDc else s)

/-- GROUP_GATE_IDLE (R326, R329). -/
def execGroupGateIdle (s : State) : Host.Outcome State Fault Refusal := fin s (if s.coreOn then s.gateIdle else s)

/-- GROUP_WAKE_COMPLETE (R326). -/
def execGroupWakeComplete (g : Nat) (s : State) : Host.Outcome State Fault Refusal := fin s (if s.coreOn ∧ g < 48 then s.groupWakeDone g else s)

/-- PERCH_ENTRY_START (R304). -/
def execPerchEntryStart (s : State) : Host.Outcome State Fault Refusal := fin s s.perchEntry

/-- PERCH_ENTRY_TIMEOUT (R304). -/
def execPerchEntryTimeout (s : State) : Host.Outcome State Fault Refusal := fin s s.perchTimeout

/-- PERCH_KEEPER_EXPIRY (R273, R304). -/
def execPerchKeeperExpiry (s : State) : Host.Outcome State Fault Refusal := fin s s.perchKeeper

/-- CORE_EN_LOW_EXPIRY (R303). -/
def execCoreEnLowExpiry (s : State) : Host.Outcome State Fault Refusal := fin s s.coreLowOver

/-- WAKE_TIMER (R306). -/
def execWakeTimer (s : State) : Host.Outcome State Fault Refusal := fin s s.wakeTimer

/-- PWR_WAKE_AT_WRITE (R306). -/
def execPwrWakeAtWrite (w : CsrWr) (s : State) : Host.Outcome State Fault Refusal := fin s (s.wakeAtWrite w)

/-- PWR_CAP_WRITE (R332). -/
def execPwrCapWrite (w : CsrWr) (s : State) : Host.Outcome State Fault Refusal := fin s (s.capWrite w)

/-- PWR_CFG_WRITE (R332). -/
def execPwrCfgWrite (which : PwrCfg) (w : CsrWr) (s : State) : Host.Outcome State Fault Refusal := fin s (s.pwrCfgStore which w)

end Sys2Proof.Machine
end

