-- ==== Sys2Proof/Machine/Roost.lean ====
section
/-! DEFINITION. The events of the Roost controllers and bridges (08_roost_tier.md). -/

namespace Sys2Proof.Machine

/-- The channel and sub-channel exist. -/
def subOk (ch sub : Nat) : Bool := decide (ch < 8) && decide (sub < 2)

/-- ROOST_REQUEST_INGRESS (R195). -/
def execRoostRequestIngress (r : LineReq) (s : State) : Host.Outcome State Fault Refusal := fin s (s.roostIngress r)

/-- ROOST_DRAIN_AGE (R195). -/
def execRoostDrainAge (ch sub : Nat) (s : State) : Host.Outcome State Fault Refusal :=
  fin s (if subOk ch sub then s.setRq ch sub ((s.rq ch sub).ageDrain 4000 s.now) else s)

/-- ROOST_REQUEST_ISSUE (R197). -/
def execRoostRequestIssue (ch sub : Nat) (notReady : List Nat) (w : WireErr) (cells : CellErrs) (s : State) : Host.Outcome State Fault Refusal :=
  fin s (if subOk ch sub then (s.decay cells).roostIssue ch sub notReady w else s)

/-- A channel is trained, has not failed and is awake. -/
def State.chAwake (s : State) (ch : Nat) : Bool := s.chUp ch && !s.chSleeps ch

/-- A refresh of a sub-channel falls due once tREFI has passed since the last one; from this one on the channel's latest temperature reading sets tREFI, which both sub-channels take at their next
refresh (R196). -/
def State.roostRefresh (s : State) (ch sub : Nat) : State :=
  let q := s.rq ch sub
  if !s.chAwake ch ∨ 2 * s.now < Tab.get q.dueAt 0 (2 * s.roost.upAt + 7800) then s
  else
    let hot := s.roost.hot.contains ch
    let s := s.setRq ch sub ({ q with dueAt := Tab.put q.dueAt 0 (2 * s.now + if hot then 3900 else 7800) }.refreshAll)
    s.wr R.ROOST_CH_STATUS.TREFI_HALF (b2n hot) ch

/-- ROOST_REFRESH_DUE (R196). -/
def execRoostRefreshDue (ch sub : Nat) (s : State) : Host.Outcome State Fault Refusal := fin s (if subOk ch sub then s.roostRefresh ch sub else s)

/-- The refresh-rate indication of device 0 of each rank is read, 32 ms or more after the last reading; tREFI follows from the next refresh due (R196). -/
def State.roostTemp (s : State) (ch : Nat) (hot : List Bool) : State :=
  if !s.chAwake ch ∨ (Tab.get? s.roost.tempAt ch).any (fun t => decide (s.now < t + 32000000)) then s
  else s.updRoost (fun r => { r with
    tempAt := Tab.put r.tempAt ch s.now, hot := if (hot.take 2).any id then sinsert r.hot ch else r.hot.filter (· != ch) })

/-- ROOST_TEMP_READ (R196). -/
def execRoostTempRead (ch : Nat) (hot : List Bool) (s : State) : Host.Outcome State Fault Refusal := fin s (if ch < 8 then s.roostTemp ch hot else s)

/-- The patrol scrubber reads a line of a channel: a BULK read, in a free slot only, which meets R197 when it issues (R198). -/
def State.roostScrub (s : State) (ch sector line : Nat) (w : WireErr) : State :=
  let per := s.rd R.ROOST_CH_SCRUB.PERIOD_H ch
  let a := roostAddr ch sector line
  let sub := (roostMap a).sub
  let q := s.rq ch sub
  if per = 0 ∨ !s.chAwake ch ∨ s.chPaused ch ∨ s.unitState (56 + ch / 4) = Unit.resetting ∨ s.unitState (58 + ch) = Unit.resetting
      ∨ !scrubDue (Tab.get? s.roost.scrubAt ch) per 2147483648 s.now ∨ q.all ≠ [] then s
  else
    let s := s.updRoost (fun r => { r with scrubAt := Tab.put r.scrubAt ch s.now })
    let (s, x) := (s.decay [(a, w.errs)]).roostReq { m := ⟨0x9000, .f, false⟩, addr := a, op := .read, cls := .bulk, data := [], mask := 0, poison := false } 0 true
    s.roostEnter ch sub x

/-- ROOST_PATROL_SCRUB (R198). -/
def execRoostPatrolScrub (ch sector line : Nat) (w : WireErr) (s : State) : Host.Outcome State Fault Refusal :=
  fin s (if ch < 8 ∧ sector < 2 ^ 25 ∧ line < 64 then s.roostScrub ch sector line w else s)

/-- A 64 ms boundary of epoch time has passed (R200). -/
def State.roostRhClear (s : State) : State :=
  let w := s.epoch / 64000000
  if w ≤ s.roost.rhWin then s else s.updRoost (fun r => { r with rhWin := w, subs := r.subs.map (fun e => (e.1, e.2.clearActs)) })

/-- ROOST_RH_WINDOW_CLEAR (R200). -/
def execRoostRhWindowClear (s : State) : Host.Outcome State Fault Refusal := fin s s.roostRhClear

/-- CA_PARITY_RETRY (R190). -/
def execCaParityRetry (ch sub : Nat) (reqs : List Nat) (s : State) : Host.Outcome State Fault Refusal :=
  fin s (if subOk ch sub then s.roostCaParity ch sub reqs else s)

/-- WR_CRC_RESEND (R191). -/
def execWrCrcResend (ch sub req : Nat) (s : State) : Host.Outcome State Fault Refusal := fin s (if subOk ch sub then s.roostWrCrc ch sub req else s)

/-- A channel that runs fails, and with it the tier (R203). -/
def State.chDies (s : State) (ch : Nat) : State :=
  let was := s.roostDead
  let s := s.chFail ch
  if was then s else s.tierFailed

/-- One channel's retraining ends, 150 µs after it began: what waited at its ingress enters; a third failure in a row is the channel's (R193). -/
def State.retrained (s : State) (failed : List Nat) (ch : Nat) : State :=
  let s := s.retrainResult failed ch
  if 3 ≤ Tab.get s.roost.rtFails ch 0 ∧ !s.chFailed ch then s.chDies ch else s

/-- A bridge begins with the retraining of the next channel, or has done its last one: TRAIN_TEMP_C takes the temperature where every channel has passed. -/
def State.retrainNext (s : State) (b : Nat) (x : Retrain) : State :=
  match x.todo with
  | ch :: _ => (s.wr R.ROOST_CH_STATUS.RETRAINING 1 ch).updRoost (fun r => { r with retrain := Tab.put r.retrain b x })
  | [] =>
    let s := (s.updRoost (fun r => { r with retrain := Tab.del r.retrain b })).bridgeBack b
    if x.ok then (s.wr R.ROOST_BR_STATUS.TRAIN_TEMP_C x.temp b).flag R.ROOST_BR_EVENT.RETRAIN R.ROOST_BR_RETRAIN_CNT.COUNT b else s

/-- The channel that a bridge retrains has had its 150 µs. -/
def State.retrainPoll (s : State) (b : Nat) : State :=
  match Tab.get? s.roost.retrain b with
  | some x =>
    (match x.todo with
      | ch :: rest =>
        if s.now < x.since + 150000 then s
        else (s.retrained x.failed ch).retrainNext b { x with todo := rest, since := s.now, ok := x.ok && !x.failed.contains ch }
      | [] => s)
  | none => s

/-- The check of a bridge at a 128 ms boundary (R193): its temperature, and the retraining of its channels, in ascending order, where it has moved too far; else of those whose last retraining failed or was put off. -/
def State.retrainCheck (s : State) (b temp : Nat) (failed : List Nat) : State :=
  let st := s.rd R.ROOST_BR_STATUS.STATE b
  let period := s.epoch / 128000000
  if (st ≠ brReady ∧ st ≠ brFailed) ∨ (Tab.get? s.roost.retrain b).isSome ∨ (Tab.get? s.roost.checkAt b).any (fun t => decide (period ≤ t)) then s
  else
    let s := (s.wr R.ROOST_BR_STATUS.TEMP_C temp b).updRoost (fun r => { r with checkAt := Tab.put r.checkAt b period })
    let t0 := s.rd R.ROOST_BR_STATUS.TRAIN_TEMP_C b
    let delta := min 40 (s.rd R.ROOST_BR_CFG.RETRAIN_DELTA_C b)
    let far := delta != 0 && decide (delta < max t0 temp - min t0 temp)
    let chs := [4 * b, 4 * b + 1, 4 * b + 2, 4 * b + 3].filter (fun c => !s.chFailed c && !s.chSleeps c
      && (far || (delta != 0 && (Tab.get s.roost.rtFails c 0 != 0 || s.roost.owing.contains c))))
    if chs = [] then s
    else
      let s := s.updRoost (fun r => { r with owing := r.owing.filter (fun c => !chs.contains c) })
      let s := if st = brReady then s.wr R.ROOST_BR_STATUS.STATE brRetraining b else s
      s.retrainNext b { todo := chs, since := s.now, failed := failed, temp := temp, ok := true }

/-- ROOST_RETRAIN_CHECK (R193). -/
def execRoostRetrainCheck (b temp : Nat) (failed : List Nat) (s : State) : Host.Outcome State Fault Refusal :=
  fin s (if b < 2 ∧ temp < 256 then s.retrainCheck b temp failed else s)

/-- ROOST_SELF_REFRESH_ENTRY (R201). -/
def execRoostSelfRefreshEntry (s : State) : Host.Outcome State Fault Refusal := fin s s.roostSelfRefresh

/-- The exit from self-refresh: channels that do not come back have failed. -/
def State.roostExit (s : State) (failed : List Nat) : State :=
  if !s.coreOn ∨ (List.range 8).all (fun c => !s.chSleeps c) then s
  else
    let s := (List.range 8).foldl State.roostChWake s
    let s := [0, 1].foldl (fun s b => if s.rd R.ROOST_BR_STATUS.STATE b = brRetain then s.bridgeBack b else s) s
    (failed.filter (fun c => decide (c < 8) && !s.chFailed c)).foldl State.chDies s

/-- ROOST_SELF_REFRESH_EXIT (R201). -/
def execRoostSelfRefreshExit (failed : List Nat) (s : State) : Host.Outcome State Fault Refusal := fin s (s.roostExit failed)

/-- ROOST_CH_CFG_WRITE (R195). -/
def execRoostChCfgWrite (ch : Nat) (w : CsrWr) (s : State) : Host.Outcome State Fault Refusal := fin s (if ch < 8 then s.chCfgWrite ch w else s)

end Sys2Proof.Machine
end

