-- ==== Sys2Proof/Machine/Tap.lean ====
section
/-! DEFINITION. The commands of the test port (16_security.md, 19_electrical_test.md). -/

namespace Sys2Proof.Machine

/-- TAP_RESET (R451): IDCODE is selected. -/
def execTapReset (s : State) : Host.Outcome State Fault Refusal := fin s (if s.tapAnswers then s.tapIr Ir.idcode else s)

/-- TAP_IDCODE (R453). -/
def execTapIdcode (s : State) : Host.Outcome State Fault Refusal := fin s (if s.tapAnswers then (s.tapIr Ir.idcode).tdo 0x04800C9F else s)

/-- TAP_BYPASS (R452): the bypass register is selected. An unassigned code of an open port acts so; that of a sealed one is refused as the rows of the other sealed instructions are (R388). -/
def execTapBypass (s : State) : Host.Outcome State Fault Refusal := fin s (if s.tapAnswers then (s.tapIr Ir.bypass).tdo 0 else s)

/-- TAP_SAMPLE_PRELOAD (R388, R454). -/
def execTapSamplePreload (pins update : Nat) (s : State) : Host.Outcome State Fault Refusal := fin s (s.tapSample pins update)

/-- TAP_EXTEST (R454, R455). -/
def execTapExtest (pins update : Nat) (s : State) : Host.Outcome State Fault Refusal := fin s (s.tapDrive Ir.extest pins update)

/-- TAP_EXTEST_PULSE (R455). -/
def execTapExtestPulse (pins update : Nat) (s : State) : Host.Outcome State Fault Refusal := fin s (s.tapDrive Ir.pulse pins update)

/-- TAP_EXTEST_TRAIN (R455). -/
def execTapExtestTrain (pins update : Nat) (s : State) : Host.Outcome State Fault Refusal := fin s (s.tapDrive Ir.train pins update)

/-- TAP_CLAMP (R455). -/
def execTapClamp (s : State) : Host.Outcome State Fault Refusal := fin s (s.tapHold Ir.clamp)

/-- TAP_HIGHZ (R455). -/
def execTapHighz (s : State) : Host.Outcome State Fault Refusal := fin s (s.tapHold Ir.highz)

/-- TAP_OPEN (R389, R456). -/
def execTapOpen (value : Nat) (s : State) : Host.Outcome State Fault Refusal := fin s (s.tapOpen value)

/-- OPEN_COMPLETE (R389). -/
def execOpenComplete (ok : Bool) (s : State) : Host.Outcome State Fault Refusal := fin s (s.openDone ok)

/-- The access of DBG_MEM to a register of this package (R4). -/
def State.dbgCsr (s : State) (m : Master) (write : Bool) (a data : Nat) : State :=
  if write then
    let s := s.csrStore a ⟨m, 8, 0, true, data⟩
    s.dbgResult (match s.out.head? with | some (.error _) => 2 | _ => 0) 0
  else
    match s.csrGate a .r m 8 0 true with
    | some s' => s'.dbgResult 2 0
    | none => match s.csrTake a m.id 8 0 with | (s, v) => s.dbgResult 0 v

/-- The access of DBG_MEM to memory of this package. -/
def State.dbgMem (s : State) (m : Master) (write : Bool) (a data : Nat) : State :=
  if write then
    match s.portWrite m a (leBytes 8 data) false with
    | (s, .ok) => s.dbgResult 0 0
    | (s, _) => s.dbgResult 2 0
  else
    match s.portRead m a 8 with
    | (s, some (l, _)) => s.dbgResult 0 (leNat l)
    | (s, none) => s.dbgResult 2 0

/-- The access that an Update-DR of DBG_MEM issues (R457). -/
def State.dbgAccess (s : State) (w : Nat) : State :=
  let m := dbgMaster w
  let write := dbgOp w == 2
  let a := dbgAddr w
  if !s.coreOn then s.dbgResult 2 0
  else if a / 2 ^ 50 ≠ s.pkg then
    (s.dbgResult 1 0).remoteAcc { m := m, kind := if write then .w else .r, addr := a, len := 8, data := leBytes 8 (dbgData w), nc := true, way := 0, ecc := .clean }
  else if rangeOf (a % 2 ^ 50) = .csr then s.dbgCsr m write (a % 2 ^ 50 - csrBase) (dbgData w)
  else if !decodes (a % 2 ^ 50) 8 then (s.report (portSrc m) Cls.uc Cause.addrDecode).dbgResult 2 0
  else s.dbgMem m write (a % 2 ^ 50) (dbgData w)

/-- TAP_DBG_MEM (R457): the previous access's result shifts out; an Update-DR while that access is busy is ignored, and one to a target that takes no request now waits (log 129). -/
def execTapDbgMem (word : Nat) (s : State) : Host.Outcome State Fault Refusal :=
  fin s (s.tapOpenOnly (fun s =>
    let a := dbgAddr word
    if s.tap.res ≠ 1 ∧ dbgOp word ≠ 0 ∧ s.coreOn ∧ a / 2 ^ 50 = s.pkg ∧ s.asleep (a % 2 ^ 50 / 64 * 64) then s else
    let busy := s.tap.res == 1
    let s := (s.tapIr Ir.dbgMem).tdo s.dbgCapture
    if busy ∨ dbgOp word = 0 then s else s.dbgAccess word))

end Sys2Proof.Machine
end

