-- ==== Sys2Proof/Machine/Time.lean ====
section
/-! DEFINITION. The commands of the time unit (14_time_base.md). -/

namespace Sys2Proof.Machine

/-- PPS_EDGE (R338): `jitter` 0 to 10 is the timestamp's error of −5 ns to +5 ns. -/
def execPpsEdge (jitter : Nat) (s : State) : Host.Outcome State Fault Refusal :=
  fin s (if s.coreOn && s.time.fastRun then s.ppsAt (s.epoch + jitter - 5) else s)

/-- HOLDOVER_TIMEOUT (R342). -/
def execHoldoverTimeout (s : State) : Host.Outcome State Fault Refusal :=
  let t := s.time
  let late := (match t.edge with | some e => decide (e + 1500000000 ≤ s.epoch) | none => true) || decide (t.labelAt + 3000000000 ≤ s.epoch)
  fin s (if (t.quality == .locked || t.quality == .slewing) && late && t.fastRun then
      (s.updTime (fun t => t.hold s.epoch)).timeEvent R.TIME_EVENT.LOST R.TIME_LOSS_CNT.COUNT 1
    else s)

/-- SLEW_COMPLETE (R343). -/
def execSlewComplete (s : State) : Host.Outcome State Fault Refusal :=
  fin s (match s.time.slew with
    | some x =>
      if s.time.quality = .slewing ∧ x.done s.epoch = x.mag then
        (s.updTime (fun t => { t with quality := .locked, slew := none })).timeEvent R.TIME_EVENT.LOCKED R.TIME_LOCK_CNT.COUNT 0
      else s
    | none => s)

/-- PPS_OUT_RISE (R344, R345): at an integer second of rack time, to one reference cycle. -/
def execPpsOutRise (s : State) : Host.Outcome State Fault Refusal :=
  let t := s.time
  let gap := if t.ppsSkip then 1000000000 else 1000000000 - 1000 * s.rd R.TIME_CFG.SLEW_PPM
  let apart := match t.ppsRise with | some (e, _) => decide (e + gap ≤ s.epoch) | none => true
  fin s (if s.ppsActive && !t.ppsHigh && apart && decide (s.rackNs % 1000000000 < 20) then
      (s.updTime (fun t => { t with
        ppsHigh := true, ppsEnd := s.now + s.rd R.TIME_CFG.PPS_WIDTH_US * 1000, ppsRise := some (s.epoch, s.rackNs / 1000000000),
        ppsSkip := false })).drive (.pin "PPS_OUT" true)
    else s)

/-- PPS_OUT_FALL (R344). -/
def execPpsOutFall (s : State) : Host.Outcome State Fault Refusal :=
  fin s (if s.time.ppsHigh && s.due s.time.ppsEnd then
      (s.updTime (fun t => { t with ppsHigh := false })).drive (.pin "PPS_OUT" false)
    else s)

/-- ANCHOR_UPDATE (R335): every 1 ms while the fast counter runs. -/
def execAnchorUpdate (s : State) : Host.Outcome State Fault Refusal :=
  fin s (if s.time.fastRun && decide (s.rd R.TIME_ANCHOR_NS + 1000000 ≤ s.epoch) then s.anchor else s)

/-- TIME_ALARM_EXPIRY (R337). -/
def execTimeAlarmExpiry (s : State) : Host.Outcome State Fault Refusal := fin s s.alarmCheck

/-- TIME_ALARM_WRITE (R337): a value already past fires in the cycle after the write. -/
def execTimeAlarmWrite (w : CsrWr) (s : State) : Host.Outcome State Fault Refusal := fin s (s.alarmWrite w)

/-- TIME_CAPTURE (R347). -/
def execTimeCapture (w : CsrWr) (s : State) : Host.Outcome State Fault Refusal := fin s (s.captureWrite w)

end Sys2Proof.Machine
end

