-- ==== Sys2Proof/Machine/Watch.lean ====
section
/-! DEFINITION. The commands of Watch: events, grace timers, resets and their windows, acknowledgements, its registers (15_watch_faults.md). -/

namespace Sys2Proof.Machine

/-- FAULT_EVENT (R351): the events of one cycle, in ascending source order. -/
def execFaultEvent (evs : List FaultEv) (s : State) : Host.Outcome State Fault Refusal :=
  let ok := evs.filter (fun e => decide (1 ≤ e.cls) && decide (e.cls ≤ 4))
  fin s ((List.range 310).foldl (fun s n => (ok.filter (fun e => e.src == n)).foldl (fun s e => s.reportAt e none) s) s)

/-- CE_WINDOW_ROLLOVER (R350). -/
def execCeWindowRollover (s : State) : Host.Outcome State Fault Refusal := fin s (if s.coreOn then s.ceRoll else s)

/-- A source's grace timer has run out (R352). -/
def State.graceOver (s : State) (n : Nat) : State :=
  match Tab.get? s.watch.timers n with
  | some t => if s.due t ∧ s.ladder n = Ladder.running then s.takeStep n (s.rd R.WATCH_SRC_STATUS.STEP n + 1) else s
  | none => s

/-- GRACE_TIMER_EXPIRY (R351, R352): the timers of one cycle, in ascending source order. -/
def execGraceTimerExpiry (srcs : List Nat) (s : State) : Host.Outcome State Fault Refusal :=
  fin s (if s.coreOn then ((List.range 310).filter srcs.contains).foldl State.graceOver s else s)

/-- UNIT_RESET_END (R354, R359). -/
def execUnitResetEnd (unit : Nat) (s : State) : Host.Outcome State Fault Refusal :=
  fin s (if s.coreOn ∧ unitUsed unit ∧ s.unitState unit = Unit.resetting then s.unitLeaves unit else s)

/-- RESET_OVERDUE (R354): the unit is still in reset after twice its limit. -/
def execResetOverdue (unit : Nat) (s : State) : Host.Outcome State Fault Refusal :=
  fin s (match Tab.get? s.watch.unitAt unit with
    | some t => if s.coreOn ∧ unitUsed unit ∧ s.unitState unit = Unit.resetting ∧ s.due (t + 2 * unitLimitNs unit) then s.unitOverdue unit else s
    | none => s)

/-- A reaction-shadow window closes: that of a unit, or the package-wide one. -/
def State.closeShadow (s : State) (u : Nat) : State :=
  match s.watch.shadows.find? (fun x => x.unit == u) with
  | some x =>
    match x.closeAt with
    | some t =>
      if !s.due t then s
      else
        let s := s.updWatch (fun w => { w with shadows := w.shadows.filter (fun y => y.unit != u) })
        if u = packageWindow then s.wr R.WATCH_STATUS.WARM_SHADOW 0 else s.wr R.WATCH_RU_STATUS.SHADOW 0 u
    | none => s
  | none => s

/-- SHADOW_WINDOW_CLOSE (R359, R360): 256 names the package-wide window. -/
def execShadowWindowClose (unit : Nat) (s : State) : Host.Outcome State Fault Refusal := fin s (s.closeShadow unit)

/-- WARM_LIMIT_EXPIRY (R356): TRAY_ALARM. -/
def execWarmLimitExpiry (s : State) : Host.Outcome State Fault Refusal :=
  fin s (match s.watch.warmAt with
    | some t =>
      if s.rd R.WATCH_STATUS.WARM_WATCH = 1 ∧ s.due t then
        let s := (s.wr R.WATCH_STATUS.WARM_WATCH 0).updWatch (fun w => { w with warmAt := none })
        (s.logStep noSource 0 5 none noUnit).trayAlarm
      else s
    | none => s)

/-- The reset unit of an address's target; none: 0xFF. -/
def State.targetUnit (s : State) (a : Nat) : Nat :=
  match rangeOf a with
  | .hbm => 48 + (hbmMap s.hbm.loc a).1 / 64
  | .roost => 58 + (roostMap a).ch
  | .tile => groupOf ((a - tileBase) / 0x400000)
  | .csr => (csrUnit (a - csrBase)).getD noUnit
  | _ => noUnit

/-- TIMEOUT_DETECTOR_FIRE (R362): the request completes to its master with an error response, and detector 0 to 3 (Talon dies) or 4 (Mews) raises its event. A request to another package is
Kettle's (R261). -/
def execTimeoutDetectorFire (det : Nat) (m : Master) (kind : AccKind) (addr : Nat) (s : State) : Host.Outcome State Fault Refusal :=
  fin s (if s.coreOn ∧ det < 5 ∧ addr / 2 ^ 50 = s.pkg then
    (s.accFault m kind addr).report (52 + det) Cls.uc Cause.timeout (s.targetUnit (addr % 2 ^ 50))
  else s)

/-! ### Writes of its registers (R353, R356 to R358, R364, R366, R368) -/

/-- ACK_HANDLED. -/
def execAckHandled (w : CsrWr) (s : State) : Host.Outcome State Fault Refusal := fin s (if written w R.WATCH_ACK.CODE = 1 then s.ackWrite w else s)

/-- ACK_EXTEND. -/
def execAckExtend (w : CsrWr) (s : State) : Host.Outcome State Fault Refusal := fin s (if written w R.WATCH_ACK.CODE = 2 then s.ackWrite w else s)

/-- ACK_ADVANCE. -/
def execAckAdvance (w : CsrWr) (s : State) : Host.Outcome State Fault Refusal := fin s (if written w R.WATCH_ACK.CODE = 3 then s.ackWrite w else s)

/-- ALARM_CLEAR. -/
def execAlarmClear (w : CsrWr) (s : State) : Host.Outcome State Fault Refusal :=
  fin s (if written w R.WATCH_ALARM_CLR.CLEAR = 1 then s.alarmClrWrite w else s)

/-- PENDING_CLEAR. -/
def execPendingClear (src : Nat) (w : CsrWr) (s : State) : Host.Outcome State Fault Refusal :=
  fin s (if src < 512 ∧ written w R.WATCH_SRC_STATUS.PENDING = 1 then s.srcStatusWrite src w else s)

/-- SOURCE_CFG_WRITE: a write that forces no event. -/
def execSourceCfgWrite (src : Nat) (w : CsrWr) (s : State) : Host.Outcome State Fault Refusal :=
  fin s (if src < 512 ∧ written w R.WATCH_SRC_CFG.FORCE = 0 then s.srcCfg src w else s)

/-- SOURCE_FORCE: the write of WATCH_SRC_n_CFG that has FORCE 1. -/
def execSourceForce (src : Nat) (w : CsrWr) (s : State) : Host.Outcome State Fault Refusal :=
  fin s (if src < 512 ∧ written w R.WATCH_SRC_CFG.FORCE = 1 then s.srcCfg src w else s)

/-- UNIT_RELEASE. -/
def execUnitRelease (unit : Nat) (w : CsrWr) (s : State) : Host.Outcome State Fault Refusal :=
  fin s (if unit < 256 ∧ written w R.WATCH_RU_CFG.RELEASE = 1 then s.ruCfgWrite unit w else s)

/-- UNIT_RESET. -/
def execUnitReset (unit : Nat) (w : CsrWr) (s : State) : Host.Outcome State Fault Refusal :=
  fin s (if unit < 256 ∧ written w R.WATCH_RU_CFG.RESET = 1 then s.ruCfgWrite unit w else s)

end Sys2Proof.Machine
end

