-- ==== Sys2Proof/Machine/Dispatch.lean ====
section
/-! DEFINITION. The dispatch of a command to its meaning: one arm per constructor of Instr. -/

namespace Sys2Proof.Machine

def exec (i : Instr) (s : State) : Host.Outcome State Fault Refusal :=
  match i with
  | .perchPowerOn addrSel healthOk => Sys2Proof.Machine.execPerchPowerOn addrSel healthOk s
  | .pwrOkRise trayId addrSel => Sys2Proof.Machine.execPwrOkRise trayId addrSel s
  | .pwrOkFall => Sys2Proof.Machine.execPwrOkFall s
  | .corePgRise => Sys2Proof.Machine.execCorePgRise s
  | .corePgFall => Sys2Proof.Machine.execCorePgFall s
  | .pllLock => Sys2Proof.Machine.execPllLock s
  | .bootRomStart d2dFails => Sys2Proof.Machine.execBootRomStart d2dFails s
  | .resetNAssert => Sys2Proof.Machine.execResetNAssert s
  | .resetNRelease => Sys2Proof.Machine.execResetNRelease s
  | .perstNAssert => Sys2Proof.Machine.execPerstNAssert s
  | .perstNRelease => Sys2Proof.Machine.execPerstNRelease s
  | .strapChange trayId addrSel => Sys2Proof.Machine.execStrapChange trayId addrSel s
  | .warmResetStart => Sys2Proof.Machine.execWarmResetStart s
  | .revalidation => Sys2Proof.Machine.execRevalidation s
  | .hbmTrainingDone stack ok ppr => Sys2Proof.Machine.execHbmTrainingDone stack ok ppr s
  | .roostTrainingDone results fig => Sys2Proof.Machine.execRoostTrainingDone results fig s
  | .tileSelfTestDone failed => Sys2Proof.Machine.execTileSelfTestDone failed s
  | .tciReady => Sys2Proof.Machine.execTciReady s
  | .d2dFlitCrcError link onReplay => Sys2Proof.Machine.execD2dFlitCrcError link onReplay s
  | .d2dLinkFailed link => Sys2Proof.Machine.execD2dLinkFailed link s
  | .sqDoorbell q w => Sys2Proof.Machine.execSqDoorbell q w s
  | .rqDoorbell q w => Sys2Proof.Machine.execRqDoorbell q w s
  | .fetchTurn host pcieFail => Sys2Proof.Machine.execFetchTurn host pcieFail s
  | .commandTimeout q tag ridLo => Sys2Proof.Machine.execCommandTimeout q tag ridLo s
  | .coalesceTimer q => Sys2Proof.Machine.execCoalesceTimer q s
  | .onceIdExpiry q rid => Sys2Proof.Machine.execOnceIdExpiry q rid s
  | .adminQpEnable w => Sys2Proof.Machine.execAdminQpEnable w s
  | .adminQpDisable w => Sys2Proof.Machine.execAdminQpDisable w s
  | .nop c => Sys2Proof.Machine.execNop c s
  | .identify c => Sys2Proof.Machine.execIdentify c s
  | .queueCreate c => Sys2Proof.Machine.execQueueCreate c s
  | .queueDelete c => Sys2Proof.Machine.execQueueDelete c s
  | .queueQuery c => Sys2Proof.Machine.execQueueQuery c s
  | .queueModify c => Sys2Proof.Machine.execQueueModify c s
  | .resetWarm c => Sys2Proof.Machine.execResetWarm c s
  | .sessionOpen c => Sys2Proof.Machine.execSessionOpen c s
  | .sessionAppend c => Sys2Proof.Machine.execSessionAppend c s
  | .sessionResume c => Sys2Proof.Machine.execSessionResume c s
  | .sessionPark c => Sys2Proof.Machine.execSessionPark c s
  | .sessionSet c => Sys2Proof.Machine.execSessionSet c s
  | .sessionQuery c => Sys2Proof.Machine.execSessionQuery c s
  | .sessionExport c => Sys2Proof.Machine.execSessionExport c s
  | .sessionImport c => Sys2Proof.Machine.execSessionImport c s
  | .sessionRecover c => Sys2Proof.Machine.execSessionRecover c s
  | .sessionClose c => Sys2Proof.Machine.execSessionClose c s
  | .memCopy c ext => Sys2Proof.Machine.execMemCopy c ext s
  | .memFill c => Sys2Proof.Machine.execMemFill c s
  | .roostStatus c => Sys2Proof.Machine.execRoostStatus c s
  | .roostReclaim c => Sys2Proof.Machine.execRoostReclaim c s
  | .planLoad c ext => Sys2Proof.Machine.execPlanLoad c ext s
  | .planUnload c => Sys2Proof.Machine.execPlanUnload c s
  | .weightsLoad c ext => Sys2Proof.Machine.execWeightsLoad c ext s
  | .kernelRun c => Sys2Proof.Machine.execKernelRun c s
  | .linkStatus c => Sys2Proof.Machine.execLinkStatus c s
  | .linkControlEnable c => Sys2Proof.Machine.execLinkControlEnable c s
  | .linkControlDisable c => Sys2Proof.Machine.execLinkControlDisable c s
  | .linkControlRetrain c => Sys2Proof.Machine.execLinkControlRetrain c s
  | .reduce c => Sys2Proof.Machine.execReduce c s
  | .reduceWait c => Sys2Proof.Machine.execReduceWait c s
  | .pkgDrainStart c => Sys2Proof.Machine.execPkgDrainStart c s
  | .pkgDrainEnd c => Sys2Proof.Machine.execPkgDrainEnd c s
  | .powerQuery c => Sys2Proof.Machine.execPowerQuery c s
  | .powerSetCap c => Sys2Proof.Machine.execPowerSetCap c s
  | .powerStateFlight c => Sys2Proof.Machine.execPowerStateFlight c s
  | .powerStateGlide c => Sys2Proof.Machine.execPowerStateGlide c s
  | .powerStatePerch c => Sys2Proof.Machine.execPowerStatePerch c s
  | .timeQuery c => Sys2Proof.Machine.execTimeQuery c s
  | .keyDomainLoad c ext => Sys2Proof.Machine.execKeyDomainLoad c ext s
  | .keyDomainDelete c => Sys2Proof.Machine.execKeyDomainDelete c s
  | .cryptRekey c ext => Sys2Proof.Machine.execCryptRekey c ext s
  | .cryptStatus c => Sys2Proof.Machine.execCryptStatus c s
  | .jessSetRegion c => Sys2Proof.Machine.execJessSetRegion c s
  | .jessSync c => Sys2Proof.Machine.execJessSync c s
  | .trngRead c => Sys2Proof.Machine.execTrngRead c s
  | .attest c ext => Sys2Proof.Machine.execAttest c ext s
  | .faultQuery c => Sys2Proof.Machine.execFaultQuery c s
  | .faultLogRead c => Sys2Proof.Machine.execFaultLogRead c s
  | .faultClear c => Sys2Proof.Machine.execFaultClear c s
  | .faultInject c => Sys2Proof.Machine.execFaultInject c s
  | .blockReset c => Sys2Proof.Machine.execBlockReset c s
  | .parkEvaluation => Sys2Proof.Machine.execParkEvaluation s
  | .transferStart => Sys2Proof.Machine.execTransferStart s
  | .roostPageTransfer => Sys2Proof.Machine.execRoostPageTransfer s
  | .parkCommitWrite slot => Sys2Proof.Machine.execParkCommitWrite slot s
  | .parkCommitAck slot freed shards => Sys2Proof.Machine.execParkCommitAck slot freed shards s
  | .unparkComplete slot shards => Sys2Proof.Machine.execUnparkComplete slot shards s
  | .unparkDeferTimeout slot => Sys2Proof.Machine.execUnparkDeferTimeout slot s
  | .unparkFrameTimeout slot => Sys2Proof.Machine.execUnparkFrameTimeout slot s
  | .buddyRetryTimer slot => Sys2Proof.Machine.execBuddyRetryTimer slot s
  | .runComplete pass use cycles outs => Sys2Proof.Machine.execRunComplete pass use cycles outs s
  | .runWatchdog pass tile use => Sys2Proof.Machine.execRunWatchdog pass tile use s
  | .runAbortPoint pass seq use => Sys2Proof.Machine.execRunAbortPoint pass seq use s
  | .runDeferTimeout seq => Sys2Proof.Machine.execRunDeferTimeout seq s
  | .dmaDescriptorComplete d => Sys2Proof.Machine.execDmaDescriptorComplete d s
  | .dmaChannelStop d use => Sys2Proof.Machine.execDmaChannelStop d use s
  | .poisonConsumed pass tile off hit use => Sys2Proof.Machine.execPoisonConsumed pass tile off hit use s
  | .tileSramScrub tile off e => Sys2Proof.Machine.execTileSramScrub tile off e s
  | .groupGateIdle => Sys2Proof.Machine.execGroupGateIdle s
  | .groupWakeComplete group => Sys2Proof.Machine.execGroupWakeComplete group s
  | .hbmRequestIngress r => Sys2Proof.Machine.execHbmRequestIngress r s
  | .writeDrainAge stack pc => Sys2Proof.Machine.execWriteDrainAge stack pc s
  | .hbmRequestIssue stack pc notReady wire cells => Sys2Proof.Machine.execHbmRequestIssue stack pc notReady wire cells s
  | .hbmRefreshDue stack pc bank => Sys2Proof.Machine.execHbmRefreshDue stack pc bank s
  | .parityRetry stack pc req => Sys2Proof.Machine.execParityRetry stack pc req s
  | .hbmSpareCmd stack pc w => Sys2Proof.Machine.execHbmSpareCmd stack pc w s
  | .spareCopyComplete stack pc entry => Sys2Proof.Machine.execSpareCopyComplete stack pc entry s
  | .hbmPatrolScrub stack pc loc wire => Sys2Proof.Machine.execHbmPatrolScrub stack pc loc wire s
  | .hbmThermalPoll stack t => Sys2Proof.Machine.execHbmThermalPoll stack t s
  | .rhWindowClear => Sys2Proof.Machine.execRhWindowClear s
  | .hbmSelfRefreshEntry stack => Sys2Proof.Machine.execHbmSelfRefreshEntry stack s
  | .hbmSelfRefreshExit stack => Sys2Proof.Machine.execHbmSelfRefreshExit stack s
  | .orderedContribution m addr op src data poison => Sys2Proof.Machine.execOrderedContribution m addr op src data poison s
  | .ordHoldExpiry addr => Sys2Proof.Machine.execOrdHoldExpiry addr s
  | .hbmGlbLocWrite hi w => Sys2Proof.Machine.execHbmGlbLocWrite hi w s
  | .locPropagationDone => Sys2Proof.Machine.execLocPropagationDone s
  | .hbmPcCfgWrite stack pc w => Sys2Proof.Machine.execHbmPcCfgWrite stack pc w s
  | .hbmStkCfgWrite stack w => Sys2Proof.Machine.execHbmStkCfgWrite stack w s
  | .hbmThermCfgWrite stack w => Sys2Proof.Machine.execHbmThermCfgWrite stack w s
  | .roostRequestIngress r => Sys2Proof.Machine.execRoostRequestIngress r s
  | .roostDrainAge ch sub => Sys2Proof.Machine.execRoostDrainAge ch sub s
  | .roostRequestIssue ch sub notReady wire cells => Sys2Proof.Machine.execRoostRequestIssue ch sub notReady wire cells s
  | .roostRefreshDue ch sub => Sys2Proof.Machine.execRoostRefreshDue ch sub s
  | .roostTempRead ch hot => Sys2Proof.Machine.execRoostTempRead ch hot s
  | .roostPatrolScrub ch sector line wire => Sys2Proof.Machine.execRoostPatrolScrub ch sector line wire s
  | .roostRhWindowClear => Sys2Proof.Machine.execRoostRhWindowClear s
  | .caParityRetry ch sub reqs => Sys2Proof.Machine.execCaParityRetry ch sub reqs s
  | .wrCrcResend ch sub req => Sys2Proof.Machine.execWrCrcResend ch sub req s
  | .roostRetrainCheck bridge temp failed => Sys2Proof.Machine.execRoostRetrainCheck bridge temp failed s
  | .roostSelfRefreshEntry => Sys2Proof.Machine.execRoostSelfRefreshEntry s
  | .roostSelfRefreshExit failed => Sys2Proof.Machine.execRoostSelfRefreshExit failed s
  | .roostChCfgWrite ch w => Sys2Proof.Machine.execRoostChCfgWrite ch w s
  | .cryptEnable w => Sys2Proof.Machine.execCryptEnable w s
  | .sectorTableFillDone => Sys2Proof.Machine.execSectorTableFillDone s
  | .sectorLineRead m addr => Sys2Proof.Machine.execSectorLineRead m addr s
  | .sectorLineWrite m addr data => Sys2Proof.Machine.execSectorLineWrite m addr data s
  | .mergeHoldExpiry sector => Sys2Proof.Machine.execMergeHoldExpiry sector s
  | .rawSectorRead m sector => Sys2Proof.Machine.execRawSectorRead m sector s
  | .rawSectorWrite m sector record cipher => Sys2Proof.Machine.execRawSectorWrite m sector record cipher s
  | .rekeySector => Sys2Proof.Machine.execRekeySector s
  | .jessStageGo w => Sys2Proof.Machine.execJessStageGo w s
  | .jessCheckerApply checker => Sys2Proof.Machine.execJessCheckerApply checker s
  | .jessSyncGo w => Sys2Proof.Machine.execJessSyncGo w s
  | .jessSyncDone => Sys2Proof.Machine.execJessSyncDone s
  | .jessCheckerReload checker => Sys2Proof.Machine.execJessCheckerReload checker s
  | .flitReceive link f => Sys2Proof.Machine.execFlitReceive link f s
  | .replayRequestTimer link => Sys2Proof.Machine.execReplayRequestTimer link s
  | .linkDownTimeout link => Sys2Proof.Machine.execLinkDownTimeout link s
  | .rd link m => Sys2Proof.Machine.execRd link m s
  | .wr link m => Sys2Proof.Machine.execWr link m s
  | .wrMask link m => Sys2Proof.Machine.execWrMask link m s
  | .add link m => Sys2Proof.Machine.execAdd link m s
  | .cmd link m => Sys2Proof.Machine.execCmd link m s
  | .fwd link m => Sys2Proof.Machine.execFwd link m s
  | .buddySec link m => Sys2Proof.Machine.execBuddySec link m s
  | .buddyCommit link m => Sys2Proof.Machine.execBuddyCommit link m s
  | .buddyDel link m => Sys2Proof.Machine.execBuddyDel link m s
  | .claim link m => Sys2Proof.Machine.execClaim link m s
  | .expHdr link m => Sys2Proof.Machine.execExpHdr link m s
  | .expSec link m => Sys2Proof.Machine.execExpSec link m s
  | .impReq link m => Sys2Proof.Machine.execImpReq link m s
  | .rdData link m => Sys2Proof.Machine.execRdData link m s
  | .ack link m => Sys2Proof.Machine.execAck link m s
  | .replyMsg link m => Sys2Proof.Machine.execReplyMsg link m s
  | .fwdReply link m => Sys2Proof.Machine.execFwdReply link m s
  | .relayMessage link m => Sys2Proof.Machine.execRelayMessage link m s
  | .presence link m => Sys2Proof.Machine.execPresence link m s
  | .linkstate link m => Sys2Proof.Machine.execLinkstate link m s
  | .probe link m => Sys2Proof.Machine.execProbe link m s
  | .probeAck link m => Sys2Proof.Machine.execProbeAck link m s
  | .routeFence link m => Sys2Proof.Machine.execRouteFence link m s
  | .fenceAck link m => Sys2Proof.Machine.execFenceAck link m s
  | .leave link m => Sys2Proof.Machine.execLeave link m s
  | .join link m => Sys2Proof.Machine.execJoin link m s
  | .downReq link m => Sys2Proof.Machine.execDownReq link m s
  | .downAck link m => Sys2Proof.Machine.execDownAck link m s
  | .slotSync link m => Sys2Proof.Machine.execSlotSync link m s
  | .tod link m => Sys2Proof.Machine.execTod link m s
  | .wake link m => Sys2Proof.Machine.execWake link m s
  | .ready link m => Sys2Proof.Machine.execReady link m s
  | .responseTimeout tag => Sys2Proof.Machine.execResponseTimeout tag s
  | .linkstateTimer => Sys2Proof.Machine.execLinkstateTimer s
  | .probeRoundTimeout target => Sys2Proof.Machine.execProbeRoundTimeout target s
  | .strandedHoldExpiry target => Sys2Proof.Machine.execStrandedHoldExpiry target s
  | .reprobeTimer target => Sys2Proof.Machine.execReprobeTimer target s
  | .routeFenceTimeout target => Sys2Proof.Machine.execRouteFenceTimeout target s
  | .slotSyncTimeout => Sys2Proof.Machine.execSlotSyncTimeout s
  | .trainingSlotStart link => Sys2Proof.Machine.execTrainingSlotStart link s
  | .linkTrainingComplete link e => Sys2Proof.Machine.execLinkTrainingComplete link e s
  | .presenceTimer => Sys2Proof.Machine.execPresenceTimer s
  | .perchHoldExpiry target => Sys2Proof.Machine.execPerchHoldExpiry target s
  | .wakeResendTimer target => Sys2Proof.Machine.execWakeResendTimer target s
  | .ktlLinkDisable link w => Sys2Proof.Machine.execKtlLinkDisable link w s
  | .ktlLinkEnable link w => Sys2Proof.Machine.execKtlLinkEnable link w s
  | .ktlLinkRetrain link w => Sys2Proof.Machine.execKtlLinkRetrain link w s
  | .pcieConfigRequest fn off => Sys2Proof.Machine.execPcieConfigRequest fn off s
  | .pcieBar0Read off size => Sys2Proof.Machine.execPcieBar0Read off size s
  | .pcieL1Exit => Sys2Proof.Machine.execPcieL1Exit s
  | .coreRelease core w => Sys2Proof.Machine.execCoreRelease core w s
  | .coreReset core w => Sys2Proof.Machine.execCoreReset core w s
  | .amo op wide m addr rs2 => Sys2Proof.Machine.execAmo op wide m addr rs2 s
  | .amofadd wide m addr rs2 => Sys2Proof.Machine.execAmofadd wide m addr rs2 s
  | .loadReserved wide m addr => Sys2Proof.Machine.execLoadReserved wide m addr s
  | .storeConditional wide m addr rs2 => Sys2Proof.Machine.execStoreConditional wide m addr rs2 s
  | .reservationTimeout core => Sys2Proof.Machine.execReservationTimeout core s
  | .fenceW core => Sys2Proof.Machine.execFenceW core s
  | .cboClean m addr => Sys2Proof.Machine.execCboClean m addr s
  | .cboFlush m addr => Sys2Proof.Machine.execCboFlush m addr s
  | .cboInval m addr => Sys2Proof.Machine.execCboInval m addr s
  | .cboZero m addr => Sys2Proof.Machine.execCboZero m addr s
  | .prefetchHint m addr missQueue way => Sys2Proof.Machine.execPrefetchHint m addr missQueue way s
  | .cacheAccess a => Sys2Proof.Machine.execCacheAccess a s
  | .mewsLockWrite idx w => Sys2Proof.Machine.execMewsLockWrite idx w s
  | .lockFillComplete => Sys2Proof.Machine.execLockFillComplete s
  | .cleanAll w => Sys2Proof.Machine.execCleanAll w s
  | .imsicSeteipnum core file w => Sys2Proof.Machine.execImsicSeteipnum core file w s
  | .flashRead w => Sys2Proof.Machine.execFlashRead w s
  | .flashProgram w => Sys2Proof.Machine.execFlashProgram w s
  | .flashErase w => Sys2Proof.Machine.execFlashErase w s
  | .flashCommandDone deviceError => Sys2Proof.Machine.execFlashCommandDone deviceError s
  | .flashProtectWrite w => Sys2Proof.Machine.execFlashProtectWrite w s
  | .creditWindowStart win => Sys2Proof.Machine.execCreditWindowStart win s
  | .dieThermalTrip die tempDc => Sys2Proof.Machine.execDieThermalTrip die tempDc s
  | .perchEntryStart => Sys2Proof.Machine.execPerchEntryStart s
  | .perchEntryTimeout => Sys2Proof.Machine.execPerchEntryTimeout s
  | .wakeTimer => Sys2Proof.Machine.execWakeTimer s
  | .pwrWakeAtWrite w => Sys2Proof.Machine.execPwrWakeAtWrite w s
  | .pwrCapWrite w => Sys2Proof.Machine.execPwrCapWrite w s
  | .pwrCfgWrite which w => Sys2Proof.Machine.execPwrCfgWrite which w s
  | .ppsEdge jitter => Sys2Proof.Machine.execPpsEdge jitter s
  | .holdoverTimeout => Sys2Proof.Machine.execHoldoverTimeout s
  | .slewComplete => Sys2Proof.Machine.execSlewComplete s
  | .ppsOutRise => Sys2Proof.Machine.execPpsOutRise s
  | .ppsOutFall => Sys2Proof.Machine.execPpsOutFall s
  | .anchorUpdate => Sys2Proof.Machine.execAnchorUpdate s
  | .timeAlarmExpiry => Sys2Proof.Machine.execTimeAlarmExpiry s
  | .timeAlarmWrite w => Sys2Proof.Machine.execTimeAlarmWrite w s
  | .timeCapture w => Sys2Proof.Machine.execTimeCapture w s
  | .faultEvent evs => Sys2Proof.Machine.execFaultEvent evs s
  | .ceWindowRollover => Sys2Proof.Machine.execCeWindowRollover s
  | .graceTimerExpiry srcs => Sys2Proof.Machine.execGraceTimerExpiry srcs s
  | .unitResetEnd unit => Sys2Proof.Machine.execUnitResetEnd unit s
  | .resetOverdue unit => Sys2Proof.Machine.execResetOverdue unit s
  | .shadowWindowClose unit => Sys2Proof.Machine.execShadowWindowClose unit s
  | .warmLimitExpiry => Sys2Proof.Machine.execWarmLimitExpiry s
  | .timeoutDetectorFire det m kind addr => Sys2Proof.Machine.execTimeoutDetectorFire det m kind addr s
  | .ackHandled w => Sys2Proof.Machine.execAckHandled w s
  | .ackExtend w => Sys2Proof.Machine.execAckExtend w s
  | .ackAdvance w => Sys2Proof.Machine.execAckAdvance w s
  | .alarmClear w => Sys2Proof.Machine.execAlarmClear w s
  | .pendingClear src w => Sys2Proof.Machine.execPendingClear src w s
  | .sourceCfgWrite src w => Sys2Proof.Machine.execSourceCfgWrite src w s
  | .sourceForce src w => Sys2Proof.Machine.execSourceForce src w s
  | .unitRelease unit w => Sys2Proof.Machine.execUnitRelease unit w s
  | .unitReset unit w => Sys2Proof.Machine.execUnitReset unit w s
  | .tamperEvent sensors bankDone => Sys2Proof.Machine.execTamperEvent sensors bankDone s
  | .trngHealthFail => Sys2Proof.Machine.execTrngHealthFail s
  | .trngHealthRecover => Sys2Proof.Machine.execTrngHealthRecover s
  | .svnAdvance w => Sys2Proof.Machine.execSvnAdvance w s
  | .tamperMaskWrite w => Sys2Proof.Machine.execTamperMaskWrite w s
  | .tapReset => Sys2Proof.Machine.execTapReset s
  | .tapExtest pins update => Sys2Proof.Machine.execTapExtest pins update s
  | .tapIdcode => Sys2Proof.Machine.execTapIdcode s
  | .tapSamplePreload pins update => Sys2Proof.Machine.execTapSamplePreload pins update s
  | .tapClamp => Sys2Proof.Machine.execTapClamp s
  | .tapHighz => Sys2Proof.Machine.execTapHighz s
  | .tapExtestPulse pins update => Sys2Proof.Machine.execTapExtestPulse pins update s
  | .tapExtestTrain pins update => Sys2Proof.Machine.execTapExtestTrain pins update s
  | .tapBypass => Sys2Proof.Machine.execTapBypass s
  | .tapOpen value => Sys2Proof.Machine.execTapOpen value s
  | .openComplete ok => Sys2Proof.Machine.execOpenComplete ok s
  | .tapDbgMem word => Sys2Proof.Machine.execTapDbgMem word s
  | .tgtStatus code whole => Sys2Proof.Machine.execTgtStatus code whole s
  | .mboxStatus => Sys2Proof.Machine.execMboxStatus s
  | .setMode data pec => Sys2Proof.Machine.execSetMode data pec s
  | .mboxWrite count data pec => Sys2Proof.Machine.execMboxWrite count data pec s
  | .mboxRead => Sys2Proof.Machine.execMboxRead s
  | .mboxPop pec => Sys2Proof.Machine.execMboxPop pec s
  | .alertResponse won => Sys2Proof.Machine.execAlertResponse won s
  | .stretchTimeout => Sys2Proof.Machine.execStretchTimeout s
  | .targetBusTimeout => Sys2Proof.Machine.execTargetBusTimeout s
  | .mailboxMove => Sys2Proof.Machine.execMailboxMove s
  | .mailboxReplyStage => Sys2Proof.Machine.execMailboxReplyStage s
  | .mgmtTgtCfgWrite w => Sys2Proof.Machine.execMgmtTgtCfgWrite w s
  | .controllerRound tries meterMw => Sys2Proof.Machine.execControllerRound tries meterMw s
  | .mgmtCtlCfgWrite dev w => Sys2Proof.Machine.execMgmtCtlCfgWrite dev w s
  | .uartRxCharacter n smp => Sys2Proof.Machine.execUartRxCharacter n smp s
  | .uartDataWrite n w => Sys2Proof.Machine.execUartDataWrite n w s
  | .uartDataRead n m size sub => Sys2Proof.Machine.execUartDataRead n m size sub s
  | .uartTxComplete n => Sys2Proof.Machine.execUartTxComplete n s
  | .snapLowerRead m addr => Sys2Proof.Machine.execSnapLowerRead m addr s
  | .snapUpperRead m addr => Sys2Proof.Machine.execSnapUpperRead m addr s
  | .registerWrite addr w => Sys2Proof.Machine.execRegisterWrite addr w s
  | .perchPowerLoss => Sys2Proof.Machine.execPerchPowerLoss s
  | .perchStartupExpiry => Sys2Proof.Machine.execPerchStartupExpiry s
  | .lockLoss link => Sys2Proof.Machine.execLockLoss link s
  | .keeperUp link => Sys2Proof.Machine.execKeeperUp link s
  | .pcieLinkUp => Sys2Proof.Machine.execPcieLinkUp s
  | .coreWfi core => Sys2Proof.Machine.execCoreWfi core s
  | .perchKeeperExpiry => Sys2Proof.Machine.execPerchKeeperExpiry s
  | .linkWithdrawExpiry link => Sys2Proof.Machine.execLinkWithdrawExpiry link s
  | .coreEnLowExpiry => Sys2Proof.Machine.execCoreEnLowExpiry s

end Sys2Proof.Machine
end

