-- ==== Sys2Proof/Machine/Idle.lean ====
section
/-! DEFINITION. What a step does while no command waits. -/

namespace Sys2Proof.Machine

/-- Slots of a controller's queue pass with no data access: its window and turnarounds move on, rows that no request hits close, and owed refreshes are repaid (R152, R157 to R159). -/
def MQueue.rest (q : MQueue) (g : QCfg) (n now : Nat) : MQueue := ((q.idle g n).checkDrain g).closeRows g now

/-- Ten ns at the controllers: five slots of 2 ns at a pseudo-channel, four burst slots of 2.5 ns at a sub-channel, where a stack or channel runs. -/
def State.idleQueues (s : State) : State :=
  let s := s.updHbm (fun h => { h with pcs := h.pcs.map (fun e => if s.stkState (e.1 / 64) = stkReady then (e.1, e.2.rest (s.hcfg (e.1 / 64) (e.1 % 64)) 5 s.now) else e) })
  s.updRoost (fun r => { r with subs := r.subs.map (fun e => if s.chUp (e.1 / 2) ∧ !s.chSleeps (e.1 / 2) then (e.1, e.2.rest (s.rcfg (e.1 / 2)) 4 s.now) else e) })

/-- Ten ns pass: the counters, P_ref, the governor, the controllers' slots and a bridge's retraining move, and what only waits for time or for another block's state is looked at again. -/
def idleTick (s : State) : Host.Outcome State Fault Refusal := fin s ((s.idle.idleQueues.retrainPoll 0).retrainPoll 1).trainStart.mboxPoll.watchStatus.countReplies

end Sys2Proof.Machine
end

