-- ==== Sys2Proof/WellFormed.lean ====
section
/-! DEFINITION. The checks on a command as it is written down: every index within its range, every field within its width. The meanings take any command; one with an index outside its range leaves
the state as it is. -/

namespace Sys2Proof

/-- The master ID has 16 bits (R233). -/
def Master.wf (m : Master) : Bool := decide (m.id < 2 ^ 16)

/-- A write carries 64 bits at most. -/
def CsrWr.wf (w : CsrWr) : Bool := w.m.wf && decide (w.val < 2 ^ 64)

/-- The fields of a command entry have their widths, and its extended block holds whole slots (R64, R467). -/
def Cmd.wf (c : Cmd) : Bool :=
  decide (c.qp < 4096) && decide (c.opcode < 2 ^ 16) && decide (c.flags < 2 ^ 8) && decide (c.pcount < 2 ^ 8) && decide (c.tag < 2 ^ 32) && decide (c.handle < 2 ^ 64)
    && decide (c.timeout < 2 ^ 32) && decide (c.ridLo < 2 ^ 32) && c.params.all (fun p => decide (p < 2 ^ 64)) && c.block.length % 16 == 0
    && (match c.fwdFrom with | some p => decide (p < 64) | none => true)

/-- The fields of a message's header have their widths (table "Header slot"). -/
def KMsg.wf (m : KMsg) : Bool :=
  decide (m.slots < 1024) && decide (m.dest < 64) && decide (m.origin < 64) && decide (m.oclass < 16) && decide (m.cls < 4) && decide (m.tag < 2 ^ 16)
    && decide (m.addr < 2 ^ 64) && decide (m.mask < 2 ^ 64) && m.cmds.all Cmd.wf

/-- The fields of a flit's header have their widths. -/
def Flit.wf (f : Flit) : Bool :=
  decide (f.seq < 256) && decide (f.ack < 256) && decide (f.craPool < 8) && decide (f.crbPool < 8)

/-- A request to a target port names the first byte of a line; a write carries the line. -/
def LineReq.wf (r : LineReq) : Bool :=
  r.m.wf && r.addr % 64 == 0 && (match r.op with | .read => true | _ => r.data.length == 64) && decide (r.mask < 2 ^ 64)

/-- An access at the cache port lies within one line. -/
def CacheAcc.wf (r : CacheAcc) : Bool :=
  r.m.wf && decide (r.addr < 2 ^ 64) && decide (r.way < 16) && decide (r.addr % 64 + (if r.kind = .w then r.data.length else r.len) ≤ 64)

def DmaEv.wf (d : DmaEv) : Bool := decide (d.tile < 384) && decide (d.ch < 4) && d.desc.length == 32

/-- A PEC byte, where one is sent. -/
def pecWf (p : Option Nat) : Bool := match p with | some x => decide (x < 256) | none => true

/-- The sources and classes of Watch. -/
def FaultEv.wf (e : FaultEv) : Bool := decide (e.src < 512) && decide (1 ≤ e.cls) && decide (e.cls ≤ 4) && decide (e.detail < 2 ^ 32)

/-- The checks on a command. -/
def Instr.wf : Instr → Bool
  | .perchPowerOn addrSel _ => decide (addrSel < 4)
  | .pwrOkRise trayId addrSel => decide (trayId < 16) && decide (addrSel < 4)
  | .pwrOkFall => true
  | .corePgRise => true
  | .corePgFall => true
  | .pllLock => true
  | .bootRomStart _ => true
  | .resetNAssert => true
  | .resetNRelease => true
  | .perstNAssert => true
  | .perstNRelease => true
  | .strapChange trayId addrSel => decide (trayId < 16) && decide (addrSel < 4)
  | .warmResetStart => true
  | .revalidation => true
  | .hbmTrainingDone stack _ _ => decide (stack < 8)
  | .roostTrainingDone results fig => results.all (fun r => decide (r.ch < 8) && decide (r.step ≤ 6)) && fig.temps.length == 2
  | .tileSelfTestDone _ => true
  | .tciReady => true
  | .d2dFlitCrcError link _ => decide (link < 10)
  | .d2dLinkFailed link => decide (link < 10)
  | .sqDoorbell q w => decide (q < 4096) && CsrWr.wf w
  | .rqDoorbell q w => decide (q < 4096) && CsrWr.wf w
  | .fetchTurn _ _ => true
  | .commandTimeout q tag _ => decide (q < 4096) && decide (tag < 4294967296)
  | .coalesceTimer q => decide (q < 4096)
  | .onceIdExpiry q _ => decide (q < 4096)
  | .adminQpEnable w => CsrWr.wf w
  | .adminQpDisable w => CsrWr.wf w
  | .nop c => Cmd.wf c
  | .identify c => Cmd.wf c
  | .queueCreate c => Cmd.wf c
  | .queueDelete c => Cmd.wf c
  | .queueQuery c => Cmd.wf c
  | .queueModify c => Cmd.wf c
  | .resetWarm c => Cmd.wf c
  | .sessionOpen c => Cmd.wf c
  | .sessionAppend c => Cmd.wf c
  | .sessionResume c => Cmd.wf c
  | .sessionPark c => Cmd.wf c
  | .sessionSet c => Cmd.wf c
  | .sessionQuery c => Cmd.wf c
  | .sessionExport c => Cmd.wf c
  | .sessionImport c => Cmd.wf c
  | .sessionRecover c => Cmd.wf c
  | .sessionClose c => Cmd.wf c
  | .memCopy c _ => Cmd.wf c
  | .memFill c => Cmd.wf c
  | .roostStatus c => Cmd.wf c
  | .roostReclaim c => Cmd.wf c
  | .planLoad c _ => Cmd.wf c
  | .planUnload c => Cmd.wf c
  | .weightsLoad c _ => Cmd.wf c
  | .kernelRun c => Cmd.wf c
  | .linkStatus c => Cmd.wf c
  | .linkControlEnable c => Cmd.wf c
  | .linkControlDisable c => Cmd.wf c
  | .linkControlRetrain c => Cmd.wf c
  | .reduce c => Cmd.wf c
  | .reduceWait c => Cmd.wf c
  | .pkgDrainStart c => Cmd.wf c
  | .pkgDrainEnd c => Cmd.wf c
  | .powerQuery c => Cmd.wf c
  | .powerSetCap c => Cmd.wf c
  | .powerStateFlight c => Cmd.wf c
  | .powerStateGlide c => Cmd.wf c
  | .powerStatePerch c => Cmd.wf c
  | .timeQuery c => Cmd.wf c
  | .keyDomainLoad c _ => Cmd.wf c
  | .keyDomainDelete c => Cmd.wf c
  | .cryptRekey c _ => Cmd.wf c
  | .cryptStatus c => Cmd.wf c
  | .jessSetRegion c => Cmd.wf c
  | .jessSync c => Cmd.wf c
  | .trngRead c => Cmd.wf c
  | .attest c _ => Cmd.wf c
  | .faultQuery c => Cmd.wf c
  | .faultLogRead c => Cmd.wf c
  | .faultClear c => Cmd.wf c
  | .faultInject c => Cmd.wf c
  | .blockReset c => Cmd.wf c
  | .parkEvaluation => true
  | .transferStart => true
  | .roostPageTransfer => true
  | .parkCommitWrite _ => true
  | .parkCommitAck _ _ _ => true
  | .unparkComplete _ _ => true
  | .unparkDeferTimeout _ => true
  | .unparkFrameTimeout _ => true
  | .buddyRetryTimer _ => true
  | .runComplete _ _ _ _ => true
  | .runWatchdog _ tile _ => decide (tile < 384)
  | .runAbortPoint _ _ _ => true
  | .runDeferTimeout _ => true
  | .dmaDescriptorComplete d => DmaEv.wf d
  | .dmaChannelStop d _ => DmaEv.wf d
  | .poisonConsumed _ tile _ _ _ => decide (tile < 384)
  | .tileSramScrub tile _ _ => decide (tile < 384)
  | .groupGateIdle => true
  | .groupWakeComplete group => decide (group < 48)
  | .hbmRequestIngress r => LineReq.wf r
  | .writeDrainAge stack pc => decide (stack < 8) && decide (pc < 64)
  | .hbmRequestIssue stack pc _ _ _ => decide (stack < 8) && decide (pc < 64)
  | .hbmRefreshDue stack pc _ => decide (stack < 8) && decide (pc < 64)
  | .parityRetry stack pc _ => decide (stack < 8) && decide (pc < 64)
  | .hbmSpareCmd stack pc w => decide (stack < 8) && decide (pc < 64) && CsrWr.wf w
  | .spareCopyComplete stack pc _ => decide (stack < 8) && decide (pc < 64)
  | .hbmPatrolScrub stack pc _ _ => decide (stack < 8) && decide (pc < 64)
  | .hbmThermalPoll stack _ => decide (stack < 8)
  | .rhWindowClear => true
  | .hbmSelfRefreshEntry stack => decide (stack < 8)
  | .hbmSelfRefreshExit stack => decide (stack < 8)
  | .orderedContribution m _ _ src _ _ => Master.wf m && decide (src < 512)
  | .ordHoldExpiry _ => true
  | .hbmGlbLocWrite _ w => CsrWr.wf w
  | .locPropagationDone => true
  | .hbmPcCfgWrite stack pc w => decide (stack < 8) && decide (pc < 64) && CsrWr.wf w
  | .hbmStkCfgWrite stack w => decide (stack < 8) && CsrWr.wf w
  | .hbmThermCfgWrite stack w => decide (stack < 8) && CsrWr.wf w
  | .roostRequestIngress r => LineReq.wf r
  | .roostDrainAge ch sub => decide (ch < 8) && decide (sub < 2)
  | .roostRequestIssue ch sub _ _ _ => decide (ch < 8) && decide (sub < 2)
  | .roostRefreshDue ch sub => decide (ch < 8) && decide (sub < 2)
  | .roostTempRead ch _ => decide (ch < 8)
  | .roostPatrolScrub ch _ _ _ => decide (ch < 8)
  | .roostRhWindowClear => true
  | .caParityRetry ch sub _ => decide (ch < 8) && decide (sub < 2)
  | .wrCrcResend ch sub _ => decide (ch < 8) && decide (sub < 2)
  | .roostRetrainCheck bridge _ _ => decide (bridge < 2)
  | .roostSelfRefreshEntry => true
  | .roostSelfRefreshExit _ => true
  | .roostChCfgWrite ch w => decide (ch < 8) && CsrWr.wf w
  | .cryptEnable w => CsrWr.wf w
  | .sectorTableFillDone => true
  | .sectorLineRead m _ => Master.wf m
  | .sectorLineWrite m _ _ => Master.wf m
  | .mergeHoldExpiry _ => true
  | .rawSectorRead m _ => Master.wf m
  | .rawSectorWrite m _ _ _ => Master.wf m
  | .rekeySector => true
  | .jessStageGo w => CsrWr.wf w
  | .jessCheckerApply checker => decide (checker < 15)
  | .jessSyncGo w => CsrWr.wf w
  | .jessSyncDone => true
  | .jessCheckerReload checker => decide (checker < 15)
  | .flitReceive link f => decide (link < 64) && Flit.wf f
  | .replayRequestTimer link => decide (link < 64)
  | .linkDownTimeout link => decide (link < 64)
  | .rd link m => decide (link < 64) && KMsg.wf m
  | .wr link m => decide (link < 64) && KMsg.wf m
  | .wrMask link m => decide (link < 64) && KMsg.wf m
  | .add link m => decide (link < 64) && KMsg.wf m
  | .cmd link m => decide (link < 64) && KMsg.wf m
  | .fwd link m => decide (link < 64) && KMsg.wf m
  | .buddySec link m => decide (link < 64) && KMsg.wf m
  | .buddyCommit link m => decide (link < 64) && KMsg.wf m
  | .buddyDel link m => decide (link < 64) && KMsg.wf m
  | .claim link m => decide (link < 64) && KMsg.wf m
  | .expHdr link m => decide (link < 64) && KMsg.wf m
  | .expSec link m => decide (link < 64) && KMsg.wf m
  | .impReq link m => decide (link < 64) && KMsg.wf m
  | .rdData link m => decide (link < 64) && KMsg.wf m
  | .ack link m => decide (link < 64) && KMsg.wf m
  | .replyMsg link m => decide (link < 64) && KMsg.wf m
  | .fwdReply link m => decide (link < 64) && KMsg.wf m
  | .relayMessage link m => decide (link < 64) && KMsg.wf m
  | .presence link m => decide (link < 64) && KMsg.wf m
  | .linkstate link m => decide (link < 64) && KMsg.wf m
  | .probe link m => decide (link < 64) && KMsg.wf m
  | .probeAck link m => decide (link < 64) && KMsg.wf m
  | .routeFence link m => decide (link < 64) && KMsg.wf m
  | .fenceAck link m => decide (link < 64) && KMsg.wf m
  | .leave link m => decide (link < 64) && KMsg.wf m
  | .join link m => decide (link < 64) && KMsg.wf m
  | .downReq link m => decide (link < 64) && KMsg.wf m
  | .downAck link m => decide (link < 64) && KMsg.wf m
  | .slotSync link m => decide (link < 64) && KMsg.wf m
  | .tod link m => decide (link < 64) && KMsg.wf m
  | .wake link m => decide (link < 64) && KMsg.wf m
  | .ready link m => decide (link < 64) && KMsg.wf m
  | .responseTimeout tag => decide (tag < 65536)
  | .linkstateTimer => true
  | .probeRoundTimeout target => decide (target < 64)
  | .strandedHoldExpiry target => decide (target < 64)
  | .reprobeTimer target => decide (target < 64)
  | .routeFenceTimeout target => decide (target < 64)
  | .slotSyncTimeout => true
  | .trainingSlotStart link => decide (link < 64)
  | .linkTrainingComplete link _ => decide (link < 64)
  | .presenceTimer => true
  | .perchHoldExpiry target => decide (target < 64)
  | .wakeResendTimer target => decide (target < 64)
  | .ktlLinkDisable link w => decide (link < 64) && CsrWr.wf w
  | .ktlLinkEnable link w => decide (link < 64) && CsrWr.wf w
  | .ktlLinkRetrain link w => decide (link < 64) && CsrWr.wf w
  | .pcieConfigRequest fn _ => decide (fn < 256)
  | .pcieBar0Read _ _ => true
  | .pcieL1Exit => true
  | .coreRelease core w => decide (core < 16) && CsrWr.wf w
  | .coreReset core w => decide (core < 16) && CsrWr.wf w
  | .amo _ _ m _ _ => Master.wf m
  | .amofadd _ m _ _ => Master.wf m
  | .loadReserved _ m _ => Master.wf m
  | .storeConditional _ m _ _ => Master.wf m
  | .reservationTimeout core => decide (core < 16)
  | .fenceW core => decide (core < 16)
  | .cboClean m _ => Master.wf m
  | .cboFlush m _ => Master.wf m
  | .cboInval m _ => Master.wf m
  | .cboZero m _ => Master.wf m
  | .prefetchHint m _ _ _ => Master.wf m
  | .cacheAccess a => CacheAcc.wf a
  | .mewsLockWrite idx w => decide (idx < 9) && CsrWr.wf w
  | .lockFillComplete => true
  | .cleanAll w => CsrWr.wf w
  | .imsicSeteipnum core file w => decide (core < 16) && decide (file < 6) && CsrWr.wf w
  | .flashRead w => CsrWr.wf w
  | .flashProgram w => CsrWr.wf w
  | .flashErase w => CsrWr.wf w
  | .flashCommandDone _ => true
  | .flashProtectWrite w => CsrWr.wf w
  | .creditWindowStart _ => true
  | .dieThermalTrip die _ => decide (die < 4)
  | .perchEntryStart => true
  | .perchEntryTimeout => true
  | .wakeTimer => true
  | .pwrWakeAtWrite w => CsrWr.wf w
  | .pwrCapWrite w => CsrWr.wf w
  | .pwrCfgWrite _ w => CsrWr.wf w
  | .ppsEdge _ => true
  | .holdoverTimeout => true
  | .slewComplete => true
  | .ppsOutRise => true
  | .ppsOutFall => true
  | .anchorUpdate => true
  | .timeAlarmExpiry => true
  | .timeAlarmWrite w => CsrWr.wf w
  | .timeCapture w => CsrWr.wf w
  | .faultEvent evs => evs.all FaultEv.wf
  | .ceWindowRollover => true
  | .graceTimerExpiry _ => true
  | .unitResetEnd unit => decide (unit < 148)
  | .resetOverdue unit => decide (unit < 148)
  | .shadowWindowClose unit => decide (unit < 257)
  | .warmLimitExpiry => true
  | .timeoutDetectorFire det m _ _ => decide (det < 5) && Master.wf m
  | .ackHandled w => CsrWr.wf w
  | .ackExtend w => CsrWr.wf w
  | .ackAdvance w => CsrWr.wf w
  | .alarmClear w => CsrWr.wf w
  | .pendingClear src w => decide (src < 512) && CsrWr.wf w
  | .sourceCfgWrite src w => decide (src < 512) && CsrWr.wf w
  | .sourceForce src w => decide (src < 512) && CsrWr.wf w
  | .unitRelease unit w => decide (unit < 256) && CsrWr.wf w
  | .unitReset unit w => decide (unit < 256) && CsrWr.wf w
  | .tamperEvent _ _ => true
  | .trngHealthFail => true
  | .trngHealthRecover => true
  | .svnAdvance w => CsrWr.wf w
  | .tamperMaskWrite w => CsrWr.wf w
  | .tapReset => true
  | .tapExtest _ _ => true
  | .tapIdcode => true
  | .tapSamplePreload _ _ => true
  | .tapClamp => true
  | .tapHighz => true
  | .tapExtestPulse _ _ => true
  | .tapExtestTrain _ _ => true
  | .tapBypass => true
  | .tapOpen _ => true
  | .openComplete _ => true
  | .tapDbgMem _ => true
  | .tgtStatus code _ => decide (code < 256)
  | .mboxStatus => true
  | .setMode data pec => decide (data < 256) && pecWf pec
  | .mboxWrite count _ pec => decide (count < 256) && pecWf pec
  | .mboxRead => true
  | .mboxPop pec => pecWf pec
  | .alertResponse _ => true
  | .stretchTimeout => true
  | .targetBusTimeout => true
  | .mailboxMove => true
  | .mailboxReplyStage => true
  | .mgmtTgtCfgWrite w => CsrWr.wf w
  | .controllerRound _ _ => true
  | .mgmtCtlCfgWrite dev w => decide (dev.getD 0 < 16) && CsrWr.wf w
  | .uartRxCharacter n _ => decide (n < 2)
  | .uartDataWrite n w => decide (n < 2) && CsrWr.wf w
  | .uartDataRead n m _ sub => decide (n < 2) && Master.wf m && decide (sub < 2)
  | .uartTxComplete n => decide (n < 2)
  | .snapLowerRead m _ => Master.wf m
  | .snapUpperRead m _ => Master.wf m
  | .registerWrite _ w => CsrWr.wf w
  | .perchPowerLoss => true
  | .perchStartupExpiry => true
  | .lockLoss link => decide (link < 64)
  | .keeperUp link => decide (link < 64)
  | .pcieLinkUp => true
  | .coreWfi core => decide (core < 16)
  | .perchKeeperExpiry => true
  | .linkWithdrawExpiry link => decide (link < 64)
  | .coreEnLowExpiry => true

end Sys2Proof
end

