-- ==== Sys2Proof/Safety.lean ====
section
/-! DEFINITION. What counts as a safe state, a package at rest and an admitted access, in the terms that the statements use. -/

namespace Sys2Proof.Machine

/-- The sparse parts of the state are in their one form, so that equal registers and equal memories are equal data. -/
structure State.Canon (s : State) : Prop where
  csr : Tab.wf s.csr = true
  mem : Memory.wf s.mem = true
  poison : setWf s.poison = true

/-- Every command that waits is well formed. -/
def State.QueueWf (s : State) : Prop := ∀ c ∈ s.pending, c.wf = true

/-- Nothing of the package waits on what a command does: the command's own effect is all that its step shows. -/
def State.Rests (s : State) : Prop := s.busy = false

/-- The package rests, and the checks of the CSR space let a write pass. -/
structure State.Admits (s : State) (a : Nat) (w : CsrWr) : Prop where
  rests : s.Rests
  gate : s.csrGate a .w w.m w.size w.sub w.plain = none

/-- The register at `a` takes the value `v`, and the write completes to its master. -/
def State.stored (s : State) (a : Nat) (v : Word) (m : Master) : State := (s.csrPut a v).emit (.done m [])

/-- The value that the register at `a` takes by the access codes of its fields from a write. -/
abbrev State.merged (s : State) (f : RF) (w : CsrWr) (i : Nat := 0) (j : Nat := 0) : Word := s.csrMerged (f.addr i j 0) w

/-- What a step shows of an effect `u` of a command: `u` after all that follows from it in the same step, with the queue of waiting commands that the command found. -/
def State.settledFrom (u s : State) : State := { u.settle with pending := s.pending }

/-- An access of the PCIe host through BAR0 in a package that is up: it also is a wake cause (R335). -/
def State.barEnd (u : State) (m : Master) : State := if m.cls ≠ 5 ∨ m.remote then u else u.wakeBy R.PWR_WAKE_CAUSE.PCIE

/-- A master of the Mews port acts: the cores are on and, where it is a core, it is RUNNING. -/
def State.Runs (s : State) (m : Master) : Prop := s.coreOn = true ∧ ∀ c, coreOf m = some c → s.rd R.MEWS_CORE_STATUS.STATE c = coreRunning

/-- An atomic access of `n` bytes reaches its cache line (R292): its master runs, it is aligned, on local main memory, the checks pass, it waits for no sleeping memory, and the line, unpoisoned, is `c` in the state `t`. -/
structure State.AtomicAt (s : State) (m : Master) (n addr : Nat) (t : State) (c : CLine) : Prop where
  runs : s.Runs m
  aligned : addr % n = 0
  main : addr < 2 ^ 56 → addr / 2 ^ 50 = s.pkg ∧ rangeOf (addr % 2 ^ 50) ≠ .tile ∧ rangeOf (addr % 2 ^ 50) ≠ .csr
  gate : s.coreGate m .a addr n = none
  awake : s.mustWait addr = false
  line : s.useLine m (addr % 2 ^ 50 / 64 * 64) 0 .clean = (t, some c)
  clean : c.poison = false

/-- A message arrives: the cores are on, the link exists and carries the message's kind, the message is well formed, and its destination is this package. -/
structure State.Heard (s : State) (link : Nat) (m : KMsg) : Prop where
  cores : s.coreOn = true
  inRange : link < 64
  open_ : s.hears link m = true
  good : s.msgBad link m = false
  here : m.via = false

/-- The command of opcode `op` that the intake holds, or that is admitted now, is dispatched on this package: the state once it has left the intake, and the command. None: the cores are off, it
waits, it has been answered without dispatch, or it goes to its home package. -/
def State.taken (s : State) (op : Nat) (c : Cmd) : Option (State × ICmd) :=
  let go := fun (s : State) (i : ICmd) =>
    if s.blocked i then none else if (s.dispatch i).isForward { c with opcode := op } then none else some (s.dispatch i, i)
  if !s.coreOn then none
  else match s.tci.intake.find? (fun i => i.c == { c with opcode := op }) with
  | some i => go s i
  | none =>
    match s.admitCmd { c with opcode := op } none with
    | (s, some i) => go s i
    | (_, none) => none

/-- A dispatched command that names no session passes the checks of its HANDLE and of its parameter words (R90, R91). -/
def State.plainOk (u : State) (i : ICmd) : Prop := handleBad i.c = false ∧ u.badParams i.c = false

/-- A dispatched session command finds its session in a slot (R90, R91). -/
def State.finds (u : State) (i : ICmd) (slot : Nat) (x : Session) : Prop :=
  u.sessionFor i.c = .inl slot ∧ u.badParams i.c = false ∧ u.sesAt slot = some x

end Sys2Proof.Machine
end

