-- ==== Sys2Proof/Certificates/Slice0/Obligations.lean ====
section
/-! DEFINITION. The statements about the model: what each family of commands does, what it leaves, and what every step keeps. -/

open Sys2Proof Sys2Proof.Machine

/-- A step is the front command on the state with the queue's rest; with no command waiting it is the ten-ns tick (00_scope.md, 95_what_each_step_holds.md). -/
def Obligations.StepRunsFrontCommand : Prop :=
  (∀ (c : Instr) (rest : List Instr) (s : State), s.pending = c :: rest → step s = exec c { s with pending := rest }) ∧
  (∀ s : State, s.pending = [] → step s = idleTick s)

/-- No command stops the machine: every step answers a next state whose queue is the rest of the queue (00_scope.md, 95_what_each_step_holds.md). -/
def Obligations.EveryStepAnswersAndKeepsTheQueueOrder : Prop :=
  ∀ s : State, ∃ t : State, step s = .next t ∧ t.pending = s.pending.tail

/-- Every waiting command executes: as many steps as commands wait empty the queue, from every state (00_scope.md, 95_what_each_step_holds.md). -/
def Obligations.WaitingCommandsAllExecute : Prop :=
  ∀ (s : State) (n : Nat), n ≤ s.pending.length → ∃ t : State, Sys2Proof.core.run n s = .next t ∧ t.pending = s.pending.drop n

/-- Every step keeps registers, memory and poison marks in their one form, and the queue well formed (00_scope.md, 01_machine.md). -/
def Obligations.CanonicalFormIsKept : Prop :=
  ∀ s t : State, s.Canon → s.QueueWf → step s = .next t → t.Canon ∧ t.QueueWf

/-- The state after reset is in canonical form, has no command waiting and rests (00_scope.md, 13_power_energy.md). -/
def Obligations.ResetStateIsCanonicalAndAtRest : Prop :=
  State.reset.Canon ∧ State.reset.QueueWf ∧ State.reset.pending = [] ∧ State.reset.Rests

/-- A configuration write that the checks and bounds accept stores its value in that register alone and completes (R7, R147, R153, R176, R195, R300, R332, R366, R404, R405). -/
def Obligations.AcceptedConfigurationIsStored : Prop :=
  ∀ (s : State) (w : CsrWr),
    (∀ st p, st < 8 → p < 64 → s.Admits (R.HBM_PC_CFG.addr st p 0) w → pcCfgOk (s.merged R.HBM_PC_CFG w st p) = true →
      exec (.hbmPcCfgWrite st p w) s = .next (s.stored (R.HBM_PC_CFG.addr st p 0) (s.merged R.HBM_PC_CFG w st p) w.m)) ∧
    (∀ st, st < 8 → s.Admits (R.HBM_STK_CFG.addr st 0 0) w → s.stkState st = stkOff →
      exec (.hbmStkCfgWrite st w) s = .next (s.stored (R.HBM_STK_CFG.addr st 0 0) (s.merged R.HBM_STK_CFG w st) w.m)) ∧
    (∀ st, st < 8 → s.Admits (R.HBM_STK_THERM_CFG.addr st 0 0) w → thermCfgOk (s.merged R.HBM_STK_THERM_CFG w st) = true →
      exec (.hbmThermCfgWrite st w) s = .next (s.stored (R.HBM_STK_THERM_CFG.addr st 0 0) (s.merged R.HBM_STK_THERM_CFG w st) w.m)) ∧
    (∀ ch, ch < 8 → s.Admits (R.ROOST_CH_CFG.addr ch 0 0) w → chCfgOk (s.merged R.ROOST_CH_CFG w ch) = true →
      exec (.roostChCfgWrite ch w) s = .next (s.stored (R.ROOST_CH_CFG.addr ch 0 0) (s.merged R.ROOST_CH_CFG w ch) w.m)) ∧
    (s.Admits (R.PWR_CAP.addr 0 0 0) w → exec (.pwrCapWrite w) s = .next (s.stored (R.PWR_CAP.addr 0 0 0) (capClamp (s.merged R.PWR_CAP w)) w.m)) ∧
    (∀ which, s.Admits (cfgAddr which) w → cfgOk which (s.csrMerged (cfgAddr which) w) = true →
      exec (.pwrCfgWrite which w) s = .next (s.stored (cfgAddr which) (s.csrMerged (cfgAddr which) w) w.m)) ∧
    (s.Admits (R.MGMT_TGT_CFG.addr 0 0 0) w → w.m.isWardenF = true → exec (.mgmtTgtCfgWrite w) s = .next (s.stored (R.MGMT_TGT_CFG.addr 0 0 0) (s.merged R.MGMT_TGT_CFG w) w.m)) ∧
    (s.Admits (R.MGMT_CTL_CFG.addr 0 0 0) w → w.m.isWardenF = true → s.ctlCfgOk (s.merged R.MGMT_CTL_CFG w) none = true →
      exec (.mgmtCtlCfgWrite none w) s = .next (s.stored (R.MGMT_CTL_CFG.addr 0 0 0) (s.merged R.MGMT_CTL_CFG w) w.m)) ∧
    (∀ i, i < 16 → s.Admits (R.MGMT_CTL_DEV.addr i 0 0) w → w.m.isWardenF = true →
      s.ctlCfgOk (s.csrAt (R.MGMT_CTL_CFG.addr 0 0 0)) (some (i, s.merged R.MGMT_CTL_DEV w i)) = true →
      exec (.mgmtCtlCfgWrite (some i) w) s = .next (s.stored (R.MGMT_CTL_DEV.addr i 0 0) (s.merged R.MGMT_CTL_DEV w i) w.m)) ∧
    (s.Admits (R.MEWS_FLASH_PROTECT.addr 0 0 0) w → w.m.isWardenF = true →
      exec (.flashProtectWrite w) s = .next (s.stored (R.MEWS_FLASH_PROTECT.addr 0 0 0) (s.merged R.MEWS_FLASH_PROTECT w) w.m)) ∧
    (∀ n, srcUsed n = true → s.Admits (R.WATCH_SRC_CFG.addr n 0 0) w → written w R.WATCH_SRC_CFG.FORCE = 0 → srcCfgOk (s.merged R.WATCH_SRC_CFG w n) = true →
      exec (.sourceCfgWrite n w) s = .next (s.stored (R.WATCH_SRC_CFG.addr n 0 0) (s.merged R.WATCH_SRC_CFG w n) w.m))

/-- After an accepted configuration write the register reads as stored, every other register, all memory and every block as before (R5, R7, R332). -/
def Obligations.WriteReadsBackAndLeavesTheRest : Prop :=
  (∀ (s : State) (a : Nat) (v : Word) (m : Master), s.Canon →
    let t := s.stored a v m
    t.csrAt a = v ∧ (∀ b, b ≠ a → t.csrAt b = s.csrAt b) ∧ (∀ x, t.byteAt x = s.byteAt x) ∧ t = { s with csr := t.csr, out := .done m [] :: s.out }) ∧
  (∀ (s : State) (w : CsrWr), s.Canon → s.Admits (R.PWR_CAP.addr 0 0 0) w →
    ∃ t, exec (.pwrCapWrite w) s = .next t ∧ t.csrAt (R.PWR_CAP.addr 0 0 0) = capClamp (s.merged R.PWR_CAP w)
      ∧ (∀ b, b ≠ R.PWR_CAP.addr 0 0 0 → t.csrAt b = s.csrAt b) ∧ (∀ x, t.byteAt x = s.byteAt x))

/-- A write of HBM_PC_CFG that breaks its bounds is ignored as a whole, sets BAD_CFG and counts (R153). -/
def Obligations.QueueBoundsOfHbmPcCfgAreKept : Prop :=
  ∀ (s : State) (st p : Nat) (w : CsrWr), s.Canon → st < 8 → p < 64 → s.Admits (R.HBM_PC_CFG.addr st p 0) w →
    ¬ ((s.merged R.HBM_PC_CFG w st p).field R.HBM_PC_CFG.WQ_LOW.lo 6 < (s.merged R.HBM_PC_CFG w st p).field R.HBM_PC_CFG.WQ_HIGH.lo 6 ∧
      9 ≤ (s.merged R.HBM_PC_CFG w st p).field R.HBM_PC_CFG.WQ_HIGH.lo 6 ∧ (s.merged R.HBM_PC_CFG w st p).field R.HBM_PC_CFG.WQ_HIGH.lo 6 ≤ 31 ∧
      8 ≤ (s.merged R.HBM_PC_CFG w st p).field R.HBM_PC_CFG.DRAIN_MAX.lo 6 ∧ (s.merged R.HBM_PC_CFG w st p).field R.HBM_PC_CFG.DRAIN_MAX.lo 6 ≤ 63) →
    ∃ t, exec (.hbmPcCfgWrite st p w) s = .next t ∧ t.csrAt (R.HBM_PC_CFG.addr st p 0) = s.csrAt (R.HBM_PC_CFG.addr st p 0) ∧
      t.rd R.HBM_PC_EVENT.BAD_CFG st p = 1 ∧ t.rd R.HBM_PC_BAD_CFG_CNT.COUNT st p = (s.rd R.HBM_PC_BAD_CFG_CNT.COUNT st p + 1) % 2 ^ 32 ∧
      (∀ a, a ≠ R.HBM_PC_EVENT.addr st p 0 → a ≠ R.HBM_PC_BAD_CFG_CNT.addr st p 0 → t.csrAt a = s.csrAt a) ∧
      t = { s with csr := t.csr, out := .done w.m [] :: s.out }

/-- A write of HBM_STK_THERM_CFG that breaks its bounds is ignored whole (R176). -/
def Obligations.ThermalBoundsAreKept : Prop :=
  ∀ (s : State) (st : Nat) (w : CsrWr), st < 8 → s.Admits (R.HBM_STK_THERM_CFG.addr st 0 0) w →
    ¬ (85 ≤ (s.merged R.HBM_STK_THERM_CFG w st).field R.HBM_STK_THERM_CFG.THROTTLE_C.lo 8 ∧
      (s.merged R.HBM_STK_THERM_CFG w st).field R.HBM_STK_THERM_CFG.THROTTLE_C.lo 8 + 2 ≤ (s.merged R.HBM_STK_THERM_CFG w st).field R.HBM_STK_THERM_CFG.STOP_C.lo 8 ∧
      (s.merged R.HBM_STK_THERM_CFG w st).field R.HBM_STK_THERM_CFG.STOP_C.lo 8 ≤ 125 ∧ 1 ≤ (s.merged R.HBM_STK_THERM_CFG w st).field R.HBM_STK_THERM_CFG.HYST.lo 4 ∧
      (s.merged R.HBM_STK_THERM_CFG w st).field R.HBM_STK_THERM_CFG.MIN_DUTY.lo 4 ≠ 1) →
    exec (.hbmThermCfgWrite st w) s = .next (s.emit (.done w.m []))

/-- NOP, IDENTIFY and the queue commands, once dispatched with parameters inside their bounds, act as the admin table states and answer OK (R60, R83, R101, R102, R109). -/
def Obligations.AdminCommandsComplete : Prop :=
  ∀ (s : State) (c : Cmd) (u : State) (i : ICmd), u.plainOk i →
    (s.taken 0x0000 c = some (u, i) → exec (.nop c) s = .next ((u.endRun i.seq Stat.ok 0 0).settledFrom s)) ∧
    (s.taken 0x0001 c = some (u, i) → exec (.identify c) s = .next ((u.endRun i.seq Stat.ok
      (u.rd R.TOP_IDENT.IDCODE + u.rd R.TOP_IDENT.STEPPING * 2 ^ 32 + u.rd R.TOP_POSITION.PKG_ID * 2 ^ 40 + Config.tirloVersion % 65536 * 2 ^ 48)
      (u.rd R.TIME_NONCE)).settledFrom s)) ∧
    (s.taken 0x0002 c = some (u, i) → u.createBad i.c = false → u.createDenied i.c = false →
      exec (.queueCreate c) s = .next (((u.createQp i.c).endRun i.seq Stat.ok).settledFrom s)) ∧
    (s.taken 0x0003 c = some (u, i) → (i.c.p 0 % 4096 = 0 ∨ i.c.p 0 % 4096 = 4095) →
      exec (.queueDelete c) s = .next ((u.endRun i.seq Stat.badParam).settledFrom s)) ∧
    (s.taken 0x0003 c = some (u, i) → i.c.p 0 % 4096 ≠ 0 → i.c.p 0 % 4096 ≠ 4095 → i.c.p 0 % 4096 ≠ i.c.qp → u.qpState (i.c.p 0 % 4096) ≠ qpAbsent →
      exec (.queueDelete c) s = .next (((u.queueDrain (i.c.p 0 % 4096) i.seq).waitOn i.seq .queueDrain (i.c.p 0 % 4096)).settledFrom s)) ∧
    (s.taken 0x0004 c = some (u, i) → (u.cmdPriv i.c ≠ 0 ∨ i.c.p 0 % 4096 = i.c.qp) →
      exec (.queueQuery c) s = .next ((u.endRun i.seq Stat.ok (u.csrAt (R.TCI_QP_ATTR.addr (i.c.p 0 % 4096) 0 0)).toNat
        (u.csrAt (R.TCI_QP_PTR.addr (i.c.p 0 % 4096) 0 0)).toNat).settledFrom s)) ∧
    (s.taken 0x0005 c = some (u, i) → i.c.p 0 % 4096 ≠ 0 → i.c.p 0 % 4096 ≠ 4095 → u.qpState (i.c.p 0 % 4096) ≠ qpAbsent → u.qpState (i.c.p 0 % 4096) ≠ qpErrorSt →
      exec (.queueModify c) s = .next (((((u.wr R.TCI_QP_ATTR.PRIO (i.c.p 1 % 4) (i.c.p 0 % 4096)).wr R.TCI_QP_SIZE.COAL_COUNT (i.c.p 1 / 2 ^ 32 % 2 ^ 16) (i.c.p 0 % 4096)).wr
        R.TCI_QP_SIZE.COAL_TIME (i.c.p 1 / 2 ^ 48 % 2 ^ 16) (i.c.p 0 % 4096)).endRun i.seq Stat.ok).settledFrom s)) ∧
    (s.taken 0x0006 c = some (u, i) → ∃ t : State, exec (.resetWarm c) s = .next (t.settledFrom s) ∧
      t.pwr.warmAt = some (u.now + 100000) ∧ t = { u.endRun i.seq Stat.ok with pwr := t.pwr })

/-- The session commands, once dispatched with parameters inside their bounds, act as the session table states (R33, R36, R39, R42, R50, R51, R54, R55, R108, R110). -/
def Obligations.SessionCommandsComplete : Prop :=
  ∀ (s : State) (c : Cmd) (u : State) (i : ICmd),
    (s.taken 0x0100 c = some (u, i) → u.plainOk i → 1 ≤ i.c.p 0 % 2048 → i.c.p 0 % 2048 ≤ 1024 → parkAfterOk (parkAfterOf (i.c.p 0 / 2 ^ 32)) = true →
      u.buddyOk (i.c.p 1 % 128) = true → u.slotRefused = none →
      exec (.sessionOpen c) s = .next (((u.addSession (fun h => newSession h (i.c.p 0 % 2048) (u.cmdDomain i.c) (parkAfterOf (i.c.p 0 / 2 ^ 32)) (i.c.p 1 % 128))).1.endRun i.seq Stat.ok
        (u.handleOf (u.freeSlot.getD 0) u.ses.gen)).settledFrom s)) ∧
    (∀ slot x, u.finds i slot x →
      (s.taken 0x0102 c = some (u, i) → ∀ t, u.activate slot 0x0102 i.crit = (t, .now) → exec (.sessionResume c) s = .next ((t.endRun i.seq Stat.ok (t.wordOf slot)).settledFrom s)) ∧
      (s.taken 0x0102 c = some (u, i) → ∀ t, u.activate slot 0x0102 i.crit = (t, .later) → exec (.sessionResume c) s = .next ((t.waitOn i.seq .unpark slot).settledFrom s)) ∧
      (s.taken 0x0103 c = some (u, i) → x.gone = false → x.st = .waiting → x.parking = true → exec (.sessionPark c) s = .next ((u.waitOn i.seq .park slot).settledFrom s)) ∧
      (s.taken 0x0103 c = some (u, i) → x.gone = false → x.st = .waiting → x.parking = false → ∀ t, u.startPark slot false = (t, true) →
        exec (.sessionPark c) s = .next ((t.waitOn i.seq .park slot).settledFrom s)) ∧
      (s.taken 0x0104 c = some (u, i) → x.gone = false → i.c.p 0 % 4 = 1 → parkAfterOk (i.c.p 1 % 2 ^ 32) = true →
        exec (.sessionSet c) s = .next (((u.setSes slot { x with parkAfter := i.c.p 1 % 2 ^ 32 }).endRun i.seq Stat.ok).settledFrom s)) ∧
      (s.taken 0x0105 c = some (u, i) → x.closing = false → exec (.sessionQuery c) s = .next ((u.endRun i.seq Stat.ok x.word
        (x.parkAfter + min (x.idleNs u.epoch / 1000000) 0xFFFFFFFF * 2 ^ 32)).settledFrom s)) ∧
      (s.taken 0x0106 c = some (u, i) → x.gone = false → x.st ≠ .exported →
        exec (.sessionExport c) s = .next (((u.beginExport slot).waitOn i.seq .export_ slot (i.c.p 0 % 2 ^ 32)).settledFrom s)) ∧
      (s.taken 0x0109 c = some (u, i) → x.closing = false → exec (.sessionClose c) s = .next (((u.beginClose slot).waitOn i.seq .close slot).settledFrom s)) ∧
      (s.taken 0x0101 c = some (u, i) → x.gone = false → 1 ≤ i.c.p 0 % 2 ^ 25 → i.c.p 0 % 2 ^ 25 ≤ 2 ^ 24 → i.c.p 4 % 2 ^ 25 ≤ 2 ^ 24 →
        x.length + i.c.p 0 % 2 ^ 25 + i.c.p 4 % 2 ^ 25 ≤ 2 ^ 24 →
        (∀ e, u.loadedEntry (i.c.p 2 % 65536) (i.c.p 2 / 65536 % 65536) = some e → e.session = true → e.kinds = appendKinds →
          u.bufsOk i.c [(.r, i.c.p 1, 4 * (i.c.p 0 % 2 ^ 25)), (.w, i.c.p 3, 4 * (i.c.p 4 % 2 ^ 25))] = true →
          ∀ g t v, u.activate slot 0x0101 i.crit = (t, g) → (g = .now ∨ g = .later) →
            t.placeChunks slot (newChunks x.length (x.length + i.c.p 0 % 2 ^ 25 + i.c.p 4 % 2 ^ 25)) = some v →
            exec (.sessionAppend c) s = .next ((v.queueRun (appendRun i slot x.length)).settledFrom s)))) ∧
    (s.taken 0x0107 c = some (u, i) → u.plainOk i → u.buddyOk (i.c.p 1 % 128) = true → u.ses.imports.any (fun j => j.stream == i.c.p 0 % 2 ^ 32) = false → u.slotRefused = none →
      ∀ t, u.enqueue .import_ (i.c.p 0 % 2 ^ 32) importClass [] 0 = (t, true) →
      ∃ v : State, exec (.sessionImport c) s = .next ((v.waitOn i.seq .import_ (i.c.p 0 % 2 ^ 32)).settledFrom s) ∧ v = { t with ses := v.ses } ∧
        v.ses.imports.map (·.stream) = t.ses.imports.map (·.stream) ++ [i.c.p 0 % 2 ^ 32]) ∧
    (s.taken 0x0108 c = some (u, i) → u.badParams i.c = false → ∀ b, u.ses.buddies.find? (fun e => e.handle == i.c.handle) = some b → i.c.qp = 0 →
      natBit (i.c.p 0) 0 = true → u.noSlot = none → u.roostDead = false → b.frames.any u.frameLost = false →
      exec (.sessionRecover c) s = .next (((u.recoverCopy b).1.endRun i.seq Stat.ok (u.recoverCopy b).2).settledFrom s))

/-- The memory and compute commands, once dispatched with lengths and buffers that pass, move, load, unload and run as their tables state (R111, R112, R134, R136, R138). -/
def Obligations.MemoryAndComputeCommandsComplete : Prop :=
  ∀ (s : State) (c : Cmd) (ext : ExtRead) (u : State) (i : ICmd), u.plainOk i →
    (s.taken 0x0200 c = some (u, i) → badLen (i.c.p 2) = false → bufsOverlap (i.c.p 0) (i.c.p 1) (i.c.p 2) = false → i.c.p 3 < 2 →
      u.bufsOk i.c [(.r, i.c.p 0, i.c.p 2), (.w, i.c.p 1, i.c.p 2)] = true → exec (.memCopy c ext) s = .next ((u.startMove i ext (i.c.p 0) (i.c.p 2)).settledFrom s)) ∧
    (s.taken 0x0201 c = some (u, i) → badLen (i.c.p 1) = false → u.bufsOk i.c [(.w, i.c.p 0, i.c.p 1)] = true →
      exec (.memFill c) s = .next ((u.fillMove i).settledFrom s)) ∧
    (s.taken 0x0202 c = some (u, i) → ∃ r0 r1, exec (.roostStatus c) s = .next ((u.endRun i.seq Stat.ok r0 r1).settledFrom s)) ∧
    (s.taken 0x0203 c = some (u, i) → 25 ≤ i.c.p 0 % 128 → i.c.p 0 % 128 ≤ 100 →
      exec (.roostReclaim c) s = .next (((u.reclaim (cdiv (roostCapacity * (i.c.p 0 % 128)) 100)).endRun i.seq Stat.ok
        ((u.reclaim (cdiv (roostCapacity * (i.c.p 0 % 128)) 100)).freeFrames - u.freeFrames)).settledFrom s)) ∧
    (s.taken 0x0300 c = some (u, i) → badLen (i.c.p 1) = false → 4096 ≤ i.c.p 1 → u.bufsOk i.c [(.r, i.c.p 0, i.c.p 1)] = true →
      (u.bufRemote (i.c.p 0) = false → ∀ v img t id, u.gather (u.acting i.c) (i.c.p 0) ext i.cls (i.c.p 1 / 64) 0 = (v, .inr img) →
        v.planInstall img (v.cmdDomain i.c) = (t, .inl id) → exec (.planLoad c ext) s = .next ((t.endRun i.seq Stat.ok id).settledFrom s)) ∧
      (u.bufRemote (i.c.p 0) = true → exec (.planLoad c ext) s = .next ((u.fetchStart i (i.c.p 0) (i.c.p 1)).settledFrom s))) ∧
    (s.taken 0x0301 c = some (u, i) → ∀ p, u.planOf? (i.c.p 0 % 65536) = some p →
      ∃ t : State, exec (.planUnload c) s = .next ((t.waitOn i.seq .plan (i.c.p 0 % 65536)).settledFrom s) ∧ t = { u with talon := t.talon } ∧
        Tab.get? t.talon.plans (i.c.p 0 % 65536) = some { p with unloading := true }) ∧
    (s.taken 0x0302 c = some (u, i) → ∀ p, u.planOf? (i.c.p 0 % 65536) = some p → badLen (i.c.p 2) = false → i.c.p 3 % 64 = 0 →
      i.c.p 3 + i.c.p 2 ≤ p.tiles.length * p.weight → u.bufsOk i.c [(.r, i.c.p 1, i.c.p 2)] = true →
      (u.bufRemote (i.c.p 1) = false → exec (.weightsLoad c ext) s = .next ((u.weightsMove i ext p).settledFrom s)) ∧
      (u.bufRemote (i.c.p 1) = true → exec (.weightsLoad c ext) s = .next ((u.fetchStart i (i.c.p 1) (i.c.p 2)).settledFrom s))) ∧
    (s.taken 0x0303 c = some (u, i) → i.c.handle = 0 → ∀ e, u.loadedEntry (i.c.p 1 % 65536) (i.c.p 1 / 65536 % 65536) = some e → e.session = false →
      kernelBlockOk i.c = true → u.argsOk i.c e (kernelArgs i.c) = true → u.bufsOk i.c (argChecks (argBufs e.kinds (kernelArgs i.c))) = true →
      exec (.kernelRun c) s = .next ((u.queueRun (kernelRun i (kernelArgs i.c) none)).settledFrom s))

/-- The link, collective, drain, power and time commands, once dispatched with legal parameters, act as their tables state (R103, R105, R113, R114, R115, R272, R276, R301, R315, R331, R347). -/
def Obligations.FabricPowerAndTimeCommandsComplete : Prop :=
  ∀ (s : State) (c : Cmd) (u : State) (i : ICmd), u.plainOk i →
    (s.taken 0x0400 c = some (u, i) → exec (.linkStatus c) s = .next ((u.endRun i.seq Stat.ok (u.csrValue (R.KTL_LINK_STATUS.STATE.addr (i.c.p 0 % 64) 0 0)).toNat
      (u.csrAt (R.KTL_LINK_REPLAYS.addr (i.c.p 0 % 64) 0 0)).toNat).settledFrom s)) ∧
    (s.taken 0x0401 c = some (u, i) → c.p 1 = 0 → i.c.p 1 = 0 →
      exec (.linkControlEnable c) s = .next ((((u.wr R.KTL_LINK_CTRL.ENABLE 1 (i.c.p 0 % 64)).linkEnable (i.c.p 0 % 64)).waitOn i.seq .link (i.c.p 0 % 64) 0).settledFrom s)) ∧
    (s.taken 0x0401 c = some (u, i) → c.p 1 = 1 → i.c.p 1 = 1 → u.carries i (i.c.p 0 % 64) = false →
      exec (.linkControlDisable c) s = .next ((((u.wr R.KTL_LINK_CTRL.ENABLE 0 (i.c.p 0 % 64)).withdrawLink (i.c.p 0 % 64) false).waitOn i.seq .link (i.c.p 0 % 64) 1).settledFrom s)) ∧
    (s.taken 0x0401 c = some (u, i) → c.p 1 = 2 → i.c.p 1 = 2 → u.carries i (i.c.p 0 % 64) = false →
      exec (.linkControlRetrain c) s = .next (((u.withdrawLink (i.c.p 0 % 64) true).waitOn i.seq .link (i.c.p 0 % 64) 2).settledFrom s)) ∧
    (s.taken 0x0402 c = some (u, i) → badLen (i.c.p 2) = false → i.c.p 3 % 8 < 5 → u.bufLocal (i.c.p 0) = true → hbmWord (i.c.p 1) (i.c.p 2) = true → i.c.p 4 = 0 →
      u.bufsOk i.c [(.r, i.c.p 0, i.c.p 2), (.a, i.c.p 1, i.c.p 2)] = true → exec (.reduce c) s = .next ((u.reduceMove i).settledFrom s)) ∧
    (s.taken 0x0403 c = some (u, i) → hbmWord (i.c.p 0) 64 = true → u.bufsOk i.c [(.r, i.c.p 0, 8)] = true → u.bufLocal (i.c.p 0) = true →
      exec (.reduceWait c) s = .next ((u.waitOn i.seq .counter).settledFrom s)) ∧
    (s.taken 0x0404 c = some (u, i) → c.p 0 = 1 → ∃ t : State, exec (.pkgDrainStart c) s = .next ((t.waitOn i.seq .drain).settledFrom s) ∧ t.ses.draining = true ∧ t = { u with ses := t.ses }) ∧
    (s.taken 0x0404 c = some (u, i) → c.p 0 = 0 → exec (.pkgDrainEnd c) s = .next ((u.drainEnds.endRun i.seq Stat.ok u.drainCounts).settledFrom s)) ∧
    (s.taken 0x0500 c = some (u, i) → exec (.powerQuery c) s = .next ((u.endRun i.seq Stat.ok u.powerWords.1 u.powerWords.2).settledFrom s)) ∧
    (s.taken 0x0501 c = some (u, i) → 600 ≤ i.c.p 0 % 4096 → i.c.p 0 % 4096 ≤ 2400 →
      exec (.powerSetCap c) s = .next (((u.wr R.PWR_CAP.CAP_W (i.c.p 0 % 4096)).endRun i.seq Stat.ok).settledFrom s)) ∧
    (u.pwr.pstate = .flight ∨ u.pwr.pstate = .glide →
      (s.taken 0x0502 c = some (u, i) → c.p 0 = 0 → i.c.p 0 = 0 →
        ∃ t : State, exec (.powerStateFlight c) s = .next ((t.waitOn i.seq .power).settledFrom s) ∧ t.pwr.pstate = .flight ∧ t = { u with pwr := t.pwr }) ∧
      (s.taken 0x0502 c = some (u, i) → c.p 0 = 1 → i.c.p 0 = 1 →
        ∃ t : State, exec (.powerStateGlide c) s = .next ((t.endRun i.seq Stat.ok).settledFrom s) ∧ t.pwr.pstate = .glide ∧ t = { u with pwr := t.pwr }) ∧
      (s.taken 0x0502 c = some (u, i) → c.p 0 = 2 → i.c.p 0 = 2 → u.perchBusy = false →
        ∃ t : State, exec (.powerStatePerch c) s = .next (t.settledFrom s) ∧ t.pwr.perchAt = some (u.now + 100000) ∧
          t = { u.endRun i.seq Stat.ok with pwr := t.pwr })) ∧
    (s.taken 0x0600 c = some (u, i) → exec (.timeQuery c) s = .next ((u.endRun i.seq Stat.ok (u.timeWords (natBit (i.c.p 0) 0)).1 (u.timeWords (natBit (i.c.p 0) 0)).2).settledFrom s))

/-- The key, Jess, entropy, attestation and fault commands, once dispatched with legal parameters, act as their tables state (R116, R117, R225, R242, R246, R358, R364, R365, R368, R375, R378, R379). -/
def Obligations.KeyAccessAndFaultCommandsComplete : Prop :=
  ∀ (s : State) (c : Cmd) (ext : ExtRead) (u : State) (i : ICmd), u.plainOk i →
    (u.keyDenied i (i.c.p 0 % 4096) = false →
      (s.taken 0x0700 c = some (u, i) → u.secMode = modeNormal → i.c.p 0 % 4096 ≠ 0 → u.domState (i.c.p 0 % 4096) = Dom.empty →
        badBlob (i.c.p 2) = false → u.bufsOk i.c [(.r, i.c.p 1, i.c.p 2)] = true →
        (u.bufRemote (i.c.p 1) = false → ∀ v k, u.blobKeys i ext = (v, .inr k) →
          exec (.keyDomainLoad c ext) s = .next ((((v.wr R.CRYPT_DOM.CURRENT 0 (i.c.p 0 % 4096)).setKey (i.c.p 0 % 4096) false (some k)).endRun i.seq Stat.ok).settledFrom s)) ∧
        (u.bufRemote (i.c.p 1) = true → exec (.keyDomainLoad c ext) s = .next ((u.fetchStart i (i.c.p 1) (i.c.p 2)).settledFrom s))) ∧
      (s.taken 0x0701 c = some (u, i) → i.c.p 0 % 4096 ≠ 0 → u.domainUsed (i.c.p 0 % 4096) = false →
        ∀ v, v = (u.setKey (i.c.p 0 % 4096) false none).setKey (i.c.p 0 % 4096) true none → v.rd R.CRYPT_LOST.VALID = 0 →
        exec (.keyDomainDelete c) s = .next ((v.endRun i.seq Stat.ok).settledFrom s)) ∧
      (s.taken 0x0702 c = some (u, i) → u.secMode = modeNormal → u.rekeyBusy i (i.c.p 0 % 4096) = false → u.domState (i.c.p 0 % 4096) ≠ Dom.empty →
        (i.c.p 0 % 4096 = 0 → i.c.p 1 = 0 → i.c.p 2 = 0 →
          (u.domState 0 = Dom.mixed → exec (.cryptRekey c ext) s = .next ((u.walk0 i 0 (u.rd R.CRYPT_JOURNAL.BOUNDARY)).settledFrom s)) ∧
          (u.domState 0 ≠ Dom.mixed → exec (.cryptRekey c ext) s = .next ((u.rekeyZero i).settledFrom s))) ∧
        (i.c.p 0 % 4096 ≠ 0 → badBlob (i.c.p 2) = false → u.bufsOk i.c [(.r, i.c.p 1, i.c.p 2)] = true →
          (u.bufRemote (i.c.p 1) = false → ∀ v k, u.blobKeys i ext = (v, .inr k) → exec (.cryptRekey c ext) s = .next ((v.rekeyBlob i (i.c.p 0 % 4096) k).settledFrom s)) ∧
          (u.bufRemote (i.c.p 1) = true → exec (.cryptRekey c ext) s = .next ((u.fetchStart i (i.c.p 1) (i.c.p 2)).settledFrom s)))) ∧
      (s.taken 0x0703 c = some (u, i) → exec (.cryptStatus c) s = .next ((u.endRun i.seq Stat.ok
        (u.domState (i.c.p 0 % 4096) + u.rd R.CRYPT_DOM.HIGH_CTR (i.c.p 0 % 4096) * 2 ^ 32)
        (if u.domState (i.c.p 0 % 4096) = Dom.mixed then u.rd R.CRYPT_JOURNAL.BOUNDARY else 0)).settledFrom s))) ∧
    (s.taken 0x0704 c = some (u, i) → i.c.p 1 % 64 = 0 → i.c.p 2 % 64 = 63 → i.c.p 1 < 2 ^ 50 → i.c.p 2 < 2 ^ 50 →
      exec (.jessSetRegion c) s = .next ((u.setRegion i).settledFrom s)) ∧
    (s.taken 0x0705 c = some (u, i) → exec (.jessSync c) s = .next ((u.jessSyncGo.waitOn i.seq .sync (u.jessSyncGo.rd R.JESS_SYNC_SEQ.REQ_SEQ)).settledFrom s)) ∧
    (s.taken 0x0706 c = some (u, i) → u.sec.trngFail = false → u.tampered = false →
      exec (.trngRead c) s = .next ((u.rand64.1.rand64.1.endRun i.seq Stat.ok u.rand64.2 u.rand64.1.rand64.2).settledFrom s)) ∧
    (s.taken 0x0706 c = some (u, i) → (u.sec.trngFail = true ∨ u.tampered = true) → exec (.trngRead c) s = .next ((u.endRun i.seq Stat.faulted).settledFrom s)) ∧
    (s.taken 0x0707 c = some (u, i) → badLen (i.c.p 2) = false → 8192 ≤ i.c.p 2 → u.bufsOk i.c [(.r, i.c.p 0, 64), (.w, i.c.p 1, i.c.p 2)] = true →
      exec (.attest c ext) s = .next ((u.startMove i ext (i.c.p 0) 64).settledFrom s)) ∧
    (srcUsed (i.c.p 0 % 512) = true →
      (s.taken 0x0800 c = some (u, i) → exec (.faultQuery c) s = .next ((u.endRun i.seq Stat.ok (u.csrAt (R.WATCH_SRC_STATUS.PENDING.addr (i.c.p 0 % 512) 0 0)).toNat
        (u.rd R.WATCH_SRC_CE_CNT.COUNT (i.c.p 0 % 512))).settledFrom s)) ∧
      (s.taken 0x0802 c = some (u, i) → exec (.faultClear c) s = .next (((u.clearSource (i.c.p 0 % 512)).endRun i.seq Stat.ok).settledFrom s)) ∧
      (s.taken 0x0803 c = some (u, i) → exec (.faultInject c) s = .next (((u.endRun i.seq Stat.ok).inject (i.c.p 0 % 512)).settledFrom s))) ∧
    (s.taken 0x0801 c = some (u, i) → exec (.faultLogRead c) s = .next ((u.endRun i.seq Stat.ok (u.logEntry (i.c.p 0 % 65536)).1 (u.logEntry (i.c.p 0 % 65536)).2).settledFrom s)) ∧
    (s.taken 0x0804 c = some (u, i) → u.resetReq (i.c.p 0 % 256) = .started →
      exec (.blockReset c) s = .next (((u.waitOn i.seq .unitReset (i.c.p 0 % 256)).requestReset (i.c.p 0 % 256) .command).settledFrom s))

/-- The Roost engine's session events act when their conditions hold: evaluation, transfers, park commit, unpark, deferral and buddy retry (R39, R44, R46, R52, R53, R54, R58, R206). -/
def Obligations.SessionEngineEventsComplete : Prop :=
  ∀ s : State,
    (s.coreOn = true → exec .parkEvaluation s = .next (s.parkEvaluation.settledFrom s)) ∧
    (s.runCount < s.runMax → s.roostUp = true → s.xferRunning = true → ∀ t, s.startFirst (s.xferOrder (fun _ => true)) = (t, true) →
      exec .transferStart s = .next (t.settledFrom s)) ∧
    (s.roostUp = true → ∀ t, (s.roost.xfers.filter s.canStep).find? (fun t => decide (s.roost.rr < t.seq)) = some t → t.kind = .park →
      ∃ u : State, exec .roostPageTransfer s = .next (((u.parkStep t).keepQuarter).settledFrom s) ∧ u.roost.rr = t.seq ∧ u = { s with roost := u.roost } ∧
        u.roost.xfers = s.roost.xfers) ∧
    (∀ slot t x k posB b, s.xfer .park slot = some t → s.sesAt slot = some x → t.running = true → t.committed = false → t.pages = [] → t.ptLeft = 0 → s.roostUp = true →
      (s.domKeys x.domain).pick (s.sealSet x.domain) = some k → posB = s.nextPosB slot x →
      b = commitBytes x (s.nextCommit slot x) (match x.ptFrames with | f :: _ => frameAddr f | [] => 0) (s.rd R.TIME_NONCE) →
      exec (.parkCommitWrite slot) s = .next (((((s.putLine (commitAddr slot posB) (b ++ commitTag k b) false).setSes slot
        { x with recs := x.recs.filter (fun r => r.posB != posB) ++ [{ seq := s.nextCommit slot x, posB := posB, pt := x.ptFrames }] }).putXfer { t with committed := true })).settledFrom s)) ∧
    (∀ slot freed shards t x, s.xfer .park slot = some t → s.sesAt slot = some x → t.committed = true → s.roostUp = true → shardLost x shards = false →
      shardsFollow x shards = true → exec (.parkCommitAck slot freed shards) s = .next ((s.commitAck slot freed shards).settledFrom s)) ∧
    (∀ slot shards t x, s.xfer .unpark slot = some t → s.sesAt slot = some x → t.running = true → t.pages = [] → shardLost x shards = false → shardsFollow x shards = true →
      exec (.unparkComplete slot shards) s = .next ((s.unparked slot x).settledFrom s)) ∧
    (∀ slot x, s.sesAt slot = some x → x.runnable = true → x.unparking = false → x.runnableAt + 100000000 ≤ s.epoch →
      exec (.unparkDeferTimeout slot) s = .next ((((s.dropXfer .unpark slot).deferred).failUnpark slot Stat.deferred (s.deferCode (creditsOf s.xferMw))).settledFrom s)) ∧
    (∀ slot x t, s.sesAt slot = some x → x.framesAt = some t → x.unparking = false → t + 10000000 ≤ s.epoch → s.framesFor (x.pages.map (·.1)) = none →
      exec (.unparkFrameTimeout slot) s = .next (((s.dropXfer .unpark slot).failUnpark slot Stat.busy 14).settledFrom s)) ∧
    (∀ slot x, s.sesAt slot = some x → x.buddyDue = true → x.buddy = .pending → x.buddyTryAt + 1000000000 ≤ s.epoch →
      exec (.buddyRetryTimer slot) s = .next ((s.buddyStart slot).settledFrom s))

/-- The tiles' events act when their conditions hold: completion, watchdog, abort point, deferral, descriptors, poison, scrub, gating (R127, R128, R129, R133, R140, R142, R143, R302, R329). -/
def Obligations.TileEventsComplete : Prop :=
  ∀ s : State,
    (∀ id use cycles outs p q en v, s.talon.passes.find? (fun p => p.id == id) = some p → s.entryOf p.plan p.entry = some en → p.started = true →
      (en.maxCycles = 0 ∨ cycles + p.waited ≤ en.maxCycles) → p.runs.any (fun r => s.hasJobs r.seq) = false → s.takeUse p use = some (v, q) →
      exec (.runComplete id use cycles outs) s = .next (((q.runs.zip (List.range q.runs.length)).foldl
        (fun (w : State) x => w.runDone x.1 en.session (shareUj q.drawn en.session q.positions x.1.positions) (cycles + p.waited) (lget outs x.2 0)) (v.passLeaves q true)).settledFrom s)) ∧
    (∀ id t use p q en v, s.talon.passes.find? (fun p => p.id == id) = some p → s.entryOf p.plan p.entry = some en → en.maxCycles ≠ 0 →
      (p.started = true ∨ en.maxCycles < s.cyclesSince p) → (s.planTiles p.plan).contains t = true → s.takeUse p use = some (v, q) →
      exec (.runWatchdog id t use) s = .next (((v.flag R.TALON_TILE_EVENT.WDOG R.TALON_TILE_WDOG_CNT.COUNT (t / 96) (t % 96)).leavePass q
        (q.runs.map (fun r => r.seq)) Stat.faulted 0).settledFrom s)) ∧
    (∀ id seq use p q r st v, s.talon.passes.find? (fun p => p.id == id) = some p → p.runs.find? (fun r => r.seq == seq) = some r → r.stop = some st → s.hasJobs seq = false →
      s.takeUse p use = some (v, q) → exec (.runAbortPoint id seq use) s = .next ((v.leavePass q [seq] st 0).settledFrom s)) ∧
    (∀ seq r e, s.talon.ready.find? (fun r => r.seq == seq) = some r → s.entryOf r.plan r.entry = some e → e.deferLimit ≠ 0 → r.at_ + 1000 * e.deferLimit ≤ s.epoch →
      exec (.runDeferTimeout seq) s = .next ((((s.setTalon (fun t => { t with ready := t.ready.filter (fun q => q.seq != seq) })).deferred).endRetry seq Stat.deferred
        (s.deferCode (creditsOf (s.passMw r.plan r.entry)))).settledFrom s)) ∧
    (∀ seq i plan entry, s.talon.ready.find? (fun r => r.seq == seq) = none → s.talon.passes.find? (fun p => p.runs.any (fun r => r.seq == seq)) = none →
      s.tci.intake.find? (fun i => i.seq == seq) = some i → runEntry i.c = some (plan, entry) → s.deferDue plan entry i.at_ = true →
      exec (.runDeferTimeout seq) s = .next ((((s.dispatch i).deferred).endRetry seq Stat.deferred (s.deferCode (creditsOf (s.passMw plan entry)))).settledFrom s)) ∧
    (∀ d t j k v, s.dmaPush d = some (t, j, k) → t.dmaFirst j = true → t.dmaWork j k none = (v, .sent) → v.dmaOut j.id = false → (descOf j.desc).signal = true →
      exec (.dmaDescriptorComplete d) s = .next (((v.dropJobs (fun x => x.id == j.id)).bump R.TALON_TILE_DMA.DONE 1 (j.tile / 96) (j.tile % 96) j.ch).settledFrom s)) ∧
    (∀ d use w t j k v e, s.runUse d.seq use = some w → w.dmaPush d = some (t, j, k) → t.dmaFirst j = true → t.dmaWork j k none = (v, .err e) →
      ∃ u : State, u = ((v.wr R.TALON_TILE_DMA.STATE 2 (k.tile / 96) (k.tile % 96) k.ch).wr R.TALON_TILE_DMA.ERR e (k.tile / 96) (k.tile % 96) k.ch).flag
          R.TALON_TILE_EVENT.DMA_ERR R.TALON_TILE_DMA_ERR_CNT.COUNT (k.tile / 96) (k.tile % 96) ∧
        ∀ q r, u.talon.passes.find? (fun q => q.id == k.pass) = some q → q.runs.find? (fun r => r.seq == k.run.seq) = some r →
          exec (.dmaChannelStop d use) s = .next ((u.leavePass q [k.run.seq] (statOfErr e) r.wrote).settledFrom s)) ∧
    (∀ id t off hit use p q v w l, s.talon.passes.find? (fun p => p.id == id) = some p → p.started = true → (s.planTiles p.plan).contains t = true →
      p.runs.any (fun r => hit.contains r.seq) = true → s.takeUse p use = some (v, q) → v.tileLines t 1 off = (w, l, true) →
      exec (.poisonConsumed id t off hit use) s = .next (((q.runs.filter (fun r => hit.contains r.seq)).foldl (fun x r => x.endRun r.seq Stat.faulted r.wrote)
        (((w.report (Src.tileGrp (t / 96) (t % 96)) Cls.uc Cause.poisonConsumed (tileDetail t off)).poisonChannels t hit).leaveRuns q hit)).settledFrom s)) ∧
    (∀ t off, s.Rests → t < 384 → off < 0x400000 → s.rd R.TALON_DIE_SCRUB.PERIOD_H (t / 96) ≠ 0 →
      exec (.tileSramScrub t off .corrected) s = .next (s.bump R.TALON_TILE_CE_CNT.COUNT 1 (t / 96) (t % 96))) ∧
    (s.coreOn = true → s.nextGates ≠ [] → s.stepFree = true → s.refReached false s.nextGates.length = true →
      ∃ u : State, exec .groupGateIdle s = .next ((s.nextGates.foldl State.gateGroup u).settledFrom s) ∧ u.pwr.gateStep = s.now ∧ u = { s with pwr := u.pwr }) ∧
    (∀ g, s.coreOn = true → g < 48 → s.waking g = true → exec (.groupWakeComplete g) s = .next ((s.groupWakeDone g).settledFrom s))

/-- HBM requests enter, issue, retry, drain and refresh when their controller can take them (R151, R152, R157, R159, R167, R183, R184). -/
def Obligations.HbmRequestEventsComplete : Prop :=
  ∀ (s : State) (st p : Nat), st < 8 → p < 64 →
    (∀ r q a, a = r.addr / 64 * 64 → q = { r with addr := a, cls := sourceClass r.m r.cls } → s.decodeGate (portSrc r.m) r.m r.addr 64 = none → rangeOf a = .hbm →
      s.stackOf a = st → s.pcOf a = p → s.unitState (48 + st) = Unit.normal → s.linkCut (masterDie r.m) a = false → s.stkState st = stkReady →
      (s.checker (1 + st)).reloading = false → (s.hq st p).holds (s.hbmReq q 0).2 = false → (viaCache r.m = true ∨ s.jessFails (1 + st) r.m (lineKind r.op) a 64 = none) →
      ∀ v x, (((if viaCache r.m then s else s.ward (lineWard r.op r.mask) a).flushOrd (s.modeAt (1 + st) a).1 a false).hbmReq q (s.modeAt (1 + st) a).1) = (v, x) →
      exec (.hbmRequestIngress r) s = .next ((v.hbmEnter st p x).settledFrom s)) ∧
    (∀ x, s.Rests → (s.hq st p).wq.head? = some x → (s.hq st p).drain = false → x.at_ + 2000 ≤ s.now →
      exec (.writeDrainAge st p) s = .next ((s.bump R.HBM_PC_DRAIN_CNT 1 st p).setHq st p { s.hq st p with drain := true, drained := 0, drains := (s.hq st p).drains + 1 })) ∧
    (∀ notReady w cells v, v = s.decay cells → v.stkState st = stkReady → v.unitState (48 + st) ≠ Unit.resetting →
      (∀ x, (v.hq st p).pick (v.hcfg st p) (v.hbmRows st p) notReady v.now = some x → (x.isMasked = false ∨ (v.hq st p).dirOf x = true) →
        ∀ u r, v.hbmIssueOne st p x w = (u, r) → exec (.hbmRequestIssue st p notReady w cells) s = .next ((u.complete x r).settledFrom s)) ∧
      (∀ x, (v.hq st p).pick (v.hcfg st p) (v.hbmRows st p) notReady v.now = some x → x.isMasked = true → (v.hq st p).dirOf x = false →
        exec (.hbmRequestIssue st p notReady w cells) s = .next ((v.hbmInner st p x w).settledFrom s)) ∧
      ((v.hq st p).pick (v.hcfg st p) (v.hbmRows st p) notReady v.now = none → (v.hq st p).turning (v.hcfg st p) (v.hbmRows st p) v.now = false →
        exec (.hbmRequestIssue st p notReady w cells) s = .next ((v.hqDone st p (v.hq st p)
          (((((v.hq st p).idle (v.hcfg st p)).checkDrain (v.hcfg st p)).refillIngress (v.hcfg st p)).closeRows (v.hcfg st p) v.now)).settledFrom s))) ∧
    (∀ bank step, s.Rests → bank < 16 → s.stkState st = stkReady → step = refreshInterval (s.rd R.HBM_STK_TEMP.BAND st) →
      Tab.get (s.hq st p).dueAt bank (2 * Tab.get s.hbm.readyAt st 0 + step) ≤ 2 * s.now →
      exec (.hbmRefreshDue st p bank) s = .next (s.setHq st p
        ({ s.hq st p with dueAt := Tab.put (s.hq st p).dueAt bank (2 * s.now + step) }.refreshDue bank 2))) ∧
    (∀ req x, s.Rests → ((s.hq st p).rq ++ (s.hq st p).wq).find? (fun x => x.id == req) = some x → (s.hq st p).retry = [] →
      exec (.parityRetry st p req) s = .next ((s.setHq st p { s.hq st p with retry := [(req, 1)] }).flag R.HBM_PC_RAS_EVENT.RETRY R.HBM_PC_RETRY_CNT.COUNT st p)) ∧
    (∀ m addr op src data poison, op < 3 → s.decodeGate (portSrc m) m addr 64 = none → rangeOf (addr / 64 * 64) = .hbm → s.stackOf (addr / 64 * 64) = st →
      s.unitState (48 + st) = Unit.normal → s.linkCut (masterDie m) (addr / 64 * 64) = false → s.stkState st = stkReady → (s.checker (1 + st)).reloading = false →
      (viaCache m = true ∨ s.jessFails (1 + st) m .a (addr / 64 * 64) 64 = none) → (s.modeAt (1 + st) (addr / 64 * 64)).1 ≤ 1 →
      exec (.orderedContribution m addr op src data poison) s = .next ((s.ordSubmit
        [{ m := m, addr := addr / 64 * 64, op := op, src := src % 64, data := data, poison := poison, reply := none, run := none }]).settledFrom s)) ∧
    (∀ a o, Tab.get? s.hbm.ords a = some o → o.last + 1000 * s.rd R.HBM_KITE_CFG.ORD_HOLD_US (s.stackOf a) ≤ s.epoch →
      exec (.ordHoldExpiry a) s = .next ((s.flushOrd (s.modeAt (1 + s.stackOf a) a).1 a true).settledFrom s))

/-- HBM sparing, scrubbing, thermal polls, the disturbance window, self-refresh and the locality map act as their rules state (R149, R160, R169, R170, R173, R174, R179). -/
def Obligations.HbmUpkeepEventsComplete : Prop :=
  ∀ (s : State) (st p : Nat), st < 8 → p < 64 →
    (∀ w, s.csrGate (R.HBM_PC_SPARE_CMD.addr st p 0) .w w.m w.size w.sub w.plain = none → written w R.HBM_PC_SPARE_CMD.GO = 1 → written w R.HBM_PC_SPARE_CMD.ROW < 49152 →
      exec (.hbmSpareCmd st p w) s = .next (((s.spareRow st p (written w R.HBM_PC_SPARE_CMD.BANK) (written w R.HBM_PC_SPARE_CMD.ROW) 1).emit (.done w.m [])).settledFrom s)) ∧
    (∀ e, e < 64 → exec (.spareCopyComplete st p e) s = .next ((s.spareCopied st p e).settledFrom s)) ∧
    (∀ e b row, s.Rests → e < 64 → s.rd R.HBM_PC_SPARE.VALID st p e = 1 → s.rd R.HBM_PC_SPARE.COPYING st p e = 1 → b = s.rd R.HBM_PC_SPARE.BANK st p e →
      row = s.rd R.HBM_PC_SPARE.ROW st p e → (∀ i a, i < 16 → a = hbmUnmap s.hbm.loc st p (row * 2 ^ 14 + ((b ^^^ row) % 16) * 2 ^ 10 + 64 * i) → s.cellErrs a (s.lineKey a) = []) →
      ∃ n, exec (.spareCopyComplete st p e) s = .next ((((List.range 16).foldl
        (fun v _ => (v.updHbm (fun h => { h with seq := h.seq + 1 })).bump R.HBM_PC_RD_CNT 1 st p) s).wr R.HBM_PC_SPARE.COPYING 0 st p e).wr R.HBM_PC_RAS_STATUS.COPYING n st p)) ∧
    (∀ l w, s.Rests → l < 0x30000000 → s.rd R.HBM_STK_SCRUB.PERIOD_H st = 0 → exec (.hbmPatrolScrub st p l w) s = .next s) ∧
    (∀ l w a v u x, l < 0x30000000 → s.rd R.HBM_STK_SCRUB.PERIOD_H st ≠ 0 → s.stkState st = stkReady → s.unitState (48 + st) ≠ Unit.resetting →
      scrubDue (Tab.get? s.hbm.scrubAt (64 * st + p)) (s.rd R.HBM_STK_SCRUB.PERIOD_H st) 12582912 s.now = true → a = hbmUnmap s.hbm.loc st p (l / 64 * 64) →
      v = s.updHbm (fun h => { h with scrubAt := Tab.put h.scrubAt (64 * st + p) s.now }) →
      ((v.decay [(a, w.errs)]).flushOrd (v.modeAt (1 + st) a).1 a false).hbmReq
        { m := ⟨0x9000, .f, false⟩, addr := a, op := .read, cls := .bulk, data := [], mask := 0, poison := false } 0 true = (u, x) → (u.hq st p).holds x = false →
      exec (.hbmPatrolScrub st p l w) s = .next ((u.hbmEnter st p x).settledFrom s)) ∧
    (∀ t, exec (.hbmThermalPoll st t) s = .next ((s.hbmPoll st t).settledFrom s)) ∧
    (s.Rests → s.hbm.rhWin < s.epoch / 32000000 → exec .rhWindowClear s = .next (s.updHbm (fun h =>
      { h with rhWin := s.epoch / 32000000, pcs := h.pcs.map (fun e => (e.1, e.2.clearActs)) }))) ∧
    (s.stkState st = stkReady → exec (.hbmSelfRefreshEntry st) s = .next ((s.hbmSelfRefresh st).settledFrom s)) ∧
    (s.stkState st = stkSelfRefresh → s.rd R.HBM_STK_TEMP.OVERTEMP st = 0 → s.coreOn = true → exec (.hbmSelfRefreshExit st) s = .next ((s.hbmWake st).settledFrom s)) ∧
    (∀ w, s.Admits (R.HBM_GLB_LOC_HI.addr 0 0 0) w → exec (.hbmGlbLocWrite true w) s = .next
      (((s.csrPut (R.HBM_GLB_LOC_HI.addr 0 0 0) (s.merged R.HBM_GLB_LOC_HI w)).wr R.HBM_GLB_LOC_STATUS.PENDING 1).emit (.done w.m []))) ∧
    (∀ w, s.Admits (R.HBM_GLB_LOC_LO.addr 0 0 0) w → exec (.hbmGlbLocWrite false w) s = .next
      (((s.csrPut (R.HBM_GLB_LOC_LO.addr 0 0 0) (s.merged R.HBM_GLB_LOC_LO w)).wr R.HBM_GLB_LOC_STATUS.PENDING 1).emit (.done w.m []))) ∧
    (s.Rests → s.rd R.HBM_GLB_LOC_STATUS.PENDING ≠ 0 → exec .locPropagationDone s = .next ((s.updHbm (fun h =>
      { h with loc := s.rd R.HBM_GLB_LOC_LO + s.rd R.HBM_GLB_LOC_HI.LOC * 2 ^ 64 })).wr R.HBM_GLB_LOC_STATUS.PENDING 0))

/-- A poll of a cool stack that is not throttled sets its temperature and band and nothing else (R174). -/
def Obligations.StackTemperatureIsTakenFromAPoll : Prop :=
  ∀ (s : State) (st c : Nat), s.Canon → s.Rests → st < 8 → c ≤ 150 → s.rd R.HBM_STK_TEMP.OVERTEMP st = 0 → c < s.rd R.HBM_STK_THERM_CFG.THROTTLE_C st →
    c < s.rd R.HBM_STK_THERM_CFG.STOP_C st → s.rd R.HBM_STK_THERM_CFG.THROTTLE_C st < c + s.rd R.HBM_STK_THERM_CFG.HYST st →
    ∃ t : State, exec (.hbmThermalPoll st (some c)) s = .next t ∧ t.rd R.HBM_STK_TEMP.TEMP_C st = c ∧ t.rd R.HBM_STK_TEMP.READ_FAIL st = 0 ∧
      t.rd R.HBM_STK_TEMP.DUTY st = s.rd R.HBM_STK_TEMP.DUTY st ∧ (∀ a, a ≠ R.HBM_STK_TEMP.addr st 0 0 → t.csrAt a = s.csrAt a) ∧ t = { s with csr := t.csr }

/-- Roost requests enter, issue, drain, refresh and retry, and the bridges' upkeep acts, as their rules state (R190, R191, R193, R195, R196, R197, R198, R200, R201). -/
def Obligations.RoostEventsComplete : Prop :=
  ∀ (s : State) (ch sub : Nat), ch < 8 → sub < 2 →
    (∀ r q a mode d, a = r.addr / 64 * 64 → q = { r with addr := a, cls := sourceClass r.m r.cls } → s.decodeGate (portSrc r.m) r.m r.addr 64 = none → rangeOf a = .roost →
      (roostMap a).ch = ch → (roostMap a).sub = sub → s.unitState (56 + ch / 4) = Unit.normal → s.unitState (58 + ch) = Unit.normal → s.linkCut (masterDie r.m) a = false →
      s.chUp ch = true → (s.checker 9).reloading = false → (s.rq ch sub).holds (s.roostReq q 0).2 = false →
      (viaCache r.m = true ∨ s.jessFails 9 r.m (lineKind r.op) a 64 = none) → (if r.m.cls = 8 then (0, 0) else s.modeAt 9 a) = (mode, d) → mode ≠ 2 → (∀ k, r.op ≠ .add k) →
      ∀ v x, (if viaCache r.m then s else s.ward (lineWard r.op r.mask) a).roostReq q mode = (v, x) →
      exec (.roostRequestIngress r) s = .next ((v.roostEnter ch sub x).settledFrom s)) ∧
    (∀ x, s.Rests → (s.rq ch sub).wq.head? = some x → (s.rq ch sub).drain = false → x.at_ + 4000 ≤ s.now →
      exec (.roostDrainAge ch sub) s = .next (s.setRq ch sub { s.rq ch sub with drain := true, drained := 0, drains := (s.rq ch sub).drains + 1 })) ∧
    (∀ notReady w cells v, v = s.decay cells → v.chUp ch = true → v.chSleeps ch = false → v.unitState (56 + ch / 4) ≠ Unit.resetting → v.unitState (58 + ch) ≠ Unit.resetting →
      (∀ x, (v.rq ch sub).pick (v.rcfg ch) .plain notReady v.now = some x → (x.isMasked = false ∨ (v.rq ch sub).dirOf x = true) →
        ∀ u r, v.roostIssueOne ch sub x w = (u, r) → exec (.roostRequestIssue ch sub notReady w cells) s = .next ((u.complete x r).settledFrom s)) ∧
      (∀ x, (v.rq ch sub).pick (v.rcfg ch) .plain notReady v.now = some x → x.isMasked = true → (v.rq ch sub).dirOf x = false →
        exec (.roostRequestIssue ch sub notReady w cells) s = .next ((v.roostInner ch sub x w).settledFrom s)) ∧
      ((v.rq ch sub).pick (v.rcfg ch) .plain notReady v.now = none → exec (.roostRequestIssue ch sub notReady w cells) s = .next ((v.setRq ch sub
        (((((v.rq ch sub).idle (v.rcfg ch)).checkDrain (v.rcfg ch)).refillIngress (v.rcfg ch)).closeRows (v.rcfg ch) v.now)).settledFrom s))) ∧
    (s.Rests → s.chUp ch = true → s.chSleeps ch = false →
      (Tab.get (s.rq ch sub).dueAt 0 (2 * s.roost.upAt + 7800) ≤ 2 * s.now →
        exec (.roostRefreshDue ch sub) s = .next ((s.setRq ch sub ({ s.rq ch sub with
          dueAt := Tab.put (s.rq ch sub).dueAt 0 (2 * s.now + if s.roost.hot.contains ch then 3900 else 7800) }.refreshAll)).wr R.ROOST_CH_STATUS.TREFI_HALF
            (b2n (s.roost.hot.contains ch)) ch)) ∧
      (∀ hot, (Tab.get? s.roost.tempAt ch).any (fun t => decide (s.now < t + 32000000)) = false →
        exec (.roostTempRead ch hot) s = .next (s.updRoost (fun r => { r with
          tempAt := Tab.put r.tempAt ch s.now, hot := if (hot.take 2).any id then sinsert r.hot ch else r.hot.filter (· != ch) })))) ∧
    (∀ req x, s.Rests → ((s.rq ch sub).rq ++ (s.rq ch sub).wq).find? (fun x => some req == some x.id) = some x → Tab.get (s.rq ch sub).retry x.id 0 = 0 →
      exec (.caParityRetry ch sub [req]) s = .next ((s.setRq ch sub { s.rq ch sub with retry := Tab.put (s.rq ch sub).retry x.id 1 }).flag
        R.ROOST_BR_EVENT.CA_PARITY R.ROOST_BR_CAPAR_CNT.COUNT (ch / 4))) ∧
    (∀ req x, s.Rests → (s.rq ch sub).wq.find? (fun x => x.id == req) = some x → Tab.get (s.rq ch sub).crc req 0 = 0 →
      exec (.wrCrcResend ch sub req) s = .next ((s.flag R.ROOST_BR_EVENT.WR_CRC R.ROOST_BR_CRC_CNT.COUNT (ch / 4)).setRq ch sub
        { s.rq ch sub with crc := Tab.put (s.rq ch sub).crc req 1 })) ∧
    (∀ sector line w a v x, sector < 2 ^ 25 → line < 64 → a = roostAddr ch sector line → s.rd R.ROOST_CH_SCRUB.PERIOD_H ch ≠ 0 → s.chUp ch = true → s.chPaused ch = false →
      s.unitState (56 + ch / 4) ≠ Unit.resetting → s.unitState (58 + ch) ≠ Unit.resetting → (s.rq ch (roostMap a).sub).all = [] →
      scrubDue (Tab.get? s.roost.scrubAt ch) (s.rd R.ROOST_CH_SCRUB.PERIOD_H ch) 2147483648 s.now = true →
      ((s.updRoost (fun r => { r with scrubAt := Tab.put r.scrubAt ch s.now })).decay [(a, w.errs)]).roostReq
        { m := ⟨0x9000, .f, false⟩, addr := a, op := .read, cls := .bulk, data := [], mask := 0, poison := false } 0 true = (v, x) →
      exec (.roostPatrolScrub ch sector line w) s = .next ((v.roostEnter ch (roostMap a).sub x).settledFrom s)) ∧
    (s.Rests → s.roost.rhWin < s.epoch / 64000000 → exec .roostRhWindowClear s = .next (s.updRoost (fun r =>
      { r with rhWin := s.epoch / 64000000, subs := r.subs.map (fun e => (e.1, e.2.clearActs)) }))) ∧
    (∀ b, s.Rests → b < 2 → s.rd R.ROOST_BR_STATUS.STATE b = brReady → s.rd R.ROOST_BR_STATUS.TRAIN_TEMP_C b < 256 → Tab.get? s.roost.retrain b = none →
      (Tab.get? s.roost.checkAt b).any (fun t => decide (s.epoch / 128000000 ≤ t)) = false →
      (∀ c, c / 4 = b → Tab.get s.roost.rtFails c 0 = 0 ∧ s.roost.owing.contains c = false) →
      ∀ t, t = s.wr R.ROOST_BR_STATUS.TEMP_C (s.rd R.ROOST_BR_STATUS.TRAIN_TEMP_C b) b → t.rd R.ROOST_BR_STATUS.TRAIN_TEMP_C b = s.rd R.ROOST_BR_STATUS.TRAIN_TEMP_C b →
      exec (.roostRetrainCheck b (s.rd R.ROOST_BR_STATUS.TRAIN_TEMP_C b) []) s = .next (t.updRoost (fun r => { r with checkAt := Tab.put r.checkAt b (s.epoch / 128000000) }))) ∧
    exec .roostSelfRefreshEntry s = .next (s.roostSelfRefresh.settledFrom s) ∧
    (s.coreOn = true → (List.range 8).any s.chSleeps = true → ∃ v : State, exec (.roostSelfRefreshExit []) s = .next (v.settledFrom s) ∧
      v = [0, 1].foldl (fun u b => if u.rd R.ROOST_BR_STATUS.STATE b = brRetain then u.bridgeBack b else u) ((List.range 8).foldl State.roostChWake s))

/-- Admin queue pair enable and disable, doorbells, Jess stage and sync, Crypt enable and link control writes act and complete (R62, R63, R83, R213, R242, R245, R246, R272, R423). -/
def Obligations.QueueAndDoorbellActsComplete : Prop :=
  ∀ (s : State) (w : CsrWr),
    (s.Admits (R.TCI_ADMIN_CFG.addr 0 0 0) w → written w R.TCI_ADMIN_CFG.ENABLE = 1 → s.rd R.TCI_ADMIN_CFG.ENABLE = 0 → (s.merged R.TCI_ADMIN_CFG w).field 0 1 = 1 →
      exec (.adminQpEnable w) s = .next ((((((s.csrPut (R.TCI_ADMIN_CFG.addr 0 0 0) (s.merged R.TCI_ADMIN_CFG w)).adminOn).adminCheck).emit (.done w.m [])).barEnd w.m).settledFrom s)) ∧
    (s.Admits (R.TCI_ADMIN_CFG.addr 0 0 0) w → written w R.TCI_ADMIN_CFG.ENABLE = 0 → s.rd R.TCI_ADMIN_CFG.ENABLE = 1 → (s.merged R.TCI_ADMIN_CFG w).field 0 1 = 0 →
      ∀ v, v = (s.csrAt (R.TCI_ADMIN_CFG.addr 0 0 0)).setField 0 1 0 → v.field 0 1 = 0 →
      exec (.adminQpDisable w) s = .next ((((((s.csrPut (R.TCI_ADMIN_CFG.addr 0 0 0) v).adminOff).adminCheck).emit (.done w.m [])).barEnd w.m).settledFrom s)) ∧
    (∀ q, q < 4096 → s.Admits (R.TCI_DB_SQ.addr q 0 0) w → w.sub = 0 → s.doorbellDrop q w.m (w.val % 65536) (s.sqDepth q) = none →
      exec (.sqDoorbell q w) s = .next ((((((s.wr R.TCI_QP_PTR.SQ_TAIL (w.val % 65536) q).updTci (fun t => { t with pendingMap := sinsert t.pendingMap q }))).emit (.done w.m [])).barEnd w.m).settledFrom s)) ∧
    (∀ q, q < 4096 → s.Admits (R.TCI_DB_RQ.addr q 0 0) w → w.sub = 0 → s.doorbellDrop q w.m (w.val % 65536) (s.rqDepth q) = none →
      exec (.rqDoorbell q w) s = .next ((((s.wr R.TCI_QP_PTR.RQ_HEAD (w.val % 65536) q).emit (.done w.m [])).barEnd w.m).settledFrom s)) ∧
    (s.Admits (R.JESS_STAGE_CMD.addr 0 0 0) w → written w R.JESS_STAGE_CMD.GO = 1 → ∀ n start stop attr, n = written w R.JESS_STAGE_CMD.REGION →
      start = (s.csrAt (R.JESS_STAGE_START.addr 0 0 0)).toNat → stop = (s.csrAt (R.JESS_STAGE_END.addr 0 0 0)).toNat → attr = (s.csrAt (R.JESS_STAGE_ATTR.addr 0 0 0)).toNat →
      stageResult (s.rd R.JESS_REGION_ATTR.LOCK n == 1) start stop (attr / 2 ^ 32 % 4) = 0 →
      ∃ u : State, exec (.jessStageGo w) s = .next ((u.updJess (fun j => { j with commits := j.commits + 1, checkers := (List.range 15).foldl (fun t k => Tab.upd t k .reset (fun c =>
          if c.reloading then c else { c with queue := c.queue ++ [(n, { start := start, stop := stop, attr := attr })] })) j.checkers })).emit (.done w.m [])) ∧
        u = ((((s.wr R.JESS_STAGE_STATUS.RESULT 0).wr R.JESS_REGION_START start n).wr R.JESS_REGION_END stop n).wr R.JESS_REGION_ATTR attr n).bump R.JESS_STAGE_STATUS.COMMITS 1) ∧
    (s.Admits (R.JESS_SYNC.addr 0 0 0) w → written w R.JESS_SYNC.GO = 1 → ∀ n, n = (s.rd R.JESS_SYNC_SEQ.REQ_SEQ + 1) % 2 ^ 32 →
      exec (.jessSyncGo w) s = .next (((s.wr R.JESS_SYNC_SEQ.REQ_SEQ n).updJess (fun j => { j with syncs := j.syncs ++ [(n, j.commits)] })).emit (.done w.m []))) ∧
    (∀ v, v = s.merged R.CRYPT_CTRL w → s.Admits (R.CRYPT_CTRL.addr 0 0 0) w → written w R.CRYPT_CTRL.ENABLE = 1 → v.field R.CRYPT_CTRL.ENABLE.lo 1 = 1 →
      (s.csrPut (R.CRYPT_CTRL.addr 0 0 0) v).rd R.CRYPT_STATUS.STATE = cryptOff →
      exec (.cryptEnable w) s = .next (((s.csrPut (R.CRYPT_CTRL.addr 0 0 0) v).wr R.CRYPT_STATUS.STATE cryptInit).emit (.done w.m []))) ∧
    (∀ n v, n < 64 → v = s.merged R.KTL_LINK_CTRL w n → s.Admits (R.KTL_LINK_CTRL.addr n 0 0) w → (csrMask w).field 0 1 ≠ 0 → v.field 0 1 = 0 → written w R.KTL_LINK_CTRL.ENABLE = 0 →
      exec (.ktlLinkDisable n w) s = .next ((((s.csrPut (R.KTL_LINK_CTRL.addr n 0 0) v).withdrawLink n false).emit (.done w.m [])).settledFrom s)) ∧
    (∀ n v, n < 64 → v = s.merged R.KTL_LINK_CTRL w n → s.Admits (R.KTL_LINK_CTRL.addr n 0 0) w → (csrMask w).field 0 1 ≠ 0 → v.field 0 1 = 1 → written w R.KTL_LINK_CTRL.ENABLE = 1 →
      (written w R.KTL_LINK_CTRL.RETRAIN = 0 →
        exec (.ktlLinkEnable n w) s = .next ((((s.csrPut (R.KTL_LINK_CTRL.addr n 0 0) v).linkEnable n).emit (.done w.m [])).settledFrom s)) ∧
      (written w R.KTL_LINK_CTRL.RETRAIN = 1 →
        exec (.ktlLinkRetrain n w) s = .next (((((s.csrPut (R.KTL_LINK_CTRL.addr n 0 0) v).linkEnable n).withdrawLink n true).emit (.done w.m [])).settledFrom s)))

/-- Core release and reset, cache locks, clean-all, interrupt-file writes and the three flash commands act and complete (R281, R282, R295, R297, R299, R354). -/
def Obligations.CoreCacheAndFlashActsComplete : Prop :=
  ∀ (s : State) (w : CsrWr),
    (∀ c, c < 16 → s.Admits (R.MEWS_CORE_CTRL.addr c 0 0) w → w.m.isWardenF = true → written w R.MEWS_CORE_CTRL.RELEASE = 1 → written w R.MEWS_CORE_CTRL.RESET ≠ 1 →
      s.rd R.MEWS_CORE_STATUS.STATE c = coreHalted →
      exec (.coreRelease c w) s = .next ((((s.wr R.MEWS_CORE_STATUS.STATE coreRunning c).tenantServe c).emit (.done w.m [])).settledFrom s)) ∧
    (∀ c, c < 16 → s.Admits (R.MEWS_CORE_CTRL.addr c 0 0) w → w.m.isWardenF = true → written w R.MEWS_CORE_CTRL.RELEASE ≠ 1 → written w R.MEWS_CORE_CTRL.RESET = 1 →
      exec (.coreReset c w) s = .next (((s.requestReset (132 + c) .register).emit (.done w.m [])).settledFrom s)) ∧
    (∀ i v, i < 9 → v = s.csrMerged (lockAddr i) w → s.Admits (lockAddr i) w →
      ((lockOf v).en = false → exec (.mewsLockWrite i w) s = .next (((((s.unlock (i + 1)).csrPut (lockAddr i) v).updMews (fun m => { m with filling := m.filling.filter (fun j => j != i) })).emit
        (.done w.m [])).settledFrom s)) ∧
      ((lockOf v).en = true → s.lockRefused i (lockOf v) = false →
        exec (.mewsLockWrite i w) s = .next (((((s.unlock (i + 1)).csrPut (lockAddr i) v).updMews (fun m => { m with filling := sinsert m.filling i })).emit (.done w.m [])).settledFrom s)) ∧
      ((lockOf v).en = true → s.lockRefused i (lockOf v) = true →
        exec (.mewsLockWrite i w) s = .next ((s.flag R.MEWS_EVENT.LOCK_REFUSED R.MEWS_LOCK_REF_CNT.COUNT).emit (.done w.m [])))) ∧
    (s.Admits (R.MEWS_CACHE_MAINT.addr 0 0 0) w → written w R.MEWS_CACHE_MAINT.CLEAN_ALL = 1 →
      exec (.cleanAll w) s = .next (((s.mews.cache.foldl (fun s e => s.cleanLine e.1) s).emit (.done w.m [])).settledFrom s)) ∧
    (∀ c f id, c < 16 → f < 6 → s.Admits (R.MEWS_IMSIC.addr c f 0) w → written w R.MEWS_IMSIC.SETEIPNUM_LE = id → written w R.MEWS_IMSIC.SETEIPNUM_BE = 0 →
      1 ≤ id → id ≤ 2047 → s.rd R.MEWS_CORE_STATUS.STATE c ≠ 2 →
      exec (.imsicSeteipnum c f w) s = .next ((s.updMews (fun m => { m with imsic := Tab.put m.imsic (16 * c + f) (sinsert (s.pendingIds c f) id) })).emit (.done w.m []))) ∧
    (∀ op u, s.Admits (R.MEWS_FLASH_CMD.addr 0 0 0) w → w.m.isWardenF = true → written w R.MEWS_FLASH_CMD.GO = 1 → written w R.MEWS_FLASH_CMD.OP = op →
      s.rd R.MEWS_FLASH_STATUS.BUSY = 0 →
      u = (((((s.wr R.MEWS_FLASH_STATUS.BUSY 1).wr R.MEWS_FLASH_STATUS.ERR 0).wr R.MEWS_FLASH_STATUS.STATE 1).updMews (fun m => { m with
          flashCmd := some { op := op, addr := s.rd R.MEWS_FLASH_ADDR.ADDR, buf := s.rd R.MEWS_FLASH_BUF.BUF * 64, len := s.rd R.MEWS_FLASH_LEN.LEN } })).emit (.done w.m [])) →
      (op = 0 → exec (.flashRead w) s = .next u) ∧ (op = 1 → exec (.flashProgram w) s = .next u) ∧ (op = 2 → exec (.flashErase w) s = .next u))

/-- Watch acknowledgements, clears, forces and unit controls, the wake and alarm times and the time capture act and complete (R306, R337, R347, R353, R354, R356, R357, R358, R364). -/
def Obligations.WatchAndTimeActsComplete : Prop :=
  ∀ (s : State) (w : CsrWr),
    (∀ n v, s.Admits (R.WATCH_ACK.addr 0 0 0) w → n = written w R.WATCH_ACK.SOURCE → srcUsed n = true → s.ladder n = Ladder.running → (csrMask w).field 0 1 ≠ 0 →
      v = (fun code => s.wlog n (Tab.get s.watch.cls n Cls.de) false false 2 code (some (s.rd R.WATCH_SRC_STATUS.PRIMARY_SEQ n)) 0) →
      (written w R.WATCH_ACK.CODE = 1 → exec (.ackHandled w) s = .next ((((v 1).endLadder Ladder.handled n).emit (.done w.m [])).settledFrom s)) ∧
      (written w R.WATCH_ACK.CODE = 2 → s.rd R.WATCH_SRC_STATUS.EXTENDS n < 3 →
        exec (.ackExtend w) s = .next (((((v 2).bump R.WATCH_SRC_STATUS.EXTENDS 1 n).updWatch (fun x => { x with
          timers := Tab.put x.timers n ((v 2).now + (v 2).grace (Tab.get s.watch.cls n Cls.de)) })).emit (.done w.m [])).settledFrom s)) ∧
      (written w R.WATCH_ACK.CODE = 3 → exec (.ackAdvance w) s = .next ((((v 3).takeStep n ((v 3).rd R.WATCH_SRC_STATUS.STEP n + 1)).emit (.done w.m [])).settledFrom s))) ∧
    (s.Admits (R.WATCH_ALARM_CLR.addr 0 0 0) w → written w R.WATCH_ALARM_CLR.CLEAR = 1 →
      (s.rd R.WATCH_STATUS.ALARM = 0 → exec (.alarmClear w) s = .next (s.emit (.done w.m []))) ∧
      (s.rd R.WATCH_STATUS.ALARM ≠ 0 → exec (.alarmClear w) s = .next (((s.wr R.WATCH_STATUS.ALARM 0).emit (.pin "FAULT_N" true)).emit (.done w.m [])))) ∧
    (∀ n, s.Admits (R.WATCH_SRC_STATUS.addr n 0 0) w → srcUsed n = true → written w R.WATCH_SRC_STATUS.PENDING = 1 →
      ((s.wr R.WATCH_SRC_STATUS.PENDING 0 n).ladder n = Ladder.running → exec (.pendingClear n w) s = .next ((s.wr R.WATCH_SRC_STATUS.PENDING 0 n).emit (.done w.m []))) ∧
      ((s.wr R.WATCH_SRC_STATUS.PENDING 0 n).ladder n ≠ Ladder.running →
        exec (.pendingClear n w) s = .next ((((((s.wr R.WATCH_SRC_STATUS.PENDING 0 n).wr R.WATCH_SRC_STATUS.CLASS 0 n).wr R.WATCH_SRC_STATUS.STEP 0 n).wr R.WATCH_SRC_STATUS.LADDER 0 n).wr
          R.WATCH_SRC_STATUS.EXTENDS 0 n).emit (.done w.m [])))) ∧
    (∀ n v, s.Admits (R.WATCH_SRC_CFG.addr n 0 0) w → srcUsed n = true → written w R.WATCH_SRC_CFG.FORCE = 1 → srcCfgOk (s.merged R.WATCH_SRC_CFG w n) = true →
      v = s.csrPut (R.WATCH_SRC_CFG.addr n 0 0) (s.merged R.WATCH_SRC_CFG w n) →
      exec (.sourceForce n w) s = .next (((v.report n (v.rd R.WATCH_SRC_CFG.INJ_CLASS n) Cause.injected).emit (.done w.m [])).settledFrom s)) ∧
    (∀ n v, s.Admits (R.WATCH_RU_CFG.addr n 0 0) w → unitUsed n = true → v = s.csrPut (R.WATCH_RU_CFG.addr n 0 0) (s.merged R.WATCH_RU_CFG w n) →
      (written w R.WATCH_RU_CFG.RELEASE = 1 → written w R.WATCH_RU_CFG.RESET ≠ 1 → v.unitState n = Unit.quarantined →
        exec (.unitRelease n w) s = .next (((((v.wr R.WATCH_RU_STATUS.STATE Unit.normal n).act (.release n))).emit (.done w.m [])).settledFrom s)) ∧
      (written w R.WATCH_RU_CFG.RELEASE ≠ 1 → written w R.WATCH_RU_CFG.RESET = 1 →
        exec (.unitReset n w) s = .next (((v.requestReset n .register).emit (.done w.m [])).settledFrom s))) ∧
    (∀ v, s.Admits (R.PWR_WAKE_AT.addr 0 0 0) w → v = s.csrPut (R.PWR_WAKE_AT.addr 0 0 0) (s.merged R.PWR_WAKE_AT w) → (v.rd R.PWR_WAKE_AT.ENABLE = 1 → s.time.ticks < v.rd R.PWR_WAKE_AT.TICK) →
      exec (.pwrWakeAtWrite w) s = .next (v.emit (.done w.m []))) ∧
    (∀ v, s.Admits (R.TIME_ALARM.addr 0 0 0) w → v = s.csrPut (R.TIME_ALARM.addr 0 0 0) (s.merged R.TIME_ALARM w) →
      ((v.rd R.TIME_ALARM.ENABLE = 1 → v.epoch < v.rd R.TIME_ALARM.NS) → exec (.timeAlarmWrite w) s = .next (v.emit (.done w.m []))) ∧
      (v.rd R.TIME_ALARM.ENABLE = 1 → v.rd R.TIME_ALARM.NS ≤ v.epoch → v.time.fastRun = true →
        exec (.timeAlarmWrite w) s = .next ((((v.wr R.TIME_ALARM.ENABLE 0).timeEvent R.TIME_EVENT.ALARM R.TIME_ALARM_CNT.COUNT 5).emit (.done w.m [])).settledFrom s))) ∧
    (∀ u : State, s.Admits (R.TIME_CAPTURE.addr 0 0 0) w → written w R.TIME_CAPTURE.GO = 1 → u = (s.wr R.TIME_CAP_EPOCH s.epoch).wr R.TIME_CAP_RACK s.rackNs →
      exec (.timeCapture w) s = .next ((((u.wr R.TIME_CAP_STATUS.QUALITY u.time.quality.code).wr R.TIME_CAP_STATUS.PPS_OUT_ACTIVE (b2n u.ppsActive)).wr R.TIME_CAP_STATUS.UNC_NS u.uncNs).emit
        (.done w.m [])))

/-- SVN advance, tamper mask, UART data, 32-bit halves of SNAP registers and every other register write complete (R7, R10, R11, R372, R380, R390, R411, R413). -/
def Obligations.SecurityConsoleAndRegisterReadsComplete : Prop :=
  ∀ (s : State) (w : CsrWr),
    (s.Admits (R.SEC_SVN_ADVANCE.addr 0 0 0) w → w.m.isWardenF = true → ∀ n, n = written w R.SEC_SVN_ADVANCE.TARGET → n ≤ s.rd R.SEC_STATUS.IMAGE_SVN → n ≤ 64 → s.sec.svn < n →
      exec (.svnAdvance w) s = .next (((s.updSec (fun x => { x with svn := n })).wr R.SEC_STATUS.OTP_SVN n).emit (.done w.m []))) ∧
    (s.Admits (R.SEC_TAMPER_MASK.addr 0 0 0) w → w.m.isWardenF = true → s.portOpen = true →
      ∀ v, v = (s.csrPut (R.SEC_TAMPER_MASK.addr 0 0 0) (s.merged R.SEC_TAMPER_MASK w)) →
      exec (.tamperMaskWrite w) s = .next (((v.sensorsAre (v.rd R.SEC_TAMPER.LIVE) false).emit (.done w.m [])).settledFrom s) ∧
      (s.pwr.pstate ≠ .off → (v.wr R.SEC_TAMPER.LIVE (v.rd R.SEC_TAMPER.LIVE % 32)).liveSensors = 0 →
        exec (.tamperMaskWrite w) s = .next ((v.wr R.SEC_TAMPER.LIVE (v.rd R.SEC_TAMPER.LIVE % 32)).emit (.done w.m [])))) ∧
    (∀ n, n < 2 → s.Admits (R.MGMT_UART_DATA.addr n 0 0) w → (n = 1 ∨ w.m.isWardenF = true) → (csrMask w).field 0 1 ≠ 0 → (s.uart n).tx.length < 64 →
      exec (.uartDataWrite n w) s = .next (((((s.setUart n { s.uart n with tx := (s.uart n).tx ++ [(csrWord w).toNat % 256] }).uartStart n).uartDone n).emit (.done w.m [])).settledFrom s)) ∧
    (∀ n m size b r, n < 2 → s.csrGate (R.MGMT_UART_DATA.addr n 0 0) .r m size 0 true = none → (s.uart n).rx = b :: r →
      exec (.uartDataRead n m size 0) s = .next (((((s.setUart n { s.uart n with rx := r }).uartDone n)).emit (.done m ((leBytes size (b + 256)).map BitVec.toNat))).settledFrom s)) ∧
    (∀ m a r, s.Rests → s.csrGate a .r m 4 0 true = none → findReg a = some r → r.snap = true → R.MGMT_UART_DATA.at1 2 a = none →
      exec (.snapLowerRead m a) s = .next ((s.snapFill a m.id ((s.csrValue a).toNat / 2 ^ 32)).emit (.done m ((leBytes 4 ((s.csrValue a).toNat % 2 ^ 32)).map BitVec.toNat)))) ∧
    (∀ m a r, s.Rests → s.csrGate a .r m 4 4 true = none → findReg a = some r → r.snap = true → R.MGMT_UART_DATA.at1 2 a = none →
      (∀ x, s.snapOf a m.id = some x →
        exec (.snapUpperRead m a) s = .next ({ s with snap := s.snap.filter (fun y => y != x) }.emit (.done m ((leBytes 4 x.upper).map BitVec.toNat)))) ∧
      (s.snapOf a m.id = none → exec (.snapUpperRead m a) s = .next (s.emit (.done m ((leBytes 4 ((s.csrValue a).toNat / 2 ^ 32)).map BitVec.toNat))))) ∧
    (∀ a, s.pwr.pstate ≠ .perch →
      exec (.registerWrite a w) s = .next (((s.csrStore a w).barEnd w.m).settledFrom s) ∧
      (s.Admits a w → w.m.cls ≠ 5 → a / 0x1000000 = 3 → a ≠ R.JESS_STAGE_CMD.base → a ≠ R.JESS_SYNC.base → onlyF a = false →
        exec (.registerWrite a w) s = .next (s.stored a (s.csrMerged a w) w.m)))

/-- A fetch turn, a command's timeout, the coalescing timer and the end of a request ID's memory act when their conditions hold (R66, R68, R72, R74, R75, R77, 03_tci_transport.md). -/
def Obligations.TransportTimersComplete : Prop :=
  ∀ s : State,
    (∀ host q n t cs v u x, s.coreOn = true → s.fetchPick = some q →
      n = (if s.inHost q then min (min s.fetchBurst (min (s.sqWait q) (s.rqFree q))) host.length else min s.fetchBurst (min (s.sqWait q) (s.rqFree q))) → n ≠ 0 →
      (s.fetchServed q).fetchList q n ((s.fetchServed q).rd R.TCI_QP_PTR.SQ_HEAD q) host = (t, cs, true) →
      v = t.wr R.TCI_QP_PTR.SQ_HEAD (((s.fetchServed q).rd R.TCI_QP_PTR.SQ_HEAD q + n) % t.sqDepth q) q →
      u = v.updTci (fun x => { x with reserved := if v.isPush q then x.reserved else Tab.put x.reserved q (Tab.get x.reserved q 0 + n) }) →
      u.sqWait q = 0 → u.isPush q = false → x = (u.updTci (fun t => { t with pendingMap := t.pendingMap.filter (fun p => p != q) })).headShadow q →
      (x.qpState q = qpLive → exec (.fetchTurn host false) s = .next ((x.admitAll (cs.zip (x.slotLinks q ((s.fetchServed q).rd R.TCI_QP_PTR.SQ_HEAD q) n))).settledFrom s)) ∧
      (x.qpState q ≠ qpLive → exec (.fetchTurn host false) s = .next (x.settledFrom s))) ∧
    (∀ q tag rid r, s.tci.running.find? (fun x => (x.i.c.qp == q && x.i.c.fwdFrom.isNone && x.i.c.tag == tag && x.i.c.ridLo == rid && decide (x.i.deadline ≤ s.epoch)) && !x.dead) = some r →
      r.wait ≠ .original → r.i.c.once = false →
      exec (.commandTimeout q tag rid) s = .next (((s.deliver r.i (s.repOf r.i Stat.timeout 0 0 noRetry 0)).killRuns (fun x => x.i.seq == r.i.seq)).settledFrom s)) ∧
    (∀ q n t, Tab.get? s.tci.unsig q = some (n, t) → s.rd R.TCI_QP_SIZE.COAL_TIME q ≠ 0 → t + s.rd R.TCI_QP_SIZE.COAL_TIME q * 1000 ≤ s.epoch →
      exec (.coalesceTimer q) s = .next ((s.raiseQp q).settledFrom s)) ∧
    (∀ q rid e, s.Rests → (Tab.get s.tci.dup q []).find? (fun e => e.rid == rid) = some e → e.at_ + 60000000000 ≤ s.epoch →
      exec (.onceIdExpiry q rid) s = .next (s.updTci (fun t => { t with dup := Tab.upd t.dup q [] (fun l => l.filter (fun e => e.rid != rid)) })))

/-- The sector table fill, line accesses to SECTOR sectors, the merge hold, raw sector accesses and the rekey act as the Crypt engine states (R213, R215, R216, R217, R220, R221, R225, R226, R227, R228). -/
def Obligations.SectorEventsComplete : Prop :=
  ∀ s : State,
    (s.Rests → s.boot.keyTable = true → s.rd R.CRYPT_STATUS.STATE = cryptInit →
      exec .sectorTableFillDone s = .next ((s.updCrypt (fun c => { c with recs := [] })).wr R.CRYPT_STATUS.STATE cryptReadySt)) ∧
    (∀ m addr a d u e, a = addr / 64 * 64 → s.sectorDomain? a = some d → s.cryptReady = true → s.answers 2 a = true → s.asleep a = false → (viaCache m = true ∨ s.jessFails 9 m .r a 64 = none) →
      u = (if viaCache m then s else s.ward (lineWard .read 0) a) → u.mergeOf (secOf a) = some e →
      (∀ l, Tab.get? e.lines (a / 64 % 64) = some l →
        exec (.sectorLineRead m addr) s = .next (((u.mergePut e).emit (.done m (l.map BitVec.toNat))).settledFrom s))) ∧
    (∀ m addr data a d u e, a = addr / 64 * 64 → s.sectorDomain? a = some d → s.cryptReady = true → s.answers 2 a = true → s.asleep a = false → (viaCache m = true ∨ s.jessFails 9 m .w a 64 = none) →
      u = (if viaCache m then s else s.ward (lineWard .write (2 ^ 64 - 1)) a) → u.mergeOf (secOf a) = some e → e.lines ≠ [] →
        exec (.sectorLineWrite m addr data) s = .next ((u.mergePut { e with
          lines := Tab.put e.lines (a / 64 % 64) ((data ++ List.replicate 64 0).take 64), waiters := e.waiters ++ [.master m], domain := d, cls := .norm }).settledFrom s)) ∧
    (∀ sec e, s.mergeOf sec = some e → e.lines ≠ [] → s.cryptReady = true → e.firstAt + clampN 100 10000 (s.rd R.CRYPT_CFG.MERGE_HOLD_NS) ≤ s.now →
      exec (.mergeHoldExpiry sec) s = .next ((s.mergeBack e).settledFrom s)) ∧
    (∀ m sec u l po, sec < 2 ^ 28 → s.rawGate m .r sec = none → (s.mergeSettle sec).rawLoad sec .bulk = (u, l, po) →
      exec (.rawSectorRead m sec) s = .next ((u.answerRead m (l ++ (u.secRec sec).bytes) po).settledFrom s)) ∧
    (∀ m sec rec_ cipher, sec < 2 ^ 28 → rec_.length = 32 → cipher.length = 4096 → s.rawGate m .w sec = none →
      exec (.rawSectorWrite m sec rec_ cipher) s = .next (((((s.wardSector sec).mergeSettle sec).rawStore sec { SecRec.ofBytes rec_ with failed := false } cipher).emit (.done m [])).settledFrom s)) ∧
    (∀ r, s.crypt.rekey = some r → s.cryptReady = true → s.roostUp = true →
      (∀ sec, rekeyNext s.crypt.recs r.domain (s.rd R.CRYPT_JOURNAL.NEW_SET == 1) r.next = some sec →
        exec .rekeySector s = .next (((s.rekeySector r sec).1.updCrypt (fun c => { c with rekey := some (s.rekeySector r sec).2 })).settledFrom s)) ∧
      (rekeyNext s.crypt.recs r.domain (s.rd R.CRYPT_JOURNAL.NEW_SET == 1) r.next = none → exec .rekeySector s = .next ((s.rekeyEnd r).settledFrom s)))

/-- Jess checker events, tamper and entropy-source health act as their rules state (R245, R246, R248, R378, R380). -/
def Obligations.JessAndSecurityEventsComplete : Prop :=
  ∀ s : State,
    (∀ k, s.Rests → k < 15 → (s.checker k).reloading = false →
      exec (.jessCheckerApply k) s = .next (s.updJess (fun j => { j with checkers := Tab.upd j.checkers k .reset Checker.applyOne }))) ∧
    (∀ n need r, s.Rests → s.jess.syncs = (n, need) :: r → (∀ k < 15, (s.checker k).reloading = false ∧ need ≤ (s.checker k).applied) →
      exec .jessSyncDone s = .next ((s.updJess (fun j => { j with syncs := r })).wr R.JESS_SYNC_SEQ.DONE_SEQ n)) ∧
    (∀ k, s.Rests → k < 15 → (s.checker k).reloading = true →
      exec (.jessCheckerReload k) s = .next (s.updJess (fun j => { j with
        checkers := Tab.put j.checkers k { replica := s.masterTable, queue := [], applied := j.commits, reloading := false } }))) ∧
    (∀ sensors bankDone u b, s.pwr.pstate ≠ .off → u = s.wr R.SEC_TAMPER.LIVE (sensors % 32) → b = u.liveSensors → b ≠ 0 → u.tampered = false → u.sec.opening = false →
      exec (.tamperEvent sensors bankDone) s = .next ((((((u.tamperLatch b (lowestBit b)).updSec (fun x => { x with opening := false })).wr R.SEC_PORT.OPEN_BUSY 0).zeroize).hood).settledFrom s)) ∧
    (s.sec.trngFail = false →
      exec .trngHealthFail s = .next ((((s.updSec (fun x => { x with trngFail := true })).flag R.SEC_EVENT.TRNG_HEALTH R.SEC_TRNG_CNT.COUNT).report Src.secTrng Cls.uc
        Cause.trngHealth).settledFrom s)) ∧
    (s.Rests → s.sec.trngFail = true → s.sec.nonceWait = false → s.sec.scrWait = false →
      exec .trngHealthRecover s = .next (s.updSec (fun x => { x with trngFail := false })))

/-- Kettle requests that arrive are served, refused or answered as their kinds state (R29, R36, R54, R55, R62, R65, R80, R108, R180, R257, R259, R260). -/
def Obligations.KettleRequestsComplete : Prop :=
  ∀ (s : State) (n : Nat) (m : KMsg),
    (∀ u a, a = m.addr % 2 ^ 50 → s.Heard n { m with kind := .rd } → KMsg.inBlock { m with kind := .rd } = true → s.kGate { m with kind := .rd } = (u, none) →
      u.kPort (u.modeAt (u.checkerOf a) a).1 a = none → s.asleepIn (a / 64 * 64) (64 * m.lines) = false →
      (∀ t l p, u.kRead (remoteMaster { m with kind := .rd }) (kClass m.cls) m.lines a 0 = (t, some (l, p)) →
        exec (.rd n m) s = .next ((t.answerTo n { m with kind := .rd } { t.newMsg .rdData 0 [] with data := l, poison := p }).settledFrom s)) ∧
      (∀ t, u.kRead (remoteMaster { m with kind := .rd }) (kClass m.cls) m.lines a 0 = (t, none) →
        exec (.rd n m) s = .next ((t.statusTo n { m with kind := .rd } KSt.failed).settledFrom s))) ∧
    (∀ u a mode, a = m.addr % 2 ^ 50 → s.Heard n { m with kind := .wr } → KMsg.inBlock { m with kind := .wr } = true → s.kGate { m with kind := .wr } = (u, none) →
      mode = (u.modeAt (u.checkerOf a) a).1 → u.kPort mode a = none → s.asleepIn (a / 64 * 64) (64 * m.lines) = false →
      (∀ t, u.kWrite (remoteMaster { m with kind := .wr }) (kClass m.cls) (a / 64 * 64) (2 ^ 64 - 1) m.poison (if mode = 2 then [.kettle n { m with kind := .wr }] else [])
          (linesOf m.lines m.data) 0 = (t, true) →
        exec (.wr n m) s = .next ((if mode = 2 then t else t.statusTo n { m with kind := .wr } KSt.ok).settledFrom s)) ∧
      (∀ t, u.kWrite (remoteMaster { m with kind := .wr }) (kClass m.cls) (a / 64 * 64) (2 ^ 64 - 1) m.poison (if mode = 2 then [.kettle n { m with kind := .wr }] else [])
          (linesOf m.lines m.data) 0 = (t, false) →
        exec (.wr n m) s = .next ((t.statusTo n { m with kind := .wr } KSt.failed).settledFrom s))) ∧
    (∀ u a mode t, a = m.addr % 2 ^ 50 → s.Heard n { m with kind := .wrMask } → s.kGate { m with kind := .wrMask } = (u, none) → mode = (u.modeAt (u.checkerOf a) a).1 →
      u.kPort mode a = none → s.asleepIn (a / 64 * 64) 64 = false →
      u.kWrite (remoteMaster { m with kind := .wrMask }) (kClass m.cls) (a / 64 * 64) (m.mask % 2 ^ 64) m.poison (if mode = 2 then [.kettle n { m with kind := .wrMask }] else [])
        [m.data] 0 = (t, true) →
      exec (.wrMask n m) s = .next ((if mode = 2 then t else t.statusTo n { m with kind := .wrMask } KSt.ok).settledFrom s)) ∧
    (∀ u a t ok, a = m.addr % 2 ^ 50 → s.Heard n { m with kind := .add } → KMsg.inBlock { m with kind := .add } = true → s.kGate { m with kind := .add } = (u, none) → m.ordered = false →
      s.asleepIn (a / 64 * 64) (64 * m.lines) = false → u.portAdd (remoteMaster { m with kind := .add }) m.op a m.data (m.poison != 0) (kClass m.cls) = (t, ok) →
      exec (.add n m) s = .next ((t.statusTo n { m with kind := .add } (if ok then KSt.ok else KSt.failed)).settledFrom s)) ∧
    (∀ u st, s.Heard n { m with kind := .wr } → KMsg.inBlock { m with kind := .wr } = true → s.kGate { m with kind := .wr } = (u, some st) →
      exec (.wr n m) s = .next ((u.statusTo n { m with kind := .wr } st).settledFrom s)) ∧
    (∀ q t reps, s.Heard n { m with kind := .cmd } → q = m.w.headD 0 % 4096 → s.rd R.TCI_STATUS.READY = 1 → s.cmdFromPartner q n m = true → s.qpState q = qpLive →
      s.cmdAppend q n m.cmds = (t, reps) → exec (.cmd n m) s = .next ((t.cmdAnswer n m q reps).settledFrom s)) ∧
    (∀ c r, s.Heard n { m with kind := .fwd } → m.cmds = c :: r →
      exec (.fwd n m) s = .next ((s.admitCmd { c with qp := lget m.w 1 0 % 4096, fwdFrom := some (m.origin % 64) } (some { m with kind := .fwd, cmds := [], data := [] })).1.settledFrom s)) ∧
    (s.Heard n { m with kind := .buddySec } → s.roostUp = true → exec (.buddySec n m) s = .next ((s.buddySecMsg n { m with kind := .buddySec }).settledFrom s)) ∧
    (∀ h x old l k u e, s.Heard n { m with kind := .buddyCommit } → s.roostUp = true → s.roostDead = false → s.xfer .buddyRecv m.origin = some x → x.running = true → s.msgsOf x = [] →
      h = leNat (m.data.take 8) → old = s.ses.buddies.find? (fun e => e.handle == h) → (old ≠ none ∨ s.ses.buddies.length < 131072) →
      l = (Tab.get s.ses.incoming m.origin { frames := [] }).frames → k = l.length - recordFrames m.data →
      u = ((s.dropXfer .buddyRecv m.origin).updSes (fun t => { t with incoming := Tab.del t.incoming m.origin })).releaseFrames
        ((match old with | some e => e.frames | none => []) ++ (l.take k).map (fun y => y.2)) →
      e = { idx := (match old with | some e => e.idx | none => u.freeDir), handle := h, home := m.origin, record := slice (m.data ++ List.replicate 64 0) 0 64,
            frames := (l.drop k).map (fun y => y.2) } →
      exec (.buddyCommit n m) s = .next (((u.putBuddy e).statusTo n { m with kind := .buddyCommit } KSt.ok).settledFrom s)) ∧
    (s.Heard n { m with kind := .buddyDel } →
      (s.ses.buddies.find? (fun e => e.handle == lget m.w 0 0 && e.home == m.origin) = none →
        exec (.buddyDel n m) s = .next ((s.statusTo n { m with kind := .buddyDel } KSt.ok).settledFrom s)) ∧
      (∀ e, s.ses.buddies.find? (fun e => e.handle == lget m.w 0 0 && e.home == m.origin) = some e →
        exec (.buddyDel n m) s = .next ((((s.releaseFrames e.frames).dropBuddy e).statusTo n { m with kind := .buddyDel } KSt.ok).settledFrom s))) ∧
    (∀ x, s.Heard n { m with kind := .claim } → s.sesAt (hSlot (lget m.w 0 0)) = some x → x.handle = lget m.w 0 0 → x.closing = false →
      exec (.claim n m) s = .next (((s.beginClose (hSlot (lget m.w 0 0))).statusTo n { m with kind := .claim } KSt.ok).settledFrom s)) ∧
    (s.Heard n { m with kind := .expHdr } → n = s.pkg → exec (.expHdr n m) s = .next ((s.importHeader n { m with kind := .expHdr }).settledFrom s)) ∧
    (s.Heard n { m with kind := .expSec } → n = s.pkg → exec (.expSec n m) s = .next ((s.importSector n { m with kind := .expSec }).settledFrom s)) ∧
    (s.Heard n { m with kind := .impReq } → exec (.impReq n m) s = .next ((s.discard n { m with kind := .impReq }).settledFrom s))

/-- Kettle responses, relayed messages and the routing, link and wake messages act as their kinds state (R256, R263, R264, R265, R267, R269, R272, R273, R275, R276, R306, R339). -/
def Obligations.KettleResponsesAndRoutingComplete : Prop :=
  ∀ (s : State) (n : Nat) (m : KMsg),
    (∀ k o, (k = .rdData ∨ k = .ack ∨ k = .fwdReply) → s.Heard n { m with kind := k } →
      s.ktl.outst.find? (fun o => o.tag == m.tag && o.target == (if n = s.pkg then 64 else m.origin) && o.kind.answeredBy k) = some o →
      ∀ u, u = (s.updKtl (fun t => { t with outst := t.outst.filter (fun x => x.tag != o.tag), todo := t.todo ++ [(o, some { m with kind := k })] })).settledFrom s →
        (k = .rdData → exec (.rdData n m) s = .next u) ∧ (k = .ack → exec (.ack n m) s = .next u) ∧ (k = .fwdReply → exec (.fwdReply n m) s = .next u)) ∧
    (s.Rests → s.Heard n { m with kind := .reply } → exec (.replyMsg n m) s = .next s) ∧
    (s.coreOn = true → n < 64 → s.hears n { m with via := true } = true → s.msgBad n { m with via := true } = false →
      exec (.relayMessage n m) s = .next ((s.relay { m with via := true }).settledFrom s)) ∧
    (n ≠ s.pkg →
      (s.Heard n { m with kind := .presence } → exec (.presence n m) s = .next ((s.presenceFrom n m).settledFrom s)) ∧
      (s.Heard n { m with kind := .linkstate } → exec (.linkstate n m) s = .next ((((List.range 64).foldl (fun (u : State) x =>
          if x = u.pkg ∨ x = n then u
          else if u.rkind x = rtNone ∧ natBit (lget m.w 0 0) x ∧ !natBit (s.rd R.KTL_PEER_LINKS n) x then u.search x
          else if u.rkind x = rtRelay ∧ u.rvia x = n ∧ !natBit (lget m.w 0 0) x then u.routeLost x
          else u) ((s.wr R.KTL_PEER_LINKS (lget m.w 0 0) n).updKtl (fun k => { k with lsSeen := Tab.put k.lsSeen n (lget m.w 1 0) })))).settledFrom s)) ∧
      (s.Heard n { m with kind := .probe } → exec (.probe n m) s = .next ((s.sendOn n { s.newMsg .probeAck m.origin [] with via := m.relayed }).settledFrom s)) ∧
      (∀ p, s.Heard n { m with kind := .probeAck } → (s.route m.origin).probe = some p → p.round.head? = some n → exec (.probeAck n m) s = .next ((s.chooseRelay m.origin n).settledFrom s)) ∧
      (s.Heard n { m with kind := .routeFence } → exec (.routeFence n m) s = .next ((s.sendOn n { s.newMsg .fenceAck m.origin [] with via := m.relayed }).settledFrom s)) ∧
      (s.Heard n { m with kind := .fenceAck } → (if s.rkind m.origin = rtRelay then s.rvia m.origin else m.origin) = n →
        exec (.fenceAck n m) s = .next ((s.fenceDone m.origin).settledFrom s)) ∧
      (s.Heard n { m with kind := .leave } → exec (.leave n m) s = .next (((List.range 64).foldl (fun (u : State) x => if u.rkind x = rtRelay ∧ u.rvia x = n then u.search x else u)
        (s.wr R.KTL_LINK_STATUS.LEAVING 1 n)).settledFrom s)) ∧
      (s.Rests → s.Heard n { m with kind := .join } → exec (.join n m) s = .next (s.wr R.KTL_LINK_STATUS.LEAVING 0 n))) ∧
    (s.Heard n { m with kind := .downReq } → s.linkOpen n = true → s.lstate n ≠ lkUp →
      ∀ u : State, u = (s.mgmt n .downAck []).setLink n { (s.mgmt n .downAck []).link n with downSent := true, downAcked := true } → (u.link n).unacked.isEmpty = false →
        exec (.downReq n m) s = .next (u.settledFrom s)) ∧
    (s.Rests → s.Heard n { m with kind := .downAck } → s.linkOpen n = true → (s.link n).withdraw.isSome = true → (s.link n).downSent = true →
      ∀ u : State, u = s.setLink n { s.link n with downAcked := true } → (u.link n).unacked.isEmpty = false → exec (.downAck n m) s = .next u) ∧
    (n = s.pkg →
      (s.Rests → s.Heard n { m with kind := .slotSync } → exec (.slotSync n m) s = .next
        (((s.updKtl (fun k => { k with slotBase := s.now, syncAt := some s.now })).wr R.KTL_GLB_STATUS.ALIGNED 1).wr R.KTL_GLB_STATUS.ALIGN_SRC 1)) ∧
      (s.Heard n { m with kind := .tod } → exec (.tod n m) s = .next ((s.todMessage (lget m.w 0 0) (lget m.w 1 0) (lget m.w 3 0)).settledFrom s))) ∧
    (n < 64 → s.linkMgmt n = true → s.msgBad n { m with kind := .wake } = false → m.via = false → exec (.wake n m) s = .next ((s.wakeKettle n).settledFrom s)) ∧
    (s.Rests → s.Heard n { m with kind := .ready } → exec (.ready n m) s = .next (s.setPeer n { s.peer n with readySeen := true }))

/-- Flits, replay and link timers, withdrawal, training and PCIe accesses act when their conditions hold (R23, R252, R253, R254, R255, R270, R271, R272, R306, R422). That the gateway's end of the link with the
package's own number sends no package ID is the model's choice (log 125). -/
def Obligations.KettleLinkEventsComplete : Prop :=
  ∀ (s : State) (n : Nat), n < 64 →
    (s.coreOn = true → s.linkOpen n = true → (s.link n).lockLost = none → ∀ f : Flit, f.fecOk = true → f.crcOk = true →
      ∀ u : State, u = (if f.fecFixed = 0 then s else s.bump R.KTL_LINK_FEC_CORR f.fecFixed n) →
      (f.seqd = true → f.seq = (s.link n).exp →
        exec (.flitReceive n f) s = .next ((((u.setLink n { s.link n with exp := ((s.link n).exp + 1) % 256, run := none }).bump R.KTL_LINK_FLITS_RX 1 n).flitHeader n f).settledFrom s)) ∧
      (f.seqd = true → f.seq ≠ (s.link n).exp → (s.link n).run = none →
        exec (.flitReceive n f) s = .next ((((u.setLink n { s.link n with run := some { start := s.now, asked := 1 } }).bump R.KTL_LINK_REPLAYS 1 n).linkFlag
          R.KTL_LINK_EVENT.REPLAY R.KTL_LINK_RUN_CNT.COUNT n).settledFrom s))) ∧
    (∀ r, s.Rests → s.coreOn = true → (s.link n).run = some r → r.asked < 16 → r.start + r.asked * 3125 ≤ s.now →
      exec (.replayRequestTimer n) s = .next ((s.setLink n { s.link n with run := some { r with asked := r.asked + 1 } }).bump R.KTL_LINK_REPLAYS 1 n)) ∧
    (∀ t, s.coreOn = true → (s.link n).lockLost = some t → t + 50000 ≤ s.now → exec (.linkDownTimeout n) s = .next ((s.linkDown n).settledFrom s)) ∧
    (s.Rests → s.coreOn = true → s.linkOpen n = true → (s.link n).lockLost = none →
      exec (.lockLoss n) s = .next ((s.setLink n { s.link n with lockLost := some s.now }).wr R.KTL_LINK_STATUS.LANES_LOCKED 0 n)) ∧
    (s.boot.tirloRuns = true → s.coreOn = true → ∀ u : State, u = s.setLink n { s.link n with keeperUp := true } →
      exec (.keeperUp n) s = .next ((if u.lstate n = lkAbsent then u.setLstate n lkKeeper else u).settledFrom s)) ∧
    (∀ w t, s.coreOn = true → (s.link n).withdraw = some (w, t) → (s.link n).downSent = false → t + 200000 ≤ s.now →
      exec (.linkWithdrawExpiry n) s = .next (((s.setLink n { s.link n with downSent := true }).mgmt n .downReq []).settledFrom s)) ∧
    (s.coreOn = true → s.rd R.KTL_GLB_STATUS.ALIGNED = 1 → s.curSlot = s.rd R.KTL_LINK_STATUS.SLOT n → s.boot.slotsHad.contains n = true → (s.link n).keeperUp = true →
      (n = s.pkg ∨ (s.peer n).aligned = true) → s.lanesHeld = false → s.rd R.KTL_LINK_CTRL.ENABLE n = 1 → (s.lstate n = lkKeeper ∨ s.lstate n = lkMiswired) →
      s.rd R.KTL_GLB_STATUS.KEEPER_ALL = 0 →
      exec (.trainingSlotStart n) s = .next ((((s.setLstate n lkTraining).wr R.KTL_GLB_STATUS.TRAIN_LINK n).wr R.KTL_GLB_STATUS.TRAINING 1).settledFrom s)) ∧
    (s.coreOn = true → s.lstate n = lkTraining → ∀ u : State, u = s.wr R.KTL_GLB_STATUS.TRAINING 0 →
      (∀ v : State, v = (u.setLstate n lkKeeper).wr R.KTL_LINK_STATUS.TRAIN_FAILS (min 255 (u.rd R.KTL_LINK_STATUS.TRAIN_FAILS n + 1)) n →
        exec (.linkTrainingComplete n .failed) s = .next (((v.linkFlag R.KTL_LINK_EVENT.TRAIN_FAIL R.KTL_LINK_TRAIN_FAIL_CNT.COUNT n).report (Src.ktlLink n) Cls.ce Cause.trainFailed).settledFrom s)) ∧
      (∀ id nonce eq v, v = u.wr R.KTL_LINK_STATUS.PEER_ID (id % 64) n →
        ((n = v.pkg ∧ id = noPackageId ∨ n ≠ v.pkg ∧ id = n) →
          exec (.linkTrainingComplete n (.up id nonce eq)) s = .next ((((v.storeEq n eq).linkUp n).updKtl (fun k => { k with
            peers := Tab.upd k.peers n .reset (fun p => if p.present then p else { p with present := true, nonce := nonce }) })).settledFrom s)) ∧
        ((n = v.pkg ∧ id ≠ noPackageId ∨ n ≠ v.pkg ∧ id ≠ n) →
          exec (.linkTrainingComplete n (.up id nonce eq)) s = .next ((((v.setLstate n lkMiswired).linkFlag R.KTL_LINK_EVENT.MISWIRED R.KTL_LINK_MISWIRE_CNT.COUNT n).report
            (Src.ktlLink n) Cls.uc Cause.miswire).settledFrom s)))) ∧
    (∀ fn off, s.Rests → s.pwr.pstate ≠ .noPwr → s.pwr.pstate ≠ .off → s.pwr.pstate ≠ .hooded →
      ((s.perchQuiet = true ∨ s.boot.cfgReleased = false ∨ s.boot.pcieUp = false) → exec (.pcieConfigRequest fn off) s = .next (s.emit (.bytes "PCIE_RRS" [fn, off]))) ∧
      (s.perchQuiet = false → s.boot.cfgReleased = true → s.boot.pcieUp = true →
        exec (.pcieConfigRequest fn off) s = .next (s.emit (.bytes "PCIE_CONFIG" [fn, off, Config.pcieConfig fn off % 2 ^ 32])))) ∧
    (∀ off size, s.boot.cfgReleased = true → s.boot.pcieUp = true → s.pwr.pstate ≠ .entering → s.pwr.pstate ≠ .perch → off < 0x1000 →
      exec (.pcieBar0Read off size) s = .next ((s.csrLoad (0x1000000 + off / 8 * 8) ⟨0x5000, .s, false⟩ size (off % 8)).settledFrom s)) ∧
    (exec .pcieL1Exit s = .next ((s.wakeBy R.PWR_WAKE_CAUSE.PCIE).settledFrom s))

/-- Response, probe, stranding, fence, slot, presence, perch-hold and wake timers act when their times have come (R261, R263, R264, R266, R267, R269, R274, R275, 11_kettle_fabric.md). -/
def Obligations.KettleRoutingTimersComplete : Prop :=
  ∀ s : State, s.coreOn = true →
    (∀ tag o t, s.ktl.outst.find? (fun o => o.tag == tag) = some o → (o.kind = .rd ∨ o.kind = .wr ∨ o.kind = .wrMask ∨ o.kind = .add) → o.sentAt = some t → t + 4000000 ≤ s.now →
      exec (.responseTimeout tag) s = .next ((((s.glbFlag R.KTL_GLB_EVENT.RESP_TIMEOUT R.KTL_GLB_RESPTO_CNT.COUNT).report Src.ktlRoute Cls.ce Cause.respTimeout).reqFails o).settledFrom s)) ∧
    (exec .linkstateTimer s = .next (s.sendLinkstate.settledFrom s)) ∧
    (exec .presenceTimer s = .next ((s.sendPresence s.presenceState).settledFrom s)) ∧
    (∀ t p, t < 64 → (s.route t).probe = some p → p.start + 20000 ≤ s.now →
      (∀ i, p.round.find? (fun i => p.acked.contains i) = some i → exec (.probeRoundTimeout t) s = .next ((s.chooseRelay t i).settledFrom s)) ∧
      (p.round.find? (fun i => p.acked.contains i) = none → exec (.probeRoundTimeout t) s = .next ((s.probeRound t p.rest).settledFrom s))) ∧
    (∀ t l, t < 64 → (s.route t).lostAt = some l → s.rkind t = rtNone → (s.route t).stranded = false → s.perched t = false → l + 1000000 ≤ s.now →
      exec (.strandedHoldExpiry t) s = .next ((((s.setRoute t { s.route t with stranded := true }).strandHeld t).glbFlag R.KTL_GLB_EVENT.STRANDED R.KTL_GLB_STRAND_CNT.COUNT).settledFrom s)) ∧
    (∀ t p, t < 64 → (s.route t).perchAt = some p → s.perched t = true → (s.route t).perchDone = false → p + 50000000 ≤ s.now →
      exec (.perchHoldExpiry t) s = .next ((((s.setRoute t { s.route t with perchDone := true }).strandHeld t).glbFlag R.KTL_GLB_EVENT.STRANDED R.KTL_GLB_STRAND_CNT.COUNT).settledFrom s)) ∧
    (∀ t, t < 64 → s.rkind t = rtNone → t ≠ s.pkg → exec (.reprobeTimer t) s = .next ((s.search t).settledFrom s)) ∧
    (∀ t a b at_, t < 64 → (s.route t).fence = some (a, b, at_) → at_ + 200000 ≤ s.now → exec (.routeFenceTimeout t) s = .next ((s.fenceDone t).settledFrom s)) ∧
    (s.syncStale = true → (s.rd R.KTL_GLB_STATUS.ALIGNED = 0 ∨ s.rd R.KTL_GLB_STATUS.ALIGN_SRC = 1) →
      exec .slotSyncTimeout s = .next (s.alignByPeers.settledFrom s) ∧
      (∀ t, s.Rests → ((List.range 64).filter (fun t => t != s.pkg && (s.peer t).present)).find? (fun t => (s.peer t).aligned) = some t →
        exec .slotSyncTimeout s = .next ((((s.updKtl (fun k => { k with slotBase := (s.peer t).phase })).wr R.KTL_GLB_STATUS.ALIGNED 1).wr R.KTL_GLB_STATUS.ALIGN_SRC 2).wr
          R.KTL_GLB_STATUS.ALIGN_PEER t))) ∧
    (∀ t, t < 64 → s.perched t = true → (s.route t).perchDone = true → exec (.wakeResendTimer t) s = .next ((s.mgmt t .wake []).settledFrom s))

/-- AMO, AMOFADD, LR and SC of a running core on local main memory act on the line's value and complete with what they return (R283, R292, R293, R294). -/
def Obligations.CoreAtomicsComplete : Prop :=
  ∀ (s : State) (m : Master) (wide : Bool) (addr rs2 : Nat) (t : State) (c : CLine) (a old n : Nat), n = (if wide then 8 else 4) → s.AtomicAt m n addr t c →
    a = addr % 2 ^ 50 → old = leNat (slice c.data (a % 64) n) →
    (∀ op, exec (.amo op wide m addr rs2) s = .next ((((((t.bump R.MEWS_ATOMICS).breakResv (a / 64 * 64) (coreOf m)).cputLine (a / 64 * 64)
      (mergeInto c (a % 64) (leBytes n (amoValue op (if wide then 64 else 32) old rs2)))).emit (.done m [old]))).settledFrom s)) ∧
    (exec (.amofadd wide m addr rs2) s = .next ((((((t.bump R.MEWS_ATOMICS).breakResv (a / 64 * 64) (coreOf m)).cputLine (a / 64 * 64)
      (mergeInto c (a % 64) (leBytes n (fpAmo wide old rs2)))).emit (.done m [old]))).settledFrom s)) ∧
    (∀ k, coreOf m = some k → exec (.loadReserved wide m addr) s = .next (((((t.updMews (fun x => { x with
      resv := Tab.put x.resv k (a / 64 * 64, t.now + resvNs) })).bump R.MEWS_ATOMICS).emit (.done m [old]))).settledFrom s)) ∧
    (s.holdsResv m addr = true → exec (.storeConditional wide m addr rs2) s = .next ((((((t.bump R.MEWS_ATOMICS).breakResv (a / 64 * 64) (coreOf m)).cputLine (a / 64 * 64)
      (mergeInto c (a % 64) (leBytes n rs2))).emit (.done m [0])).clearResv m).settledFrom s)) ∧
    (s.holdsResv m addr = false → exec (.storeConditional wide m addr rs2) s = .next (((((t.bump R.MEWS_ATOMICS).emit (.done m [1])).clearResv m)).settledFrom s))

/-- WFI, reservation timeout, fences, cache-block operations, hints, cache accesses, lock fills and flash completions act as stated (R283, R284, R285, R287, R288, R289, R294, R295, R297, R299). -/
def Obligations.CoreAndCacheEventsComplete : Prop :=
  ∀ s : State,
    (∀ c, s.Rests → c < 16 → s.coreOn = true → s.rd R.MEWS_CORE_STATUS.STATE c = coreRunning → (∀ f < 6, s.pendingIds c f = []) →
      exec (.coreWfi c) s = .next (s.wr R.MEWS_CORE_STATUS.STATE coreWfiSt c)) ∧
    (∀ c l t, s.Rests → Tab.get? s.mews.resv c = some (l, t) → t ≤ s.now → exec (.reservationTimeout c) s = .next (s.updMews (fun x => { x with resv := Tab.del x.resv c }))) ∧
    (∀ c, c < 16 → s.Runs (coreMaster c) → exec (.fenceW c) s = .next ((s.updMews (fun x => { x with fences := x.fences ++ [c] })).settledFrom s)) ∧
    (∀ m addr a, a = addr % 2 ^ 50 → s.Runs m → addr / 2 ^ 50 = s.pkg → rangeOf a ≠ .tile → rangeOf a ≠ .csr →
      (s.coreGate m .r addr 1 = none →
        exec (.cboClean m addr) s = .next (((s.cleanLine (a / 64 * 64)).emit (.done m [])).settledFrom s) ∧
        exec (.cboFlush m addr) s = .next (((s.flushLine (a / 64 * 64)).emit (.done m [])).settledFrom s) ∧
        exec (.cboInval m addr) s = .next (((s.flushLine (a / 64 * 64)).emit (.done m [])).settledFrom s)) ∧
      (s.coreGate m .w addr 1 = none → exec (.cboZero m addr) s = .next (((s.zeroLine m (a / 64 * 64)).emit (.done m [])).settledFrom s))) ∧
    (∀ m addr mq way, s.Runs m → (48 < mq → s.Rests → exec (.prefetchHint m addr mq way) s = .next s) ∧
      (mq ≤ 48 → exec (.prefetchHint m addr mq way) s = .next ((s.prefetch m addr way).settledFrom s))) ∧
    (∀ (r : CacheAcc) n a t c, n = max 1 (if r.kind = .w then r.data.length else r.len) → a = r.addr % 2 ^ 50 → s.Runs r.m → r.addr / 2 ^ 50 = s.pkg → (r.kind = .r ∨ r.kind = .w) →
      rangeOf a ≠ .csr → rangeOf a ≠ .tile → s.coreGate r.m r.kind r.addr n = none → s.mustWait r.addr = false → r.nc = false →
      (if r.kind = .w then s.breakResv (a / 64 * 64) (coreOf r.m) else s).useLine r.m (a / 64 * 64) r.way r.ecc = (t, some c) →
      (r.kind = .w → exec (.cacheAccess r) s = .next (((t.cputLine (a / 64 * 64) (mergeInto c (a % 64) r.data)).emit (.done r.m [])).settledFrom s)) ∧
      (r.kind = .r → c.poison = false → exec (.cacheAccess r) s = .next ((t.emit (.done r.m ((slice c.data (a % 64) r.len).map BitVec.toNat))).settledFrom s))) ∧
    (∀ i r, s.coreOn = true → s.mews.filling = i :: r → exec .lockFillComplete s = .next ((((State.lockLines ((s.lockRange i).size / 64) (s.lockRange i).base s).updMews
      (fun m => { m with filling := r })).mboxPoll).settledFrom s)) ∧
    (∀ c dev, s.coreOn = true → s.mews.flashCmd = some c → ∀ u : State, u = s.updMews (fun m => { m with flashCmd := none }) →
      (∀ err, (err = 2 ∧ c.aligned = false ∨ err = 3 ∧ c.aligned = true ∧ u.flashProtected c = true ∨ err = 1 ∧ c.aligned = true ∧ u.flashProtected c = false ∧ dev = true) →
        exec (.flashCommandDone dev) s = .next ((((((u.wr R.MEWS_FLASH_STATUS.BUSY 0).wr R.MEWS_FLASH_STATUS.ERR err).wr R.MEWS_FLASH_STATUS.STATE 2).flag R.MEWS_EVENT.FLASH_ERR
          R.MEWS_FLASH_ERR_CNT.COUNT).raiseWarden 6).settledFrom s)) ∧
      (c.aligned = true → u.flashProtected c = false → dev = false → c.op = 2 →
        exec (.flashCommandDone dev) s = .next ((((((u.updMews (fun m => { m with flash := m.flash.filter (fun e => decide (e.1 < c.addr) || decide (c.addr + c.len ≤ e.1)) })).wr
          R.MEWS_FLASH_STATUS.BUSY 0).wr R.MEWS_FLASH_STATUS.ERR 0).wr R.MEWS_FLASH_STATUS.STATE 2).raiseWarden 6).settledFrom s)))

/-- Credit windows, thermal trips, PERCH entry, its timeout and keeper hold, the core-enable hold and the wake timer act when their conditions hold (R304, R305, R306, R307, R308, R311, R312, R313, R315, R319, 13_power_energy.md). -/
def Obligations.PowerEventsComplete : Prop :=
  ∀ s : State,
    (∀ w u, s.coreOn = true → s.time.fastRun = true → s.pwr.windows ≠ 0 → s.rd R.PWR_WINDOW ≠ s.epoch / 100000 →
      u = (((((w.work.foldl State.drawTile s).closeWindow w).meter w).capsInForce.vrFallback).dieTemps w.dieTemp).wr R.PWR_WINDOW (s.epoch / 100000) →
      ∀ v : State, v = (((u.updPwr (fun p => { p with windows := p.windows + 1, baseEst := avgInt p.baseHist })).setGrant w.energy).raiseWarden 4).parkPolicy.sweepReady →
      exec (.creditWindowStart w) s = .next ((State.dispatchItems v.items v).fitClocks.rebook.settledFrom s)) ∧
    (∀ d t u, s.coreOn = true → d < 4 → s.rd R.PWR_THERM_CFG.DIE_TRIP_C * 10 ≤ t → s.pwr.tripped.contains d = false →
      u = (s.wr R.PWR_DIE.TEMP_DC t d).updPwr (fun p => { p with tripped := sinsert p.tripped d }) →
      exec (.dieThermalTrip d t) s = .next ((((u.flag R.PWR_EVENT.THERM_TRIP R.PWR_TRIP_CNT.COUNT).killPasses (fun p => (u.planTiles p.plan).any (fun x => x / 96 == d)) Stat.faulted).report (Src.dieTherm d) Cls.fa Cause.thermalTrip).settledFrom s)) ∧
    (∀ t, s.pwr.perchAt = some t → t ≤ s.now → s.boot.stage = .ready → (s.pwr.pstate = .flight ∨ s.pwr.pstate = .glide) →
      ∀ u : State, u = (s.wr R.PWR_PERCH_STATE.PRIOR (if s.pwr.pstate = .flight then 0 else 1)).csrPut R.PWR_WAKE_CAUSE.base 0 →
      exec .perchEntryStart s = .next ((((u.updPwr (fun p => { p with perchAt := none, pstate := .entering, entryStep := 1, entryAt := u.now })).wr R.TCI_STATUS.READY 0).wakeTimer).settledFrom s)) ∧
    (s.pwr.pstate = .entering → s.pwr.entryStep = 1 → s.pwr.entryAt + 10000000 ≤ s.now → s.tci.running ≠ [] → exec .perchEntryTimeout s = .next (s.perchAbort.settledFrom s)) ∧
    (∀ t, s.pwr.perchHoldAt = some t → s.pwr.pstate = .entering → t ≤ s.now →
      exec .perchKeeperExpiry s = .next (((((s.allKeeper).wr R.MGMT_TGT_STATUS.MBOX_LIVE 0).timeStop true).updPwr (fun p => { p with
        pstate := .perch, entryStep := 0, perchHoldAt := none, ballast := [0, 0, 0, 0] })).coreLow.settledFrom s)) ∧
    (∀ t, s.pwr.coreLowAt = some t → s.pwr.wakePend = true → t + 2000000 ≤ s.now → exec .coreEnLowExpiry s = .next (s.coreHigh.settledFrom s)) ∧
    (s.rd R.PWR_WAKE_AT.ENABLE = 1 → s.rd R.PWR_WAKE_AT.TICK ≤ s.time.ticks → (s.pwr.pstate = .entering ∨ s.pwr.pstate = .perch) →
      exec .wakeTimer s = .next (((s.wr R.PWR_WAKE_AT.ENABLE 0).wakeBy R.PWR_WAKE_CAUSE.TIMER).settledFrom s))

/-- A credit window starts, the first one and a later one, and a die trips: the state that each leaves. Within a window that has begun, below the limit and for a die that has tripped nothing changes (R311, R312, R313, R315, R319). -/
def Obligations.CreditWindowsAndThermalTripsComplete : Prop :=
  ∀ s : State, s.coreOn = true →
    (∀ w d u v, s.time.fastRun = true → (s.pwr.windows = 0 ∨ s.rd R.PWR_WINDOW ≠ s.epoch / 100000) → d = w.work.foldl State.drawTile s →
      u = ((((((if s.pwr.windows = 0 then d else d.closeWindow w).meter w).capsInForce.vrFallback).dieTemps w.dieTemp).wr R.PWR_WINDOW (s.epoch / 100000)).updPwr (fun p => { p with
        windows := p.windows + 1, baseEst := if s.pwr.windows = 0 then (w.energy : Nat) else avgInt p.baseHist })) →
      v = ((u.setGrant w.energy).raiseWarden 4).parkPolicy.sweepReady →
      exec (.creditWindowStart w) s = .next ((State.dispatchItems v.items v).fitClocks.rebook.settledFrom s)) ∧
    (∀ w, s.Rests → s.pwr.windows ≠ 0 → s.rd R.PWR_WINDOW = s.epoch / 100000 → exec (.creditWindowStart w) s = .next s) ∧
    (∀ d t u, d < 4 → s.rd R.PWR_THERM_CFG.DIE_TRIP_C * 10 ≤ t → s.pwr.tripped.contains d = false →
      u = ((s.wr R.PWR_DIE.TEMP_DC t d).updPwr (fun p => { p with tripped := sinsert p.tripped d })).flag R.PWR_EVENT.THERM_TRIP R.PWR_TRIP_CNT.COUNT →
      exec (.dieThermalTrip d t) s = .next (((u.killPasses (fun p => (u.planTiles p.plan).any (fun x => x / 96 == d)) Stat.faulted).report (Src.dieTherm d) Cls.fa
        Cause.thermalTrip).settledFrom s)) ∧
    (∀ d t, s.Rests → (t < s.rd R.PWR_THERM_CFG.DIE_TRIP_C * 10 ∨ s.pwr.tripped.contains d = true) → exec (.dieThermalTrip d t) s = .next s)

/-- PERCH entry begins, is abandoned after 10 ms with commands running, ends in keeper mode; CORE_EN rises once its 2 ms low have passed; the wake timer wakes or reverses (R303, R304, R306, R308). -/
def Obligations.PerchTimersComplete : Prop :=
  ∀ s : State,
    (∀ t p u, s.pwr.perchAt = some t → t ≤ s.now → s.boot.stage = .ready → (s.pwr.pstate = .flight ∧ p = 0 ∨ s.pwr.pstate = .glide ∧ p = 1) →
      u = (((s.wr R.PWR_PERCH_STATE.PRIOR p).csrPut R.PWR_WAKE_CAUSE.base 0).updPwr (fun p => { p with perchAt := none, pstate := .entering, entryStep := 1, entryAt := s.now })).wr R.TCI_STATUS.READY 0 →
      exec .perchEntryStart s = .next ((if u.rd R.PWR_WAKE_AT.ENABLE = 1 ∧ u.rd R.PWR_WAKE_AT.TICK ≤ u.time.ticks then
        ((u.wr R.PWR_WAKE_AT.ENABLE 0).wr R.PWR_WAKE_CAUSE.TIMER 1).perchAbort else u).settledFrom s)) ∧
    (s.pwr.pstate = .entering → s.pwr.entryStep = 1 → s.pwr.entryAt + 10000000 ≤ s.now → s.tci.running ≠ [] →
      exec .perchEntryTimeout s = .next ((s.flag R.PWR_EVENT.PERCH_ABORT R.PWR_ABORT_CNT.COUNT).perchBack.settledFrom s)) ∧
    (∀ t u, s.pwr.perchHoldAt = some t → s.pwr.pstate = .entering → t ≤ s.now →
      u = (((s.allKeeper).wr R.MGMT_TGT_STATUS.MBOX_LIVE 0).timeStop true).updPwr (fun p => { p with pstate := .perch, entryStep := 0, perchHoldAt := none, ballast := [0, 0, 0, 0] }) →
      u.rd R.PWR_PERCH_STATE.CORE_EN ≠ 0 →
      exec .perchKeeperExpiry s = .next ((((u.wr R.PWR_PERCH_STATE.CORE_EN 0).updPwr (fun p => { p with coreLowAt := some u.now })).emit (.pin "CORE_EN" false)).settledFrom s)) ∧
    (∀ t, s.pwr.coreLowAt = some t → s.pwr.wakePend = true → t + 2000000 ≤ s.now → exec .coreEnLowExpiry s = .next ((((s.wr R.PWR_PERCH_STATE.CORE_EN 1).updPwr (fun p => { p with
      wakePend := false, coreLowAt := none, pstate := if p.pstate = .perch then .waking else p.pstate })).emit (.pin "CORE_EN" true)).settledFrom s)) ∧
    (∀ u, s.rd R.PWR_WAKE_AT.ENABLE = 1 → s.rd R.PWR_WAKE_AT.TICK ≤ s.time.ticks → u = (s.wr R.PWR_WAKE_AT.ENABLE 0).wr R.PWR_WAKE_CAUSE.TIMER 1 →
      (s.pwr.pstate = .entering → exec .wakeTimer s = .next (u.perchAbort.settledFrom s)) ∧ (s.pwr.pstate = .perch → exec .wakeTimer s = .next (u.coreHigh.settledFrom s))) ∧
    (s.Rests → s.rd R.PWR_WAKE_AT.ENABLE ≠ 1 → exec .wakeTimer s = .next s)

/-- The time unit's events act when their conditions hold: PPS edges, holdover, the end of a slew, PPS output, the anchor and the alarm (R335, R337, R338, R342, R343, R344, 14_time_base.md). -/
def Obligations.TimeEventsComplete : Prop :=
  ∀ s : State,
    (∀ j e, s.coreOn = true → s.time.fastRun = true → e = s.epoch + j - 5 →
      (s.Rests → s.time.accepts e = true → exec (.ppsEdge j) s = .next ((s.updTime (fun t => { t with
        uncEdge := t.uncAt e, prevEdge := t.edge, edge := some e, labelled := false })).wr R.TIME_PPS_STAMP e)) ∧
      (s.time.accepts e = false → exec (.ppsEdge j) s = .next ((s.timeEvent R.TIME_EVENT.PPS_REJECT R.TIME_PPSREJ_CNT.COUNT 3).settledFrom s))) ∧
    (∀ e, s.time.fastRun = true → (s.time.quality = .locked ∨ s.time.quality = .slewing) → s.time.edge = some e →
      (e + 1500000000 ≤ s.epoch ∨ s.time.labelAt + 3000000000 ≤ s.epoch) →
      exec .holdoverTimeout s = .next (((s.updTime (fun t => t.hold s.epoch)).timeEvent R.TIME_EVENT.LOST R.TIME_LOSS_CNT.COUNT 1).settledFrom s)) ∧
    (∀ x, s.time.slew = some x → s.time.quality = .slewing → x.done s.epoch = x.mag →
      exec .slewComplete s = .next (((s.updTime (fun t => { t with quality := .locked, slew := none })).timeEvent R.TIME_EVENT.LOCKED R.TIME_LOCK_CNT.COUNT 0).settledFrom s)) ∧
    (s.Rests → s.ppsActive = true → s.time.ppsHigh = false → s.time.ppsRise = none → s.rackNs % 1000000000 < 20 →
      exec .ppsOutRise s = .next ((s.updTime (fun t => { t with
        ppsHigh := true, ppsEnd := s.now + s.rd R.TIME_CFG.PPS_WIDTH_US * 1000, ppsRise := some (s.epoch, s.rackNs / 1000000000), ppsSkip := false })).drive (.pin "PPS_OUT" true))) ∧
    (s.Rests → s.time.ppsHigh = true → s.time.ppsEnd ≤ s.now → exec .ppsOutFall s = .next ((s.updTime (fun t => { t with ppsHigh := false })).drive (.pin "PPS_OUT" false))) ∧
    (s.Rests → s.time.fastRun = true → s.rd R.TIME_ANCHOR_NS + 1000000 ≤ s.epoch →
      exec .anchorUpdate s = .next ((s.wr R.TIME_ANCHOR_TICKS.TICKS s.time.ticks).wr R.TIME_ANCHOR_NS s.epoch)) ∧
    (s.rd R.TIME_ALARM.ENABLE = 1 → s.rd R.TIME_ALARM.NS ≤ s.epoch → s.time.fastRun = true →
      exec .timeAlarmExpiry s = .next (((s.wr R.TIME_ALARM.ENABLE 0).timeEvent R.TIME_EVENT.ALARM R.TIME_ALARM_CNT.COUNT 5).settledFrom s))

/-- Fault events, CE windows, grace timers, unit resets, shadow windows, the warm watch and timeout detectors act as Watch's rules state (R348, R350, R352, R354, R356, R359, R360, R362, 15_watch_faults.md). -/
def Obligations.WatchEventsComplete : Prop :=
  ∀ s : State,
    (∀ evs, exec (.faultEvent evs) s = .next (((List.range 310).foldl (fun (u : State) n =>
      ((evs.filter (fun e => decide (1 ≤ e.cls) && decide (e.cls ≤ 4))).filter (fun e => e.src == n)).foldl (fun (v : State) e => v.reportAt e none) u) s).settledFrom s)) ∧
    (∀ e, 1 ≤ e.cls → e.cls ≤ 4 → e.src < 310 → exec (.faultEvent [e]) s = .next ((s.reportAt e none).settledFrom s)) ∧
    (s.Rests → s.coreOn = true → s.ceWindow ≠ s.watch.ceWin → exec .ceWindowRollover s = .next (s.updWatch (fun w => { w with ce := [], ceWin := s.ceWindow }))) ∧
    (∀ l, s.coreOn = true → exec (.graceTimerExpiry l) s = .next ((((List.range 310).filter l.contains).foldl State.graceOver s).settledFrom s)) ∧
    (∀ n t, s.coreOn = true → n < 310 → Tab.get? s.watch.timers n = some t → t ≤ s.now → s.ladder n = Ladder.running →
      exec (.graceTimerExpiry [n]) s = .next ((s.takeStep n (s.rd R.WATCH_SRC_STATUS.STEP n + 1)).settledFrom s)) ∧
    (∀ n, s.coreOn = true → unitUsed n = true → s.unitState n = Unit.resetting →
      ∀ u : State, u = (s.wr R.WATCH_RU_STATUS.STATE Unit.normal n).wlog noSource 0 false false 3 0 none n →
      exec (.unitResetEnd n) s = .next (((u.updWatch (fun w => { w with
        unitBy := Tab.del w.unitBy n, unitAt := Tab.del w.unitAt n,
        shadows := w.shadows.map (fun x => if x.unit = n then { x with closeAt := some (u.now + 50000) } else x) })).act (.resetEnded n)).settledFrom s)) ∧
    (∀ n t, Tab.get? s.watch.unitAt n = some t → s.coreOn = true → unitUsed n = true → s.unitState n = Unit.resetting → t + 2 * unitLimitNs n ≤ s.now →
      exec (.resetOverdue n) s = .next ((s.unitOverdue n).settledFrom s)) ∧
    (∀ n x t, s.Rests → s.watch.shadows.find? (fun x => x.unit == n) = some x → x.closeAt = some t → t ≤ s.now →
      ∀ u : State, u = s.updWatch (fun w => { w with shadows := w.shadows.filter (fun y => y.unit != n) }) →
      (n = packageWindow → exec (.shadowWindowClose n) s = .next (u.wr R.WATCH_STATUS.WARM_SHADOW 0)) ∧
      (n ≠ packageWindow → exec (.shadowWindowClose n) s = .next (u.wr R.WATCH_RU_STATUS.SHADOW 0 n))) ∧
    (∀ t, s.watch.warmAt = some t → s.rd R.WATCH_STATUS.WARM_WATCH = 1 → t ≤ s.now →
      ∀ u : State, u = ((s.wr R.WATCH_STATUS.WARM_WATCH 0).updWatch (fun w => { w with warmAt := none })).logStep noSource 0 5 none noUnit →
      exec .warmLimitExpiry s = .next ((((u.wr R.WATCH_STATUS.ALARM 1).flag R.WATCH_EVENT.ALARM R.WATCH_ALARM_CNT.COUNT).emit (.pin "FAULT_N" false)).settledFrom s)) ∧
    (∀ d m k a, s.coreOn = true → d < 5 → a / 2 ^ 50 = s.pkg →
      exec (.timeoutDetectorFire d m k a) s = .next (((s.accFault m k a).report (52 + d) Cls.uc Cause.timeout (s.targetUnit (a % 2 ^ 50))).settledFrom s))

/-- The test port's instructions, the OPEN sequence and DBG_MEM act as their rules state (R388, R389, R451, R452, R453, R454, R455, R456, R457). -/
def Obligations.TestPortCommandsComplete : Prop :=
  ∀ s : State, s.tapAnswers = true →
    (s.Rests → exec .tapReset s = .next (s.updTap (fun t => { t with ir := Ir.idcode }))) ∧
    (s.Rests → exec .tapIdcode s = .next ((s.updTap (fun t => { t with ir := Ir.idcode })).emit (.bytes "TDO" [0x04800C9F]))) ∧
    (s.Rests → exec .tapBypass s = .next ((s.updTap (fun t => { t with ir := Ir.bypass })).emit (.bytes "TDO" [0]))) ∧
    (∀ pins upd, s.Rests → exec (.tapSamplePreload pins upd) s = .next (((s.updTap (fun t => { t with ir := Ir.sample })).emit (.bytes "TDO" [s.capture pins])).updTap (fun t => { t with bound := driven upd }))) ∧
    (∀ pins upd ir u v, s.portOpen = true → v = (s.updTap (fun t => { t with ir := ir })).leavesMission →
      u = (((v.emit (.bytes "TDO" [s.capture pins])).updTap (fun t => { t with bound := driven upd })).settledFrom s) →
      (ir = Ir.extest → exec (.tapExtest pins upd) s = .next u) ∧ (ir = Ir.pulse → exec (.tapExtestPulse pins upd) s = .next u) ∧
      (ir = Ir.train → exec (.tapExtestTrain pins upd) s = .next u)) ∧
    (s.portOpen = true → exec .tapClamp s = .next ((((s.updTap (fun t => { t with ir := Ir.clamp })).leavesMission).emit (.bytes "TDO" [0])).settledFrom s) ∧
      exec .tapHighz s = .next ((((s.updTap (fun t => { t with ir := Ir.highz })).leavesMission).emit (.bytes "TDO" [0])).settledFrom s)) ∧
    (s.portOpen = false → ∀ pins upd w u, u = s.sealedReject.settledFrom s →
      exec (.tapExtest pins upd) s = .next u ∧ exec (.tapExtestPulse pins upd) s = .next u ∧ exec (.tapExtestTrain pins upd) s = .next u ∧ exec .tapClamp s = .next u ∧ exec .tapHighz s = .next u ∧
      exec (.tapDbgMem w) s = .next u) ∧
    (∀ v u, u = (s.updTap (fun t => { t with ir := Ir.open_ })).emit (.bytes "TDO" [s.openWord]) →
      (s.Rests → v ≠ 0x4F50454E → exec (.tapOpen v) s = .next u) ∧
      (v = 0x4F50454E → s.sec.opening = false → exec (.tapOpen v) s = .next ((((u.zeroize).updSec (fun x => { x with opening := true })).wr R.SEC_PORT.OPEN_BUSY 1).settledFrom s))) ∧
    (∀ u, s.sec.opening = true → u = ((s.destroyBank.updSec (fun x => { x with opening := false })).wr R.SEC_PORT.OPEN_BUSY 0) → u.coreOn = false →
      exec (.openComplete true) s = .next ((u.wr R.SEC_PORT.PORT_OPEN 1).settledFrom s) ∧
      exec (.openComplete false) s = .next (((u.wr R.SEC_PORT.OPEN_FAIL 1).tamper 0 7 false).settledFrom s)) ∧
    (∀ w u, s.portOpen = true → u = (s.updTap (fun t => { t with ir := Ir.dbgMem })).emit (.bytes "TDO" [s.dbgCapture]) →
      (s.Rests → (s.tap.res = 1 ∨ dbgOp w = 0) → exec (.tapDbgMem w) s = .next u) ∧
      (s.tap.res ≠ 1 → dbgOp w ≠ 0 → (s.coreOn = true → dbgAddr w / 2 ^ 50 = s.pkg → s.asleep (dbgAddr w % 2 ^ 50 / 64 * 64) = false) → exec (.tapDbgMem w) s = .next ((u.dbgAccess w).settledFrom s)))

/-- Two-wire target commands, mailbox moves, the controller's round and UART characters act as their rules state (R394, R395, R396, R398, R399, R400, R401, R403, R404, R406, R412, R413). -/
def Obligations.TwoWireAndConsoleEventsComplete : Prop :=
  ∀ s v : State, v = s.busView →
    (v.tgtFree = true →
      (∀ u : State, u = v.emit (.bytes "TGT" (v.statusBlock.map BitVec.toNat)) →
        exec (.tgtStatus 1 true) s = .next (((u.updBus (fun b => { b with changed := false })).alertCheck).settledFrom s) ∧ exec (.tgtStatus 1 false) s = .next (u.settledFrom s)) ∧
      (exec .mboxStatus s = .next ((v.emit (.bytes "TGT" [v.mboxByte])).settledFrom s)) ∧
      (∀ d pec, d < 2 → v.pecOk [3, d] pec = true → exec (.setMode d pec) s = .next ((v.wr R.MGMT_TGT_CFG.MODE d).settledFrom s)) ∧
      (∀ n l pec, v.mboxBusy = false → exec (.mboxWrite n l pec) s = .next ((v.mboxAccept State.wakeMgmt n l pec).settledFrom s)) ∧
      (∀ l, v.bus.reply = some l → exec .mboxRead s = .next ((v.emit (.bytes "TGT" (l.map BitVec.toNat))).settledFrom s)) ∧
      (∀ l pec, v.bus.reply = some l → v.pecOk [0x12] pec = true → ∀ u : State, u = ((v.updBus (fun b => { b with reply := none })).wr R.MGMT_TGT_STATUS.REPLY_READY 0).alertCheck →
        u.mboxLive = true → exec (.mboxPop pec) s = .next (u.popHead.settledFrom s)) ∧
      (v.rd R.MGMT_TGT_STATUS.ALERT = 1 → exec (.alertResponse true) s = .next (((v.emit (.bytes "TGT" [v.tgtAddr])).alertClear).settledFrom s))) ∧
    (∀ x, v.bus.stretch = some x → x.since + 10000000 ≤ v.now → exec .stretchTimeout s = .next (v.stretchEnd.busyNack.settledFrom s)) ∧
    (v.bus.answers = true → v.bus.stretch.isSome = false →
      exec .targetBusTimeout s = .next (((v.flag R.MGMT_TGT_EVENT.TIMEOUT R.MGMT_TGT_TMO_CNT.COUNT).report Src.mgmtTgt Cls.ce Cause.timeout).settledFrom s)) ∧
    (∀ e t, s.coreOn = true → s.bus.stage = some e → s.mboxLive = true → s.qpState mgmtQp = qpLive → s.sqWait mgmtQp < 15 →
      s.cacheWrite mailboxEngine (s.sqBase mgmtQp + s.rd R.TCI_QP_PTR.SQ_TAIL mgmtQp * 64) e = (t, true) →
      ∀ u : State, u = t.sqRing mgmtQp ((s.rd R.TCI_QP_PTR.SQ_TAIL mgmtQp + 1) % t.sqDepth mgmtQp) →
      exec .mailboxMove s = .next ((((u.updBus (fun b => { b with stage := none })).wr R.MGMT_TGT_STATUS.STAGE_FULL 0).stretchGo State.wakeMgmt).settledFrom s)) ∧
    (∀ l t, s.coreOn = true → s.bus.reply = none → s.mboxLive = true → s.repliesWaiting ≠ 0 →
      s.cacheRead mailboxEngine (s.rqBase mgmtQp + s.rd R.TCI_QP_PTR.RQ_HEAD mgmtQp * 32) 32 = (t, some (l, false)) →
      exec .mailboxReplyStage s = .next ((((t.updBus (fun b => { b with reply := some l })).wr R.MGMT_TGT_STATUS.REPLY_READY 1).alertSet.countReplies).settledFrom s)) ∧
    (∀ tries mw, (s.pwr.pstate = .flight ∨ s.pwr.pstate = .glide) → s.rd R.MGMT_CTL_CFG.ENABLE ≠ 0 → s.epoch / 1000000 ≠ s.bus.roundMs →
      ∀ u : State, u = s.roundEntries.foldl (fun (x : State) i => x.ctlAttempt tries i) (s.wr R.MGMT_CTL_STATUS.LATE (b2n (decide (10 ≤ s.epoch % 1000000)))) →
      ∀ i, u.nextSensor = some i →
      exec (.controllerRound tries mw) s = .next (((u.updBus (fun b => { b with round := b.round + 1, roundMs := s.epoch / 1000000, sensor := i })).vrUpdate mw).settledFrom s)) ∧
    (∀ n smp, n < 2 → s.uartOn n = true →
      (∀ b, uartReceive (s.rd R.MGMT_UART_CFG.PARITY_EN n == 1) smp = .byte b true → (s.uart n).rx.length < 64 →
        exec (.uartRxCharacter n smp) s = .next (((s.setUart n { s.uart n with rx := (s.uart n).rx ++ [b] }).uartDone n).settledFrom s)) ∧
      (uartReceive (s.rd R.MGMT_UART_CFG.PARITY_EN n == 1) smp = .framing →
        exec (.uartRxCharacter n smp) s = .next (((s.flag R.MGMT_UART_EVENT.FRAMING R.MGMT_UART_FRM_CNT.COUNT n).uartDone n).settledFrom s)) ∧
      (∀ b, (s.uart n).line = some b → ∀ u : State, u = (s.setUart n { s.uart n with line := none }).drive (.bytes (if n = 0 then "UART0" else "UART1") [b]) →
        exec (.uartTxComplete n) s = .next (((u.uartStart n).uartDone n).settledFrom s)))

/-- Power pins, RESET_N, PERST_N, straps and the WARM reset act as the bring-up chapter states (R21, R307, R310, R330, R333, R393, R417, R418, R419, R420, R427). -/
def Obligations.PowerPinAndResetEventsComplete : Prop :=
  ∀ s : State,
    (∀ sel u, s.pwr.pstate = .off → u = ((s.dark.updPwr (fun p => { p with pstate := .noPwr, perchUpAt := s.dark.now })).updBoot (fun b => { b with stage := .waitPwr })).wr
        R.MGMT_TGT_STATUS.SLOT (sel % 4) →
      exec (.perchPowerOn sel true) s = .next (u.perchDraws.settledFrom s) ∧
      exec (.perchPowerOn sel false) s = .next ((u.updSec (fun x => { x with trngFail := true, nonceWait := true })).settledFrom s)) ∧
    (s.pwr.pstate ≠ .off → exec .perchPowerLoss s = .next (s.coreLow.dark.settledFrom s)) ∧
    (s.pwr.pstate ≠ .off → s.pwr.perchUpAt + 2000000 ≤ s.now → s.sec.nonceWait = false →
      (s.Rests → s.pwr.pwrOkPend = false → exec .perchStartupExpiry s = .next (s.updBus (fun b => { b with answers := true }))) ∧
      (s.pwr.pwrOkPend = true → exec .perchStartupExpiry s = .next ((s.updBus (fun b => { b with answers := true })).powerStart.settledFrom s))) ∧
    (∀ tray sel u, s.pwr.pstate ≠ .off → s.pwr.pwrOk = false → u = (s.updPwr (fun p => { p with pwrOk := true })).updTop (fun t => { t with trayPins := tray % 16, selPins := sel % 4 }) →
      (s.now < s.pwr.perchUpAt + 2000000 → exec (.pwrOkRise tray sel) s = .next ((u.updPwr (fun p => { p with pwrOkPend := true })).settledFrom s)) ∧
      (s.pwr.perchUpAt + 2000000 ≤ s.now → exec (.pwrOkRise tray sel) s = .next (u.powerStart.settledFrom s))) ∧
    (s.pwr.pwrOk = true → exec .pwrOkFall s = .next ((s.updPwr (fun p => { p with pwrOk := false, pwrOkPend := false, wakePend := false })).powerFall.settledFrom s)) ∧
    (s.pwr.corePg = false → s.rd R.PWR_PERCH_STATE.CORE_EN ≠ 0 → exec .corePgRise s = .next (({ s.updPwr (fun p => { p with corePg := true }) with
      tap := { s.tap with up := true } } : State).settledFrom s)) ∧
    (s.pwr.corePg = true → s.rd R.PWR_PERCH_STATE.CORE_EN = 1 → exec .corePgFall s = .next ((s.updPwr (fun p => { p with corePg := false })).powerFall.settledFrom s)) ∧
    (s.pwr.corePg = true → s.rd R.PWR_PERCH_STATE.CORE_EN ≠ 0 →
      (s.pwr.pstate = .noPwr → exec .pllLock s = .next (s.coldGo.settledFrom s)) ∧
      (s.pwr.pstate = .waking → s.time.fastRun = false → exec .pllLock s = .next (((((s.timeStart).clocksOn).allUp []).refillRanges).settledFrom s))) ∧
    (s.pwr.resetN = true → s.pwr.pstate ≠ .off → ∀ u : State, u = s.updPwr (fun p => { p with resetN := false }) →
      (s.Rests → s.coreOn = false → exec .resetNAssert s = .next u) ∧
      (s.coreOn = true → exec .resetNAssert s = .next (((u.wlog noSource 0 false false 2 0 none 0).startWarm .resetN (u.rd R.WATCH_LOG_HEAD.NEXT_SEQ)).settledFrom s))) ∧
    (s.Rests → exec .resetNRelease s = .next (s.updPwr (fun p => { p with resetN := true, warmHold := false }))) ∧
    (∀ u v : State, s.coreOn = true → u = s.updPwr (fun p => { p with perstN := false }) →
      v = u.adminCfg ((u.csrAt (R.TCI_ADMIN_CFG.addr 0 0 0)).setField 0 1 0) →
      exec .perstNAssert s = .next (((((List.range 4095).filter (fun q => q != 0 && v.qpState q == qpLive && v.partner q == pcie)).foldl State.qpError v).updBoot (fun b => { b with
        pcieUp := false })).settledFrom s)) ∧
    (s.Rests → exec .perstNRelease s = .next (s.updPwr (fun p => { p with perstN := true }))) ∧
    (∀ tray sel u, s.Rests → u = s.updTop (fun t => { t with trayPins := tray % 16, selPins := sel % 4 }) →
      ((s.pwr.pwrOk = true ∧ s.top.idValid = true ∧ (s.top.trayPins, s.top.selPins) ≠ (tray % 16, sel % 4)) →
        exec (.strapChange tray sel) s = .next (u.flag R.TOP_POSITION.STRAP_CHANGED R.TOP_STRAP_CHG_CNT.COUNT)) ∧
      ((s.pwr.pwrOk = false ∨ s.top.idValid = false ∨ (s.top.trayPins, s.top.selPins) = (tray % 16, sel % 4)) → exec (.strapChange tray sel) s = .next u)) ∧
    (∀ t u, s.pwr.warmAt = some t → t ≤ s.now → s.coreOn = true → u = (s.updPwr (fun p => { p with warmAt := none })).logStep noSource 0 4 none noUnit →
      exec .warmResetStart s = .next ((u.startWarm .command (s.rd R.WATCH_LOG_HEAD.NEXT_SEQ)).settledFrom s))

/-- The boot ROM, trainings, self-test, revalidation, TCI READY, D2D errors and the PCIe link act as the bring-up chapter states (R18, R192, R369, R423, R424, R425, R428, R431, R435, 18_bringup_reset.md). -/
def Obligations.BringUpEventsComplete : Prop :=
  ∀ s : State, s.coreOn = true →
    (∀ fails u v, s.boot.stage = .rom → u = s.d2dTrain fails → u.tampered = false → u.liveSensors = 0 → u.bootFlash = (v, true) →
      exec (.bootRomStart fails) s = .next (v.tirloStart.mboxPoll.settledFrom s)) ∧
    (∀ fails, s.boot.stage = .resetting → s.boot.warm = true → s.pwr.warmHold = false → exec (.bootRomStart fails) s = .next (s.bootWarm.mboxPoll.settledFrom s)) ∧
    (∀ st ppr u, st < 8 → s.boot.stage = .tirlo → s.sec.trngFail = false → (s.stkState st = stkTraining ∨ s.stkState st = stkOff) →
      u = (List.range 16).foldl (fun (x : State) n => if x.rd R.HBM_STK_PPR.VALID st n = 1 then x.wr R.HBM_STK_PPR.RESULT (lget ppr n 1) st n else x) s →
      (∀ v : State, v = (u.wr R.HBM_STK_STATUS.STATE stkReady st).wr R.HBM_STK_STATUS.RATE_MBPS (stkRate (u.rd R.HBM_STK_CFG.RATE st)) st →
        exec (.hbmTrainingDone st true ppr) s = .next ((((v.updHbm (fun h => { h with readyAt := Tab.put h.readyAt st v.now })).placePool.seedProb st).mboxPoll).settledFrom s)) ∧
      (Tab.get u.boot.trainTries st 0 = 0 → exec (.hbmTrainingDone st false ppr) s = .next ((((u.wr R.HBM_STK_STATUS.STATE stkTraining st).updBoot (fun b => { b with
        trainTries := Tab.put b.trainTries st 1 })).mboxPoll).settledFrom s)) ∧
      (Tab.get u.boot.trainTries st 0 ≠ 0 →
        exec (.hbmTrainingDone st false ppr) s = .next (((u.wr R.HBM_STK_STATUS.STATE stkFailed st).report (Src.hbmMem st 0) Cls.uc Cause.trainFailed).mboxPoll.settledFrom s))) ∧
    (∀ results fig, s.boot.stage = .tirlo → s.sec.trngFail = false → s.boot.warm = false → s.roostTrained = false →
      exec (.roostTrainingDone results fig) s = .next ((s.roostTrainedAll results fig).settledFrom s)) ∧
    (∀ u : State, s.Rests → s.boot.stage = .tirlo → s.boot.selfTest = false → s.boot.warm = false →
      u = s.forget tileBase tileEnd →
      exec (.tileSelfTestDone []) s = .next (((u.setTalon (fun t => { t with cleared := List.range 384 })).updBoot (fun b => { b with selfTest := true })).settledFrom s)) ∧
    (s.boot.reval = true → s.boot.tirloRuns = true → s.allStacks = true → exec .revalidation s = .next (s.revalidation.settledFrom s)) ∧
    (s.pwr.pstate ≠ .waking → s.boot.stage = .tirlo → s.readyOk = true → s.boot.warm = false →
      exec .tciReady s = .next (((s.updBoot (fun b => { b with stage := .ready, everReady := true })).goReady).settledFrom s)) ∧
    (∀ n, n < 10 → natBit (s.rd R.TOP_D2D_STATUS.LINK_UP) n = true →
      (s.Rests → exec (.d2dFlitCrcError n false) s = .next ((s.updTop (fun t => { t with runs := Tab.put t.runs n { fails := 0, start := s.now } })).bump R.TOP_D2D_RETRY 1 n)) ∧
      (∀ r, Tab.get? s.top.runs n = some r →
        (s.Rests → r.fails < 7 → exec (.d2dFlitCrcError n true) s = .next ((s.updTop (fun t => { t with runs := Tab.put t.runs n { r with fails := r.fails + 1 } })).bump R.TOP_D2D_RETRY 1 n)) ∧
        (7 ≤ r.fails → exec (.d2dFlitCrcError n true) s = .next ((s.d2dFail n).settledFrom s)))) ∧
    (∀ n r, Tab.get? s.top.runs n = some r → r.start + 2000 ≤ s.now → exec (.d2dLinkFailed n) s = .next ((s.d2dFail n).settledFrom s)) ∧
    (s.Rests → s.pwr.perstN = true → exec .pcieLinkUp s = .next (s.updBoot (fun b => { b with pcieUp := true })))

/-- A doorbell at or above the ring's depth, or to a queue pair that is not LIVE, is dropped and counted; nothing else changes (R63). -/
def Obligations.DoorbellOutsideTheRingIsDropped : Prop :=
  ∀ (s : State) (q : Nat) (w : CsrWr), s.Canon → q < 4096 → w.sub = 0 → (s.pwr.pstate = .flight ∨ s.pwr.pstate = .glide) →
    (s.Admits (R.TCI_DB_SQ.addr q 0 0) w → (s.qpState q ≠ qpLive ∨ s.doorbellsOpen q = true ∧ s.fromPartner q w.m = true ∧ s.sqDepth q ≤ w.val % 65536) →
      ∃ t : State, exec (.sqDoorbell q w) s = .next t ∧ t.rd R.TCI_DB_DROPPED_CNT.COUNT = (s.rd R.TCI_DB_DROPPED_CNT.COUNT + 1) % 2 ^ 32 ∧
        (∀ a, a ≠ R.TCI_DB_DROPPED_CNT.addr 0 0 0 → t.csrAt a = s.csrAt a) ∧ t = { s with csr := t.csr, out := .done w.m [] :: s.out }) ∧
    (s.Admits (R.TCI_DB_RQ.addr q 0 0) w → (s.qpState q ≠ qpLive ∨ s.doorbellsOpen q = true ∧ s.fromPartner q w.m = true ∧ s.rqDepth q ≤ w.val % 65536) →
      ∃ t : State, exec (.rqDoorbell q w) s = .next t ∧ t.rd R.TCI_DB_DROPPED_CNT.COUNT = (s.rd R.TCI_DB_DROPPED_CNT.COUNT + 1) % 2 ^ 32 ∧
        (∀ a, a ≠ R.TCI_DB_DROPPED_CNT.addr 0 0 0 → t.csrAt a = s.csrAt a) ∧ t = { s with csr := t.csr, out := .done w.m [] :: s.out })

/-- A CSR access from another package completes with an error response and changes nothing (R29). -/
def Obligations.RemoteRegisterAccessIsRefused : Prop :=
  (∀ (s : State) (a : Nat) (w : CsrWr), s.Rests → s.coreOn = true → w.m.remote = true → exec (.registerWrite a w) s = .next (s.errTo w.m)) ∧
  (∀ (s : State) (a n : Nat) (w : CsrWr) (m : Master), s.Rests → s.coreOn = true → m.remote = true → w.m = m → n < 2 →
    exec (.uartDataWrite n w) s = .next (s.errTo m) ∧ exec (.uartDataRead n m 4 0) s = .next (s.errTo m) ∧
    exec (.snapLowerRead m a) s = .next (s.errTo m) ∧ exec (.snapUpperRead m a) s = .next (s.errTo m)) ∧
  (∀ (s : State) (n : Nat) (m : KMsg), m.addr < 2 ^ 56 → m.addr / 2 ^ 50 % 64 = s.pkg → rangeOf (m.addr % 2 ^ 50) = .csr →
    (s.Heard n { m with kind := .wr } → KMsg.inBlock { m with kind := .wr } = true → decodes (m.addr % 2 ^ 50) (64 * m.lines) = true →
      exec (.wr n m) s = .next ((s.statusTo n { m with kind := .wr } KSt.csr).settledFrom s)) ∧
    (s.Heard n { m with kind := .rd } → KMsg.inBlock { m with kind := .rd } = true → decodes (m.addr % 2 ^ 50) (64 * m.lines) = true →
      exec (.rd n m) s = .next ((s.statusTo n { m with kind := .rd } KSt.csr).settledFrom s)) ∧
    (s.Heard n { m with kind := .add } → KMsg.inBlock { m with kind := .add } = true → decodes (m.addr % 2 ^ 50) (64 * m.lines) = true →
      exec (.add n m) s = .next ((s.statusTo n { m with kind := .add } KSt.csr).settledFrom s)) ∧
    (s.Heard n { m with kind := .wrMask } → decodes (m.addr % 2 ^ 50) 64 = true →
      exec (.wrMask n m) s = .next ((s.statusTo n { m with kind := .wrMask } KSt.csr).settledFrom s)))

/-- A write of a core's control or vector register by any master but a warden core at privilege F has no effect and completes with an error (R281). -/
def Obligations.CoreControlBelongsToTheFirmwareCore : Prop :=
  ∀ (s : State) (w : CsrWr) (c : Nat), s.Rests → c < 16 → w.m.isWardenF = false → w.m.cls ≠ 5 →
    (s.Admits (R.MEWS_CORE_CTRL.addr c 0 0) w →
      (written w R.MEWS_CORE_CTRL.RELEASE = 1 → exec (.coreRelease c w) s = .next (s.errTo w.m)) ∧
      (written w R.MEWS_CORE_CTRL.RESET = 1 → exec (.coreReset c w) s = .next (s.errTo w.m))) ∧
    (s.Admits (R.MEWS_CORE_VECTOR.addr c 0 0) w → exec (.registerWrite (R.MEWS_CORE_VECTOR.addr c 0 0) w) s = .next (s.errTo w.m))

/-- A 32-bit read of a SNAP register's lower half captures the upper half in the reader's latch of the block's sixteen (R10). -/
def Obligations.LowerHalfReadTakesALatch : Prop :=
  ∀ (s : State) (m : Master) (a : Nat) (r : RegInfo), s.Rests → s.csrGate a .r m 4 0 true = none → findReg a = some r → r.snap = true → R.MGMT_UART_DATA.at1 2 a = none →
    (∀ b, (s.snap.filter (fun x => x.block == b)).length ≤ 16) →
    ∃ t : State, exec (.snapLowerRead m a) s = .next t ∧ t = { s with snap := t.snap, out := .done m ((leBytes 4 ((s.csrValue a).toNat % 2 ^ 32)).map BitVec.toNat) :: s.out } ∧
      t.snapOf a m.id = some { block := a / 0x1000000, reg := a, master := m.id, upper := (s.csrValue a).toNat / 2 ^ 32 } ∧
      (∀ l, s.snap.filter (fun x => !(x.reg == a && x.master == m.id)) = l →
        ((l.filter (fun x => x.block == a / 0x1000000)).length < 16 →
          t.snap = l ++ [{ block := a / 0x1000000, reg := a, master := m.id, upper := (s.csrValue a).toNat / 2 ^ 32 }]) ∧
        (16 ≤ (l.filter (fun x => x.block == a / 0x1000000)).length → ∃ o, l.find? (fun x => x.block == a / 0x1000000) = some o ∧
          t.snap = l.filter (fun x => x != o) ++ [{ block := a / 0x1000000, reg := a, master := m.id, upper := (s.csrValue a).toNat / 2 ^ 32 }])) ∧
      (∀ b, (t.snap.filter (fun x => x.block == b)).length ≤ 16)

/-- A 32-bit upper-half read answers and frees the reader's latch, or the live half; a 64-bit read touches no latch (R11). -/
def Obligations.UpperHalfReadUsesTheLatch : Prop :=
  ∀ (s : State) (m : Master) (a : Nat) (r : RegInfo), s.Rests → findReg a = some r → r.snap = true → R.MGMT_UART_DATA.at1 2 a = none →
    (s.csrGate a .r m 4 4 true = none →
      (∀ x, s.snapOf a m.id = some x →
        exec (.snapUpperRead m a) s = .next { s with snap := s.snap.filter (fun y => y != x), out := .done m ((leBytes 4 x.upper).map BitVec.toNat) :: s.out }) ∧
      (s.snapOf a m.id = none → exec (.snapUpperRead m a) s = .next { s with out := .done m ((leBytes 4 ((s.csrValue a).toNat / 2 ^ 32)).map BitVec.toNat) :: s.out })) ∧
    (∀ c : CacheAcc, c.m = m → c.kind = .r → c.len = 8 → c.addr = s.pkg * 2 ^ 50 + csrBase + a → a < 0x100000000 → a % 8 = 0 → s.pkg < 64 → s.Runs m → s.csrGate a .r m 8 0 true = none →
      rangeOf (csrBase + a) = .csr →
      exec (.cacheAccess c) s = .next { s with out := .done m ((leBytes 8 (s.csrValue a).toNat).map BitVec.toNat) :: s.out })

/-- A flash command written while BUSY is 1 is ignored, sets FLASH_ERR and counts (R13, R299). -/
def Obligations.FlashCommandWhileBusyIsIgnored : Prop :=
  ∀ (s : State) (w : CsrWr) (op : Nat), s.Canon → s.Admits (R.MEWS_FLASH_CMD.addr 0 0 0) w → w.m.isWardenF = true → written w R.MEWS_FLASH_CMD.GO = 1 →
    written w R.MEWS_FLASH_CMD.OP = op → op < 3 → s.rd R.MEWS_FLASH_STATUS.BUSY = 1 →
    ∃ t : State, (op = 0 → exec (.flashRead w) s = .next t) ∧ (op = 1 → exec (.flashProgram w) s = .next t) ∧ (op = 2 → exec (.flashErase w) s = .next t) ∧
      t.rd R.MEWS_EVENT.FLASH_ERR = 1 ∧ t.rd R.MEWS_FLASH_ERR_CNT.COUNT = (s.rd R.MEWS_FLASH_ERR_CNT.COUNT + 1) % 2 ^ 32 ∧
      (∀ a, a ≠ R.MEWS_EVENT.FLASH_ERR.addr 0 0 0 → a ≠ R.MEWS_FLASH_ERR_CNT.addr 0 0 0 → t.csrAt a = s.csrAt a) ∧ t = { s with csr := t.csr, out := .done w.m [] :: s.out }

/-- PENDING_CLEAR clears PENDING and, with no running ladder, CLASS, STEP, LADDER and EXTENDS; the other fields and registers stay (R358). -/
def Obligations.PendingClearTouchesOnlyItsSource : Prop :=
  ∀ (s : State) (w : CsrWr) (n : Nat), s.Canon → srcUsed n = true → s.Admits (R.WATCH_SRC_STATUS.addr n 0 0) w → written w R.WATCH_SRC_STATUS.PENDING = 1 →
    ∃ t : State, exec (.pendingClear n w) s = .next t ∧ t.rd R.WATCH_SRC_STATUS.PENDING n = 0 ∧
      (s.ladder n ≠ Ladder.running → t.rd R.WATCH_SRC_STATUS.CLASS n = 0 ∧ t.rd R.WATCH_SRC_STATUS.STEP n = 0 ∧ t.rd R.WATCH_SRC_STATUS.LADDER n = 0 ∧ t.rd R.WATCH_SRC_STATUS.EXTENDS n = 0) ∧
      (s.ladder n = Ladder.running → t.rd R.WATCH_SRC_STATUS.CLASS n = s.rd R.WATCH_SRC_STATUS.CLASS n ∧ t.rd R.WATCH_SRC_STATUS.STEP n = s.rd R.WATCH_SRC_STATUS.STEP n ∧
        t.rd R.WATCH_SRC_STATUS.LADDER n = s.rd R.WATCH_SRC_STATUS.LADDER n ∧ t.rd R.WATCH_SRC_STATUS.EXTENDS n = s.rd R.WATCH_SRC_STATUS.EXTENDS n) ∧
      t.rd R.WATCH_SRC_STATUS.PRIMARY_SEQ n = s.rd R.WATCH_SRC_STATUS.PRIMARY_SEQ n ∧ t.rd R.WATCH_SRC_STATUS.LAST_CODE n = s.rd R.WATCH_SRC_STATUS.LAST_CODE n ∧
      t.rd R.WATCH_SRC_STATUS.CONSEQ_LAST n = s.rd R.WATCH_SRC_STATUS.CONSEQ_LAST n ∧ t.rd R.WATCH_SRC_STATUS.RU n = s.rd R.WATCH_SRC_STATUS.RU n ∧
      (∀ a, a ≠ R.WATCH_SRC_STATUS.addr n 0 0 → t.csrAt a = s.csrAt a) ∧ t = { s with csr := t.csr, out := .done w.m [] :: s.out }

/-- At the alarm's time ALARM is set and counted and ENABLE cleared; the alarm's time, memory and other blocks stay (R13, R337). -/
def Obligations.AlarmFiresOnceAndDisarms : Prop :=
  ∀ s : State, s.Canon → s.Rests → s.time.fastRun = true → s.rd R.TIME_ALARM.ENABLE = 1 → s.rd R.TIME_ALARM.NS ≤ s.epoch →
    ∃ t : State, exec .timeAlarmExpiry s = .next t ∧ t.rd R.TIME_ALARM.ENABLE = 0 ∧ t.rd R.TIME_ALARM.NS = s.rd R.TIME_ALARM.NS ∧ t.rd R.TIME_EVENT.ALARM = 1 ∧
      t.rd R.TIME_ALARM_CNT.COUNT = (s.rd R.TIME_ALARM_CNT.COUNT + 1) % 2 ^ 32 ∧ t.mem = s.mem ∧ exec .timeAlarmExpiry t = .next t ∧
      (natBit (s.rd R.TIME_EVENT_EN.EN) 5 = false → t = { s with csr := t.csr } ∧
        ∀ a, a ≠ R.TIME_ALARM.addr 0 0 0 → a ≠ R.TIME_EVENT.addr 0 0 0 → a ≠ R.TIME_ALARM_CNT.addr 0 0 0 → t.csrAt a = s.csrAt a)

/-- Under every HBM_GLB_LOC word the HBM address map sends each byte of HBM to a place of its own, and every place is some byte's (R148). -/
def Obligations.HbmAddressMapIsOneToOne : Prop :=
  ∀ loc : Nat,
    (∀ a, a < hbmEnd → (hbmMap loc a).1 < 512 ∧ (hbmMap loc a).2 < 0x30000000 ∧
      hbmUnmap loc ((hbmMap loc a).1 / 64) ((hbmMap loc a).1 % 64) (hbmMap loc a).2 = a ∧
      (natBit loc (a / 2 ^ 32) = true → (hbmMap loc a).1 / 128 = a / 2 ^ 30 % 4)) ∧
    (∀ stack pc l, stack < 8 → pc < 64 → l < 0x30000000 → hbmUnmap loc stack pc l < hbmEnd ∧ hbmMap loc (hbmUnmap loc stack pc l) = (stack * 64 + pc, l))

/-- The Roost address map sends each 64-byte line of Roost to a channel, stripe and line of its own, and each such place is some line's (R188). -/
def Obligations.RoostAddressMapIsOneToOne : Prop :=
  (∀ a, roostBase ≤ a → a < roostEnd → (roostMap a).ch < 8 ∧ (roostMap a).bank < 32 ∧ (roostMap a).rank < 2 ∧ (roostMap a).line < 64 ∧ (roostMap a).cs < 2 ^ 25 ∧
    roostAddr (roostMap a).ch (roostMap a).cs (roostMap a).line = a / 64 * 64) ∧
  (∀ ch cs line, ch < 8 → cs < 2 ^ 25 → line < 64 → roostBase ≤ roostAddr ch cs line ∧ roostAddr ch cs line < roostEnd ∧
    (roostMap (roostAddr ch cs line)).ch = ch ∧ (roostMap (roostAddr ch cs line)).cs = cs ∧ (roostMap (roostAddr ch cs line)).line = line)

/-- A request that no enabled region matches passes exactly where the default map's table grants the right; a fetch outside HBM never passes (R238). -/
def Obligations.DefaultMapGrantsAsTabled : Prop :=
  ∀ (t : Tab RegionW) (m : Master) (k : AccKind) (a n : Nat), 0 < n → decodes a n = true →
    (rangeOf a ≠ .hbm → k = .x → jessDecide t m k a n ≠ none) ∧
    ((∀ g, a / 64 * 64 ≤ g → g < a + n → inJessBlock g = false) → (∀ g, a / 64 * 64 ≤ g → g < a + n → jessMatch t g = []) →
      ((m.cls = 4 ∨ m.priv = .u) → ∃ f, jessDecide t m k a n = some f ∧ f.addr = a ∧ f.regA = 0x100 ∧ f.regB = 0x100 ∧ f.straddle = false) ∧
      (m.cls ≠ 4 → m.priv ≠ .u →
        (jessDecide t m k a n = none ↔
          (rangeOf a = .hbm ∧ (m.priv = .f ∨ k ≠ .x)) ∨ (rangeOf a = .roost ∧ m.priv = .f ∧ k ≠ .x) ∨
          (rangeOf a = .tile ∧ (k = .r ∨ k = .w)) ∨ (rangeOf a = .csr ∧ m.priv = .f ∧ (k = .r ∨ k = .w))) ∧
        (∀ f, jessDecide t m k a n = some f → f.addr = a ∧ f.regA = 0x100 ∧ f.regB = 0x100 ∧ f.straddle = false)))

/-- While TCI is not READY a command is answered NOT_READY in one entry at its ring's tail, its tag unchanged, and then NOTIFY's interrupt (R66, R71, R72, R80). -/
def Obligations.NotReadyReplyEntersItsRing : Prop :=
  ∀ (s : State) (c : Cmd) (op q tail next n since : Nat), s.Canon → s.Rests → s.coreOn = true → s.rd R.TCI_STATUS.READY = 0 → c.fwdFrom = none → c.qp = q → q < 4096 →
    (∀ i ∈ s.tci.intake, i.c ≠ { c with opcode := op }) → s.qpState q = qpLive → s.partner q = pcie → s.inHost q = true → s.rd R.TCI_QP_PTR.RQ_TAIL q = tail →
    next = (tail + 1) % s.rqDepth q → Tab.get s.tci.unsig q (0, s.epoch) = (n, since) →
    ∃ (t : State) (r : Rep), (op = 0 → exec (.nop c) s = .next t) ∧ (op = 1 → exec (.identify c) s = .next t) ∧
      r.tag = c.tag ∧ r.status = Stat.notReady ∧ r.retry = 16 ∧ r.r0 = 0 ∧ r.r1 = 0 ∧ r.doneNs = s.epoch ∧ r.flags % 2 = b2n (!s.tci.phase0.contains q) ∧ r.bytes.length = 32 ∧
      t.out = (if c.notify = true ∨ (s.rd R.TCI_QP_SIZE.COAL_COUNT q ≠ 0 ∧ s.rd R.TCI_QP_SIZE.COAL_COUNT q ≤ n + 1) then [.msix (s.rd R.TCI_QP_SIZE.VECTOR q)] else []) ++
        [.reply q r, .hostWrite (s.rqBase q + tail * 32) (r.bytes.map BitVec.toNat)] ++ s.out ∧
      t.rd R.TCI_QP_PTR.RQ_TAIL q = next % 2 ^ 16 ∧ (∀ a, a ≠ R.TCI_QP_PTR.RQ_TAIL.addr q 0 0 → t.csrAt a = s.csrAt a) ∧
      t.tci.phase0.contains q = (if next = 0 then !s.tci.phase0.contains q else s.tci.phase0.contains q) ∧ t.tci.intake = s.tci.intake ∧
      t = { s with csr := t.csr, out := t.out, tci := t.tci }

/-- A write that hits the cache breaks every other core's reservation of its 64-byte line, and no other reservation (R285, R294). -/
def Obligations.WriteBreaksOtherReservations : Prop :=
  ∀ (s : State) (r : CacheAcc) (a : Nat) (c : CLine), s.Canon → s.Rests → s.Runs r.m → a = r.addr % 2 ^ 50 → r.addr / 2 ^ 50 = s.pkg → r.kind = .w → rangeOf a ≠ .csr → rangeOf a ≠ .tile →
    r.addr < 2 ^ 56 → s.coreGate r.m .w r.addr (max 1 r.data.length) = none → s.cline? (a / 64 * 64) = some c → r.ecc = .clean → Tab.wf s.mews.resv = true →
    ∃ t : State, exec (.cacheAccess r) s = .next t ∧
      (∀ m x, x % 2 ^ 50 / 64 = a / 64 → coreOf m ≠ coreOf r.m → t.holdsResv m x = false) ∧
      (∀ m x, (x % 2 ^ 50 / 64 ≠ a / 64 ∨ coreOf m = coreOf r.m) → t.holdsResv m x = s.holdsResv m x) ∧
      t.cline? (a / 64 * 64) = some (mergeInto c (a % 64) r.data) ∧ (∀ x, x ≠ a / 64 * 64 → t.cline? x = s.cline? x) ∧
      (∀ x, x ≠ R.MEWS_HITS.addr 0 0 0 → t.csrAt x = s.csrAt x) ∧ t.mem = s.mem ∧ t = { s with csr := t.csr, mews := t.mews, out := .done r.m [] :: s.out }

/-- A park's commit record goes to the position that does not hold the current record, one sequence higher; all other memory stays (R46). -/
def Obligations.CommitRecordIsStored : Prop :=
  ∀ (s : State) (slot : Nat) (x : Session) (t : Transfer) (k : KeySet) (posB : Bool) (seq : Nat) (b : List Byte), s.Canon → s.Rests → s.xfer .park slot = some t → s.sesAt slot = some x →
    t.running = true → t.committed = false → t.pages = [] → t.ptLeft = 0 → s.roostUp = true → (s.domKeys x.domain).pick (s.sealSet x.domain) = some k →
    posB = s.nextPosB slot x → seq = s.nextCommit slot x → s.stblIdx (commitAddr slot posB) = none →
    b = commitBytes x seq (match x.ptFrames with | f :: _ => frameAddr f | [] => 0) (s.rd R.TIME_NONCE) →
    ∃ u : State, exec (.parkCommitWrite slot) s = .next u ∧ (b ++ commitTag k b).length = 64 ∧
      (∀ j, j < 64 → some (u.byteAt (commitAddr slot posB + j)) = (b ++ commitTag k b)[j]?) ∧
      (∀ j, j < commitAddr slot posB ∨ commitAddr slot posB + 64 ≤ j → u.byteAt j = s.byteAt j) ∧
      (∀ r, s.current slot x = some r → seq = r.seq + 1 ∧ ∀ j, j < 64 → u.byteAt (commitAddr slot r.posB + j) = s.byteAt (commitAddr slot r.posB + j)) ∧
      u.Canon ∧ u = { s with mem := u.mem, poison := u.poison, cells := u.cells, ses := u.ses, roost := u.roost } ∧ u.linePoison (commitAddr slot posB) = false ∧
      u.sesAt slot = some { x with recs := x.recs.filter (fun r => r.posB != posB) ++ [{ seq := seq, posB := posB, pt := x.ptFrames }] } ∧
      (∀ n, n ≠ slot → u.sesAt n = s.sesAt n)

/-- While PORT_OPEN is 0 the instructions of the open port select bypass, drive nothing, set SEALED_REJECT and count (R388). -/
def Obligations.SealedPortRefusesDebugInstructions : Prop :=
  ∀ (s : State) (pins update word : Nat), s.Canon → s.Rests → s.tapAnswers = true → s.rd R.SEC_PORT.PORT_OPEN = 0 →
    ∃ t : State, (exec (.tapExtest pins update) s = .next t ∧ exec (.tapExtestPulse pins update) s = .next t ∧ exec (.tapExtestTrain pins update) s = .next t ∧
        exec .tapClamp s = .next t ∧ exec .tapHighz s = .next t ∧ exec (.tapDbgMem word) s = .next t) ∧
      t.tap = { s.tap with ir := Ir.bypass } ∧ t.rd R.SEC_EVENT.SEALED_REJECT = 1 ∧ t.rd R.SEC_SEALED_CNT.COUNT = (s.rd R.SEC_SEALED_CNT.COUNT + 1) % 2 ^ 32 ∧
      (∀ a, a ≠ R.SEC_EVENT.SEALED_REJECT.addr 0 0 0 → a ≠ R.SEC_SEALED_CNT.COUNT.addr 0 0 0 → t.csrAt a = s.csrAt a) ∧ t = { s with csr := t.csr, tap := t.tap }

/-- A character whose bits hold for their sixteen samples enters the receive queue as its byte, least significant bit first, after those before it (R412). -/
def Obligations.UartCharacterIsReceived : Prop :=
  ∀ (s : State) (n b : Nat) (smp : List Bool), s.Canon → s.Rests → n < 2 → b < 256 → s.uartOn n = true →
    (s.rd R.MGMT_UART_CFG.PARITY_EN n = 0 → (s.uart n).rx.length < 64 → smp.length = 160 →
      (∀ j, j < 160 → smp[j]? = some (if j < 16 then false else if j < 144 then b.testBit (j / 16 - 1) else true)) →
      ∃ t : State, exec (.uartRxCharacter n smp) s = .next t ∧ (t.uart n).rx = (s.uart n).rx ++ [b] ∧ (t.uart n).tx = (s.uart n).tx ∧ t.uart (1 - n) = s.uart (1 - n) ∧
        t.rd R.MGMT_UART_STATUS.RX_LEVEL n = (s.uart n).rx.length + 1 ∧ t.mem = s.mem) ∧
    (smp[7]? = some true → smp[8]? = some true → ∃ t : State, exec (.uartRxCharacter n smp) s = .next t ∧ (t.uart n).rx = (s.uart n).rx ∧ (t.uart n).tx = (s.uart n).tx ∧ t.mem = s.mem)

/-- The opcode table gives its rows no bits, so no word spells a command and placing a word leaves the state as it was (spec/opcode_table.json). -/
def Obligations.NoWordSpellsACommand : Prop :=
  ∀ (s : State) (nbits w : Nat), decodeTableWord nbits w = none ∧ s.withFetchWord nbits w = s
end

