-- ==== Sys2Proof/Laws/Codes.lean ====
section
/-! SUPPORT. Laws of the ciphers: what they make of a block has a block's length. -/

namespace Sys2Proof.Machine

theorem leBytes_length (n v : Nat) : (leBytes n v).length = n := by
  induction n generalizing v with
  | zero => rfl
  | succ n ih => simp [leBytes, ih]

theorem beBytes_length (n v : Nat) : (beBytes n v).length = n := by simp [beBytes, leBytes_length]

theorem xorN_length (a b : List Nat) : (xorN a b).length = min a.length b.length := List.length_zipWith ..

/-- Every word of the expanded key has four bytes. -/
theorem aesExpand_words (n i rcon : Nat) (ws : List (List Nat)) (h8 : 8 ≤ ws.length) (h4 : ∀ w ∈ ws, w.length = 4) :
    (aesExpand n i rcon ws).length = n + ws.length ∧ ∀ w ∈ aesExpand n i rcon ws, w.length = 4 := by
  induction n generalizing i rcon ws with
  | zero => exact ⟨by simp [aesExpand], fun w hw => h4 w (by simpa [aesExpand] using hw)⟩
  | succ n ih =>
    have hp : (ws.headD []).length = 4 := by
      cases ws with
      | nil => simp at h8
      | cons w r => exact h4 w (by simp)
    have ho : ((ws[7]?).getD []).length = 4 := by
      rw [List.getElem?_eq_getElem (by omega)]
      exact h4 _ (List.getElem_mem _)
    unfold aesExpand
    refine (ih (i + 1) _ _ (by simp; omega) ?_).imp (fun h => by rw [h]; simp only [List.length_cons]; omega) id
    intro w hw
    rcases List.mem_cons.mp hw with rfl | hw
    · rw [List.length_zipWith, ho]
      split
      · simp only [List.length_zipWith, List.length_map, List.length_append, List.length_drop, List.length_take, hp]; rfl
      · split
        · simp only [List.length_map, hp]; rfl
        · simp only [hp]; rfl
    · exact h4 w hw

/-- Every round key has sixteen bytes, and there are fifteen. -/
theorem aesRoundKeys_length (key : Nat) : (aesRoundKeys key).length = 15 ∧ ∀ k ∈ aesRoundKeys key, k.length = 16 := by
  refine ⟨by simp [aesRoundKeys], fun k hk => ?_⟩
  have hws := aesExpand_words 52 8 1 ((List.range 8).map (fun i => slice (beBytes 32 key) (4 * i) 4)).reverse (by simp) (by
    intro w hw
    simp only [List.mem_reverse, List.mem_map, List.mem_range] at hw
    obtain ⟨i, hi, rfl⟩ := hw
    simp only [slice, List.length_take, List.length_drop, beBytes_length]
    omega)
  simp only [aesRoundKeys, List.mem_map, List.mem_range] at hk
  obtain ⟨r, hr, rfl⟩ := hk
  generalize aesExpand 52 8 1 _ = ws at hws
  obtain ⟨hl, hw⟩ := hws
  have hl : ws.length = 60 := by simpa using hl
  have hs : (slice ws (4 * r) 4).length = 4 := by simp only [slice, List.length_take, List.length_drop, hl]; omega
  have hm : ∀ w ∈ slice ws (4 * r) 4, w.length = 4 := fun w h => hw w (List.mem_of_mem_drop (List.mem_of_mem_take h))
  match h : slice ws (4 * r) 4, hs with
  | [a, b, c, d], _ =>
    rw [h] at hm
    simp [hm a (by simp), hm b (by simp), hm c (by simp), hm d (by simp)]

theorem aesEncRounds_length (ks : List (List Nat)) (st : List Nat) (h : ∀ k ∈ ks, k.length = 16) (hs : st.length = 16) : (aesEncRounds ks st).length = 16 := by
  induction ks generalizing st with
  | nil => exact hs
  | cons k ks ih =>
    cases ks with
    | nil => simp [aesEncRounds, xorN_length, aesShift, h k (by simp)]
    | cons k' ks =>
      rw [aesEncRounds]
      · exact ih _ (fun x hx => h x (List.mem_cons_of_mem _ hx)) (by simp [xorN_length, aesMix, h k (by simp)])
      · simp

/-- A block's encryption is a block. -/
theorem aesEnc_length (key : Nat) {blk : List Nat} (hb : blk.length = 16) : (aesEnc key blk).length = 16 := by
  obtain ⟨hl, hk⟩ := aesRoundKeys_length key
  unfold aesEnc
  cases h : aesRoundKeys key with
  | nil => exact hb
  | cons k ks =>
    rw [h] at hk
    exact aesEncRounds_length ks _ (fun x hx => hk x (List.mem_cons_of_mem _ hx)) (by rw [xorN_length, hb, hk k (by simp)]; rfl)

theorem cmacChain_length (key n : Nat) (c l : List Nat) (hc : c.length = 16) (hl : 16 * n ≤ l.length) : (cmacChain key n c l).length = 16 := by
  induction n generalizing c l with
  | zero => exact hc
  | succ n ih =>
    refine ih _ _ (aesEnc_length key ?_) (by rw [List.length_drop]; omega)
    rw [xorN_length, hc, List.length_take]; omega

/-- The tag of a message of whole blocks has sixteen bytes. -/
theorem cmac_length (key : Nat) (msg : List Byte) {n : Nat} (h : msg.length = 16 * (n + 1)) : (cmac key msg).length = 16 := by
  have hm : (bytesN msg).length = 16 * (n + 1) := by rw [bytesN, List.length_map, h]
  have hn : (bytesN msg).length / 16 - 1 = n := by omega
  simp only [cmac, nBytes, List.length_map, hn]
  refine aesEnc_length key ?_
  rw [xorN_length, xorN_length, cmacChain_length key n _ _ (by simp) (by omega), List.length_drop, beBytes_length, hm]; omega

end Sys2Proof.Machine
end

