-- ==== Sys2Proof/Laws/Tab.lean ====
section
/-! SUPPORT. Laws of the sparse tables, of memory's canonical form and of rising lists. -/

namespace Sys2Proof.Machine

variable {α : Type}

/-! ### Looking up after an update -/

@[simp] theorem Tab.get?_put_self (t : Tab α) (k : Nat) (v : α) : Tab.get? (Tab.put t k v) k = some v := by
  induction t with
  | nil => simp [Tab.put, Tab.get?]
  | cons e r ih =>
    obtain ⟨k', v'⟩ := e
    simp only [Tab.put]
    split
    · simp [Tab.get?]
    · split
      · simp [Tab.get?]
      · simp [Tab.get?, *]

theorem Tab.get?_put_ne (t : Tab α) {k j : Nat} (v : α) (h : j ≠ k) : Tab.get? (Tab.put t k v) j = Tab.get? t j := by
  induction t with
  | nil => simp [Tab.put, Tab.get?, Ne.symm h]
  | cons e r ih =>
    obtain ⟨k', v'⟩ := e
    simp only [Tab.put]
    split
    · subst_vars; simp [Tab.get?, Ne.symm h]
    · split
      · simp only [Tab.get?, Ne.symm h, if_false]
        split
        · split
          · omega
          · split <;> first | rfl | omega
        · rfl
      · simp [Tab.get?, ih]

/-- Nothing is found below the first key. -/
theorem Tab.get?_below {k j : Nat} {v : α} {r : Tab α} (h : j < k) : Tab.get? ((k, v) :: r) j = none := by
  simp [Tab.get?, Nat.ne_of_gt h, h]

/-- The tail of a table in canonical form is in it too. -/
theorem Tab.wf_tail {e : Nat × α} {r : Tab α} (h : Tab.wf (e :: r) = true) : Tab.wf r = true := by
  cases r with
  | nil => rfl
  | cons f r => obtain ⟨k, v⟩ := e; obtain ⟨k', v'⟩ := f; simp [Tab.wf] at h; exact h.2

/-- Keys of the tail lie above the head's. -/
theorem Tab.get?_tail_none {k : Nat} {v : α} {r : Tab α} (h : Tab.wf ((k, v) :: r) = true) {j : Nat} (hj : j ≤ k) : Tab.get? r j = none := by
  cases r with
  | nil => rfl
  | cons f r =>
    obtain ⟨k', v'⟩ := f
    simp [Tab.wf] at h
    exact Tab.get?_below (by omega)

theorem Tab.get?_del_self {t : Tab α} (h : Tab.wf t = true) (k : Nat) : Tab.get? (Tab.del t k) k = none := by
  induction t with
  | nil => rfl
  | cons e r ih =>
    obtain ⟨k', v'⟩ := e
    simp only [Tab.del]
    split
    · subst_vars; exact Tab.get?_tail_none h (Nat.le_refl _)
    · split
      · exact Tab.get?_below (by omega)
      · simp [Tab.get?, *, ih (Tab.wf_tail h)]

theorem Tab.get?_del_ne {t : Tab α} (h : Tab.wf t = true) {k j : Nat} (hj : j ≠ k) : Tab.get? (Tab.del t k) j = Tab.get? t j := by
  induction t with
  | nil => rfl
  | cons e r ih =>
    obtain ⟨k', v'⟩ := e
    simp only [Tab.del]
    split
    · subst_vars
      by_cases hlt : j < k'
      · rw [Tab.get?_tail_none h (Nat.le_of_lt hlt), Tab.get?_below hlt]
      · simp [Tab.get?, Ne.symm hj, hlt]
    · split
      · rfl
      · simp [Tab.get?, ih (Tab.wf_tail h)]

/-! ### The canonical form is kept -/

/-- A rise from a key to the first key of a table. -/
theorem Tab.wf_cons {k : Nat} {v : α} {r : Tab α} (hr : Tab.wf r = true) (h : ∀ e ∈ r.head?, k < e.1) : Tab.wf ((k, v) :: r) = true := by
  cases r with
  | nil => rfl
  | cons e r => obtain ⟨k', v'⟩ := e; simp [Tab.wf, hr] at *; exact h

theorem Tab.head_lt {k : Nat} {v : α} {r : Tab α} (h : Tab.wf ((k, v) :: r) = true) : ∀ e ∈ r.head?, k < e.1 := by
  cases r with
  | nil => simp
  | cons e r => obtain ⟨k', v'⟩ := e; simp [Tab.wf] at *; exact h.1

theorem Tab.put_head (t : Tab α) (k : Nat) (v : α) : ∀ e ∈ (Tab.put t k v).head?, e.1 = k ∨ ∃ f ∈ t.head?, e.1 = f.1 := by
  cases t with
  | nil => simp [Tab.put]
  | cons f r =>
    obtain ⟨k', v'⟩ := f
    simp only [Tab.put]
    split
    · simp
    · split <;> simp

@[simp] theorem Tab.wf_put {t : Tab α} (h : Tab.wf t = true) (k : Nat) (v : α) : Tab.wf (Tab.put t k v) = true := by
  induction t with
  | nil => rfl
  | cons e r ih =>
    obtain ⟨k', v'⟩ := e
    simp only [Tab.put]
    split
    · subst_vars; exact Tab.wf_cons (Tab.wf_tail h) (Tab.head_lt h)
    · split
      · exact Tab.wf_cons h (by simpa)
      · refine Tab.wf_cons (ih (Tab.wf_tail h)) (fun e he => ?_)
        rcases Tab.put_head r k v e he with h1 | ⟨f, hf, h1⟩
        · omega
        · have := Tab.head_lt h f hf; omega

@[simp] theorem Tab.wf_del {t : Tab α} (h : Tab.wf t = true) (k : Nat) : Tab.wf (Tab.del t k) = true := by
  induction t with
  | nil => rfl
  | cons e r ih =>
    obtain ⟨k', v'⟩ := e
    simp only [Tab.del]
    split
    · exact Tab.wf_tail h
    · split
      · exact h
      · refine Tab.wf_cons (ih (Tab.wf_tail h)) (fun e he => ?_)
        have hd := Tab.head_lt h
        cases r with
        | nil => simp [Tab.del] at he
        | cons f r =>
          obtain ⟨k2, v2⟩ := f
          have h2 := hd (k2, v2) (by simp)
          simp only [Tab.del] at he
          split at he
          · have := Tab.head_lt (Tab.wf_tail h) e he; simp at h2; omega
          · split at he <;> (simp at he; subst he; exact h2)

@[simp] theorem Tab.wf_upd {t : Tab α} (h : Tab.wf t = true) (k : Nat) (d : α) (f : α → α) : Tab.wf (Tab.upd t k d f) = true := Tab.wf_put h k _

/-- Dropping entries keeps the form. -/
theorem Tab.wf_iff (t : Tab α) : Tab.wf t = true ↔ t.Pairwise (fun a b => a.1 < b.1) := by
  induction t with
  | nil => simp [Tab.wf]
  | cons e r ih =>
    obtain ⟨k, v⟩ := e
    rw [List.pairwise_cons]
    constructor
    · intro h
      refine ⟨fun b hb => ?_, ih.mp (Tab.wf_tail h)⟩
      have hp := ih.mp (Tab.wf_tail h)
      cases r with
      | nil => simp at hb
      | cons f r =>
        obtain ⟨k2, v2⟩ := f
        have h2 := Tab.head_lt h (k2, v2) (by simp)
        rcases List.mem_cons.mp hb with rfl | hb
        · exact h2
        · exact Nat.lt_trans h2 ((List.pairwise_cons.mp hp).1 b hb)
    · rintro ⟨h1, h2⟩
      exact Tab.wf_cons (ih.mpr h2) (fun e he => h1 e (List.mem_of_mem_head? he))

@[simp] theorem Tab.wf_filter {t : Tab α} (h : Tab.wf t = true) (p : Nat × α → Bool) : Tab.wf (t.filter p) = true :=
  (Tab.wf_iff _).mpr (((Tab.wf_iff _).mp h).filter p)

@[simp] theorem Tab.wf_nil : Tab.wf ([] : Tab α) = true := rfl

/-! ### Memory -/

@[simp] theorem Memory.wf_nil : Memory.wf [] = true := rfl

@[simp] theorem Memory.wf_memPut {m : List Host.Cell} (h : Memory.wf m = true) (a : Nat) (l : List Byte) : Memory.wf (memPut m a l) = true := by
  induction l generalizing m a with
  | nil => exact h
  | cons b r ih => exact ih (Tab.wf_put h a b) (a + 1)

@[simp] theorem Memory.wf_filter {m : List Host.Cell} (h : Memory.wf m = true) (p : Host.Cell → Bool) : Memory.wf (m.filter p) = true := Tab.wf_filter h p

/-- A byte outside the stored bytes is found as before. -/
theorem get?_memPut_outside (m : List Host.Cell) (a : Nat) (l : List Byte) {j : Nat} (h : j < a ∨ a + l.length ≤ j) : Tab.get? (memPut m a l) j = Tab.get? m j := by
  induction l generalizing m a with
  | nil => rfl
  | cons b r ih =>
    simp only [List.length_cons] at h
    rw [memPut, ih _ _ (by omega), Tab.get?_put_ne _ _ (by omega)]

/-- A stored byte is found. -/
theorem get?_memPut_inside (m : List Host.Cell) (a : Nat) (l : List Byte) {j : Nat} (h : a ≤ j) (h' : j < a + l.length) : Tab.get? (memPut m a l) j = l[j - a]? := by
  induction l generalizing m a with
  | nil => simp at h'; omega
  | cons b r ih =>
    simp only [List.length_cons] at h'
    by_cases hj : j = a
    · subst hj; rw [memPut, get?_memPut_outside _ _ _ (by omega)]; simp
    · rw [memPut, ih _ _ (by omega) (by omega)]
      have : j - a = (j - (a + 1)) + 1 := by omega
      rw [this, List.getElem?_cons_succ]

end Sys2Proof.Machine
end

