-- ==== Sys2Proof/Laws/Csr.lean ====
section
/-! SUPPORT. Laws of bit fields and of the register file: a read after a write of the same register or field, and of another. -/

namespace Sys2Proof

/-- A bit of a field. -/
theorem Word.testBit_field (w : Word) (lo n i : Nat) : (w.field lo n).testBit i = (decide (i < n) && w.getLsbD (lo + i)) := by
  simp [Word.field, Nat.testBit_mod_two_pow, Nat.testBit_shiftRight, BitVec.getLsbD]

/-- A bit of the mask of a field. -/
theorem getLsbD_fieldMask (lo n i : Nat) : (BitVec.ofNat 64 ((2 ^ n - 1) <<< lo)).getLsbD i = (decide (i < 64) && decide (lo ≤ i) && decide (i < lo + n)) := by
  rw [BitVec.getLsbD_ofNat, Nat.testBit_shiftLeft, Nat.testBit_two_pow_sub_one]
  by_cases h1 : lo ≤ i
  · have : i - lo < n ↔ i < lo + n := by omega
    simp [h1, this]
  · simp [h1]

/-- A bit of a value at its field's place. -/
theorem getLsbD_fieldVal (lo n v i : Nat) : (BitVec.ofNat 64 ((v % 2 ^ n) <<< lo)).getLsbD i = (decide (i < 64) && decide (lo ≤ i) && decide (i < lo + n) && v.testBit (i - lo)) := by
  rw [BitVec.getLsbD_ofNat, Nat.testBit_shiftLeft, Nat.testBit_mod_two_pow]
  by_cases h1 : lo ≤ i
  · have : i - lo < n ↔ i < lo + n := by omega
    simp [h1, this, Bool.and_assoc]
  · simp [h1]

/-- A bit of a word with a field replaced. -/
theorem Word.getLsbD_setField (w : Word) (lo n v i : Nat) :
    (w.setField lo n v).getLsbD i = (decide (i < 64) && if lo ≤ i ∧ i < lo + n then v.testBit (i - lo) else w.getLsbD i) := by
  simp only [Word.setField, BitVec.getLsbD_or, BitVec.getLsbD_and, BitVec.getLsbD_not, getLsbD_fieldMask, getLsbD_fieldVal]
  by_cases h : i < 64
  · by_cases h1 : lo ≤ i <;> by_cases h2 : i < lo + n <;> simp [h, h1, h2]
  · simp [h, BitVec.getLsbD_of_ge w i (by omega)]

/-- A field reads as it was set. -/
theorem Word.field_setField_self (w : Word) {lo n : Nat} (v : Nat) (h : lo + n ≤ 64) : (w.setField lo n v).field lo n = v % 2 ^ n := by
  apply Nat.eq_of_testBit_eq
  intro i
  rw [Word.testBit_field, Word.getLsbD_setField, Nat.testBit_mod_two_pow]
  by_cases hi : i < n
  · have : lo + i < 64 := by omega
    simp [hi, this]
  · simp [hi]

/-- A field set leaves a field beside it. -/
theorem Word.field_setField_disjoint (w : Word) {lo n : Nat} (v : Nat) {lo' n' : Nat} (h : lo' + n' ≤ lo ∨ lo + n ≤ lo') : (w.setField lo n v).field lo' n' = w.field lo' n' := by
  apply Nat.eq_of_testBit_eq
  intro i
  rw [Word.testBit_field, Word.testBit_field, Word.getLsbD_setField]
  by_cases hi : i < n'
  · have : ¬ (lo ≤ lo' + i ∧ lo' + i < lo + n) := by omega
    rw [if_neg this]
    by_cases h64 : lo' + i < 64
    · simp [h64]
    · have := BitVec.getLsbD_of_ge w (lo' + i) (by omega)
      simp [h64, this]
  · simp [hi]

/-- A field is below two to its width. -/
theorem Word.field_lt (w : Word) (lo n : Nat) : w.field lo n < 2 ^ n := Nat.mod_lt _ (Nat.two_pow_pos n)

/-- A field set to what it holds leaves the word. -/
theorem Word.setField_field (w : Word) (lo n : Nat) : w.setField lo n (w.field lo n) = w := by
  apply BitVec.eq_of_getLsbD_eq
  intro i hi
  rw [Word.getLsbD_setField]
  split
  · next h =>
    rw [Word.testBit_field]
    have h1 : i - lo < n := by omega
    have h2 : lo + (i - lo) = i := by omega
    rw [h2]; simp [hi, h1]
  · simp [hi]

namespace Machine

/-- The register file's canonical form. -/
theorem State.csrPut_csr_wf {s : State} (h : Tab.wf s.csr = true) (a : Nat) (v : Word) : Tab.wf (s.csrPut a v).csr = true := by
  simp only [State.csrPut]; split <;> simp [h]

/-- A register reads as it was written. -/
theorem State.csrAt_csrPut_self {s : State} (h : Tab.wf s.csr = true) (a : Nat) (v : Word) : (s.csrPut a v).csrAt a = v := by
  simp only [State.csrAt, State.csrPut]
  split
  · next hv => rw [Tab.get?_del_self h, hv]; rfl
  · simp

/-- A write leaves every other register. -/
theorem State.csrAt_csrPut_ne {s : State} (h : Tab.wf s.csr = true) {a b : Nat} (v : Word) (hb : b ≠ a) : (s.csrPut a v).csrAt b = s.csrAt b := by
  simp only [State.csrAt, State.csrPut]
  split
  · rw [Tab.get?_del_ne h hb]
  · rw [Tab.get?_put_ne _ _ hb]

/-- A field reads as it was set. -/
theorem State.rd_wr_self {s : State} (h : Tab.wf s.csr = true) (f : RF) (v i j k : Nat) (hf : f.lo + f.w ≤ 64) : (s.wr f v i j k).rd f i j k = v % 2 ^ f.w := by
  simp only [State.rd, State.wr, State.csrAt_csrPut_self h, Word.field_setField_self _ v hf]

/-- Setting a field leaves another field of the same register. -/
theorem State.rd_wr_beside {s : State} (h : Tab.wf s.csr = true) (f g : RF) (v i j k i' j' k' : Nat) (ha : g.addr i' j' k' = f.addr i j k)
    (hf : g.lo + g.w ≤ f.lo ∨ f.lo + f.w ≤ g.lo) : (s.wr f v i j k).rd g i' j' k' = s.rd g i' j' k' := by
  simp only [State.rd, State.wr, ha, State.csrAt_csrPut_self h, Word.field_setField_disjoint _ v hf]

/-- Setting a field leaves every other register. -/
theorem State.csrAt_wr_ne {s : State} (h : Tab.wf s.csr = true) (f : RF) (v i j k : Nat) {b : Nat} (hb : b ≠ f.addr i j k) : (s.wr f v i j k).csrAt b = s.csrAt b :=
  State.csrAt_csrPut_ne h _ hb

theorem State.rd_wr_ne {s : State} (h : Tab.wf s.csr = true) (f g : RF) (v i j k i' j' k' : Nat) (ha : g.addr i' j' k' ≠ f.addr i j k) :
    (s.wr f v i j k).rd g i' j' k' = s.rd g i' j' k' := by
  simp only [State.rd, State.csrAt_wr_ne h f v i j k ha]

theorem State.wr_csr_wf {s : State} (h : Tab.wf s.csr = true) (f : RF) (v i j k : Nat) : Tab.wf (s.wr f v i j k).csr = true := State.csrPut_csr_wf h _ _
theorem State.bump_csr_wf {s : State} (h : Tab.wf s.csr = true) (f : RF) (n i j k : Nat) : Tab.wf (s.bump f n i j k).csr = true := State.csrPut_csr_wf h _ _
theorem State.flag_csr_wf {s : State} (h : Tab.wf s.csr = true) (f c : RF) (i j k : Nat) : Tab.wf (s.flag f c i j k).csr = true :=
  State.bump_csr_wf (State.wr_csr_wf h f 1 i j k) c 1 i j k

/-! ### A hardware set of a status bit (R13) -/

/-- The bit is 1. -/
theorem State.flag_bit {s : State} (h : Tab.wf s.csr = true) (f c : RF) (i j k : Nat) (hf : f.lo + f.w ≤ 64) (ha : f.addr i j k ≠ c.addr i j k) :
    (s.flag f c i j k).rd f i j k = 1 % 2 ^ f.w := by
  rw [State.flag, State.bump, State.rd_wr_ne (State.wr_csr_wf h f 1 i j k) c f _ i j k i j k ha, State.rd_wr_self h f 1 i j k hf]

/-- The counter is one higher, wrapping at its width. -/
theorem State.flag_count {s : State} (h : Tab.wf s.csr = true) (f c : RF) (i j k : Nat) (hc : c.lo + c.w ≤ 64) (ha : f.addr i j k ≠ c.addr i j k) :
    (s.flag f c i j k).rd c i j k = (s.rd c i j k + 1) % 2 ^ c.w := by
  rw [State.flag, State.bump, State.rd_wr_self (State.wr_csr_wf h f 1 i j k) c _ i j k hc, State.rd_wr_ne h f c 1 i j k i j k (Ne.symm ha)]

/-- No other register changes. -/
theorem State.flag_others {s : State} (h : Tab.wf s.csr = true) (f c : RF) (i j k : Nat) {a : Nat} (h1 : a ≠ f.addr i j k) (h2 : a ≠ c.addr i j k) :
    (s.flag f c i j k).csrAt a = s.csrAt a := by
  rw [State.flag, State.bump, State.csrAt_wr_ne (State.wr_csr_wf h f 1 i j k) c _ i j k h2, State.csrAt_wr_ne h f 1 i j k h1]

@[simp] theorem State.emit_csrAt (s : State) (o : Out) (a : Nat) : (s.emit o).csrAt a = s.csrAt a := (rfl)
@[simp] theorem State.emit_rd (s : State) (o : Out) (f : RF) (i j k : Nat) : (s.emit o).rd f i j k = s.rd f i j k := (rfl)

/-! ### Memory -/

/-- Memory as a read finds it, after a store: outside the stored bytes as before. -/
theorem State.byteAt_store_outside (s : State) (a : Nat) (l : List Byte) {j : Nat} (h : j < a ∨ a + l.length ≤ j) : (s.store a l).byteAt j = s.byteAt j := by
  simp only [State.byteAt, State.byte?, State.store, get?_memPut_outside _ _ _ h]; rfl

/-- Inside the stored bytes, the byte stored. -/
theorem State.byteAt_store_inside (s : State) (a : Nat) (l : List Byte) {j : Nat} (h : a ≤ j) (h' : j < a + l.length) : some ((s.store a l).byteAt j) = l[j - a]? := by
  simp only [State.byteAt, State.byte?, State.store, get?_memPut_inside _ _ _ h h']
  have : j - a < l.length := by omega
  simp [List.getElem?_eq_getElem this]

/-- A store keeps memory's canonical form. -/
theorem State.store_wf {s : State} (h : Memory.wf s.mem = true) (a : Nat) (l : List Byte) : Memory.wf (s.store a l).mem = true := Memory.wf_memPut h a l

theorem State.reset_mem_wf : Memory.wf State.reset.mem = true := rfl

end Machine

end Sys2Proof
end

