-- ==== Sys2Proof/Laws/State.lean ====
section
/-! SUPPORT. What each update of the state leaves alone, field by field, so that no proof unfolds a record update. -/

namespace Sys2Proof.Machine

variable (s : State)

/-! ### csrPut -/

@[simp] theorem State.csrPut_pending (a : Nat) (v : Word) : (s.csrPut a v).pending = s.pending := (rfl)
@[simp] theorem State.csrPut_now (a : Nat) (v : Word) : (s.csrPut a v).now = s.now := (rfl)
@[simp] theorem State.csrPut_mem (a : Nat) (v : Word) : (s.csrPut a v).mem = s.mem := (rfl)
@[simp] theorem State.csrPut_cells (a : Nat) (v : Word) : (s.csrPut a v).cells = s.cells := (rfl)
@[simp] theorem State.csrPut_poison (a : Nat) (v : Word) : (s.csrPut a v).poison = s.poison := (rfl)
@[simp] theorem State.csrPut_free (a : Nat) (v : Word) : (s.csrPut a v).free = s.free := (rfl)
@[simp] theorem State.csrPut_memGen (a : Nat) (v : Word) : (s.csrPut a v).memGen = s.memGen := (rfl)
@[simp] theorem State.csrPut_out (a : Nat) (v : Word) : (s.csrPut a v).out = s.out := (rfl)
@[simp] theorem State.csrPut_snap (a : Nat) (v : Word) : (s.csrPut a v).snap = s.snap := (rfl)
@[simp] theorem State.csrPut_top (a : Nat) (v : Word) : (s.csrPut a v).top = s.top := (rfl)
@[simp] theorem State.csrPut_ses (a : Nat) (v : Word) : (s.csrPut a v).ses = s.ses := (rfl)
@[simp] theorem State.csrPut_tci (a : Nat) (v : Word) : (s.csrPut a v).tci = s.tci := (rfl)
@[simp] theorem State.csrPut_talon (a : Nat) (v : Word) : (s.csrPut a v).talon = s.talon := (rfl)
@[simp] theorem State.csrPut_jess (a : Nat) (v : Word) : (s.csrPut a v).jess = s.jess := (rfl)
@[simp] theorem State.csrPut_ktl (a : Nat) (v : Word) : (s.csrPut a v).ktl = s.ktl := (rfl)
@[simp] theorem State.csrPut_mews (a : Nat) (v : Word) : (s.csrPut a v).mews = s.mews := (rfl)
@[simp] theorem State.csrPut_hbm (a : Nat) (v : Word) : (s.csrPut a v).hbm = s.hbm := (rfl)
@[simp] theorem State.csrPut_roost (a : Nat) (v : Word) : (s.csrPut a v).roost = s.roost := (rfl)
@[simp] theorem State.csrPut_crypt (a : Nat) (v : Word) : (s.csrPut a v).crypt = s.crypt := (rfl)
@[simp] theorem State.csrPut_pwr (a : Nat) (v : Word) : (s.csrPut a v).pwr = s.pwr := (rfl)
@[simp] theorem State.csrPut_time (a : Nat) (v : Word) : (s.csrPut a v).time = s.time := (rfl)
@[simp] theorem State.csrPut_watch (a : Nat) (v : Word) : (s.csrPut a v).watch = s.watch := (rfl)
@[simp] theorem State.csrPut_boot (a : Nat) (v : Word) : (s.csrPut a v).boot = s.boot := (rfl)
@[simp] theorem State.csrPut_sec (a : Nat) (v : Word) : (s.csrPut a v).sec = s.sec := (rfl)
@[simp] theorem State.csrPut_bus (a : Nat) (v : Word) : (s.csrPut a v).bus = s.bus := (rfl)
@[simp] theorem State.csrPut_tap (a : Nat) (v : Word) : (s.csrPut a v).tap = s.tap := (rfl)
theorem State.csrPut_only (a : Nat) (v : Word) : s.csrPut a v = { s with csr := (s.csrPut a v).csr } := (rfl)

/-! ### wr -/

@[simp] theorem State.wr_pending (f : RF) (v i j k : Nat) : (s.wr f v i j k).pending = s.pending := (rfl)
@[simp] theorem State.wr_now (f : RF) (v i j k : Nat) : (s.wr f v i j k).now = s.now := (rfl)
@[simp] theorem State.wr_mem (f : RF) (v i j k : Nat) : (s.wr f v i j k).mem = s.mem := (rfl)
@[simp] theorem State.wr_cells (f : RF) (v i j k : Nat) : (s.wr f v i j k).cells = s.cells := (rfl)
@[simp] theorem State.wr_poison (f : RF) (v i j k : Nat) : (s.wr f v i j k).poison = s.poison := (rfl)
@[simp] theorem State.wr_free (f : RF) (v i j k : Nat) : (s.wr f v i j k).free = s.free := (rfl)
@[simp] theorem State.wr_memGen (f : RF) (v i j k : Nat) : (s.wr f v i j k).memGen = s.memGen := (rfl)
@[simp] theorem State.wr_out (f : RF) (v i j k : Nat) : (s.wr f v i j k).out = s.out := (rfl)
@[simp] theorem State.wr_snap (f : RF) (v i j k : Nat) : (s.wr f v i j k).snap = s.snap := (rfl)
@[simp] theorem State.wr_top (f : RF) (v i j k : Nat) : (s.wr f v i j k).top = s.top := (rfl)
@[simp] theorem State.wr_ses (f : RF) (v i j k : Nat) : (s.wr f v i j k).ses = s.ses := (rfl)
@[simp] theorem State.wr_tci (f : RF) (v i j k : Nat) : (s.wr f v i j k).tci = s.tci := (rfl)
@[simp] theorem State.wr_talon (f : RF) (v i j k : Nat) : (s.wr f v i j k).talon = s.talon := (rfl)
@[simp] theorem State.wr_jess (f : RF) (v i j k : Nat) : (s.wr f v i j k).jess = s.jess := (rfl)
@[simp] theorem State.wr_ktl (f : RF) (v i j k : Nat) : (s.wr f v i j k).ktl = s.ktl := (rfl)
@[simp] theorem State.wr_mews (f : RF) (v i j k : Nat) : (s.wr f v i j k).mews = s.mews := (rfl)
@[simp] theorem State.wr_hbm (f : RF) (v i j k : Nat) : (s.wr f v i j k).hbm = s.hbm := (rfl)
@[simp] theorem State.wr_roost (f : RF) (v i j k : Nat) : (s.wr f v i j k).roost = s.roost := (rfl)
@[simp] theorem State.wr_crypt (f : RF) (v i j k : Nat) : (s.wr f v i j k).crypt = s.crypt := (rfl)
@[simp] theorem State.wr_pwr (f : RF) (v i j k : Nat) : (s.wr f v i j k).pwr = s.pwr := (rfl)
@[simp] theorem State.wr_time (f : RF) (v i j k : Nat) : (s.wr f v i j k).time = s.time := (rfl)
@[simp] theorem State.wr_watch (f : RF) (v i j k : Nat) : (s.wr f v i j k).watch = s.watch := (rfl)
@[simp] theorem State.wr_boot (f : RF) (v i j k : Nat) : (s.wr f v i j k).boot = s.boot := (rfl)
@[simp] theorem State.wr_sec (f : RF) (v i j k : Nat) : (s.wr f v i j k).sec = s.sec := (rfl)
@[simp] theorem State.wr_bus (f : RF) (v i j k : Nat) : (s.wr f v i j k).bus = s.bus := (rfl)
@[simp] theorem State.wr_tap (f : RF) (v i j k : Nat) : (s.wr f v i j k).tap = s.tap := (rfl)
theorem State.wr_only (f : RF) (v i j k : Nat) : s.wr f v i j k = { s with csr := (s.wr f v i j k).csr } := (rfl)

/-! ### bump -/

@[simp] theorem State.bump_pending (f : RF) (n i j k : Nat) : (s.bump f n i j k).pending = s.pending := (rfl)
@[simp] theorem State.bump_now (f : RF) (n i j k : Nat) : (s.bump f n i j k).now = s.now := (rfl)
@[simp] theorem State.bump_mem (f : RF) (n i j k : Nat) : (s.bump f n i j k).mem = s.mem := (rfl)
@[simp] theorem State.bump_cells (f : RF) (n i j k : Nat) : (s.bump f n i j k).cells = s.cells := (rfl)
@[simp] theorem State.bump_poison (f : RF) (n i j k : Nat) : (s.bump f n i j k).poison = s.poison := (rfl)
@[simp] theorem State.bump_free (f : RF) (n i j k : Nat) : (s.bump f n i j k).free = s.free := (rfl)
@[simp] theorem State.bump_memGen (f : RF) (n i j k : Nat) : (s.bump f n i j k).memGen = s.memGen := (rfl)
@[simp] theorem State.bump_out (f : RF) (n i j k : Nat) : (s.bump f n i j k).out = s.out := (rfl)
@[simp] theorem State.bump_snap (f : RF) (n i j k : Nat) : (s.bump f n i j k).snap = s.snap := (rfl)
@[simp] theorem State.bump_top (f : RF) (n i j k : Nat) : (s.bump f n i j k).top = s.top := (rfl)
@[simp] theorem State.bump_ses (f : RF) (n i j k : Nat) : (s.bump f n i j k).ses = s.ses := (rfl)
@[simp] theorem State.bump_tci (f : RF) (n i j k : Nat) : (s.bump f n i j k).tci = s.tci := (rfl)
@[simp] theorem State.bump_talon (f : RF) (n i j k : Nat) : (s.bump f n i j k).talon = s.talon := (rfl)
@[simp] theorem State.bump_jess (f : RF) (n i j k : Nat) : (s.bump f n i j k).jess = s.jess := (rfl)
@[simp] theorem State.bump_ktl (f : RF) (n i j k : Nat) : (s.bump f n i j k).ktl = s.ktl := (rfl)
@[simp] theorem State.bump_mews (f : RF) (n i j k : Nat) : (s.bump f n i j k).mews = s.mews := (rfl)
@[simp] theorem State.bump_hbm (f : RF) (n i j k : Nat) : (s.bump f n i j k).hbm = s.hbm := (rfl)
@[simp] theorem State.bump_roost (f : RF) (n i j k : Nat) : (s.bump f n i j k).roost = s.roost := (rfl)
@[simp] theorem State.bump_crypt (f : RF) (n i j k : Nat) : (s.bump f n i j k).crypt = s.crypt := (rfl)
@[simp] theorem State.bump_pwr (f : RF) (n i j k : Nat) : (s.bump f n i j k).pwr = s.pwr := (rfl)
@[simp] theorem State.bump_time (f : RF) (n i j k : Nat) : (s.bump f n i j k).time = s.time := (rfl)
@[simp] theorem State.bump_watch (f : RF) (n i j k : Nat) : (s.bump f n i j k).watch = s.watch := (rfl)
@[simp] theorem State.bump_boot (f : RF) (n i j k : Nat) : (s.bump f n i j k).boot = s.boot := (rfl)
@[simp] theorem State.bump_sec (f : RF) (n i j k : Nat) : (s.bump f n i j k).sec = s.sec := (rfl)
@[simp] theorem State.bump_bus (f : RF) (n i j k : Nat) : (s.bump f n i j k).bus = s.bus := (rfl)
@[simp] theorem State.bump_tap (f : RF) (n i j k : Nat) : (s.bump f n i j k).tap = s.tap := (rfl)
theorem State.bump_only (f : RF) (n i j k : Nat) : s.bump f n i j k = { s with csr := (s.bump f n i j k).csr } := (rfl)

/-! ### flag -/

@[simp] theorem State.flag_pending (f c : RF) (i j k : Nat) : (s.flag f c i j k).pending = s.pending := (rfl)
@[simp] theorem State.flag_now (f c : RF) (i j k : Nat) : (s.flag f c i j k).now = s.now := (rfl)
@[simp] theorem State.flag_mem (f c : RF) (i j k : Nat) : (s.flag f c i j k).mem = s.mem := (rfl)
@[simp] theorem State.flag_cells (f c : RF) (i j k : Nat) : (s.flag f c i j k).cells = s.cells := (rfl)
@[simp] theorem State.flag_poison (f c : RF) (i j k : Nat) : (s.flag f c i j k).poison = s.poison := (rfl)
@[simp] theorem State.flag_free (f c : RF) (i j k : Nat) : (s.flag f c i j k).free = s.free := (rfl)
@[simp] theorem State.flag_memGen (f c : RF) (i j k : Nat) : (s.flag f c i j k).memGen = s.memGen := (rfl)
@[simp] theorem State.flag_out (f c : RF) (i j k : Nat) : (s.flag f c i j k).out = s.out := (rfl)
@[simp] theorem State.flag_snap (f c : RF) (i j k : Nat) : (s.flag f c i j k).snap = s.snap := (rfl)
@[simp] theorem State.flag_top (f c : RF) (i j k : Nat) : (s.flag f c i j k).top = s.top := (rfl)
@[simp] theorem State.flag_ses (f c : RF) (i j k : Nat) : (s.flag f c i j k).ses = s.ses := (rfl)
@[simp] theorem State.flag_tci (f c : RF) (i j k : Nat) : (s.flag f c i j k).tci = s.tci := (rfl)
@[simp] theorem State.flag_talon (f c : RF) (i j k : Nat) : (s.flag f c i j k).talon = s.talon := (rfl)
@[simp] theorem State.flag_jess (f c : RF) (i j k : Nat) : (s.flag f c i j k).jess = s.jess := (rfl)
@[simp] theorem State.flag_ktl (f c : RF) (i j k : Nat) : (s.flag f c i j k).ktl = s.ktl := (rfl)
@[simp] theorem State.flag_mews (f c : RF) (i j k : Nat) : (s.flag f c i j k).mews = s.mews := (rfl)
@[simp] theorem State.flag_hbm (f c : RF) (i j k : Nat) : (s.flag f c i j k).hbm = s.hbm := (rfl)
@[simp] theorem State.flag_roost (f c : RF) (i j k : Nat) : (s.flag f c i j k).roost = s.roost := (rfl)
@[simp] theorem State.flag_crypt (f c : RF) (i j k : Nat) : (s.flag f c i j k).crypt = s.crypt := (rfl)
@[simp] theorem State.flag_pwr (f c : RF) (i j k : Nat) : (s.flag f c i j k).pwr = s.pwr := (rfl)
@[simp] theorem State.flag_time (f c : RF) (i j k : Nat) : (s.flag f c i j k).time = s.time := (rfl)
@[simp] theorem State.flag_watch (f c : RF) (i j k : Nat) : (s.flag f c i j k).watch = s.watch := (rfl)
@[simp] theorem State.flag_boot (f c : RF) (i j k : Nat) : (s.flag f c i j k).boot = s.boot := (rfl)
@[simp] theorem State.flag_sec (f c : RF) (i j k : Nat) : (s.flag f c i j k).sec = s.sec := (rfl)
@[simp] theorem State.flag_bus (f c : RF) (i j k : Nat) : (s.flag f c i j k).bus = s.bus := (rfl)
@[simp] theorem State.flag_tap (f c : RF) (i j k : Nat) : (s.flag f c i j k).tap = s.tap := (rfl)
theorem State.flag_only (f c : RF) (i j k : Nat) : s.flag f c i j k = { s with csr := (s.flag f c i j k).csr } := (rfl)

/-! ### emit -/

@[simp] theorem State.emit_pending (o : Out) : (s.emit o).pending = s.pending := (rfl)
@[simp] theorem State.emit_now (o : Out) : (s.emit o).now = s.now := (rfl)
@[simp] theorem State.emit_csr (o : Out) : (s.emit o).csr = s.csr := (rfl)
@[simp] theorem State.emit_mem (o : Out) : (s.emit o).mem = s.mem := (rfl)
@[simp] theorem State.emit_cells (o : Out) : (s.emit o).cells = s.cells := (rfl)
@[simp] theorem State.emit_poison (o : Out) : (s.emit o).poison = s.poison := (rfl)
@[simp] theorem State.emit_free (o : Out) : (s.emit o).free = s.free := (rfl)
@[simp] theorem State.emit_memGen (o : Out) : (s.emit o).memGen = s.memGen := (rfl)
@[simp] theorem State.emit_snap (o : Out) : (s.emit o).snap = s.snap := (rfl)
@[simp] theorem State.emit_top (o : Out) : (s.emit o).top = s.top := (rfl)
@[simp] theorem State.emit_ses (o : Out) : (s.emit o).ses = s.ses := (rfl)
@[simp] theorem State.emit_tci (o : Out) : (s.emit o).tci = s.tci := (rfl)
@[simp] theorem State.emit_talon (o : Out) : (s.emit o).talon = s.talon := (rfl)
@[simp] theorem State.emit_jess (o : Out) : (s.emit o).jess = s.jess := (rfl)
@[simp] theorem State.emit_ktl (o : Out) : (s.emit o).ktl = s.ktl := (rfl)
@[simp] theorem State.emit_mews (o : Out) : (s.emit o).mews = s.mews := (rfl)
@[simp] theorem State.emit_hbm (o : Out) : (s.emit o).hbm = s.hbm := (rfl)
@[simp] theorem State.emit_roost (o : Out) : (s.emit o).roost = s.roost := (rfl)
@[simp] theorem State.emit_crypt (o : Out) : (s.emit o).crypt = s.crypt := (rfl)
@[simp] theorem State.emit_pwr (o : Out) : (s.emit o).pwr = s.pwr := (rfl)
@[simp] theorem State.emit_time (o : Out) : (s.emit o).time = s.time := (rfl)
@[simp] theorem State.emit_watch (o : Out) : (s.emit o).watch = s.watch := (rfl)
@[simp] theorem State.emit_boot (o : Out) : (s.emit o).boot = s.boot := (rfl)
@[simp] theorem State.emit_sec (o : Out) : (s.emit o).sec = s.sec := (rfl)
@[simp] theorem State.emit_bus (o : Out) : (s.emit o).bus = s.bus := (rfl)
@[simp] theorem State.emit_tap (o : Out) : (s.emit o).tap = s.tap := (rfl)

/-! ### emits -/

@[simp] theorem State.emits_pending (l : List Out) : (s.emits l).pending = s.pending := (rfl)
@[simp] theorem State.emits_now (l : List Out) : (s.emits l).now = s.now := (rfl)
@[simp] theorem State.emits_csr (l : List Out) : (s.emits l).csr = s.csr := (rfl)
@[simp] theorem State.emits_mem (l : List Out) : (s.emits l).mem = s.mem := (rfl)
@[simp] theorem State.emits_cells (l : List Out) : (s.emits l).cells = s.cells := (rfl)
@[simp] theorem State.emits_poison (l : List Out) : (s.emits l).poison = s.poison := (rfl)
@[simp] theorem State.emits_free (l : List Out) : (s.emits l).free = s.free := (rfl)
@[simp] theorem State.emits_memGen (l : List Out) : (s.emits l).memGen = s.memGen := (rfl)
@[simp] theorem State.emits_snap (l : List Out) : (s.emits l).snap = s.snap := (rfl)
@[simp] theorem State.emits_top (l : List Out) : (s.emits l).top = s.top := (rfl)
@[simp] theorem State.emits_ses (l : List Out) : (s.emits l).ses = s.ses := (rfl)
@[simp] theorem State.emits_tci (l : List Out) : (s.emits l).tci = s.tci := (rfl)
@[simp] theorem State.emits_talon (l : List Out) : (s.emits l).talon = s.talon := (rfl)
@[simp] theorem State.emits_jess (l : List Out) : (s.emits l).jess = s.jess := (rfl)
@[simp] theorem State.emits_ktl (l : List Out) : (s.emits l).ktl = s.ktl := (rfl)
@[simp] theorem State.emits_mews (l : List Out) : (s.emits l).mews = s.mews := (rfl)
@[simp] theorem State.emits_hbm (l : List Out) : (s.emits l).hbm = s.hbm := (rfl)
@[simp] theorem State.emits_roost (l : List Out) : (s.emits l).roost = s.roost := (rfl)
@[simp] theorem State.emits_crypt (l : List Out) : (s.emits l).crypt = s.crypt := (rfl)
@[simp] theorem State.emits_pwr (l : List Out) : (s.emits l).pwr = s.pwr := (rfl)
@[simp] theorem State.emits_time (l : List Out) : (s.emits l).time = s.time := (rfl)
@[simp] theorem State.emits_watch (l : List Out) : (s.emits l).watch = s.watch := (rfl)
@[simp] theorem State.emits_boot (l : List Out) : (s.emits l).boot = s.boot := (rfl)
@[simp] theorem State.emits_sec (l : List Out) : (s.emits l).sec = s.sec := (rfl)
@[simp] theorem State.emits_bus (l : List Out) : (s.emits l).bus = s.bus := (rfl)
@[simp] theorem State.emits_tap (l : List Out) : (s.emits l).tap = s.tap := (rfl)

/-! ### errTo -/

@[simp] theorem State.errTo_pending (m : Master) : (s.errTo m).pending = s.pending := (rfl)
@[simp] theorem State.errTo_now (m : Master) : (s.errTo m).now = s.now := (rfl)
@[simp] theorem State.errTo_csr (m : Master) : (s.errTo m).csr = s.csr := (rfl)
@[simp] theorem State.errTo_mem (m : Master) : (s.errTo m).mem = s.mem := (rfl)
@[simp] theorem State.errTo_cells (m : Master) : (s.errTo m).cells = s.cells := (rfl)
@[simp] theorem State.errTo_poison (m : Master) : (s.errTo m).poison = s.poison := (rfl)
@[simp] theorem State.errTo_free (m : Master) : (s.errTo m).free = s.free := (rfl)
@[simp] theorem State.errTo_memGen (m : Master) : (s.errTo m).memGen = s.memGen := (rfl)
@[simp] theorem State.errTo_snap (m : Master) : (s.errTo m).snap = s.snap := (rfl)
@[simp] theorem State.errTo_top (m : Master) : (s.errTo m).top = s.top := (rfl)
@[simp] theorem State.errTo_ses (m : Master) : (s.errTo m).ses = s.ses := (rfl)
@[simp] theorem State.errTo_tci (m : Master) : (s.errTo m).tci = s.tci := (rfl)
@[simp] theorem State.errTo_talon (m : Master) : (s.errTo m).talon = s.talon := (rfl)
@[simp] theorem State.errTo_jess (m : Master) : (s.errTo m).jess = s.jess := (rfl)
@[simp] theorem State.errTo_ktl (m : Master) : (s.errTo m).ktl = s.ktl := (rfl)
@[simp] theorem State.errTo_mews (m : Master) : (s.errTo m).mews = s.mews := (rfl)
@[simp] theorem State.errTo_hbm (m : Master) : (s.errTo m).hbm = s.hbm := (rfl)
@[simp] theorem State.errTo_roost (m : Master) : (s.errTo m).roost = s.roost := (rfl)
@[simp] theorem State.errTo_crypt (m : Master) : (s.errTo m).crypt = s.crypt := (rfl)
@[simp] theorem State.errTo_pwr (m : Master) : (s.errTo m).pwr = s.pwr := (rfl)
@[simp] theorem State.errTo_time (m : Master) : (s.errTo m).time = s.time := (rfl)
@[simp] theorem State.errTo_watch (m : Master) : (s.errTo m).watch = s.watch := (rfl)
@[simp] theorem State.errTo_boot (m : Master) : (s.errTo m).boot = s.boot := (rfl)
@[simp] theorem State.errTo_sec (m : Master) : (s.errTo m).sec = s.sec := (rfl)
@[simp] theorem State.errTo_bus (m : Master) : (s.errTo m).bus = s.bus := (rfl)
@[simp] theorem State.errTo_tap (m : Master) : (s.errTo m).tap = s.tap := (rfl)

/-! ### draw -/

@[simp] theorem State.draw_pending : s.draw.pending = s.pending := (rfl)
@[simp] theorem State.draw_now : s.draw.now = s.now := (rfl)
@[simp] theorem State.draw_csr : s.draw.csr = s.csr := (rfl)
@[simp] theorem State.draw_mem : s.draw.mem = s.mem := (rfl)
@[simp] theorem State.draw_cells : s.draw.cells = s.cells := (rfl)
@[simp] theorem State.draw_poison : s.draw.poison = s.poison := (rfl)
@[simp] theorem State.draw_memGen : s.draw.memGen = s.memGen := (rfl)
@[simp] theorem State.draw_out : s.draw.out = s.out := (rfl)
@[simp] theorem State.draw_snap : s.draw.snap = s.snap := (rfl)
@[simp] theorem State.draw_top : s.draw.top = s.top := (rfl)
@[simp] theorem State.draw_ses : s.draw.ses = s.ses := (rfl)
@[simp] theorem State.draw_tci : s.draw.tci = s.tci := (rfl)
@[simp] theorem State.draw_talon : s.draw.talon = s.talon := (rfl)
@[simp] theorem State.draw_jess : s.draw.jess = s.jess := (rfl)
@[simp] theorem State.draw_ktl : s.draw.ktl = s.ktl := (rfl)
@[simp] theorem State.draw_mews : s.draw.mews = s.mews := (rfl)
@[simp] theorem State.draw_hbm : s.draw.hbm = s.hbm := (rfl)
@[simp] theorem State.draw_roost : s.draw.roost = s.roost := (rfl)
@[simp] theorem State.draw_crypt : s.draw.crypt = s.crypt := (rfl)
@[simp] theorem State.draw_pwr : s.draw.pwr = s.pwr := (rfl)
@[simp] theorem State.draw_time : s.draw.time = s.time := (rfl)
@[simp] theorem State.draw_watch : s.draw.watch = s.watch := (rfl)
@[simp] theorem State.draw_boot : s.draw.boot = s.boot := (rfl)
@[simp] theorem State.draw_sec : s.draw.sec = s.sec := (rfl)
@[simp] theorem State.draw_bus : s.draw.bus = s.bus := (rfl)
@[simp] theorem State.draw_tap : s.draw.tap = s.tap := (rfl)

/-! ### store -/

@[simp] theorem State.store_pending (a : Nat) (l : List Byte) : (s.store a l).pending = s.pending := (rfl)
@[simp] theorem State.store_now (a : Nat) (l : List Byte) : (s.store a l).now = s.now := (rfl)
@[simp] theorem State.store_csr (a : Nat) (l : List Byte) : (s.store a l).csr = s.csr := (rfl)
@[simp] theorem State.store_poison (a : Nat) (l : List Byte) : (s.store a l).poison = s.poison := (rfl)
@[simp] theorem State.store_cells (a : Nat) (l : List Byte) : (s.store a l).cells = s.cells := (rfl)
@[simp] theorem State.store_free (a : Nat) (l : List Byte) : (s.store a l).free = s.free := (rfl)
@[simp] theorem State.store_memGen (a : Nat) (l : List Byte) : (s.store a l).memGen = s.memGen := (rfl)
@[simp] theorem State.store_out (a : Nat) (l : List Byte) : (s.store a l).out = s.out := (rfl)
@[simp] theorem State.store_snap (a : Nat) (l : List Byte) : (s.store a l).snap = s.snap := (rfl)
@[simp] theorem State.store_top (a : Nat) (l : List Byte) : (s.store a l).top = s.top := (rfl)
@[simp] theorem State.store_ses (a : Nat) (l : List Byte) : (s.store a l).ses = s.ses := (rfl)
@[simp] theorem State.store_tci (a : Nat) (l : List Byte) : (s.store a l).tci = s.tci := (rfl)
@[simp] theorem State.store_talon (a : Nat) (l : List Byte) : (s.store a l).talon = s.talon := (rfl)
@[simp] theorem State.store_jess (a : Nat) (l : List Byte) : (s.store a l).jess = s.jess := (rfl)
@[simp] theorem State.store_ktl (a : Nat) (l : List Byte) : (s.store a l).ktl = s.ktl := (rfl)
@[simp] theorem State.store_mews (a : Nat) (l : List Byte) : (s.store a l).mews = s.mews := (rfl)
@[simp] theorem State.store_hbm (a : Nat) (l : List Byte) : (s.store a l).hbm = s.hbm := (rfl)
@[simp] theorem State.store_roost (a : Nat) (l : List Byte) : (s.store a l).roost = s.roost := (rfl)
@[simp] theorem State.store_crypt (a : Nat) (l : List Byte) : (s.store a l).crypt = s.crypt := (rfl)
@[simp] theorem State.store_pwr (a : Nat) (l : List Byte) : (s.store a l).pwr = s.pwr := (rfl)
@[simp] theorem State.store_time (a : Nat) (l : List Byte) : (s.store a l).time = s.time := (rfl)
@[simp] theorem State.store_watch (a : Nat) (l : List Byte) : (s.store a l).watch = s.watch := (rfl)
@[simp] theorem State.store_boot (a : Nat) (l : List Byte) : (s.store a l).boot = s.boot := (rfl)
@[simp] theorem State.store_sec (a : Nat) (l : List Byte) : (s.store a l).sec = s.sec := (rfl)
@[simp] theorem State.store_bus (a : Nat) (l : List Byte) : (s.store a l).bus = s.bus := (rfl)
@[simp] theorem State.store_tap (a : Nat) (l : List Byte) : (s.store a l).tap = s.tap := (rfl)

/-! ### setPoison -/

@[simp] theorem State.setPoison_pending (l : Nat) (p : Bool) : (s.setPoison l p).pending = s.pending := (rfl)
@[simp] theorem State.setPoison_now (l : Nat) (p : Bool) : (s.setPoison l p).now = s.now := (rfl)
@[simp] theorem State.setPoison_csr (l : Nat) (p : Bool) : (s.setPoison l p).csr = s.csr := (rfl)
@[simp] theorem State.setPoison_mem (l : Nat) (p : Bool) : (s.setPoison l p).mem = s.mem := (rfl)
@[simp] theorem State.setPoison_cells (l : Nat) (p : Bool) : (s.setPoison l p).cells = s.cells := (rfl)
@[simp] theorem State.setPoison_free (l : Nat) (p : Bool) : (s.setPoison l p).free = s.free := (rfl)
@[simp] theorem State.setPoison_memGen (l : Nat) (p : Bool) : (s.setPoison l p).memGen = s.memGen := (rfl)
@[simp] theorem State.setPoison_out (l : Nat) (p : Bool) : (s.setPoison l p).out = s.out := (rfl)
@[simp] theorem State.setPoison_snap (l : Nat) (p : Bool) : (s.setPoison l p).snap = s.snap := (rfl)
@[simp] theorem State.setPoison_top (l : Nat) (p : Bool) : (s.setPoison l p).top = s.top := (rfl)
@[simp] theorem State.setPoison_ses (l : Nat) (p : Bool) : (s.setPoison l p).ses = s.ses := (rfl)
@[simp] theorem State.setPoison_tci (l : Nat) (p : Bool) : (s.setPoison l p).tci = s.tci := (rfl)
@[simp] theorem State.setPoison_talon (l : Nat) (p : Bool) : (s.setPoison l p).talon = s.talon := (rfl)
@[simp] theorem State.setPoison_jess (l : Nat) (p : Bool) : (s.setPoison l p).jess = s.jess := (rfl)
@[simp] theorem State.setPoison_ktl (l : Nat) (p : Bool) : (s.setPoison l p).ktl = s.ktl := (rfl)
@[simp] theorem State.setPoison_mews (l : Nat) (p : Bool) : (s.setPoison l p).mews = s.mews := (rfl)
@[simp] theorem State.setPoison_hbm (l : Nat) (p : Bool) : (s.setPoison l p).hbm = s.hbm := (rfl)
@[simp] theorem State.setPoison_roost (l : Nat) (p : Bool) : (s.setPoison l p).roost = s.roost := (rfl)
@[simp] theorem State.setPoison_crypt (l : Nat) (p : Bool) : (s.setPoison l p).crypt = s.crypt := (rfl)
@[simp] theorem State.setPoison_pwr (l : Nat) (p : Bool) : (s.setPoison l p).pwr = s.pwr := (rfl)
@[simp] theorem State.setPoison_time (l : Nat) (p : Bool) : (s.setPoison l p).time = s.time := (rfl)
@[simp] theorem State.setPoison_watch (l : Nat) (p : Bool) : (s.setPoison l p).watch = s.watch := (rfl)
@[simp] theorem State.setPoison_boot (l : Nat) (p : Bool) : (s.setPoison l p).boot = s.boot := (rfl)
@[simp] theorem State.setPoison_sec (l : Nat) (p : Bool) : (s.setPoison l p).sec = s.sec := (rfl)
@[simp] theorem State.setPoison_bus (l : Nat) (p : Bool) : (s.setPoison l p).bus = s.bus := (rfl)
@[simp] theorem State.setPoison_tap (l : Nat) (p : Bool) : (s.setPoison l p).tap = s.tap := (rfl)

@[simp] theorem State.emit_out (o : Out) : (s.emit o).out = o :: s.out := (rfl)
@[simp] theorem State.emits_out (l : List Out) : (s.emits l).out = l.reverse ++ s.out := (rfl)
@[simp] theorem State.errTo_out (m : Master) : (s.errTo m).out = .error m :: s.out := (rfl)
@[simp] theorem State.draw_free : s.draw.free = s.free + 1 := (rfl)
@[simp] theorem State.store_mem (a : Nat) (l : List Byte) : (s.store a l).mem = memPut s.mem a l := (rfl)

/-! ### updTime -/

@[simp] theorem State.updTime_time (f : TimeState → TimeState) : (s.updTime f).time = f s.time := (rfl)
@[simp] theorem State.updTime_pending (f : TimeState → TimeState) : (s.updTime f).pending = s.pending := (rfl)
@[simp] theorem State.updTime_now (f : TimeState → TimeState) : (s.updTime f).now = s.now := (rfl)
@[simp] theorem State.updTime_csr (f : TimeState → TimeState) : (s.updTime f).csr = s.csr := (rfl)
@[simp] theorem State.updTime_mem (f : TimeState → TimeState) : (s.updTime f).mem = s.mem := (rfl)
@[simp] theorem State.updTime_cells (f : TimeState → TimeState) : (s.updTime f).cells = s.cells := (rfl)
@[simp] theorem State.updTime_poison (f : TimeState → TimeState) : (s.updTime f).poison = s.poison := (rfl)
@[simp] theorem State.updTime_free (f : TimeState → TimeState) : (s.updTime f).free = s.free := (rfl)
@[simp] theorem State.updTime_memGen (f : TimeState → TimeState) : (s.updTime f).memGen = s.memGen := (rfl)
@[simp] theorem State.updTime_out (f : TimeState → TimeState) : (s.updTime f).out = s.out := (rfl)
@[simp] theorem State.updTime_snap (f : TimeState → TimeState) : (s.updTime f).snap = s.snap := (rfl)
@[simp] theorem State.updTime_top (f : TimeState → TimeState) : (s.updTime f).top = s.top := (rfl)
@[simp] theorem State.updTime_ses (f : TimeState → TimeState) : (s.updTime f).ses = s.ses := (rfl)
@[simp] theorem State.updTime_tci (f : TimeState → TimeState) : (s.updTime f).tci = s.tci := (rfl)
@[simp] theorem State.updTime_talon (f : TimeState → TimeState) : (s.updTime f).talon = s.talon := (rfl)
@[simp] theorem State.updTime_jess (f : TimeState → TimeState) : (s.updTime f).jess = s.jess := (rfl)
@[simp] theorem State.updTime_ktl (f : TimeState → TimeState) : (s.updTime f).ktl = s.ktl := (rfl)
@[simp] theorem State.updTime_mews (f : TimeState → TimeState) : (s.updTime f).mews = s.mews := (rfl)
@[simp] theorem State.updTime_hbm (f : TimeState → TimeState) : (s.updTime f).hbm = s.hbm := (rfl)
@[simp] theorem State.updTime_roost (f : TimeState → TimeState) : (s.updTime f).roost = s.roost := (rfl)
@[simp] theorem State.updTime_crypt (f : TimeState → TimeState) : (s.updTime f).crypt = s.crypt := (rfl)
@[simp] theorem State.updTime_pwr (f : TimeState → TimeState) : (s.updTime f).pwr = s.pwr := (rfl)
@[simp] theorem State.updTime_watch (f : TimeState → TimeState) : (s.updTime f).watch = s.watch := (rfl)
@[simp] theorem State.updTime_boot (f : TimeState → TimeState) : (s.updTime f).boot = s.boot := (rfl)
@[simp] theorem State.updTime_sec (f : TimeState → TimeState) : (s.updTime f).sec = s.sec := (rfl)
@[simp] theorem State.updTime_bus (f : TimeState → TimeState) : (s.updTime f).bus = s.bus := (rfl)
@[simp] theorem State.updTime_tap (f : TimeState → TimeState) : (s.updTime f).tap = s.tap := (rfl)

/-! ### updWatch -/

@[simp] theorem State.updWatch_watch (f : WatchState → WatchState) : (s.updWatch f).watch = f s.watch := (rfl)
@[simp] theorem State.updWatch_pending (f : WatchState → WatchState) : (s.updWatch f).pending = s.pending := (rfl)
@[simp] theorem State.updWatch_now (f : WatchState → WatchState) : (s.updWatch f).now = s.now := (rfl)
@[simp] theorem State.updWatch_csr (f : WatchState → WatchState) : (s.updWatch f).csr = s.csr := (rfl)
@[simp] theorem State.updWatch_mem (f : WatchState → WatchState) : (s.updWatch f).mem = s.mem := (rfl)
@[simp] theorem State.updWatch_cells (f : WatchState → WatchState) : (s.updWatch f).cells = s.cells := (rfl)
@[simp] theorem State.updWatch_poison (f : WatchState → WatchState) : (s.updWatch f).poison = s.poison := (rfl)
@[simp] theorem State.updWatch_free (f : WatchState → WatchState) : (s.updWatch f).free = s.free := (rfl)
@[simp] theorem State.updWatch_memGen (f : WatchState → WatchState) : (s.updWatch f).memGen = s.memGen := (rfl)
@[simp] theorem State.updWatch_out (f : WatchState → WatchState) : (s.updWatch f).out = s.out := (rfl)
@[simp] theorem State.updWatch_snap (f : WatchState → WatchState) : (s.updWatch f).snap = s.snap := (rfl)
@[simp] theorem State.updWatch_top (f : WatchState → WatchState) : (s.updWatch f).top = s.top := (rfl)
@[simp] theorem State.updWatch_ses (f : WatchState → WatchState) : (s.updWatch f).ses = s.ses := (rfl)
@[simp] theorem State.updWatch_tci (f : WatchState → WatchState) : (s.updWatch f).tci = s.tci := (rfl)
@[simp] theorem State.updWatch_talon (f : WatchState → WatchState) : (s.updWatch f).talon = s.talon := (rfl)
@[simp] theorem State.updWatch_jess (f : WatchState → WatchState) : (s.updWatch f).jess = s.jess := (rfl)
@[simp] theorem State.updWatch_ktl (f : WatchState → WatchState) : (s.updWatch f).ktl = s.ktl := (rfl)
@[simp] theorem State.updWatch_mews (f : WatchState → WatchState) : (s.updWatch f).mews = s.mews := (rfl)
@[simp] theorem State.updWatch_hbm (f : WatchState → WatchState) : (s.updWatch f).hbm = s.hbm := (rfl)
@[simp] theorem State.updWatch_roost (f : WatchState → WatchState) : (s.updWatch f).roost = s.roost := (rfl)
@[simp] theorem State.updWatch_crypt (f : WatchState → WatchState) : (s.updWatch f).crypt = s.crypt := (rfl)
@[simp] theorem State.updWatch_pwr (f : WatchState → WatchState) : (s.updWatch f).pwr = s.pwr := (rfl)
@[simp] theorem State.updWatch_time (f : WatchState → WatchState) : (s.updWatch f).time = s.time := (rfl)
@[simp] theorem State.updWatch_boot (f : WatchState → WatchState) : (s.updWatch f).boot = s.boot := (rfl)
@[simp] theorem State.updWatch_sec (f : WatchState → WatchState) : (s.updWatch f).sec = s.sec := (rfl)
@[simp] theorem State.updWatch_bus (f : WatchState → WatchState) : (s.updWatch f).bus = s.bus := (rfl)
@[simp] theorem State.updWatch_tap (f : WatchState → WatchState) : (s.updWatch f).tap = s.tap := (rfl)

/-! ### updTci -/

@[simp] theorem State.updTci_tci (f : TciState → TciState) : (s.updTci f).tci = f s.tci := (rfl)
@[simp] theorem State.updTci_pending (f : TciState → TciState) : (s.updTci f).pending = s.pending := (rfl)
@[simp] theorem State.updTci_now (f : TciState → TciState) : (s.updTci f).now = s.now := (rfl)
@[simp] theorem State.updTci_csr (f : TciState → TciState) : (s.updTci f).csr = s.csr := (rfl)
@[simp] theorem State.updTci_mem (f : TciState → TciState) : (s.updTci f).mem = s.mem := (rfl)
@[simp] theorem State.updTci_cells (f : TciState → TciState) : (s.updTci f).cells = s.cells := (rfl)
@[simp] theorem State.updTci_poison (f : TciState → TciState) : (s.updTci f).poison = s.poison := (rfl)
@[simp] theorem State.updTci_free (f : TciState → TciState) : (s.updTci f).free = s.free := (rfl)
@[simp] theorem State.updTci_memGen (f : TciState → TciState) : (s.updTci f).memGen = s.memGen := (rfl)
@[simp] theorem State.updTci_out (f : TciState → TciState) : (s.updTci f).out = s.out := (rfl)
@[simp] theorem State.updTci_snap (f : TciState → TciState) : (s.updTci f).snap = s.snap := (rfl)
@[simp] theorem State.updTci_top (f : TciState → TciState) : (s.updTci f).top = s.top := (rfl)
@[simp] theorem State.updTci_ses (f : TciState → TciState) : (s.updTci f).ses = s.ses := (rfl)
@[simp] theorem State.updTci_talon (f : TciState → TciState) : (s.updTci f).talon = s.talon := (rfl)
@[simp] theorem State.updTci_jess (f : TciState → TciState) : (s.updTci f).jess = s.jess := (rfl)
@[simp] theorem State.updTci_ktl (f : TciState → TciState) : (s.updTci f).ktl = s.ktl := (rfl)
@[simp] theorem State.updTci_mews (f : TciState → TciState) : (s.updTci f).mews = s.mews := (rfl)
@[simp] theorem State.updTci_hbm (f : TciState → TciState) : (s.updTci f).hbm = s.hbm := (rfl)
@[simp] theorem State.updTci_roost (f : TciState → TciState) : (s.updTci f).roost = s.roost := (rfl)
@[simp] theorem State.updTci_crypt (f : TciState → TciState) : (s.updTci f).crypt = s.crypt := (rfl)
@[simp] theorem State.updTci_pwr (f : TciState → TciState) : (s.updTci f).pwr = s.pwr := (rfl)
@[simp] theorem State.updTci_time (f : TciState → TciState) : (s.updTci f).time = s.time := (rfl)
@[simp] theorem State.updTci_watch (f : TciState → TciState) : (s.updTci f).watch = s.watch := (rfl)
@[simp] theorem State.updTci_boot (f : TciState → TciState) : (s.updTci f).boot = s.boot := (rfl)
@[simp] theorem State.updTci_sec (f : TciState → TciState) : (s.updTci f).sec = s.sec := (rfl)
@[simp] theorem State.updTci_bus (f : TciState → TciState) : (s.updTci f).bus = s.bus := (rfl)
@[simp] theorem State.updTci_tap (f : TciState → TciState) : (s.updTci f).tap = s.tap := (rfl)

/-! ### updSes -/

@[simp] theorem State.updSes_ses (f : SessState → SessState) : (s.updSes f).ses = f s.ses := (rfl)
@[simp] theorem State.updSes_pending (f : SessState → SessState) : (s.updSes f).pending = s.pending := (rfl)
@[simp] theorem State.updSes_now (f : SessState → SessState) : (s.updSes f).now = s.now := (rfl)
@[simp] theorem State.updSes_csr (f : SessState → SessState) : (s.updSes f).csr = s.csr := (rfl)
@[simp] theorem State.updSes_mem (f : SessState → SessState) : (s.updSes f).mem = s.mem := (rfl)
@[simp] theorem State.updSes_cells (f : SessState → SessState) : (s.updSes f).cells = s.cells := (rfl)
@[simp] theorem State.updSes_poison (f : SessState → SessState) : (s.updSes f).poison = s.poison := (rfl)
@[simp] theorem State.updSes_free (f : SessState → SessState) : (s.updSes f).free = s.free := (rfl)
@[simp] theorem State.updSes_memGen (f : SessState → SessState) : (s.updSes f).memGen = s.memGen := (rfl)
@[simp] theorem State.updSes_out (f : SessState → SessState) : (s.updSes f).out = s.out := (rfl)
@[simp] theorem State.updSes_snap (f : SessState → SessState) : (s.updSes f).snap = s.snap := (rfl)
@[simp] theorem State.updSes_top (f : SessState → SessState) : (s.updSes f).top = s.top := (rfl)
@[simp] theorem State.updSes_tci (f : SessState → SessState) : (s.updSes f).tci = s.tci := (rfl)
@[simp] theorem State.updSes_talon (f : SessState → SessState) : (s.updSes f).talon = s.talon := (rfl)
@[simp] theorem State.updSes_jess (f : SessState → SessState) : (s.updSes f).jess = s.jess := (rfl)
@[simp] theorem State.updSes_ktl (f : SessState → SessState) : (s.updSes f).ktl = s.ktl := (rfl)
@[simp] theorem State.updSes_mews (f : SessState → SessState) : (s.updSes f).mews = s.mews := (rfl)
@[simp] theorem State.updSes_hbm (f : SessState → SessState) : (s.updSes f).hbm = s.hbm := (rfl)
@[simp] theorem State.updSes_roost (f : SessState → SessState) : (s.updSes f).roost = s.roost := (rfl)
@[simp] theorem State.updSes_crypt (f : SessState → SessState) : (s.updSes f).crypt = s.crypt := (rfl)
@[simp] theorem State.updSes_pwr (f : SessState → SessState) : (s.updSes f).pwr = s.pwr := (rfl)
@[simp] theorem State.updSes_time (f : SessState → SessState) : (s.updSes f).time = s.time := (rfl)
@[simp] theorem State.updSes_watch (f : SessState → SessState) : (s.updSes f).watch = s.watch := (rfl)
@[simp] theorem State.updSes_boot (f : SessState → SessState) : (s.updSes f).boot = s.boot := (rfl)
@[simp] theorem State.updSes_sec (f : SessState → SessState) : (s.updSes f).sec = s.sec := (rfl)
@[simp] theorem State.updSes_bus (f : SessState → SessState) : (s.updSes f).bus = s.bus := (rfl)
@[simp] theorem State.updSes_tap (f : SessState → SessState) : (s.updSes f).tap = s.tap := (rfl)

/-! ### updJess -/

@[simp] theorem State.updJess_jess (f : JessState → JessState) : (s.updJess f).jess = f s.jess := (rfl)
@[simp] theorem State.updJess_pending (f : JessState → JessState) : (s.updJess f).pending = s.pending := (rfl)
@[simp] theorem State.updJess_now (f : JessState → JessState) : (s.updJess f).now = s.now := (rfl)
@[simp] theorem State.updJess_csr (f : JessState → JessState) : (s.updJess f).csr = s.csr := (rfl)
@[simp] theorem State.updJess_mem (f : JessState → JessState) : (s.updJess f).mem = s.mem := (rfl)
@[simp] theorem State.updJess_cells (f : JessState → JessState) : (s.updJess f).cells = s.cells := (rfl)
@[simp] theorem State.updJess_poison (f : JessState → JessState) : (s.updJess f).poison = s.poison := (rfl)
@[simp] theorem State.updJess_free (f : JessState → JessState) : (s.updJess f).free = s.free := (rfl)
@[simp] theorem State.updJess_memGen (f : JessState → JessState) : (s.updJess f).memGen = s.memGen := (rfl)
@[simp] theorem State.updJess_out (f : JessState → JessState) : (s.updJess f).out = s.out := (rfl)
@[simp] theorem State.updJess_snap (f : JessState → JessState) : (s.updJess f).snap = s.snap := (rfl)
@[simp] theorem State.updJess_top (f : JessState → JessState) : (s.updJess f).top = s.top := (rfl)
@[simp] theorem State.updJess_ses (f : JessState → JessState) : (s.updJess f).ses = s.ses := (rfl)
@[simp] theorem State.updJess_tci (f : JessState → JessState) : (s.updJess f).tci = s.tci := (rfl)
@[simp] theorem State.updJess_talon (f : JessState → JessState) : (s.updJess f).talon = s.talon := (rfl)
@[simp] theorem State.updJess_ktl (f : JessState → JessState) : (s.updJess f).ktl = s.ktl := (rfl)
@[simp] theorem State.updJess_mews (f : JessState → JessState) : (s.updJess f).mews = s.mews := (rfl)
@[simp] theorem State.updJess_hbm (f : JessState → JessState) : (s.updJess f).hbm = s.hbm := (rfl)
@[simp] theorem State.updJess_roost (f : JessState → JessState) : (s.updJess f).roost = s.roost := (rfl)
@[simp] theorem State.updJess_crypt (f : JessState → JessState) : (s.updJess f).crypt = s.crypt := (rfl)
@[simp] theorem State.updJess_pwr (f : JessState → JessState) : (s.updJess f).pwr = s.pwr := (rfl)
@[simp] theorem State.updJess_time (f : JessState → JessState) : (s.updJess f).time = s.time := (rfl)
@[simp] theorem State.updJess_watch (f : JessState → JessState) : (s.updJess f).watch = s.watch := (rfl)
@[simp] theorem State.updJess_boot (f : JessState → JessState) : (s.updJess f).boot = s.boot := (rfl)
@[simp] theorem State.updJess_sec (f : JessState → JessState) : (s.updJess f).sec = s.sec := (rfl)
@[simp] theorem State.updJess_bus (f : JessState → JessState) : (s.updJess f).bus = s.bus := (rfl)
@[simp] theorem State.updJess_tap (f : JessState → JessState) : (s.updJess f).tap = s.tap := (rfl)

/-! ### updKtl -/

@[simp] theorem State.updKtl_ktl (f : KettleState → KettleState) : (s.updKtl f).ktl = f s.ktl := (rfl)
@[simp] theorem State.updKtl_pending (f : KettleState → KettleState) : (s.updKtl f).pending = s.pending := (rfl)
@[simp] theorem State.updKtl_now (f : KettleState → KettleState) : (s.updKtl f).now = s.now := (rfl)
@[simp] theorem State.updKtl_csr (f : KettleState → KettleState) : (s.updKtl f).csr = s.csr := (rfl)
@[simp] theorem State.updKtl_mem (f : KettleState → KettleState) : (s.updKtl f).mem = s.mem := (rfl)
@[simp] theorem State.updKtl_cells (f : KettleState → KettleState) : (s.updKtl f).cells = s.cells := (rfl)
@[simp] theorem State.updKtl_poison (f : KettleState → KettleState) : (s.updKtl f).poison = s.poison := (rfl)
@[simp] theorem State.updKtl_free (f : KettleState → KettleState) : (s.updKtl f).free = s.free := (rfl)
@[simp] theorem State.updKtl_memGen (f : KettleState → KettleState) : (s.updKtl f).memGen = s.memGen := (rfl)
@[simp] theorem State.updKtl_out (f : KettleState → KettleState) : (s.updKtl f).out = s.out := (rfl)
@[simp] theorem State.updKtl_snap (f : KettleState → KettleState) : (s.updKtl f).snap = s.snap := (rfl)
@[simp] theorem State.updKtl_top (f : KettleState → KettleState) : (s.updKtl f).top = s.top := (rfl)
@[simp] theorem State.updKtl_ses (f : KettleState → KettleState) : (s.updKtl f).ses = s.ses := (rfl)
@[simp] theorem State.updKtl_tci (f : KettleState → KettleState) : (s.updKtl f).tci = s.tci := (rfl)
@[simp] theorem State.updKtl_talon (f : KettleState → KettleState) : (s.updKtl f).talon = s.talon := (rfl)
@[simp] theorem State.updKtl_jess (f : KettleState → KettleState) : (s.updKtl f).jess = s.jess := (rfl)
@[simp] theorem State.updKtl_mews (f : KettleState → KettleState) : (s.updKtl f).mews = s.mews := (rfl)
@[simp] theorem State.updKtl_hbm (f : KettleState → KettleState) : (s.updKtl f).hbm = s.hbm := (rfl)
@[simp] theorem State.updKtl_roost (f : KettleState → KettleState) : (s.updKtl f).roost = s.roost := (rfl)
@[simp] theorem State.updKtl_crypt (f : KettleState → KettleState) : (s.updKtl f).crypt = s.crypt := (rfl)
@[simp] theorem State.updKtl_pwr (f : KettleState → KettleState) : (s.updKtl f).pwr = s.pwr := (rfl)
@[simp] theorem State.updKtl_time (f : KettleState → KettleState) : (s.updKtl f).time = s.time := (rfl)
@[simp] theorem State.updKtl_watch (f : KettleState → KettleState) : (s.updKtl f).watch = s.watch := (rfl)
@[simp] theorem State.updKtl_boot (f : KettleState → KettleState) : (s.updKtl f).boot = s.boot := (rfl)
@[simp] theorem State.updKtl_sec (f : KettleState → KettleState) : (s.updKtl f).sec = s.sec := (rfl)
@[simp] theorem State.updKtl_bus (f : KettleState → KettleState) : (s.updKtl f).bus = s.bus := (rfl)
@[simp] theorem State.updKtl_tap (f : KettleState → KettleState) : (s.updKtl f).tap = s.tap := (rfl)

/-! ### updMews -/

@[simp] theorem State.updMews_mews (f : MewsState → MewsState) : (s.updMews f).mews = f s.mews := (rfl)
@[simp] theorem State.updMews_pending (f : MewsState → MewsState) : (s.updMews f).pending = s.pending := (rfl)
@[simp] theorem State.updMews_now (f : MewsState → MewsState) : (s.updMews f).now = s.now := (rfl)
@[simp] theorem State.updMews_csr (f : MewsState → MewsState) : (s.updMews f).csr = s.csr := (rfl)
@[simp] theorem State.updMews_mem (f : MewsState → MewsState) : (s.updMews f).mem = s.mem := (rfl)
@[simp] theorem State.updMews_cells (f : MewsState → MewsState) : (s.updMews f).cells = s.cells := (rfl)
@[simp] theorem State.updMews_poison (f : MewsState → MewsState) : (s.updMews f).poison = s.poison := (rfl)
@[simp] theorem State.updMews_free (f : MewsState → MewsState) : (s.updMews f).free = s.free := (rfl)
@[simp] theorem State.updMews_memGen (f : MewsState → MewsState) : (s.updMews f).memGen = s.memGen := (rfl)
@[simp] theorem State.updMews_out (f : MewsState → MewsState) : (s.updMews f).out = s.out := (rfl)
@[simp] theorem State.updMews_snap (f : MewsState → MewsState) : (s.updMews f).snap = s.snap := (rfl)
@[simp] theorem State.updMews_top (f : MewsState → MewsState) : (s.updMews f).top = s.top := (rfl)
@[simp] theorem State.updMews_ses (f : MewsState → MewsState) : (s.updMews f).ses = s.ses := (rfl)
@[simp] theorem State.updMews_tci (f : MewsState → MewsState) : (s.updMews f).tci = s.tci := (rfl)
@[simp] theorem State.updMews_talon (f : MewsState → MewsState) : (s.updMews f).talon = s.talon := (rfl)
@[simp] theorem State.updMews_jess (f : MewsState → MewsState) : (s.updMews f).jess = s.jess := (rfl)
@[simp] theorem State.updMews_ktl (f : MewsState → MewsState) : (s.updMews f).ktl = s.ktl := (rfl)
@[simp] theorem State.updMews_hbm (f : MewsState → MewsState) : (s.updMews f).hbm = s.hbm := (rfl)
@[simp] theorem State.updMews_roost (f : MewsState → MewsState) : (s.updMews f).roost = s.roost := (rfl)
@[simp] theorem State.updMews_crypt (f : MewsState → MewsState) : (s.updMews f).crypt = s.crypt := (rfl)
@[simp] theorem State.updMews_pwr (f : MewsState → MewsState) : (s.updMews f).pwr = s.pwr := (rfl)
@[simp] theorem State.updMews_time (f : MewsState → MewsState) : (s.updMews f).time = s.time := (rfl)
@[simp] theorem State.updMews_watch (f : MewsState → MewsState) : (s.updMews f).watch = s.watch := (rfl)
@[simp] theorem State.updMews_boot (f : MewsState → MewsState) : (s.updMews f).boot = s.boot := (rfl)
@[simp] theorem State.updMews_sec (f : MewsState → MewsState) : (s.updMews f).sec = s.sec := (rfl)
@[simp] theorem State.updMews_bus (f : MewsState → MewsState) : (s.updMews f).bus = s.bus := (rfl)
@[simp] theorem State.updMews_tap (f : MewsState → MewsState) : (s.updMews f).tap = s.tap := (rfl)

/-! ### updPwr -/

@[simp] theorem State.updPwr_pwr (f : PowerState → PowerState) : (s.updPwr f).pwr = f s.pwr := (rfl)
@[simp] theorem State.updPwr_pending (f : PowerState → PowerState) : (s.updPwr f).pending = s.pending := (rfl)
@[simp] theorem State.updPwr_now (f : PowerState → PowerState) : (s.updPwr f).now = s.now := (rfl)
@[simp] theorem State.updPwr_csr (f : PowerState → PowerState) : (s.updPwr f).csr = s.csr := (rfl)
@[simp] theorem State.updPwr_mem (f : PowerState → PowerState) : (s.updPwr f).mem = s.mem := (rfl)
@[simp] theorem State.updPwr_cells (f : PowerState → PowerState) : (s.updPwr f).cells = s.cells := (rfl)
@[simp] theorem State.updPwr_poison (f : PowerState → PowerState) : (s.updPwr f).poison = s.poison := (rfl)
@[simp] theorem State.updPwr_free (f : PowerState → PowerState) : (s.updPwr f).free = s.free := (rfl)
@[simp] theorem State.updPwr_memGen (f : PowerState → PowerState) : (s.updPwr f).memGen = s.memGen := (rfl)
@[simp] theorem State.updPwr_out (f : PowerState → PowerState) : (s.updPwr f).out = s.out := (rfl)
@[simp] theorem State.updPwr_snap (f : PowerState → PowerState) : (s.updPwr f).snap = s.snap := (rfl)
@[simp] theorem State.updPwr_top (f : PowerState → PowerState) : (s.updPwr f).top = s.top := (rfl)
@[simp] theorem State.updPwr_ses (f : PowerState → PowerState) : (s.updPwr f).ses = s.ses := (rfl)
@[simp] theorem State.updPwr_tci (f : PowerState → PowerState) : (s.updPwr f).tci = s.tci := (rfl)
@[simp] theorem State.updPwr_talon (f : PowerState → PowerState) : (s.updPwr f).talon = s.talon := (rfl)
@[simp] theorem State.updPwr_jess (f : PowerState → PowerState) : (s.updPwr f).jess = s.jess := (rfl)
@[simp] theorem State.updPwr_ktl (f : PowerState → PowerState) : (s.updPwr f).ktl = s.ktl := (rfl)
@[simp] theorem State.updPwr_mews (f : PowerState → PowerState) : (s.updPwr f).mews = s.mews := (rfl)
@[simp] theorem State.updPwr_hbm (f : PowerState → PowerState) : (s.updPwr f).hbm = s.hbm := (rfl)
@[simp] theorem State.updPwr_roost (f : PowerState → PowerState) : (s.updPwr f).roost = s.roost := (rfl)
@[simp] theorem State.updPwr_crypt (f : PowerState → PowerState) : (s.updPwr f).crypt = s.crypt := (rfl)
@[simp] theorem State.updPwr_time (f : PowerState → PowerState) : (s.updPwr f).time = s.time := (rfl)
@[simp] theorem State.updPwr_watch (f : PowerState → PowerState) : (s.updPwr f).watch = s.watch := (rfl)
@[simp] theorem State.updPwr_boot (f : PowerState → PowerState) : (s.updPwr f).boot = s.boot := (rfl)
@[simp] theorem State.updPwr_sec (f : PowerState → PowerState) : (s.updPwr f).sec = s.sec := (rfl)
@[simp] theorem State.updPwr_bus (f : PowerState → PowerState) : (s.updPwr f).bus = s.bus := (rfl)
@[simp] theorem State.updPwr_tap (f : PowerState → PowerState) : (s.updPwr f).tap = s.tap := (rfl)

/-! ### updTop -/

@[simp] theorem State.updTop_top (f : TopState → TopState) : (s.updTop f).top = f s.top := (rfl)
@[simp] theorem State.updTop_pending (f : TopState → TopState) : (s.updTop f).pending = s.pending := (rfl)
@[simp] theorem State.updTop_now (f : TopState → TopState) : (s.updTop f).now = s.now := (rfl)
@[simp] theorem State.updTop_csr (f : TopState → TopState) : (s.updTop f).csr = s.csr := (rfl)
@[simp] theorem State.updTop_mem (f : TopState → TopState) : (s.updTop f).mem = s.mem := (rfl)
@[simp] theorem State.updTop_cells (f : TopState → TopState) : (s.updTop f).cells = s.cells := (rfl)
@[simp] theorem State.updTop_poison (f : TopState → TopState) : (s.updTop f).poison = s.poison := (rfl)
@[simp] theorem State.updTop_free (f : TopState → TopState) : (s.updTop f).free = s.free := (rfl)
@[simp] theorem State.updTop_memGen (f : TopState → TopState) : (s.updTop f).memGen = s.memGen := (rfl)
@[simp] theorem State.updTop_out (f : TopState → TopState) : (s.updTop f).out = s.out := (rfl)
@[simp] theorem State.updTop_snap (f : TopState → TopState) : (s.updTop f).snap = s.snap := (rfl)
@[simp] theorem State.updTop_ses (f : TopState → TopState) : (s.updTop f).ses = s.ses := (rfl)
@[simp] theorem State.updTop_tci (f : TopState → TopState) : (s.updTop f).tci = s.tci := (rfl)
@[simp] theorem State.updTop_talon (f : TopState → TopState) : (s.updTop f).talon = s.talon := (rfl)
@[simp] theorem State.updTop_jess (f : TopState → TopState) : (s.updTop f).jess = s.jess := (rfl)
@[simp] theorem State.updTop_ktl (f : TopState → TopState) : (s.updTop f).ktl = s.ktl := (rfl)
@[simp] theorem State.updTop_mews (f : TopState → TopState) : (s.updTop f).mews = s.mews := (rfl)
@[simp] theorem State.updTop_hbm (f : TopState → TopState) : (s.updTop f).hbm = s.hbm := (rfl)
@[simp] theorem State.updTop_roost (f : TopState → TopState) : (s.updTop f).roost = s.roost := (rfl)
@[simp] theorem State.updTop_crypt (f : TopState → TopState) : (s.updTop f).crypt = s.crypt := (rfl)
@[simp] theorem State.updTop_pwr (f : TopState → TopState) : (s.updTop f).pwr = s.pwr := (rfl)
@[simp] theorem State.updTop_time (f : TopState → TopState) : (s.updTop f).time = s.time := (rfl)
@[simp] theorem State.updTop_watch (f : TopState → TopState) : (s.updTop f).watch = s.watch := (rfl)
@[simp] theorem State.updTop_boot (f : TopState → TopState) : (s.updTop f).boot = s.boot := (rfl)
@[simp] theorem State.updTop_sec (f : TopState → TopState) : (s.updTop f).sec = s.sec := (rfl)
@[simp] theorem State.updTop_bus (f : TopState → TopState) : (s.updTop f).bus = s.bus := (rfl)
@[simp] theorem State.updTop_tap (f : TopState → TopState) : (s.updTop f).tap = s.tap := (rfl)

/-! ### updHbm -/

@[simp] theorem State.updHbm_hbm (f : HbmState → HbmState) : (s.updHbm f).hbm = f s.hbm := (rfl)
@[simp] theorem State.updHbm_pending (f : HbmState → HbmState) : (s.updHbm f).pending = s.pending := (rfl)
@[simp] theorem State.updHbm_now (f : HbmState → HbmState) : (s.updHbm f).now = s.now := (rfl)
@[simp] theorem State.updHbm_csr (f : HbmState → HbmState) : (s.updHbm f).csr = s.csr := (rfl)
@[simp] theorem State.updHbm_mem (f : HbmState → HbmState) : (s.updHbm f).mem = s.mem := (rfl)
@[simp] theorem State.updHbm_cells (f : HbmState → HbmState) : (s.updHbm f).cells = s.cells := (rfl)
@[simp] theorem State.updHbm_poison (f : HbmState → HbmState) : (s.updHbm f).poison = s.poison := (rfl)
@[simp] theorem State.updHbm_free (f : HbmState → HbmState) : (s.updHbm f).free = s.free := (rfl)
@[simp] theorem State.updHbm_memGen (f : HbmState → HbmState) : (s.updHbm f).memGen = s.memGen := (rfl)
@[simp] theorem State.updHbm_out (f : HbmState → HbmState) : (s.updHbm f).out = s.out := (rfl)
@[simp] theorem State.updHbm_snap (f : HbmState → HbmState) : (s.updHbm f).snap = s.snap := (rfl)
@[simp] theorem State.updHbm_top (f : HbmState → HbmState) : (s.updHbm f).top = s.top := (rfl)
@[simp] theorem State.updHbm_ses (f : HbmState → HbmState) : (s.updHbm f).ses = s.ses := (rfl)
@[simp] theorem State.updHbm_tci (f : HbmState → HbmState) : (s.updHbm f).tci = s.tci := (rfl)
@[simp] theorem State.updHbm_talon (f : HbmState → HbmState) : (s.updHbm f).talon = s.talon := (rfl)
@[simp] theorem State.updHbm_jess (f : HbmState → HbmState) : (s.updHbm f).jess = s.jess := (rfl)
@[simp] theorem State.updHbm_ktl (f : HbmState → HbmState) : (s.updHbm f).ktl = s.ktl := (rfl)
@[simp] theorem State.updHbm_mews (f : HbmState → HbmState) : (s.updHbm f).mews = s.mews := (rfl)
@[simp] theorem State.updHbm_roost (f : HbmState → HbmState) : (s.updHbm f).roost = s.roost := (rfl)
@[simp] theorem State.updHbm_crypt (f : HbmState → HbmState) : (s.updHbm f).crypt = s.crypt := (rfl)
@[simp] theorem State.updHbm_pwr (f : HbmState → HbmState) : (s.updHbm f).pwr = s.pwr := (rfl)
@[simp] theorem State.updHbm_time (f : HbmState → HbmState) : (s.updHbm f).time = s.time := (rfl)
@[simp] theorem State.updHbm_watch (f : HbmState → HbmState) : (s.updHbm f).watch = s.watch := (rfl)
@[simp] theorem State.updHbm_boot (f : HbmState → HbmState) : (s.updHbm f).boot = s.boot := (rfl)
@[simp] theorem State.updHbm_sec (f : HbmState → HbmState) : (s.updHbm f).sec = s.sec := (rfl)
@[simp] theorem State.updHbm_bus (f : HbmState → HbmState) : (s.updHbm f).bus = s.bus := (rfl)
@[simp] theorem State.updHbm_tap (f : HbmState → HbmState) : (s.updHbm f).tap = s.tap := (rfl)

/-! ### updRoost -/

@[simp] theorem State.updRoost_roost (f : RoostState → RoostState) : (s.updRoost f).roost = f s.roost := (rfl)
@[simp] theorem State.updRoost_pending (f : RoostState → RoostState) : (s.updRoost f).pending = s.pending := (rfl)
@[simp] theorem State.updRoost_now (f : RoostState → RoostState) : (s.updRoost f).now = s.now := (rfl)
@[simp] theorem State.updRoost_csr (f : RoostState → RoostState) : (s.updRoost f).csr = s.csr := (rfl)
@[simp] theorem State.updRoost_mem (f : RoostState → RoostState) : (s.updRoost f).mem = s.mem := (rfl)
@[simp] theorem State.updRoost_cells (f : RoostState → RoostState) : (s.updRoost f).cells = s.cells := (rfl)
@[simp] theorem State.updRoost_poison (f : RoostState → RoostState) : (s.updRoost f).poison = s.poison := (rfl)
@[simp] theorem State.updRoost_free (f : RoostState → RoostState) : (s.updRoost f).free = s.free := (rfl)
@[simp] theorem State.updRoost_memGen (f : RoostState → RoostState) : (s.updRoost f).memGen = s.memGen := (rfl)
@[simp] theorem State.updRoost_out (f : RoostState → RoostState) : (s.updRoost f).out = s.out := (rfl)
@[simp] theorem State.updRoost_snap (f : RoostState → RoostState) : (s.updRoost f).snap = s.snap := (rfl)
@[simp] theorem State.updRoost_top (f : RoostState → RoostState) : (s.updRoost f).top = s.top := (rfl)
@[simp] theorem State.updRoost_ses (f : RoostState → RoostState) : (s.updRoost f).ses = s.ses := (rfl)
@[simp] theorem State.updRoost_tci (f : RoostState → RoostState) : (s.updRoost f).tci = s.tci := (rfl)
@[simp] theorem State.updRoost_talon (f : RoostState → RoostState) : (s.updRoost f).talon = s.talon := (rfl)
@[simp] theorem State.updRoost_jess (f : RoostState → RoostState) : (s.updRoost f).jess = s.jess := (rfl)
@[simp] theorem State.updRoost_ktl (f : RoostState → RoostState) : (s.updRoost f).ktl = s.ktl := (rfl)
@[simp] theorem State.updRoost_mews (f : RoostState → RoostState) : (s.updRoost f).mews = s.mews := (rfl)
@[simp] theorem State.updRoost_hbm (f : RoostState → RoostState) : (s.updRoost f).hbm = s.hbm := (rfl)
@[simp] theorem State.updRoost_crypt (f : RoostState → RoostState) : (s.updRoost f).crypt = s.crypt := (rfl)
@[simp] theorem State.updRoost_pwr (f : RoostState → RoostState) : (s.updRoost f).pwr = s.pwr := (rfl)
@[simp] theorem State.updRoost_time (f : RoostState → RoostState) : (s.updRoost f).time = s.time := (rfl)
@[simp] theorem State.updRoost_watch (f : RoostState → RoostState) : (s.updRoost f).watch = s.watch := (rfl)
@[simp] theorem State.updRoost_boot (f : RoostState → RoostState) : (s.updRoost f).boot = s.boot := (rfl)
@[simp] theorem State.updRoost_sec (f : RoostState → RoostState) : (s.updRoost f).sec = s.sec := (rfl)
@[simp] theorem State.updRoost_bus (f : RoostState → RoostState) : (s.updRoost f).bus = s.bus := (rfl)
@[simp] theorem State.updRoost_tap (f : RoostState → RoostState) : (s.updRoost f).tap = s.tap := (rfl)

/-! ### updCrypt -/

@[simp] theorem State.updCrypt_crypt (f : CryptState → CryptState) : (s.updCrypt f).crypt = f s.crypt := (rfl)
@[simp] theorem State.updCrypt_pending (f : CryptState → CryptState) : (s.updCrypt f).pending = s.pending := (rfl)
@[simp] theorem State.updCrypt_now (f : CryptState → CryptState) : (s.updCrypt f).now = s.now := (rfl)
@[simp] theorem State.updCrypt_csr (f : CryptState → CryptState) : (s.updCrypt f).csr = s.csr := (rfl)
@[simp] theorem State.updCrypt_mem (f : CryptState → CryptState) : (s.updCrypt f).mem = s.mem := (rfl)
@[simp] theorem State.updCrypt_cells (f : CryptState → CryptState) : (s.updCrypt f).cells = s.cells := (rfl)
@[simp] theorem State.updCrypt_poison (f : CryptState → CryptState) : (s.updCrypt f).poison = s.poison := (rfl)
@[simp] theorem State.updCrypt_free (f : CryptState → CryptState) : (s.updCrypt f).free = s.free := (rfl)
@[simp] theorem State.updCrypt_memGen (f : CryptState → CryptState) : (s.updCrypt f).memGen = s.memGen := (rfl)
@[simp] theorem State.updCrypt_out (f : CryptState → CryptState) : (s.updCrypt f).out = s.out := (rfl)
@[simp] theorem State.updCrypt_snap (f : CryptState → CryptState) : (s.updCrypt f).snap = s.snap := (rfl)
@[simp] theorem State.updCrypt_top (f : CryptState → CryptState) : (s.updCrypt f).top = s.top := (rfl)
@[simp] theorem State.updCrypt_ses (f : CryptState → CryptState) : (s.updCrypt f).ses = s.ses := (rfl)
@[simp] theorem State.updCrypt_tci (f : CryptState → CryptState) : (s.updCrypt f).tci = s.tci := (rfl)
@[simp] theorem State.updCrypt_talon (f : CryptState → CryptState) : (s.updCrypt f).talon = s.talon := (rfl)
@[simp] theorem State.updCrypt_jess (f : CryptState → CryptState) : (s.updCrypt f).jess = s.jess := (rfl)
@[simp] theorem State.updCrypt_ktl (f : CryptState → CryptState) : (s.updCrypt f).ktl = s.ktl := (rfl)
@[simp] theorem State.updCrypt_mews (f : CryptState → CryptState) : (s.updCrypt f).mews = s.mews := (rfl)
@[simp] theorem State.updCrypt_hbm (f : CryptState → CryptState) : (s.updCrypt f).hbm = s.hbm := (rfl)
@[simp] theorem State.updCrypt_roost (f : CryptState → CryptState) : (s.updCrypt f).roost = s.roost := (rfl)
@[simp] theorem State.updCrypt_pwr (f : CryptState → CryptState) : (s.updCrypt f).pwr = s.pwr := (rfl)
@[simp] theorem State.updCrypt_time (f : CryptState → CryptState) : (s.updCrypt f).time = s.time := (rfl)
@[simp] theorem State.updCrypt_watch (f : CryptState → CryptState) : (s.updCrypt f).watch = s.watch := (rfl)
@[simp] theorem State.updCrypt_boot (f : CryptState → CryptState) : (s.updCrypt f).boot = s.boot := (rfl)
@[simp] theorem State.updCrypt_sec (f : CryptState → CryptState) : (s.updCrypt f).sec = s.sec := (rfl)
@[simp] theorem State.updCrypt_bus (f : CryptState → CryptState) : (s.updCrypt f).bus = s.bus := (rfl)
@[simp] theorem State.updCrypt_tap (f : CryptState → CryptState) : (s.updCrypt f).tap = s.tap := (rfl)

/-! ### updBoot -/

@[simp] theorem State.updBoot_boot (f : BootState → BootState) : (s.updBoot f).boot = f s.boot := (rfl)
@[simp] theorem State.updBoot_pending (f : BootState → BootState) : (s.updBoot f).pending = s.pending := (rfl)
@[simp] theorem State.updBoot_now (f : BootState → BootState) : (s.updBoot f).now = s.now := (rfl)
@[simp] theorem State.updBoot_csr (f : BootState → BootState) : (s.updBoot f).csr = s.csr := (rfl)
@[simp] theorem State.updBoot_mem (f : BootState → BootState) : (s.updBoot f).mem = s.mem := (rfl)
@[simp] theorem State.updBoot_cells (f : BootState → BootState) : (s.updBoot f).cells = s.cells := (rfl)
@[simp] theorem State.updBoot_poison (f : BootState → BootState) : (s.updBoot f).poison = s.poison := (rfl)
@[simp] theorem State.updBoot_free (f : BootState → BootState) : (s.updBoot f).free = s.free := (rfl)
@[simp] theorem State.updBoot_memGen (f : BootState → BootState) : (s.updBoot f).memGen = s.memGen := (rfl)
@[simp] theorem State.updBoot_out (f : BootState → BootState) : (s.updBoot f).out = s.out := (rfl)
@[simp] theorem State.updBoot_snap (f : BootState → BootState) : (s.updBoot f).snap = s.snap := (rfl)
@[simp] theorem State.updBoot_top (f : BootState → BootState) : (s.updBoot f).top = s.top := (rfl)
@[simp] theorem State.updBoot_ses (f : BootState → BootState) : (s.updBoot f).ses = s.ses := (rfl)
@[simp] theorem State.updBoot_tci (f : BootState → BootState) : (s.updBoot f).tci = s.tci := (rfl)
@[simp] theorem State.updBoot_talon (f : BootState → BootState) : (s.updBoot f).talon = s.talon := (rfl)
@[simp] theorem State.updBoot_jess (f : BootState → BootState) : (s.updBoot f).jess = s.jess := (rfl)
@[simp] theorem State.updBoot_ktl (f : BootState → BootState) : (s.updBoot f).ktl = s.ktl := (rfl)
@[simp] theorem State.updBoot_mews (f : BootState → BootState) : (s.updBoot f).mews = s.mews := (rfl)
@[simp] theorem State.updBoot_hbm (f : BootState → BootState) : (s.updBoot f).hbm = s.hbm := (rfl)
@[simp] theorem State.updBoot_roost (f : BootState → BootState) : (s.updBoot f).roost = s.roost := (rfl)
@[simp] theorem State.updBoot_crypt (f : BootState → BootState) : (s.updBoot f).crypt = s.crypt := (rfl)
@[simp] theorem State.updBoot_pwr (f : BootState → BootState) : (s.updBoot f).pwr = s.pwr := (rfl)
@[simp] theorem State.updBoot_time (f : BootState → BootState) : (s.updBoot f).time = s.time := (rfl)
@[simp] theorem State.updBoot_watch (f : BootState → BootState) : (s.updBoot f).watch = s.watch := (rfl)
@[simp] theorem State.updBoot_sec (f : BootState → BootState) : (s.updBoot f).sec = s.sec := (rfl)
@[simp] theorem State.updBoot_bus (f : BootState → BootState) : (s.updBoot f).bus = s.bus := (rfl)
@[simp] theorem State.updBoot_tap (f : BootState → BootState) : (s.updBoot f).tap = s.tap := (rfl)

/-! ### updSec -/

@[simp] theorem State.updSec_sec (f : SecState → SecState) : (s.updSec f).sec = f s.sec := (rfl)
@[simp] theorem State.updSec_pending (f : SecState → SecState) : (s.updSec f).pending = s.pending := (rfl)
@[simp] theorem State.updSec_now (f : SecState → SecState) : (s.updSec f).now = s.now := (rfl)
@[simp] theorem State.updSec_csr (f : SecState → SecState) : (s.updSec f).csr = s.csr := (rfl)
@[simp] theorem State.updSec_mem (f : SecState → SecState) : (s.updSec f).mem = s.mem := (rfl)
@[simp] theorem State.updSec_cells (f : SecState → SecState) : (s.updSec f).cells = s.cells := (rfl)
@[simp] theorem State.updSec_poison (f : SecState → SecState) : (s.updSec f).poison = s.poison := (rfl)
@[simp] theorem State.updSec_free (f : SecState → SecState) : (s.updSec f).free = s.free := (rfl)
@[simp] theorem State.updSec_memGen (f : SecState → SecState) : (s.updSec f).memGen = s.memGen := (rfl)
@[simp] theorem State.updSec_out (f : SecState → SecState) : (s.updSec f).out = s.out := (rfl)
@[simp] theorem State.updSec_snap (f : SecState → SecState) : (s.updSec f).snap = s.snap := (rfl)
@[simp] theorem State.updSec_top (f : SecState → SecState) : (s.updSec f).top = s.top := (rfl)
@[simp] theorem State.updSec_ses (f : SecState → SecState) : (s.updSec f).ses = s.ses := (rfl)
@[simp] theorem State.updSec_tci (f : SecState → SecState) : (s.updSec f).tci = s.tci := (rfl)
@[simp] theorem State.updSec_talon (f : SecState → SecState) : (s.updSec f).talon = s.talon := (rfl)
@[simp] theorem State.updSec_jess (f : SecState → SecState) : (s.updSec f).jess = s.jess := (rfl)
@[simp] theorem State.updSec_ktl (f : SecState → SecState) : (s.updSec f).ktl = s.ktl := (rfl)
@[simp] theorem State.updSec_mews (f : SecState → SecState) : (s.updSec f).mews = s.mews := (rfl)
@[simp] theorem State.updSec_hbm (f : SecState → SecState) : (s.updSec f).hbm = s.hbm := (rfl)
@[simp] theorem State.updSec_roost (f : SecState → SecState) : (s.updSec f).roost = s.roost := (rfl)
@[simp] theorem State.updSec_crypt (f : SecState → SecState) : (s.updSec f).crypt = s.crypt := (rfl)
@[simp] theorem State.updSec_pwr (f : SecState → SecState) : (s.updSec f).pwr = s.pwr := (rfl)
@[simp] theorem State.updSec_time (f : SecState → SecState) : (s.updSec f).time = s.time := (rfl)
@[simp] theorem State.updSec_watch (f : SecState → SecState) : (s.updSec f).watch = s.watch := (rfl)
@[simp] theorem State.updSec_boot (f : SecState → SecState) : (s.updSec f).boot = s.boot := (rfl)
@[simp] theorem State.updSec_bus (f : SecState → SecState) : (s.updSec f).bus = s.bus := (rfl)
@[simp] theorem State.updSec_tap (f : SecState → SecState) : (s.updSec f).tap = s.tap := (rfl)

/-! ### updBus -/

@[simp] theorem State.updBus_bus (f : MgmtState → MgmtState) : (s.updBus f).bus = f s.bus := (rfl)
@[simp] theorem State.updBus_pending (f : MgmtState → MgmtState) : (s.updBus f).pending = s.pending := (rfl)
@[simp] theorem State.updBus_now (f : MgmtState → MgmtState) : (s.updBus f).now = s.now := (rfl)
@[simp] theorem State.updBus_csr (f : MgmtState → MgmtState) : (s.updBus f).csr = s.csr := (rfl)
@[simp] theorem State.updBus_mem (f : MgmtState → MgmtState) : (s.updBus f).mem = s.mem := (rfl)
@[simp] theorem State.updBus_cells (f : MgmtState → MgmtState) : (s.updBus f).cells = s.cells := (rfl)
@[simp] theorem State.updBus_poison (f : MgmtState → MgmtState) : (s.updBus f).poison = s.poison := (rfl)
@[simp] theorem State.updBus_free (f : MgmtState → MgmtState) : (s.updBus f).free = s.free := (rfl)
@[simp] theorem State.updBus_memGen (f : MgmtState → MgmtState) : (s.updBus f).memGen = s.memGen := (rfl)
@[simp] theorem State.updBus_out (f : MgmtState → MgmtState) : (s.updBus f).out = s.out := (rfl)
@[simp] theorem State.updBus_snap (f : MgmtState → MgmtState) : (s.updBus f).snap = s.snap := (rfl)
@[simp] theorem State.updBus_top (f : MgmtState → MgmtState) : (s.updBus f).top = s.top := (rfl)
@[simp] theorem State.updBus_ses (f : MgmtState → MgmtState) : (s.updBus f).ses = s.ses := (rfl)
@[simp] theorem State.updBus_tci (f : MgmtState → MgmtState) : (s.updBus f).tci = s.tci := (rfl)
@[simp] theorem State.updBus_talon (f : MgmtState → MgmtState) : (s.updBus f).talon = s.talon := (rfl)
@[simp] theorem State.updBus_jess (f : MgmtState → MgmtState) : (s.updBus f).jess = s.jess := (rfl)
@[simp] theorem State.updBus_ktl (f : MgmtState → MgmtState) : (s.updBus f).ktl = s.ktl := (rfl)
@[simp] theorem State.updBus_mews (f : MgmtState → MgmtState) : (s.updBus f).mews = s.mews := (rfl)
@[simp] theorem State.updBus_hbm (f : MgmtState → MgmtState) : (s.updBus f).hbm = s.hbm := (rfl)
@[simp] theorem State.updBus_roost (f : MgmtState → MgmtState) : (s.updBus f).roost = s.roost := (rfl)
@[simp] theorem State.updBus_crypt (f : MgmtState → MgmtState) : (s.updBus f).crypt = s.crypt := (rfl)
@[simp] theorem State.updBus_pwr (f : MgmtState → MgmtState) : (s.updBus f).pwr = s.pwr := (rfl)
@[simp] theorem State.updBus_time (f : MgmtState → MgmtState) : (s.updBus f).time = s.time := (rfl)
@[simp] theorem State.updBus_watch (f : MgmtState → MgmtState) : (s.updBus f).watch = s.watch := (rfl)
@[simp] theorem State.updBus_boot (f : MgmtState → MgmtState) : (s.updBus f).boot = s.boot := (rfl)
@[simp] theorem State.updBus_sec (f : MgmtState → MgmtState) : (s.updBus f).sec = s.sec := (rfl)
@[simp] theorem State.updBus_tap (f : MgmtState → MgmtState) : (s.updBus f).tap = s.tap := (rfl)

/-! ### updTap -/

@[simp] theorem State.updTap_tap (f : TapState → TapState) : (s.updTap f).tap = f s.tap := (rfl)
@[simp] theorem State.updTap_pending (f : TapState → TapState) : (s.updTap f).pending = s.pending := (rfl)
@[simp] theorem State.updTap_now (f : TapState → TapState) : (s.updTap f).now = s.now := (rfl)
@[simp] theorem State.updTap_csr (f : TapState → TapState) : (s.updTap f).csr = s.csr := (rfl)
@[simp] theorem State.updTap_mem (f : TapState → TapState) : (s.updTap f).mem = s.mem := (rfl)
@[simp] theorem State.updTap_cells (f : TapState → TapState) : (s.updTap f).cells = s.cells := (rfl)
@[simp] theorem State.updTap_poison (f : TapState → TapState) : (s.updTap f).poison = s.poison := (rfl)
@[simp] theorem State.updTap_free (f : TapState → TapState) : (s.updTap f).free = s.free := (rfl)
@[simp] theorem State.updTap_memGen (f : TapState → TapState) : (s.updTap f).memGen = s.memGen := (rfl)
@[simp] theorem State.updTap_out (f : TapState → TapState) : (s.updTap f).out = s.out := (rfl)
@[simp] theorem State.updTap_snap (f : TapState → TapState) : (s.updTap f).snap = s.snap := (rfl)
@[simp] theorem State.updTap_top (f : TapState → TapState) : (s.updTap f).top = s.top := (rfl)
@[simp] theorem State.updTap_ses (f : TapState → TapState) : (s.updTap f).ses = s.ses := (rfl)
@[simp] theorem State.updTap_tci (f : TapState → TapState) : (s.updTap f).tci = s.tci := (rfl)
@[simp] theorem State.updTap_talon (f : TapState → TapState) : (s.updTap f).talon = s.talon := (rfl)
@[simp] theorem State.updTap_jess (f : TapState → TapState) : (s.updTap f).jess = s.jess := (rfl)
@[simp] theorem State.updTap_ktl (f : TapState → TapState) : (s.updTap f).ktl = s.ktl := (rfl)
@[simp] theorem State.updTap_mews (f : TapState → TapState) : (s.updTap f).mews = s.mews := (rfl)
@[simp] theorem State.updTap_hbm (f : TapState → TapState) : (s.updTap f).hbm = s.hbm := (rfl)
@[simp] theorem State.updTap_roost (f : TapState → TapState) : (s.updTap f).roost = s.roost := (rfl)
@[simp] theorem State.updTap_crypt (f : TapState → TapState) : (s.updTap f).crypt = s.crypt := (rfl)
@[simp] theorem State.updTap_pwr (f : TapState → TapState) : (s.updTap f).pwr = s.pwr := (rfl)
@[simp] theorem State.updTap_time (f : TapState → TapState) : (s.updTap f).time = s.time := (rfl)
@[simp] theorem State.updTap_watch (f : TapState → TapState) : (s.updTap f).watch = s.watch := (rfl)
@[simp] theorem State.updTap_boot (f : TapState → TapState) : (s.updTap f).boot = s.boot := (rfl)
@[simp] theorem State.updTap_sec (f : TapState → TapState) : (s.updTap f).sec = s.sec := (rfl)
@[simp] theorem State.updTap_bus (f : TapState → TapState) : (s.updTap f).bus = s.bus := (rfl)

/-! ### setTalon -/

@[simp] theorem State.setTalon_talon (f : TalonState → TalonState) : (s.setTalon f).talon = f s.talon := (rfl)
@[simp] theorem State.setTalon_pending (f : TalonState → TalonState) : (s.setTalon f).pending = s.pending := (rfl)
@[simp] theorem State.setTalon_now (f : TalonState → TalonState) : (s.setTalon f).now = s.now := (rfl)
@[simp] theorem State.setTalon_csr (f : TalonState → TalonState) : (s.setTalon f).csr = s.csr := (rfl)
@[simp] theorem State.setTalon_mem (f : TalonState → TalonState) : (s.setTalon f).mem = s.mem := (rfl)
@[simp] theorem State.setTalon_cells (f : TalonState → TalonState) : (s.setTalon f).cells = s.cells := (rfl)
@[simp] theorem State.setTalon_poison (f : TalonState → TalonState) : (s.setTalon f).poison = s.poison := (rfl)
@[simp] theorem State.setTalon_free (f : TalonState → TalonState) : (s.setTalon f).free = s.free := (rfl)
@[simp] theorem State.setTalon_memGen (f : TalonState → TalonState) : (s.setTalon f).memGen = s.memGen := (rfl)
@[simp] theorem State.setTalon_out (f : TalonState → TalonState) : (s.setTalon f).out = s.out := (rfl)
@[simp] theorem State.setTalon_snap (f : TalonState → TalonState) : (s.setTalon f).snap = s.snap := (rfl)
@[simp] theorem State.setTalon_top (f : TalonState → TalonState) : (s.setTalon f).top = s.top := (rfl)
@[simp] theorem State.setTalon_ses (f : TalonState → TalonState) : (s.setTalon f).ses = s.ses := (rfl)
@[simp] theorem State.setTalon_tci (f : TalonState → TalonState) : (s.setTalon f).tci = s.tci := (rfl)
@[simp] theorem State.setTalon_jess (f : TalonState → TalonState) : (s.setTalon f).jess = s.jess := (rfl)
@[simp] theorem State.setTalon_ktl (f : TalonState → TalonState) : (s.setTalon f).ktl = s.ktl := (rfl)
@[simp] theorem State.setTalon_mews (f : TalonState → TalonState) : (s.setTalon f).mews = s.mews := (rfl)
@[simp] theorem State.setTalon_hbm (f : TalonState → TalonState) : (s.setTalon f).hbm = s.hbm := (rfl)
@[simp] theorem State.setTalon_roost (f : TalonState → TalonState) : (s.setTalon f).roost = s.roost := (rfl)
@[simp] theorem State.setTalon_crypt (f : TalonState → TalonState) : (s.setTalon f).crypt = s.crypt := (rfl)
@[simp] theorem State.setTalon_pwr (f : TalonState → TalonState) : (s.setTalon f).pwr = s.pwr := (rfl)
@[simp] theorem State.setTalon_time (f : TalonState → TalonState) : (s.setTalon f).time = s.time := (rfl)
@[simp] theorem State.setTalon_watch (f : TalonState → TalonState) : (s.setTalon f).watch = s.watch := (rfl)
@[simp] theorem State.setTalon_boot (f : TalonState → TalonState) : (s.setTalon f).boot = s.boot := (rfl)
@[simp] theorem State.setTalon_sec (f : TalonState → TalonState) : (s.setTalon f).sec = s.sec := (rfl)
@[simp] theorem State.setTalon_bus (f : TalonState → TalonState) : (s.setTalon f).bus = s.bus := (rfl)
@[simp] theorem State.setTalon_tap (f : TalonState → TalonState) : (s.setTalon f).tap = s.tap := (rfl)

/-! ### decay: what cells develop stands in `cells` and nowhere else -/

theorem State.decay_only (l : CellErrs) : ∃ c, s.decay l = { s with cells := c } := by
  induction l generalizing s with
  | nil => exact ⟨s.cells, rfl⟩
  | cons e r ih =>
    obtain ⟨c, h⟩ := ih { s with cells := Tab.put s.cells (s.lineKey (e.1 / 64 * 64)) (Tab.get s.cells (s.lineKey (e.1 / 64 * 64)) [] ++ e.2) }
    exact ⟨c, h⟩
@[simp] theorem State.decay_nil : s.decay [] = s := (rfl)
@[simp] theorem State.decay_pending (l : CellErrs) : (s.decay l).pending = s.pending := by obtain ⟨c, h⟩ := s.decay_only l; rw [h]
@[simp] theorem State.decay_now (l : CellErrs) : (s.decay l).now = s.now := by obtain ⟨c, h⟩ := s.decay_only l; rw [h]
@[simp] theorem State.decay_csr (l : CellErrs) : (s.decay l).csr = s.csr := by obtain ⟨c, h⟩ := s.decay_only l; rw [h]
@[simp] theorem State.decay_mem (l : CellErrs) : (s.decay l).mem = s.mem := by obtain ⟨c, h⟩ := s.decay_only l; rw [h]
@[simp] theorem State.decay_poison (l : CellErrs) : (s.decay l).poison = s.poison := by obtain ⟨c, h⟩ := s.decay_only l; rw [h]
@[simp] theorem State.decay_free (l : CellErrs) : (s.decay l).free = s.free := by obtain ⟨c, h⟩ := s.decay_only l; rw [h]
@[simp] theorem State.decay_memGen (l : CellErrs) : (s.decay l).memGen = s.memGen := by obtain ⟨c, h⟩ := s.decay_only l; rw [h]
@[simp] theorem State.decay_out (l : CellErrs) : (s.decay l).out = s.out := by obtain ⟨c, h⟩ := s.decay_only l; rw [h]
@[simp] theorem State.decay_snap (l : CellErrs) : (s.decay l).snap = s.snap := by obtain ⟨c, h⟩ := s.decay_only l; rw [h]
@[simp] theorem State.decay_top (l : CellErrs) : (s.decay l).top = s.top := by obtain ⟨c, h⟩ := s.decay_only l; rw [h]
@[simp] theorem State.decay_ses (l : CellErrs) : (s.decay l).ses = s.ses := by obtain ⟨c, h⟩ := s.decay_only l; rw [h]
@[simp] theorem State.decay_tci (l : CellErrs) : (s.decay l).tci = s.tci := by obtain ⟨c, h⟩ := s.decay_only l; rw [h]
@[simp] theorem State.decay_talon (l : CellErrs) : (s.decay l).talon = s.talon := by obtain ⟨c, h⟩ := s.decay_only l; rw [h]
@[simp] theorem State.decay_jess (l : CellErrs) : (s.decay l).jess = s.jess := by obtain ⟨c, h⟩ := s.decay_only l; rw [h]
@[simp] theorem State.decay_ktl (l : CellErrs) : (s.decay l).ktl = s.ktl := by obtain ⟨c, h⟩ := s.decay_only l; rw [h]
@[simp] theorem State.decay_mews (l : CellErrs) : (s.decay l).mews = s.mews := by obtain ⟨c, h⟩ := s.decay_only l; rw [h]
@[simp] theorem State.decay_hbm (l : CellErrs) : (s.decay l).hbm = s.hbm := by obtain ⟨c, h⟩ := s.decay_only l; rw [h]
@[simp] theorem State.decay_roost (l : CellErrs) : (s.decay l).roost = s.roost := by obtain ⟨c, h⟩ := s.decay_only l; rw [h]
@[simp] theorem State.decay_crypt (l : CellErrs) : (s.decay l).crypt = s.crypt := by obtain ⟨c, h⟩ := s.decay_only l; rw [h]
@[simp] theorem State.decay_pwr (l : CellErrs) : (s.decay l).pwr = s.pwr := by obtain ⟨c, h⟩ := s.decay_only l; rw [h]
@[simp] theorem State.decay_time (l : CellErrs) : (s.decay l).time = s.time := by obtain ⟨c, h⟩ := s.decay_only l; rw [h]
@[simp] theorem State.decay_watch (l : CellErrs) : (s.decay l).watch = s.watch := by obtain ⟨c, h⟩ := s.decay_only l; rw [h]
@[simp] theorem State.decay_boot (l : CellErrs) : (s.decay l).boot = s.boot := by obtain ⟨c, h⟩ := s.decay_only l; rw [h]
@[simp] theorem State.decay_sec (l : CellErrs) : (s.decay l).sec = s.sec := by obtain ⟨c, h⟩ := s.decay_only l; rw [h]
@[simp] theorem State.decay_bus (l : CellErrs) : (s.decay l).bus = s.bus := by obtain ⟨c, h⟩ := s.decay_only l; rw [h]
@[simp] theorem State.decay_tap (l : CellErrs) : (s.decay l).tap = s.tap := by obtain ⟨c, h⟩ := s.decay_only l; rw [h]

/-! ### What the shared operations of the controllers do to the state -/

/-- A request takes the next number of its kind; nothing else changes. -/
@[simp] theorem State.hbmReq_state (r : LineReq) (mode : Nat) (quiet : Bool) : (s.hbmReq r mode quiet).1 = s.updHbm (fun h => { h with seq := h.seq + 1 }) := (rfl)
@[simp] theorem State.roostReq_state (r : LineReq) (mode : Nat) (quiet : Bool) : (s.roostReq r mode quiet).1 = s.updRoost (fun x => { x with seq := x.seq + 1 }) := (rfl)
/-- A request stands for the whole line of its address. -/
@[simp] theorem State.hbmReq_line (r : LineReq) (mode : Nat) (quiet : Bool) : (s.hbmReq r mode quiet).2.r.addr = r.addr / 64 * 64 := (rfl)
@[simp] theorem State.roostReq_line (r : LineReq) (mode : Nat) (quiet : Bool) : (s.roostReq r mode quiet).2.r.addr = r.addr / 64 * 64 := (rfl)
/-- A line outside the sector table is stored with its poison, and what its cells had developed is gone. -/
theorem State.putAt_stored {a : Nat} (h : s.stblIdx a = none) (key : Nat) (l : List Byte) (p : Bool) : s.putAt a key l p =
    ({ s with cells := Tab.del s.cells key }.store key (if p && rangeOf a == Range.roost then List.replicate 64 0 else l)).setPoison key p := by
  have h' : ({ s with cells := Tab.del s.cells key } : State).stblIdx a = none := h
  simp only [State.putAt, h']

end Sys2Proof.Machine
end

