-- ==== Sys2Proof/Laws/Settle.lean ====
section
/-! SUPPORT. What follows in the same step as a command's effect: nothing, in a package at rest. -/

namespace Sys2Proof.Machine

/-- A package at rest has settled. -/
theorem State.settle_rests {s : State} (h : s.busy = false) : s.settle = s := by
  simp [State.settle, State.settleRounds, h]

/-- The outcome of a command that leaves the package at rest is its own effect. -/
theorem fin_rests {s t : State} (h : t.busy = false) (hp : t.pending = s.pending) : fin s t = .next t := by
  simp only [fin, State.settle_rests h, ← hp]

/-- Every command answers a next state and leaves the queue. -/
theorem fin_next (s t : State) : ∃ u, fin s t = .next u ∧ u.pending = s.pending := ⟨_, rfl, rfl⟩

theorem State.Rests.busy {s : State} (h : s.Rests) : s.busy = false := h

/-- At rest no command runs. -/
theorem State.Rests.running {s : State} (h : s.Rests) : s.tci.running = [] := by
  simp [State.Rests, State.busy] at h; exact h.1.1.1.1.1.1.1.1.2

/-! ### Updates that leave what waits alone -/

variable (s : State)

@[simp] theorem State.csrPut_busy (a : Nat) (v : Word) : (s.csrPut a v).busy = s.busy := (rfl)
@[simp] theorem State.wr_busy (f : RF) (v i j k : Nat) : (s.wr f v i j k).busy = s.busy := (rfl)
@[simp] theorem State.bump_busy (f : RF) (n i j k : Nat) : (s.bump f n i j k).busy = s.busy := (rfl)
@[simp] theorem State.flag_busy (f c : RF) (i j k : Nat) : (s.flag f c i j k).busy = s.busy := (rfl)
@[simp] theorem State.emit_busy (o : Out) : (s.emit o).busy = s.busy := (rfl)
@[simp] theorem State.emits_busy (l : List Out) : (s.emits l).busy = s.busy := (rfl)
@[simp] theorem State.errTo_busy (m : Master) : (s.errTo m).busy = s.busy := (rfl)
@[simp] theorem State.draw_busy : s.draw.busy = s.busy := (rfl)
@[simp] theorem State.store_busy (a : Nat) (l : List Byte) : (s.store a l).busy = s.busy := (rfl)
@[simp] theorem State.setPoison_busy (l : Nat) (p : Bool) : (s.setPoison l p).busy = s.busy := (rfl)
@[simp] theorem State.updTime_busy (f : TimeState → TimeState) : (s.updTime f).busy = s.busy := (rfl)
@[simp] theorem State.updJess_busy (f : JessState → JessState) : (s.updJess f).busy = s.busy := (rfl)
@[simp] theorem State.updTop_busy (f : TopState → TopState) : (s.updTop f).busy = s.busy := (rfl)
@[simp] theorem State.updRoost_busy (f : RoostState → RoostState) : (s.updRoost f).busy = s.busy := (rfl)
@[simp] theorem State.updBoot_busy (f : BootState → BootState) : (s.updBoot f).busy = s.busy := (rfl)
@[simp] theorem State.updSec_busy (f : SecState → SecState) : (s.updSec f).busy = s.busy := (rfl)
@[simp] theorem State.updBus_busy (f : MgmtState → MgmtState) : (s.updBus f).busy = s.busy := (rfl)
@[simp] theorem State.updTap_busy (f : TapState → TapState) : (s.updTap f).busy = s.busy := (rfl)

/-- The Crypt engine's other state may change while no write-back's answer waits anew. -/
theorem State.updCrypt_busy (f : CryptState → CryptState) (h : (f s.crypt).ended = s.crypt.ended) : (s.updCrypt f).busy = s.busy := by
  simp only [State.busy, State.updCrypt_watch, State.updCrypt_ktl, State.updCrypt_tci, State.updCrypt_hbm, State.updCrypt_crypt, h, State.updCrypt_mews, State.updCrypt_ses,
    State.updCrypt_talon, State.updCrypt_pwr]

/-- The HBM controllers' queues may change while no ordered add waits anew. -/
theorem State.updHbm_busy (f : HbmState → HbmState) (h : (f s.hbm).ordWait = s.hbm.ordWait) : (s.updHbm f).busy = s.busy := by
  simp only [State.busy, State.updHbm_watch, State.updHbm_ktl, State.updHbm_tci, State.updHbm_hbm, h, State.updHbm_crypt, State.updHbm_mews, State.updHbm_ses, State.updHbm_talon, State.updHbm_pwr]
@[simp] theorem State.setHq_busy (st p : Nat) (q : MQueue) : (s.setHq st p q).busy = s.busy := (rfl)
@[simp] theorem State.setHq_pending (st p : Nat) (q : MQueue) : (s.setHq st p q).pending = s.pending := (rfl)
@[simp] theorem State.setRq_busy (ch sub : Nat) (q : MQueue) : (s.setRq ch sub q).busy = s.busy := (rfl)
@[simp] theorem State.setRq_pending (ch sub : Nat) (q : MQueue) : (s.setRq ch sub q).pending = s.pending := (rfl)
@[simp] theorem State.setLink_busy (n : Nat) (l : LinkState) : (s.setLink n l).busy = s.busy := (rfl)
@[simp] theorem State.setLink_pending (n : Nat) (l : LinkState) : (s.setLink n l).pending = s.pending := (rfl)
/-- The other fields of Mews may change while no fence waits anew; of Watch, while nothing is to be carried out. -/
theorem State.updMews_busy (f : MewsState → MewsState) (h : (f s.mews).fences = s.mews.fences) : (s.updMews f).busy = s.busy := by
  simp only [State.busy, State.updMews_watch, State.updMews_ktl, State.updMews_tci, State.updMews_hbm, h, State.updMews_crypt, State.updMews_mews, State.updMews_ses, State.updMews_talon, State.updMews_pwr]
theorem State.updWatch_busy (f : WatchState → WatchState) (h : (f s.watch).acts = s.watch.acts) : (s.updWatch f).busy = s.busy := by
  simp only [State.busy, State.updWatch_watch, State.updWatch_ktl, State.updWatch_tci, State.updWatch_hbm, h, State.updWatch_crypt, State.updWatch_mews, State.updWatch_ses, State.updWatch_talon, State.updWatch_pwr]
theorem State.updKtl_busy (f : KettleState → KettleState) (h : (f s.ktl).todo = s.ktl.todo) : (s.updKtl f).busy = s.busy := by
  simp only [State.busy, State.updKtl_watch, State.updKtl_ktl, State.updKtl_tci, State.updKtl_hbm, h, State.updKtl_crypt, State.updKtl_mews, State.updKtl_ses, State.updKtl_talon, State.updKtl_pwr]
theorem State.updTci_busy (f : TciState → TciState) (h : (f s.tci).running = s.tci.running) : (s.updTci f).busy = s.busy := by
  simp only [State.busy, State.updTci_watch, State.updTci_ktl, State.updTci_tci, State.updTci_hbm, h, State.updTci_crypt, State.updTci_mews, State.updTci_ses, State.updTci_talon, State.updTci_pwr]
theorem State.updPwr_busy (f : PowerState → PowerState) (h : (f s.pwr).pstate = s.pwr.pstate) : (s.updPwr f).busy = s.busy := by
  simp only [State.busy, State.updPwr_watch, State.updPwr_ktl, State.updPwr_tci, State.updPwr_hbm, h, State.updPwr_crypt, State.updPwr_mews, State.updPwr_ses, State.updPwr_talon, State.updPwr_pwr]

/-! ### Register writes -/

variable {s}

/-- An admitted write acts and completes. -/
theorem State.csrWrite_admitted {a : Nat} {w : CsrWr} (h : s.csrGate a .w w.m w.size w.sub w.plain = none) (f : State → State) :
    s.csrWrite a w f = (f s).emit (.done w.m []) := by
  simp [State.csrWrite, h]

/-- An admitted write of a register that only WARDEN_CORE at privilege F writes. -/
theorem State.csrWriteF_admitted {a : Nat} {w : CsrWr} (h : s.csrGate a .w w.m w.size w.sub w.plain = none) (hm : w.m.isWardenF = true) (f : State → State) :
    s.csrWriteF a w f = (f s).emit (.done w.m []) := by
  simp [State.csrWriteF, h, hm]

/-- An admitted write of such a register by another master has no effect (R281). -/
theorem State.csrWriteF_refused {a : Nat} {w : CsrWr} (h : s.csrGate a .w w.m w.size w.sub w.plain = none) (hm : w.m.isWardenF = false) (f : State → State) :
    s.csrWriteF a w f = s.errTo w.m := by
  simp [State.csrWriteF, h, hm]

/-- The outcome of such a write in a package at rest. -/
theorem fin_csrWrite {a : Nat} {w : CsrWr} {f : State → State} (h : s.Admits a w) {u : State} (hf : f s = u) (hb : u.busy = s.busy) (hp : u.pending = s.pending) :
    fin s (s.csrWrite a w f) = .next (u.emit (.done w.m [])) := by
  rw [State.csrWrite_admitted h.gate, hf]
  exact fin_rests (by rw [State.emit_busy, hb]; exact h.rests) (by simpa using hp)

theorem fin_csrWriteF {a : Nat} {w : CsrWr} {f : State → State} (h : s.Admits a w) (hm : w.m.isWardenF = true) {u : State} (hf : f s = u) (hb : u.busy = s.busy)
    (hp : u.pending = s.pending) : fin s (s.csrWriteF a w f) = .next (u.emit (.done w.m [])) := by
  rw [State.csrWriteF_admitted h.gate hm, hf]
  exact fin_rests (by rw [State.emit_busy, hb]; exact h.rests) (by simpa using hp)

/-- The outcome of a command, as what its step shows of its effect. -/
theorem fin_settledFrom (s t : State) : fin s t = .next (t.settledFrom s) := rfl

/-- At rest a step shows the effect itself. -/
theorem State.settledFrom_rests {u : State} (h : u.busy = false) (hp : u.pending = s.pending) : u.settledFrom s = u := by
  simp only [State.settledFrom, State.settle_rests h, ← hp]

/-- An admitted access finds the package out of PERCH. -/
theorem State.gate_notPerch {a size sub : Nat} {k : AccKind} {m : Master} {plain : Bool} (h : s.csrGate a k m size sub plain = none) : s.pwr.pstate ≠ .perch := by
  intro hp
  have hc : s.coreOn = false := by simp [State.coreOn, hp]
  simp [State.csrGate, hc] at h

/-- An admitted write through BAR0 acts, completes, and is a wake cause where the PCIe host made it. -/
theorem State.barAccess_admitted {m : Master} (h : s.pwr.pstate ≠ .perch) (f : State → State) : s.barAccess m f = (f s).barEnd m := by
  simp only [State.barAccess, State.barEnd, h, if_false]

/-! ### Accesses at the Mews port -/

/-- A master that runs acts. -/
theorem State.byMaster_runs {m : Master} (h : s.Runs m) (f : State → State) : s.byMaster m f = f s := by
  cases hc : coreOf m with
  | none => simp [State.byMaster, hc, h.1]
  | some c => simp [State.byMaster, hc, h.1, h.2 c hc]

/-- An atomic access that reaches its line reads the old value, counts, writes what it computes, and completes with what it returns. -/
theorem State.atomic_at {m : Master} {wide : Bool} {addr : Nat} {t : State} {c : CLine} (h : s.AtomicAt m (if wide then 8 else 4) addr t c) (f : Nat → Option Nat)
    (ret : Nat → Nat) (resv : State → State) :
    s.atomic m wide addr f ret resv =
      (match f (leNat (slice c.data (addr % 2 ^ 50 % 64) (if wide then 8 else 4))) with
       | some v => (((resv t).bump R.MEWS_ATOMICS).breakResv (addr % 2 ^ 50 / 64 * 64) (coreOf m)).cputLine (addr % 2 ^ 50 / 64 * 64)
          (mergeInto c (addr % 2 ^ 50 % 64) (leBytes (if wide then 8 else 4) v))
       | none => (resv t).bump R.MEWS_ATOMICS).emit (.done m [ret (leNat (slice c.data (addr % 2 ^ 50 % 64) (if wide then 8 else 4)))]) := by
  have h2 : s.notMain m .a addr = none := by
    by_cases a : 2 ^ 56 ≤ addr
    · unfold State.notMain; rw [if_pos a]
    · obtain ⟨x, y, z⟩ := h.main (by omega)
      unfold State.notMain
      rw [if_neg a, if_neg (fun k => k.elim (fun e => e x) y), if_neg z]
  have h1 : ¬ (addr % (if wide = true then 8 else 4) ≠ 0) := by simp [h.aligned]
  simp only [State.atomic]
  rw [if_neg h1, h2, h.gate]
  simp only [Option.none_or, h.awake, h.line, h.clean, Bool.false_eq_true, if_false]
  all_goals cases f (leNat (slice c.data (addr % 2 ^ 50 % 64) (if wide = true then 8 else 4))) <;> rfl

/-! ### Kettle messages and timers -/

/-- A message that arrives acts as its kind does. -/
theorem State.hearMsg_heard {link : Nat} {m : KMsg} (h : s.Heard link m) (f : State → State) : s.hearMsg link m f = f s := by
  have : ¬ ((!s.coreOn) = true ∨ 64 ≤ link) := by simp [h.cores, h.inRange]
  simp only [State.hearMsg, if_neg this, State.receive, h.open_, h.good, h.here, Bool.not_true, Bool.false_eq_true, if_false]

/-- A timer of a link acts while the cores are on. -/
theorem State.ktlTimer_on {n : Nat} (h : s.coreOn = true) (hn : n < 64) (f : State → State) : s.ktlTimer n f = f s := by
  have : ¬ ((!s.coreOn) = true ∨ 64 ≤ n) := by simp [h, hn]
  simp only [State.ktlTimer, if_neg this]

/-! ### Commands of the TCI -/

/-- A command that is taken acts as its opcode does. -/
theorem State.command_taken {op : Nat} {c : Cmd} {u : State} {i : ICmd} (h : s.taken op c = some (u, i)) (f : State → ICmd → State) : s.command op c f = f u i := by
  simp only [State.taken] at h
  simp only [State.command]
  by_cases hc : s.coreOn = true
  · simp only [hc, Bool.not_true, Bool.false_eq_true, if_false] at h ⊢
    cases hj : s.tci.intake.find? (fun i => i.c == { c with opcode := op }) with
    | some j =>
      simp only [hj] at h ⊢
      by_cases hb : s.blocked j = true
      · simp [hb] at h
      · by_cases hf : (s.dispatch j).isForward { c with opcode := op } = true
        · simp [hb, hf] at h
        · simp only [hb, hf] at h ⊢
          simp at h
          obtain ⟨rfl, rfl⟩ := h
          simp
    | none =>
      simp only [hj] at h ⊢
      rcases hs' : s.admitCmd { c with opcode := op } none with ⟨s', _ | j⟩
      · simp [hs'] at h
      · simp only [hs'] at h ⊢
        by_cases hb : s'.blocked j = true
        · simp [hb] at h
        · by_cases hf : (s'.dispatch j).isForward { c with opcode := op } = true
          · simp [hb, hf] at h
          · simp only [hb, hf] at h ⊢
            simp at h
            obtain ⟨rfl, rfl⟩ := h
            simp
  · simp [hc] at h

/-- The same for an opcode that names no session. -/
theorem State.plain_taken {op : Nat} {c : Cmd} {u : State} {i : ICmd} (h : s.taken op c = some (u, i)) (hp : u.plainOk i) (f : State → ICmd → State) : s.plain op c f = f u i := by
  rw [State.plain, State.command_taken h]; simp [hp.1, hp.2]

/-- The same for an opcode that names a session. -/
theorem State.onSession_taken {op : Nat} {c : Cmd} {u : State} {i : ICmd} {slot : Nat} {x : Session} (h : s.taken op c = some (u, i)) (hs : u.finds i slot x)
    (f : State → ICmd → Nat → Session → State) : s.onSession op c f = f u i slot x := by
  rw [State.onSession, State.command_taken h]; simp [hs.1, hs.2.1, hs.2.2]

end Sys2Proof.Machine
end

