-- ==== Sys2Proof/Tests/States.lean ====
section
/-! SUPPORT. Small states and operands for the tests and the witnesses. -/

-- One declaration after another: the kernel checks of many tests then need few threads.
set_option Elab.async false

namespace Sys2Proof.Tests
open Sys2Proof.Machine

/-- A warden core at privilege F. -/
def warden : Master := ⟨0, .f, false⟩

/-- A 64-bit write of `v` by a warden core. -/
def wr64 (v : Nat) : CsrWr := ⟨warden, 8, 0, true, v⟩

/-- A package in FLIGHT: the cores on, TCI ready, queue pair 0 live with rings in host memory, every HBM stack ready. -/
def up : State :=
  let s : State := { State.reset with pwr := { State.reset.pwr with pstate := .flight, pwrOk := true, corePg := true }, time := { State.reset.time with fastRun := true } }
  let s := (((s.wr R.TCI_STATUS.READY 1).wr R.TCI_QP_ATTR.PRIV 1).wr R.TCI_QP_ATTR.ONCE_EN 1).wr R.TCI_QP_ATTR.STATE qpLive
  let s := (s.wr R.TCI_QP_SIZE.SQ_LOG2 4).wr R.TCI_QP_SIZE.RQ_LOG2 4
  (List.range 8).foldl (fun s i => s.wr R.HBM_STK_STATUS.STATE stkReady i) s

/-- A command on queue pair 0 in the form its opcode asks for. -/
def mk (op : Nat) (params : List Nat) (handle : Nat := 0) (block : List Byte := []) : Cmd :=
  { qp := 0, fwdFrom := none, opcode := op, flags := (match opInfo op with | some o => if o.once then 8 else 0 | none => 0),
    pcount := (match opInfo op with | some o => o.pcount | none => 0), tag := 7, handle := handle, timeout := 1000000, ridLo := 1, params := params, block := block }

/-- An entry of a plan for the sessions' appends, and one for runs without a session. -/
def entryS : PlanEntry := { pc := 0, session := true, batchable := true, batchMax := 4, kinds := appendKinds, energyBase := 1, energyPer := 1, deferLimit := 5, maxCycles := 100 }
def entryN : PlanEntry := { entryS with session := false, kinds := [0] }
def plan1 : Plan := { entries := [entryS, entryN], weight := 64, code := 64, scratch := 64, group := 0, domain := 0, tiles := [0], offs := [0], unloading := false }

/-- `up` with plan 1 loaded on tile 0. -/
def upPlan : State := up.setTalon (fun t => { t with plans := [(1, plan1)] })

/-- The same package at `t` ns of its time and of epoch time. -/
def at_ (t : Nat) (s : State) : State := { s with now := t, time := { s.time with fast := t } }

/-- A dispatched command meets what `P` asks of it. -/
theorem takes {s : State} {op : Nat} {c : Cmd} {P : State → ICmd → Prop} [∀ u i, Decidable (P u i)]
    (h : (match s.taken op c with | some (u, i) => decide (P u i) | none => false) = true) : ∃ u i, s.taken op c = some (u, i) ∧ P u i := by
  revert h
  cases s.taken op c with
  | none => simp
  | some p => intro h; exact ⟨p.1, p.2, rfl, by simpa using h⟩

/-- A write that the checks admit in a state at rest. -/
theorem admits {s : State} {a : Nat} {w : CsrWr} (h : (!s.busy && (s.csrGate a .w w.m w.size w.sub w.plain).isNone) = true) : s.Admits a w := by
  simp only [Bool.and_eq_true, Bool.not_eq_true', Option.isNone_iff_eq_none] at h
  exact ⟨h.1, h.2⟩

end Sys2Proof.Tests
end

