-- ==== Sys2Proof/Tests/WitnessReg.lean ====
section
/-! SUPPORT. Witnesses for the statements about steps, configuration writes and register accesses. -/

-- One declaration after another: the kernel checks of many tests then need few threads.
set_option Elab.async false

namespace Sys2Proof.Tests
open Sys2Proof.Machine

/-! ### StepRunsFrontCommand, WaitingCommandsAllExecute, CanonicalFormIsKept -/

/-- Two commands wait. -/
def up2 : State := { up with pending := [.tapIdcode, .parkEvaluation] }

theorem wit_front : up2.pending = .tapIdcode :: [.parkEvaluation] := rfl
theorem wit_idle : up.pending = [] := by decide +kernel
theorem wit_waiting : 2 ≤ up2.pending.length := by decide
theorem wit_canon : up2.Canon := ⟨by decide +kernel, by decide +kernel, by decide +kernel⟩
theorem wit_queueWf : up2.QueueWf := by
  intro c hc
  rcases List.mem_cons.mp hc with rfl | hc
  · rfl
  · rcases List.mem_cons.mp hc with rfl | hc
    · rfl
    · cases hc
theorem wit_canonStep : ∃ t, step up2 = .next t := ⟨_, rfl⟩

/-! ### AcceptedConfigurationIsStored, WriteReadsBackAndLeavesTheRest, QueueBoundsOfHbmPcCfgAreKept, ThermalBoundsAreKept -/

/-- The reset value of the register at `a`, written back: a value that every bound accepts. -/
def same (a : Nat) : CsrWr := wr64 (resetWord a).toNat

theorem wit_pcCfg : up.Admits (R.HBM_PC_CFG.addr 7 63 0) (same (R.HBM_PC_CFG.addr 7 63 0)) ∧ pcCfgOk (up.merged R.HBM_PC_CFG (same (R.HBM_PC_CFG.addr 7 63 0)) 7 63) = true :=
  ⟨admits (by decide +kernel), by decide +kernel⟩
theorem wit_stkCfg : (up.wr R.HBM_STK_STATUS.STATE stkOff 7).Admits (R.HBM_STK_CFG.addr 7 0 0) (wr64 0) ∧ (up.wr R.HBM_STK_STATUS.STATE stkOff 7).stkState 7 = stkOff :=
  ⟨admits (by decide +kernel), by decide +kernel⟩
theorem wit_thermCfg : up.Admits (R.HBM_STK_THERM_CFG.addr 0 0 0) (same (R.HBM_STK_THERM_CFG.addr 0 0 0)) ∧
    thermCfgOk (up.merged R.HBM_STK_THERM_CFG (same (R.HBM_STK_THERM_CFG.addr 0 0 0)) 0) = true := ⟨admits (by decide +kernel), by decide +kernel⟩
theorem wit_chCfg : up.Admits (R.ROOST_CH_CFG.addr 7 0 0) (same (R.ROOST_CH_CFG.addr 7 0 0)) ∧ chCfgOk (up.merged R.ROOST_CH_CFG (same (R.ROOST_CH_CFG.addr 7 0 0)) 7) = true :=
  ⟨admits (by decide +kernel), by decide +kernel⟩
theorem wit_pwrCap : up.Admits (R.PWR_CAP.addr 0 0 0) (wr64 2400) := admits (by decide +kernel)
theorem wit_pwrCfg : up.Admits (cfgAddr .gov) (same (cfgAddr .gov)) ∧ cfgOk .gov (up.csrMerged (cfgAddr .gov) (same (cfgAddr .gov))) = true := ⟨admits (by decide +kernel), by decide +kernel⟩
theorem wit_pwrCfg_therm : up.Admits (cfgAddr .therm) (same (cfgAddr .therm)) ∧ cfgOk .therm (up.csrMerged (cfgAddr .therm) (same (cfgAddr .therm))) = true :=
  ⟨admits (by decide +kernel), by decide +kernel⟩
theorem wit_pwrCfg_policy : up.Admits (cfgAddr .policy) (same (cfgAddr .policy)) ∧ cfgOk .policy (up.csrMerged (cfgAddr .policy) (same (cfgAddr .policy))) = true :=
  ⟨admits (by decide +kernel), by decide +kernel⟩
theorem wit_tgtCfg : up.Admits (R.MGMT_TGT_CFG.addr 0 0 0) (wr64 1) ∧ (wr64 1).m.isWardenF = true := ⟨admits (by decide +kernel), rfl⟩
theorem wit_ctlCfg : up.Admits (R.MGMT_CTL_CFG.addr 0 0 0) (same (R.MGMT_CTL_CFG.addr 0 0 0)) ∧ up.ctlCfgOk (up.merged R.MGMT_CTL_CFG (same (R.MGMT_CTL_CFG.addr 0 0 0))) none = true :=
  ⟨admits (by decide +kernel), by decide +kernel⟩
theorem wit_ctlDev : up.Admits (R.MGMT_CTL_DEV.addr 15 0 0) (wr64 0x41) ∧ up.ctlCfgOk (up.csrAt (R.MGMT_CTL_CFG.addr 0 0 0)) (some (15, up.merged R.MGMT_CTL_DEV (wr64 0x41) 15)) = true :=
  ⟨admits (by decide +kernel), by decide +kernel⟩
theorem wit_flashProtect : up.Admits (R.MEWS_FLASH_PROTECT.addr 0 0 0) (wr64 1) := admits (by decide +kernel)
theorem wit_srcCfg : srcUsed 309 = true ∧ up.Admits (R.WATCH_SRC_CFG.addr 309 0 0) (same (R.WATCH_SRC_CFG.addr 309 0 0)) ∧ written (same (R.WATCH_SRC_CFG.addr 309 0 0)) R.WATCH_SRC_CFG.FORCE = 0 ∧
    srcCfgOk (up.merged R.WATCH_SRC_CFG (same (R.WATCH_SRC_CFG.addr 309 0 0)) 309) = true := ⟨by decide, admits (by decide +kernel), by decide +kernel, by decide +kernel⟩
theorem wit_pcCfg_bad : up.Canon ∧ up.Admits (R.HBM_PC_CFG.addr 0 0 0) (wr64 0) ∧ ¬ 9 ≤ (up.merged R.HBM_PC_CFG (wr64 0) 0 0).field R.HBM_PC_CFG.WQ_HIGH.lo 6 :=
  ⟨⟨by decide +kernel, by decide +kernel, by decide +kernel⟩, admits (by decide +kernel), by decide +kernel⟩
theorem wit_thermCfg_bad : up.Admits (R.HBM_STK_THERM_CFG.addr 7 0 0) (wr64 84) ∧ ¬ 85 ≤ (up.merged R.HBM_STK_THERM_CFG (wr64 84) 7).field R.HBM_STK_THERM_CFG.THROTTLE_C.lo 8 :=
  ⟨admits (by decide +kernel), by decide +kernel⟩

/-! ### DoorbellOutsideTheRingIsDropped, RemoteRegisterAccessIsRefused, CoreControlBelongsToTheFirmwareCore, LowerHalfReadTakesALatch, UpperHalfReadUsesTheLatch, FlashCommandWhileBusyIsIgnored,
PendingClearTouchesOnlyItsSource, AlarmFiresOnceAndDisarms -/

/-- The PCIe host. -/
def host : Master := ⟨0x5000, .s, false⟩
def hostWr (v : Nat) : CsrWr := ⟨host, 4, 0, true, v⟩

/-- `up` with the PCIe host admitted to the CSR space by region 0. -/
def upHost : State :=
  let s := ((up.wr R.JESS_REGION_START 0x3F000000000 0).wr R.JESS_REGION_END 0x3F0FFFFFFC0 0).wr R.JESS_REGION_ATTR (1 + 3 * 2 ^ 8 + 3 * 2 ^ 12 + 0xFF * 2 ^ 20) 0
  s.updJess (fun j => { j with checkers := [(14, { replica := s.masterTable, queue := [], applied := 0, reloading := false })] })

theorem wit_doorbell_dropped : upHost.Canon ∧ upHost.pwr.pstate = .flight ∧ upHost.Admits (R.TCI_DB_SQ.addr 0 0 0) (hostWr 16) ∧ upHost.doorbellsOpen 0 = true ∧ upHost.fromPartner 0 host = true ∧
    upHost.sqDepth 0 ≤ (hostWr 16).val % 65536 := ⟨⟨by decide +kernel, by decide +kernel, by decide +kernel⟩, rfl, admits (by decide +kernel), by decide +kernel, by decide +kernel, by decide +kernel⟩
theorem wit_doorbell_absent : upHost.Admits (R.TCI_DB_RQ.addr 4095 0 0) (hostWr 0) ∧ upHost.qpState 4095 ≠ qpLive := ⟨admits (by decide +kernel), by decide +kernel⟩
theorem wit_remote : up.busy = false ∧ up.coreOn = true ∧ (⟨⟨0x4000, .s, true⟩, 8, 0, true, 0⟩ : CsrWr).m.remote = true := ⟨by decide +kernel, by decide +kernel, rfl⟩

/-- `up` with the direct link to package 9 UP. -/
def upLink : State := up.setLstate 9 lkUp

def msg0 : KMsg :=
  { kind := .rd, slots := 1, via := false, relayed := false, dest := 0, origin := 9, priv := 1, oclass := 1, cls := 0, tag := 3, addr := 0, lines := 1, op := 0, ordered := false, status := 0, poison := 0,
    mask := 0, data := [], cmds := [], reps := [], w := [] }

/-- A message is heard: what Heard asks, as one check. -/
theorem heard {s : State} {n : Nat} {m : KMsg} (h : (s.coreOn && decide (n < 64) && s.hears n m && !s.msgBad n m && !m.via) = true) : s.Heard n m := by
  simp only [Bool.and_eq_true, Bool.not_eq_true', decide_eq_true_eq] at h
  exact ⟨h.1.1.1.1, h.1.1.1.2, h.1.1.2, h.1.2, h.2⟩

theorem wit_remote_rd : upLink.Heard 9 { msg0 with kind := .rd, addr := csrBase } ∧ KMsg.inBlock { msg0 with kind := .rd, addr := csrBase } = true ∧ decodes csrBase 64 = true ∧
    rangeOf csrBase = .csr := ⟨heard (by decide +kernel), by decide +kernel, by decide +kernel, by decide +kernel⟩
theorem wit_remote_wr : upLink.Heard 9 { msg0 with kind := .wr, slots := 5, addr := csrBase, data := List.replicate 64 0 } := heard (by decide +kernel)
theorem wit_remote_add : upLink.Heard 9 { msg0 with kind := .add, slots := 5, addr := csrBase, data := List.replicate 64 0 } := heard (by decide +kernel)
theorem wit_remote_wrMask : upLink.Heard 9 { msg0 with kind := .wrMask, slots := 6, addr := csrBase, data := List.replicate 64 0 } := heard (by decide +kernel)

/-- A warden core at privilege S, admitted to the CSR space by region 0. -/
def wardenS (v : Nat) : CsrWr := ⟨⟨0, .s, false⟩, 8, 0, true, v⟩

theorem wit_coreControl : upHost.busy = false ∧ (wardenS 1).m.isWardenF = false ∧ (wardenS 1).m.cls ≠ 5 ∧ upHost.Admits (R.MEWS_CORE_CTRL.addr 15 0 0) (wardenS 1) ∧
    written (wardenS 1) R.MEWS_CORE_CTRL.RELEASE = 1 := ⟨by decide +kernel, rfl, by decide, admits (by decide +kernel), by decide +kernel⟩
theorem wit_coreControl_reset : upHost.Admits (R.MEWS_CORE_CTRL.addr 0 0 0) (wardenS 2) ∧ written (wardenS 2) R.MEWS_CORE_CTRL.RESET = 1 := ⟨admits (by decide +kernel), by decide +kernel⟩
theorem wit_coreControl_vector : upHost.Admits (R.MEWS_CORE_VECTOR.addr 15 0 0) (wardenS 0) := admits (by decide +kernel)

/-- A SNAP register. -/
def snapReg : Nat := R.PWR_WINDOW.addr 0 0 0

theorem wit_snapLower : up.busy = false ∧ up.csrGate snapReg .r warden 4 0 true = none ∧ (findReg snapReg).map (·.snap) = some true ∧ R.MGMT_UART_DATA.at1 2 snapReg = none ∧ up.snap = [] := by decide +kernel
theorem wit_snapLower_full : (up.snapFill snapReg 1 0).snap.length = 1 := by decide +kernel
theorem wit_snapUpper : (up.snapFill snapReg 0 7).csrGate snapReg .r warden 4 4 true = none ∧ ((up.snapFill snapReg 0 7).snapOf snapReg 0).isSome = true ∧ (up.snapFill snapReg 0 7).snapOf snapReg 1 = none := by
  decide +kernel
theorem wit_snapWhole : up.pwr.pstate = .flight ∧ up.pkg = 0 ∧ snapReg % 8 = 0 ∧ snapReg < 0x100000000 ∧ up.csrGate snapReg .r warden 8 0 true = none ∧ rangeOf (csrBase + snapReg) = .csr := by decide +kernel
theorem wit_flashBusy : (up.wr R.MEWS_FLASH_STATUS.BUSY 1).Admits (R.MEWS_FLASH_CMD.addr 0 0 0) (wr64 6) ∧
    written (wr64 6) R.MEWS_FLASH_CMD.GO = 1 ∧ written (wr64 6) R.MEWS_FLASH_CMD.OP = 2 ∧
    (up.wr R.MEWS_FLASH_STATUS.BUSY 1).rd R.MEWS_FLASH_STATUS.BUSY = 1 := ⟨admits (by decide +kernel), by decide +kernel, by decide +kernel, by decide +kernel⟩
theorem wit_pendingClear : (up.wr R.WATCH_SRC_STATUS.LADDER 1 309).Admits (R.WATCH_SRC_STATUS.addr 309 0 0) (wr64 1) ∧ srcUsed 309 = true ∧ written (wr64 1) R.WATCH_SRC_STATUS.PENDING = 1 ∧
    (up.wr R.WATCH_SRC_STATUS.LADDER 1 309).ladder 309 = Ladder.running ∧ up.ladder 309 ≠ Ladder.running := ⟨admits (by decide +kernel), by decide, by decide +kernel, by decide +kernel, by decide +kernel⟩
theorem wit_alarm : (up.wr R.TIME_ALARM.ENABLE 1).busy = false ∧ (up.wr R.TIME_ALARM.ENABLE 1).time.fastRun = true ∧ (up.wr R.TIME_ALARM.ENABLE 1).rd R.TIME_ALARM.ENABLE = 1 ∧
    (up.wr R.TIME_ALARM.ENABLE 1).rd R.TIME_ALARM.NS ≤ (up.wr R.TIME_ALARM.ENABLE 1).epoch ∧ natBit (up.rd R.TIME_EVENT_EN.EN) 5 = false := by decide +kernel

/-! ### HbmAddressMapIsOneToOne, RoostAddressMapIsOneToOne, DefaultMapGrantsAsTabled, NotReadyReplyEntersItsRing, WriteBreaksOtherReservations, SealedPortRefusesDebugInstructions, UartCharacterIsReceived -/

theorem wit_hbmMap : (0 : Nat) < hbmEnd ∧ hbmEnd - 1 < hbmEnd ∧ natBit 1 ((2 ^ 32 - 1) / 2 ^ 32) = true ∧ (7 : Nat) < 8 ∧ (63 : Nat) < 64 ∧ 0x2FFFFFFF < 0x30000000 := by decide
theorem wit_roostMap : roostBase ≤ roostEnd - 1 ∧ roostEnd - 1 < roostEnd := by decide
theorem wit_defaultMap : decodes (hbmEnd - 64) 64 = true ∧ rangeOf (hbmEnd - 64) = .hbm ∧ host.cls ≠ 4 ∧ host.priv ≠ .u ∧ jessMatch [] (hbmEnd - 64) = [] ∧ inJessBlock (hbmEnd - 1) = false ∧
    jessDecide [] host .x (hbmEnd - 64) 64 ≠ none ∧ jessDecide [] host .w (hbmEnd - 64) 64 = none ∧ jessDecide [] warden .x roostBase 64 ≠ none := by decide +kernel

/-- `up` before READY. -/
def upEarly : State := up.wr R.TCI_STATUS.READY 0

theorem wit_notReady : upEarly.Canon ∧ upEarly.busy = false ∧ upEarly.coreOn = true ∧ upEarly.rd R.TCI_STATUS.READY = 0 ∧ (mk 0 []).fwdFrom = none ∧ upEarly.tci.intake = [] ∧ upEarly.qpState 0 = qpLive ∧
    upEarly.partner 0 = pcie ∧ upEarly.inHost 0 = true ∧ upEarly.rd R.TCI_QP_PTR.RQ_TAIL 0 = 0 ∧ upEarly.rqDepth 0 = 16 ∧ Tab.get upEarly.tci.unsig 0 (0, upEarly.epoch) = (0, upEarly.epoch) :=
  ⟨⟨by decide +kernel, by decide +kernel, by decide +kernel⟩, by decide +kernel⟩

/-- A clean line at address 64, reserved by cores 4 and 5, both running. -/
def line0 : CLine := { data := List.replicate 64 0, dirty := false, poison := false, lock := 0, way := 0 }
def tcore (c : Nat) : Master := ⟨0x1000 + c, .s, false⟩
def upLine : State :=
  ((((up.wr R.MEWS_CORE_STATUS.STATE coreRunning 4).wr R.MEWS_CORE_STATUS.STATE coreRunning 5).cputLine 64 line0)).updMews (fun m => { m with resv := [(4, 64, 1000), (5, 64, 1000)] })

theorem wit_writeBreaks : upLine.Canon ∧ upLine.busy = false ∧ upLine.coreOn = true ∧ (∀ c, coreOf (tcore 4) = some c → upLine.rd R.MEWS_CORE_STATUS.STATE c = coreRunning) ∧ upLine.pkg = 0 ∧
    upLine.coreGate (tcore 4) .w 64 8 = none ∧ upLine.cline? 64 = some line0 ∧ Tab.wf upLine.mews.resv = true ∧ upLine.holdsResv (tcore 5) 64 = true :=
  ⟨⟨by decide +kernel, by decide +kernel, by decide +kernel⟩, by decide +kernel, by decide +kernel, by intro c h; cases h; decide +kernel, by decide +kernel, by decide +kernel, by decide +kernel, by decide +kernel,
    by decide +kernel⟩
theorem wit_sealed : { up with tap := { up.tap with up := true } }.tapAnswers = true ∧ { up with tap := { up.tap with up := true } }.busy = false ∧ up.rd R.SEC_PORT.PORT_OPEN = 0 := by decide +kernel

/-- The samples of a character without parity. -/
def chars (b : Nat) : List Bool := (List.range 160).map (fun j => if j < 16 then false else if j < 144 then b.testBit (j / 16 - 1) else true)

theorem wit_uart : (up.wr R.MGMT_UART_CFG.ENABLE 1 1).uartOn 1 = true ∧ up.rd R.MGMT_UART_CFG.PARITY_EN 1 = 0 ∧ (up.uart 1).rx.length < 64 ∧ (chars 0xA5).length = 160 ∧ uartReceive false (chars 0xA5) = .byte 0xA5 true := by decide +kernel
theorem wit_uart_false : (List.replicate 10 true)[7]? = some true ∧ (List.replicate 10 true)[8]? = some true := by decide

end Sys2Proof.Tests
end

