-- ==== Sys2Proof/Tests/Slice0.lean ====
section
/-! SUPPORT. The smoke test of WellFormed: for each check a term that it refuses; and a few single commands with the results that the spec gives. -/

-- One declaration after another: the kernel checks of many tests then need few threads.
set_option Elab.async false

namespace Sys2Proof.Tests
open Sys2Proof Sys2Proof.Machine

/-! ### WellFormed -/

def a0 : Master := ⟨0, .f, false⟩
def w0 : CsrWr := ⟨a0, 8, 0, true, 0⟩
def c0 : Cmd := ⟨0, none, 0, 0, 0, 0, 0, 0, 0, [], []⟩
def m0 : KMsg := ⟨.rd, 1, false, false, 0, 1, 1, 1, 0, 0, 0, 1, 0, false, 0, 0, 0, [], [], [], []⟩
def f0 : Flit := ⟨true, true, 0, true, false, 0, 0, 0, 0, 0, 0, 0⟩
def l0 : LineReq := ⟨a0, 0, .read, .norm, [], 0, false⟩
def x0 : CacheAcc := ⟨a0, .r, 0, 8, [], false, 0, .clean⟩
def d0 : DmaEv := ⟨0, 0, 0, List.replicate 32 0, []⟩
def e0 : FaultEv := ⟨0, 1, 0, 0⟩
def g0 : WindowIn := ⟨0, [], [], []⟩

/-- Each of these has one index or field out of its range: the check refuses it. -/
theorem test_refused_1 : ([.perchPowerOn 4 false, .pwrOkRise 16 0, .pwrOkRise 0 4,
    .strapChange 16 0, .strapChange 0 4, .hbmTrainingDone 8 false [],
    .d2dFlitCrcError 10 false, .d2dLinkFailed 10, .sqDoorbell 4096 w0,
    .sqDoorbell 0 { w0 with val := 2 ^ 64 }, .rqDoorbell 4096 w0, .rqDoorbell 0 { w0 with val := 2 ^ 64 },
    .commandTimeout 4096 0 0, .commandTimeout 0 4294967296 0, .coalesceTimer 4096,
    .onceIdExpiry 4096 0, .adminQpEnable { w0 with val := 2 ^ 64 }, .adminQpDisable { w0 with val := 2 ^ 64 },
    .nop { c0 with qp := 4096 }, .identify { c0 with qp := 4096 }, .queueCreate { c0 with qp := 4096 },
    .queueDelete { c0 with qp := 4096 }, .queueQuery { c0 with qp := 4096 }, .queueModify { c0 with qp := 4096 },
    .resetWarm { c0 with qp := 4096 }, .sessionOpen { c0 with qp := 4096 }, .sessionAppend { c0 with qp := 4096 },
    .sessionResume { c0 with qp := 4096 }, .sessionPark { c0 with qp := 4096 }, .sessionSet { c0 with qp := 4096 },
    .sessionQuery { c0 with qp := 4096 }, .sessionExport { c0 with qp := 4096 }, .sessionImport { c0 with qp := 4096 },
    .sessionRecover { c0 with qp := 4096 }, .sessionClose { c0 with qp := 4096 }, .memCopy { c0 with qp := 4096 } ⟨[], 0, []⟩,
    .memFill { c0 with qp := 4096 }, .roostStatus { c0 with qp := 4096 }, .roostReclaim { c0 with qp := 4096 },
    .planLoad { c0 with qp := 4096 } ⟨[], 0, []⟩] : List Instr).all (fun i => !i.wf) = true := by decide +kernel

/-- Each of these has one index or field out of its range: the check refuses it. -/
theorem test_refused_2 : ([.planUnload { c0 with qp := 4096 }, .weightsLoad { c0 with qp := 4096 } ⟨[], 0, []⟩, .kernelRun { c0 with qp := 4096 },
    .linkStatus { c0 with qp := 4096 }, .linkControlEnable { c0 with qp := 4096 }, .linkControlDisable { c0 with qp := 4096 },
    .linkControlRetrain { c0 with qp := 4096 }, .reduce { c0 with qp := 4096 }, .reduceWait { c0 with qp := 4096 },
    .pkgDrainStart { c0 with qp := 4096 }, .pkgDrainEnd { c0 with qp := 4096 }, .powerQuery { c0 with qp := 4096 },
    .powerSetCap { c0 with qp := 4096 }, .powerStateFlight { c0 with qp := 4096 }, .powerStateGlide { c0 with qp := 4096 },
    .powerStatePerch { c0 with qp := 4096 }, .timeQuery { c0 with qp := 4096 }, .keyDomainLoad { c0 with qp := 4096 } ⟨[], 0, []⟩,
    .keyDomainDelete { c0 with qp := 4096 }, .cryptRekey { c0 with qp := 4096 } ⟨[], 0, []⟩, .cryptStatus { c0 with qp := 4096 },
    .jessSetRegion { c0 with qp := 4096 }, .jessSync { c0 with qp := 4096 }, .trngRead { c0 with qp := 4096 },
    .attest { c0 with qp := 4096 } ⟨[], 0, []⟩, .faultQuery { c0 with qp := 4096 }, .faultLogRead { c0 with qp := 4096 },
    .faultClear { c0 with qp := 4096 }, .faultInject { c0 with qp := 4096 }, .blockReset { c0 with qp := 4096 },
    .runWatchdog 0 384 [], .dmaDescriptorComplete { d0 with ch := 4 }, .dmaChannelStop { d0 with ch := 4 } [],
    .poisonConsumed 0 384 0 [] [], .tileSramScrub 384 0 .clean, .groupWakeComplete 48,
    .hbmRequestIngress { l0 with addr := 1 }, .writeDrainAge 8 0, .writeDrainAge 0 64,
    .hbmRequestIssue 8 0 [] ⟨0, []⟩ []] : List Instr).all (fun i => !i.wf) = true := by decide +kernel

/-- Each of these has one index or field out of its range: the check refuses it. -/
theorem test_refused_3 : ([.hbmRequestIssue 0 64 [] ⟨0, []⟩ [], .hbmRefreshDue 8 0 0, .hbmRefreshDue 0 64 0,
    .parityRetry 8 0 0, .parityRetry 0 64 0, .hbmSpareCmd 8 0 w0,
    .hbmSpareCmd 0 64 w0, .hbmSpareCmd 0 0 { w0 with val := 2 ^ 64 }, .spareCopyComplete 8 0 0,
    .spareCopyComplete 0 64 0, .hbmPatrolScrub 8 0 0 ⟨0, []⟩, .hbmPatrolScrub 0 64 0 ⟨0, []⟩,
    .hbmThermalPoll 8 none, .hbmSelfRefreshEntry 8, .hbmSelfRefreshExit 8,
    .orderedContribution ⟨2 ^ 16, .s, false⟩ 0 0 0 [] false, .orderedContribution a0 0 0 512 [] false, .hbmGlbLocWrite false { w0 with val := 2 ^ 64 },
    .hbmPcCfgWrite 8 0 w0, .hbmPcCfgWrite 0 64 w0, .hbmPcCfgWrite 0 0 { w0 with val := 2 ^ 64 },
    .hbmStkCfgWrite 8 w0, .hbmStkCfgWrite 0 { w0 with val := 2 ^ 64 }, .hbmThermCfgWrite 8 w0,
    .hbmThermCfgWrite 0 { w0 with val := 2 ^ 64 }, .roostRequestIngress { l0 with addr := 1 }, .roostDrainAge 8 0,
    .roostDrainAge 0 2, .roostRequestIssue 8 0 [] ⟨0, []⟩ [], .roostRequestIssue 0 2 [] ⟨0, []⟩ [],
    .roostRefreshDue 8 0, .roostRefreshDue 0 2, .roostTempRead 8 [],
    .roostPatrolScrub 8 0 0 ⟨0, []⟩, .caParityRetry 8 0 [], .caParityRetry 0 2 [],
    .wrCrcResend 8 0 0, .wrCrcResend 0 2 0, .roostRetrainCheck 2 0 [],
    .roostChCfgWrite 8 w0] : List Instr).all (fun i => !i.wf) = true := by decide +kernel

/-- Each of these has one index or field out of its range: the check refuses it. -/
theorem test_refused_4 : ([.roostChCfgWrite 0 { w0 with val := 2 ^ 64 }, .cryptEnable { w0 with val := 2 ^ 64 }, .sectorLineRead ⟨2 ^ 16, .s, false⟩ 0,
    .sectorLineWrite ⟨2 ^ 16, .s, false⟩ 0 [], .rawSectorRead ⟨2 ^ 16, .s, false⟩ 0, .rawSectorWrite ⟨2 ^ 16, .s, false⟩ 0 [] [],
    .jessStageGo { w0 with val := 2 ^ 64 }, .jessCheckerApply 15, .jessSyncGo { w0 with val := 2 ^ 64 },
    .jessCheckerReload 15, .flitReceive 64 f0, .flitReceive 0 { f0 with seq := 256 },
    .replayRequestTimer 64, .linkDownTimeout 64, .rd 64 m0,
    .rd 0 { m0 with dest := 64 }, .wr 64 m0, .wr 0 { m0 with dest := 64 },
    .wrMask 64 m0, .wrMask 0 { m0 with dest := 64 }, .add 64 m0,
    .add 0 { m0 with dest := 64 }, .cmd 64 m0, .cmd 0 { m0 with dest := 64 },
    .fwd 64 m0, .fwd 0 { m0 with dest := 64 }, .buddySec 64 m0,
    .buddySec 0 { m0 with dest := 64 }, .buddyCommit 64 m0, .buddyCommit 0 { m0 with dest := 64 },
    .buddyDel 64 m0, .buddyDel 0 { m0 with dest := 64 }, .claim 64 m0,
    .claim 0 { m0 with dest := 64 }, .expHdr 64 m0, .expHdr 0 { m0 with dest := 64 },
    .expSec 64 m0, .expSec 0 { m0 with dest := 64 }, .impReq 64 m0,
    .impReq 0 { m0 with dest := 64 }] : List Instr).all (fun i => !i.wf) = true := by decide +kernel

/-- Each of these has one index or field out of its range: the check refuses it. -/
theorem test_refused_5 : ([.rdData 64 m0, .rdData 0 { m0 with dest := 64 }, .ack 64 m0,
    .ack 0 { m0 with dest := 64 }, .replyMsg 64 m0, .replyMsg 0 { m0 with dest := 64 },
    .fwdReply 64 m0, .fwdReply 0 { m0 with dest := 64 }, .relayMessage 64 m0,
    .relayMessage 0 { m0 with dest := 64 }, .presence 64 m0, .presence 0 { m0 with dest := 64 },
    .linkstate 64 m0, .linkstate 0 { m0 with dest := 64 }, .probe 64 m0,
    .probe 0 { m0 with dest := 64 }, .probeAck 64 m0, .probeAck 0 { m0 with dest := 64 },
    .routeFence 64 m0, .routeFence 0 { m0 with dest := 64 }, .fenceAck 64 m0,
    .fenceAck 0 { m0 with dest := 64 }, .leave 64 m0, .leave 0 { m0 with dest := 64 },
    .join 64 m0, .join 0 { m0 with dest := 64 }, .downReq 64 m0,
    .downReq 0 { m0 with dest := 64 }, .downAck 64 m0, .downAck 0 { m0 with dest := 64 },
    .slotSync 64 m0, .slotSync 0 { m0 with dest := 64 }, .tod 64 m0,
    .tod 0 { m0 with dest := 64 }, .wake 64 m0, .wake 0 { m0 with dest := 64 },
    .ready 64 m0, .ready 0 { m0 with dest := 64 }, .responseTimeout 65536,
    .probeRoundTimeout 64] : List Instr).all (fun i => !i.wf) = true := by decide +kernel

/-- Each of these has one index or field out of its range: the check refuses it. -/
theorem test_refused_6 : ([.strandedHoldExpiry 64, .reprobeTimer 64, .routeFenceTimeout 64,
    .trainingSlotStart 64, .linkTrainingComplete 64 .failed, .perchHoldExpiry 64,
    .wakeResendTimer 64, .ktlLinkDisable 64 w0, .ktlLinkDisable 0 { w0 with val := 2 ^ 64 },
    .ktlLinkEnable 64 w0, .ktlLinkEnable 0 { w0 with val := 2 ^ 64 }, .ktlLinkRetrain 64 w0,
    .ktlLinkRetrain 0 { w0 with val := 2 ^ 64 }, .pcieConfigRequest 256 0, .coreRelease 16 w0,
    .coreRelease 0 { w0 with val := 2 ^ 64 }, .coreReset 16 w0, .coreReset 0 { w0 with val := 2 ^ 64 },
    .amo .swap false ⟨2 ^ 16, .s, false⟩ 0 0, .amofadd false ⟨2 ^ 16, .s, false⟩ 0 0, .loadReserved false ⟨2 ^ 16, .s, false⟩ 0,
    .storeConditional false ⟨2 ^ 16, .s, false⟩ 0 0, .reservationTimeout 16, .fenceW 16,
    .cboClean ⟨2 ^ 16, .s, false⟩ 0, .cboFlush ⟨2 ^ 16, .s, false⟩ 0, .cboInval ⟨2 ^ 16, .s, false⟩ 0,
    .cboZero ⟨2 ^ 16, .s, false⟩ 0, .prefetchHint ⟨2 ^ 16, .s, false⟩ 0 0 0, .cacheAccess { x0 with way := 16 },
    .mewsLockWrite 9 w0, .mewsLockWrite 0 { w0 with val := 2 ^ 64 }, .cleanAll { w0 with val := 2 ^ 64 },
    .imsicSeteipnum 16 0 w0, .imsicSeteipnum 0 6 w0, .imsicSeteipnum 0 0 { w0 with val := 2 ^ 64 },
    .flashRead { w0 with val := 2 ^ 64 }, .flashProgram { w0 with val := 2 ^ 64 }, .flashErase { w0 with val := 2 ^ 64 },
    .flashProtectWrite { w0 with val := 2 ^ 64 }] : List Instr).all (fun i => !i.wf) = true := by decide +kernel

/-- Each of these has one index or field out of its range: the check refuses it. -/
theorem test_refused_7 : ([.dieThermalTrip 4 0, .pwrWakeAtWrite { w0 with val := 2 ^ 64 }, .pwrCapWrite { w0 with val := 2 ^ 64 },
    .pwrCfgWrite .gov { w0 with val := 2 ^ 64 }, .timeAlarmWrite { w0 with val := 2 ^ 64 }, .timeCapture { w0 with val := 2 ^ 64 },
    .faultEvent [{ e0 with src := 512 }], .unitResetEnd 148, .resetOverdue 148,
    .shadowWindowClose 257, .timeoutDetectorFire 5 a0 .r 0, .timeoutDetectorFire 0 ⟨2 ^ 16, .s, false⟩ .r 0,
    .ackHandled { w0 with val := 2 ^ 64 }, .ackExtend { w0 with val := 2 ^ 64 }, .ackAdvance { w0 with val := 2 ^ 64 },
    .alarmClear { w0 with val := 2 ^ 64 }, .pendingClear 512 w0, .pendingClear 0 { w0 with val := 2 ^ 64 },
    .sourceCfgWrite 512 w0, .sourceCfgWrite 0 { w0 with val := 2 ^ 64 }, .sourceForce 512 w0,
    .sourceForce 0 { w0 with val := 2 ^ 64 }, .unitRelease 256 w0, .unitRelease 0 { w0 with val := 2 ^ 64 },
    .unitReset 256 w0, .unitReset 0 { w0 with val := 2 ^ 64 }, .svnAdvance { w0 with val := 2 ^ 64 },
    .tamperMaskWrite { w0 with val := 2 ^ 64 }, .tgtStatus 256 false, .setMode 256 none,
    .setMode 0 (some 256), .mboxWrite 256 [] none, .mboxWrite 0 [] (some 256),
    .mboxPop (some 256), .mgmtTgtCfgWrite { w0 with val := 2 ^ 64 }, .mgmtCtlCfgWrite (some 16) w0,
    .mgmtCtlCfgWrite none { w0 with val := 2 ^ 64 }, .uartRxCharacter 2 [], .uartDataWrite 2 w0,
    .uartDataWrite 0 { w0 with val := 2 ^ 64 }] : List Instr).all (fun i => !i.wf) = true := by decide +kernel

/-- Each of these has one index or field out of its range: the check refuses it. -/
theorem test_refused_8 : ([.uartDataRead 2 a0 0 0, .uartDataRead 0 ⟨2 ^ 16, .s, false⟩ 0 0, .uartDataRead 0 a0 0 2,
    .uartTxComplete 2, .snapLowerRead ⟨2 ^ 16, .s, false⟩ 0, .snapUpperRead ⟨2 ^ 16, .s, false⟩ 0,
    .registerWrite 0 { w0 with val := 2 ^ 64 }, .lockLoss 64, .keeperUp 64,
    .coreWfi 16, .linkWithdrawExpiry 64, .roostTrainingDone [⟨8, 1, 0⟩] ⟨0, [25, 25]⟩,
    .roostTrainingDone [⟨0, 7, 0⟩] ⟨0, [25, 25]⟩, .roostTrainingDone [] ⟨0, []⟩] : List Instr).all (fun i => !i.wf) = true := by decide +kernel

/-- The same commands with every index in its range are well formed. -/
theorem test_accepted_1 : ([.perchPowerOn 0 false, .pwrOkRise 0 0, .pwrOkFall,
    .corePgRise, .corePgFall, .pllLock,
    .bootRomStart [], .resetNAssert, .resetNRelease,
    .perstNAssert, .perstNRelease, .strapChange 0 0,
    .warmResetStart, .revalidation, .hbmTrainingDone 0 false [],
    .roostTrainingDone [] ⟨0, [25, 25]⟩, .tileSelfTestDone [], .tciReady,
    .d2dFlitCrcError 0 false, .d2dLinkFailed 0, .sqDoorbell 0 w0,
    .rqDoorbell 0 w0, .fetchTurn [] false, .commandTimeout 0 0 0,
    .coalesceTimer 0, .onceIdExpiry 0 0, .adminQpEnable w0,
    .adminQpDisable w0, .nop c0, .identify c0,
    .queueCreate c0, .queueDelete c0, .queueQuery c0,
    .queueModify c0, .resetWarm c0, .sessionOpen c0,
    .sessionAppend c0, .sessionResume c0, .sessionPark c0,
    .sessionSet c0, .sessionQuery c0, .sessionExport c0,
    .sessionImport c0, .sessionRecover c0, .sessionClose c0,
    .memCopy c0 ⟨[], 0, []⟩, .memFill c0, .roostStatus c0,
    .roostReclaim c0, .planLoad c0 ⟨[], 0, []⟩] : List Instr).all (fun i => i.wf) = true := by decide +kernel

/-- The same commands with every index in its range are well formed. -/
theorem test_accepted_2 : ([.planUnload c0, .weightsLoad c0 ⟨[], 0, []⟩, .kernelRun c0,
    .linkStatus c0, .linkControlEnable c0, .linkControlDisable c0,
    .linkControlRetrain c0, .reduce c0, .reduceWait c0,
    .pkgDrainStart c0, .pkgDrainEnd c0, .powerQuery c0,
    .powerSetCap c0, .powerStateFlight c0, .powerStateGlide c0,
    .powerStatePerch c0, .timeQuery c0, .keyDomainLoad c0 ⟨[], 0, []⟩,
    .keyDomainDelete c0, .cryptRekey c0 ⟨[], 0, []⟩, .cryptStatus c0,
    .jessSetRegion c0, .jessSync c0, .trngRead c0,
    .attest c0 ⟨[], 0, []⟩, .faultQuery c0, .faultLogRead c0,
    .faultClear c0, .faultInject c0, .blockReset c0,
    .parkEvaluation, .transferStart, .roostPageTransfer,
    .parkCommitWrite 0, .parkCommitAck 0 false [], .unparkComplete 0 [],
    .unparkDeferTimeout 0, .unparkFrameTimeout 0, .buddyRetryTimer 0,
    .runComplete 0 [] 0 [], .runWatchdog 0 0 [], .runAbortPoint 0 0 [],
    .runDeferTimeout 0, .dmaDescriptorComplete d0, .dmaChannelStop d0 [],
    .poisonConsumed 0 0 0 [] [], .tileSramScrub 0 0 .clean, .groupGateIdle,
    .groupWakeComplete 0, .hbmRequestIngress l0] : List Instr).all (fun i => i.wf) = true := by decide +kernel

/-- The same commands with every index in its range are well formed. -/
theorem test_accepted_3 : ([.writeDrainAge 0 0, .hbmRequestIssue 0 0 [] ⟨0, []⟩ [], .hbmRefreshDue 0 0 0,
    .parityRetry 0 0 0, .hbmSpareCmd 0 0 w0, .spareCopyComplete 0 0 0,
    .hbmPatrolScrub 0 0 0 ⟨0, []⟩, .hbmThermalPoll 0 none, .rhWindowClear,
    .hbmSelfRefreshEntry 0, .hbmSelfRefreshExit 0, .orderedContribution a0 0 0 0 [] false,
    .ordHoldExpiry 0, .hbmGlbLocWrite false w0, .locPropagationDone,
    .hbmPcCfgWrite 0 0 w0, .hbmStkCfgWrite 0 w0, .hbmThermCfgWrite 0 w0,
    .roostRequestIngress l0, .roostDrainAge 0 0, .roostRequestIssue 0 0 [] ⟨0, []⟩ [],
    .roostRefreshDue 0 0, .roostTempRead 0 [], .roostPatrolScrub 0 0 0 ⟨0, []⟩,
    .roostRhWindowClear, .caParityRetry 0 0 [], .wrCrcResend 0 0 0,
    .roostRetrainCheck 0 0 [], .roostSelfRefreshEntry, .roostSelfRefreshExit [],
    .roostChCfgWrite 0 w0, .cryptEnable w0, .sectorTableFillDone,
    .sectorLineRead a0 0, .sectorLineWrite a0 0 [], .mergeHoldExpiry 0,
    .rawSectorRead a0 0, .rawSectorWrite a0 0 [] [], .rekeySector,
    .jessStageGo w0, .jessCheckerApply 0, .jessSyncGo w0,
    .jessSyncDone, .jessCheckerReload 0, .flitReceive 0 f0,
    .replayRequestTimer 0, .linkDownTimeout 0, .rd 0 m0,
    .wr 0 m0, .wrMask 0 m0] : List Instr).all (fun i => i.wf) = true := by decide +kernel

/-- The same commands with every index in its range are well formed. -/
theorem test_accepted_4 : ([.add 0 m0, .cmd 0 m0, .fwd 0 m0,
    .buddySec 0 m0, .buddyCommit 0 m0, .buddyDel 0 m0,
    .claim 0 m0, .expHdr 0 m0, .expSec 0 m0,
    .impReq 0 m0, .rdData 0 m0, .ack 0 m0,
    .replyMsg 0 m0, .fwdReply 0 m0, .relayMessage 0 m0,
    .presence 0 m0, .linkstate 0 m0, .probe 0 m0,
    .probeAck 0 m0, .routeFence 0 m0, .fenceAck 0 m0,
    .leave 0 m0, .join 0 m0, .downReq 0 m0,
    .downAck 0 m0, .slotSync 0 m0, .tod 0 m0,
    .wake 0 m0, .ready 0 m0, .responseTimeout 0,
    .linkstateTimer, .probeRoundTimeout 0, .strandedHoldExpiry 0,
    .reprobeTimer 0, .routeFenceTimeout 0, .slotSyncTimeout,
    .trainingSlotStart 0, .linkTrainingComplete 0 .failed, .presenceTimer,
    .perchHoldExpiry 0, .wakeResendTimer 0, .ktlLinkDisable 0 w0,
    .ktlLinkEnable 0 w0, .ktlLinkRetrain 0 w0, .pcieConfigRequest 0 0,
    .pcieBar0Read 0 0, .pcieL1Exit, .coreRelease 0 w0,
    .coreReset 0 w0, .amo .swap false a0 0 0] : List Instr).all (fun i => i.wf) = true := by decide +kernel

/-- The same commands with every index in its range are well formed. -/
theorem test_accepted_5 : ([.amofadd false a0 0 0, .loadReserved false a0 0, .storeConditional false a0 0 0,
    .reservationTimeout 0, .fenceW 0, .cboClean a0 0,
    .cboFlush a0 0, .cboInval a0 0, .cboZero a0 0,
    .prefetchHint a0 0 0 0, .cacheAccess x0, .mewsLockWrite 0 w0,
    .lockFillComplete, .cleanAll w0, .imsicSeteipnum 0 0 w0,
    .flashRead w0, .flashProgram w0, .flashErase w0,
    .flashCommandDone false, .flashProtectWrite w0, .creditWindowStart g0,
    .dieThermalTrip 0 0, .perchEntryStart, .perchEntryTimeout,
    .wakeTimer, .pwrWakeAtWrite w0, .pwrCapWrite w0,
    .pwrCfgWrite .gov w0, .ppsEdge 0, .holdoverTimeout,
    .slewComplete, .ppsOutRise, .ppsOutFall,
    .anchorUpdate, .timeAlarmExpiry, .timeAlarmWrite w0,
    .timeCapture w0, .faultEvent [], .ceWindowRollover,
    .graceTimerExpiry [], .unitResetEnd 0, .resetOverdue 0,
    .shadowWindowClose 0, .warmLimitExpiry, .timeoutDetectorFire 0 a0 .r 0,
    .ackHandled w0, .ackExtend w0, .ackAdvance w0,
    .alarmClear w0, .pendingClear 0 w0] : List Instr).all (fun i => i.wf) = true := by decide +kernel

/-- The same commands with every index in its range are well formed. -/
theorem test_accepted_6 : ([.sourceCfgWrite 0 w0, .sourceForce 0 w0, .unitRelease 0 w0,
    .unitReset 0 w0, .tamperEvent 0 false, .trngHealthFail,
    .trngHealthRecover, .svnAdvance w0, .tamperMaskWrite w0,
    .tapReset, .tapExtest 0 0, .tapIdcode,
    .tapSamplePreload 0 0, .tapClamp, .tapHighz,
    .tapExtestPulse 0 0, .tapExtestTrain 0 0, .tapBypass,
    .tapOpen 0, .openComplete false, .tapDbgMem 0,
    .tgtStatus 0 false, .mboxStatus, .setMode 0 none,
    .mboxWrite 0 [] none, .mboxRead, .mboxPop none,
    .alertResponse false, .stretchTimeout, .targetBusTimeout,
    .mailboxMove, .mailboxReplyStage, .mgmtTgtCfgWrite w0,
    .controllerRound [] 0, .mgmtCtlCfgWrite none w0, .uartRxCharacter 0 [],
    .uartDataWrite 0 w0, .uartDataRead 0 a0 0 0, .uartTxComplete 0,
    .snapLowerRead a0 0, .snapUpperRead a0 0, .registerWrite 0 w0,
    .perchPowerLoss, .perchStartupExpiry, .lockLoss 0,
    .keeperUp 0, .pcieLinkUp, .coreWfi 0,
    .perchKeeperExpiry, .linkWithdrawExpiry 0] : List Instr).all (fun i => i.wf) = true := by decide +kernel

/-- The same commands with every index in its range are well formed. -/
theorem test_accepted_7 : ([.coreEnLowExpiry] : List Instr).all (fun i => i.wf) = true := by decide +kernel

/-- Each field of a Master out of its range. -/
theorem test_master_refused : ([⟨2 ^ 16, .s, false⟩] : List Master).all (fun x => !x.wf) = true := by decide

/-- Each field of a CsrWr out of its range. -/
theorem test_csrWr_refused : ([{ w0 with m := ⟨2 ^ 16, .s, false⟩ }, { w0 with val := 2 ^ 64 }] : List CsrWr).all (fun x => !x.wf) = true := by decide

/-- Each field of a Cmd out of its range. -/
theorem test_cmd_refused : ([{ c0 with qp := 4096 }, { c0 with opcode := 2 ^ 16 }, { c0 with flags := 256 }, { c0 with pcount := 256 }, { c0 with tag := 2 ^ 32 }, { c0 with handle := 2 ^ 64 }, { c0 with timeout := 2 ^ 32 },
    { c0 with ridLo := 2 ^ 32 }, { c0 with params := [2 ^ 64] }, { c0 with block := [0] }, { c0 with fwdFrom := some 64 }] : List Cmd).all (fun x => !x.wf) = true := by decide

/-- Each field of a KMsg out of its range. -/
theorem test_kMsg_refused : ([{ m0 with slots := 1024 }, { m0 with dest := 64 }, { m0 with origin := 64 }, { m0 with oclass := 16 }, { m0 with cls := 4 }, { m0 with tag := 2 ^ 16 }, { m0 with addr := 2 ^ 64 }, { m0 with mask := 2 ^ 64 },
    { m0 with cmds := [{ c0 with qp := 4096 }] }] : List KMsg).all (fun x => !x.wf) = true := by decide

/-- Each field of a Flit out of its range. -/
theorem test_flit_refused : ([{ f0 with seq := 256 }, { f0 with ack := 256 }, { f0 with craPool := 8 }, { f0 with crbPool := 8 }] : List Flit).all (fun x => !x.wf) = true := by decide

/-- Each field of a LineReq out of its range. -/
theorem test_lineReq_refused : ([{ l0 with m := ⟨2 ^ 16, .s, false⟩ }, { l0 with addr := 1 }, { l0 with op := .write }, { l0 with mask := 2 ^ 64 }] : List LineReq).all (fun x => !x.wf) = true := by decide

/-- Each field of a CacheAcc out of its range. -/
theorem test_cacheAcc_refused : ([{ x0 with m := ⟨2 ^ 16, .s, false⟩ }, { x0 with addr := 2 ^ 64 }, { x0 with way := 16 }, { x0 with addr := 1, len := 64 }] : List CacheAcc).all (fun x => !x.wf) = true := by decide

/-- Each field of a DmaEv out of its range. -/
theorem test_dmaEv_refused : ([{ d0 with tile := 384 }, { d0 with ch := 4 }, { d0 with desc := [] }] : List DmaEv).all (fun x => !x.wf) = true := by decide

/-- Each field of a FaultEv out of its range. -/
theorem test_faultEv_refused : ([{ e0 with src := 512 }, { e0 with cls := 0 }, { e0 with cls := 5 }, { e0 with detail := 2 ^ 32 }] : List FaultEv).all (fun x => !x.wf) = true := by decide

/-! ### Worked examples of the spec

Each expected value stands in the "Worked examples" of the section named, or, for the standard algorithms, in the standard. -/

/-- 08_hbm_scheduling.md, "Decoding one address": default interleave, then block 18 in locality mode. -/
theorem test_hbm_default : hbmMap 0 0x001234567840 = (64 + 46, 0x091A2A40) ∧ hbmBank 0x091A2A40 = 2 ∧ hbmRow 0x091A2A40 = 9320 := by decide
theorem test_hbm_locality : hbmMap (2 ^ 18) 0x001234567840 = (2, 0x0968AC40) := by decide

/-- "Decoding one Roost address". -/
theorem test_roost_map : ((roostMap 0x0123456789C0).ch, (roostMap 0x0123456789C0).sub, (roostMap 0x0123456789C0).rank, (roostMap 0x0123456789C0).bank, (roostMap 0x0123456789C0).row, (roostMap 0x0123456789C0).line) =
    (3, 1, 1, 25, 18058, 39) := by decide

/-- "Computing a CSR address" and the channel, tile and pseudo-channel blocks of the other examples. -/
theorem test_csr_address : R.HBM_PC_CFG.addr 5 37 0 / 0x1000 = 0x25025 ∧ R.TALON_TILE_STATUS.addr 2 37 0 / 0x10000 = 0x1225 ∧ R.ROOST_CH_CFG.addr 3 0 0 / 0x10000 = 0x943 ∧ R.TCI_DB_SQ.addr 300 0 0 = 0x11012C0 ∧
    R.TCI_DB_RQ.addr 300 0 0 = 0x11012C8 := by decide

/-- "Building a handle", with this package as package 9. -/
theorem test_handle : (up.wr R.TOP_POSITION.PKG_ID 9).handleOf 0x01A4 0x123456 = 0x24000012345601A4 := by decide +kernel

/-- "Ordered against unordered addition": FP32 sums with 2^24. -/
theorem test_fp32 : fpAdd 8 23 0x3F800000 0x3F800000 = 0x40000000 ∧ fpAdd 8 23 0x40000000 0xCB800000 = 0xCB7FFFFE ∧ fpAdd 8 23 0xCB7FFFFE 0x4B800000 = 0x40000000 ∧
    fpAdd 8 23 0x3F800000 0x4B800000 = 0x4B800000 ∧ fpAdd 8 23 0x4B800000 0xCB800000 = 0 := by decide

/-- The line of the same example after the ordered contributions 40, 12, 5 and the flush, in a list of FP32 elements. -/
theorem test_ordered : (([(40, 0x3F800000), (12, 0xCB800000), (5, 0x4B800000)] : List (Nat × Nat)).foldl (fun t e => Tab.put t e.1 e.2) []).foldl (fun a e => fpAdd 8 23 a e.2) 0x3F800000 = 0x3F800000 := by decide

/-- "A remote add that straddles two regions": the second part fails with CLASS at 0xC0, region 22. -/
def tab2 : Tab RegionW :=
  [(21, { start := 0x4100000000, stop := 0x4100000080, attr := 1 + 3 * 2 ^ 12 + (1 + 2 ^ 4) * 2 ^ 20 }), (22, { start := 0x41000000C0, stop := 0x410000FFC0, attr := 1 + 3 * 2 ^ 8 + 2 ^ 20 })]
theorem test_straddle : (jessDecide tab2 ⟨0x4454, .s, true⟩ .a 0x4100000000 256).map (fun f => (f.addr, f.regA, f.regB, f.reason, f.straddle)) = some (0x41000000C0, 22, 0x100, .class_, true) := by decide

/-- "Link 22 of package 9 fails": the first round goes to 32 to 39. -/
theorem test_candidates : (((List.range 63).map (fun k => (9 + 22 + k + 1) % 64)).take 8) = [32, 33, 34, 35, 36, 37, 38, 39] := by decide

/-- "Fitting lock ranges into the sets". -/
def lk (base size : Nat) : LockR := { en := true, base := base, size := size }
theorem test_locks : overfull [lk 0x90000000 0x200000, lk 0x80000000 0x400000, lk 0x40000000 0x800000] = false ∧
    overfull [lk 0xA0000000 0x100000, lk 0x90000000 0x200000, lk 0x80000000 0x400000, lk 0x40000000 0x800000] = true ∧
    overfull [lk 0xA0200000 0x100000, lk 0x90000000 0x200000, lk 0x80000000 0x400000, lk 0x40000000 0x800000] = false := by decide

/-- "A wake storm": RETRY_AFTER 13 at an occupancy of 12,288; "An unpark storm": 13 for 5,958 µs. -/
theorem test_retry : clampN 0 31 (clog2 (12288 / 2)) = 13 ∧ clog2 5958 = 13 := by decide

/-- "A stack heating past the threshold": the duty after the polls of 103, 105, 106, 106, 104, 102, 101 and 100 °C. -/
def polls (l : List Nat) : State := (l.foldl (fun (s : State) t => s.hbmPoll 7 (some t)) (((up.wr R.HBM_STK_THERM_CFG.THROTTLE_C 105 7).wr R.HBM_STK_THERM_CFG.HYST 3 7).wr R.HBM_STK_THERM_CFG.MIN_DUTY 4 7))
theorem test_duty_down : (polls [103, 105, 106, 106]).dutyOf 7 = 13 ∧ (polls [103, 105, 106, 106]).rd R.HBM_STK_STEP_CNT.COUNT 7 = 3 := by decide +kernel
theorem test_duty_up : (polls [103, 105, 106, 106, 104]).dutyOf 7 = 13 ∧ (polls [103, 105, 106, 106, 104, 102, 101, 100]).dutyOf 7 = 16 := by decide +kernel

/-- "Prefill from idle": the terms of the grant with H at 30 °C, 480 W metered and the bucket full. -/
def idle480 : State :=
  let s := up.updPwr (fun p => { p with level := 24000000, burstW := 2900, capW := 2400 })
  (List.range 4).foldl (fun (s : State) d => s.wr R.PWR_DIE.TEMP_DC (s.rd R.PWR_THERM_CFG.DIE_LIMIT_C * 10 - 300) d) s
theorem test_grant : idle480.headroom = 300 ∧ idle480.grantTerms 48000 = [24000000, 290000, 348000, 300000] := by decide +kernel

/-- "A step on return from holdover": a correction of 0.6 ms at 200 ppm lasts 3 s. -/
theorem test_slew : ({ start := 0, mag := 600000, fwd := true, ppm := 200 } : Slew).done 3000000000 = 600000 ∧ ({ start := 0, mag := 600000, fwd := true, ppm := 200 } : Slew).done 2999995000 = 599999 := by decide

/-- FIPS 197, appendix C.3: AES-256 of the block 00112233…EEFF under the key 000102…1F. -/
theorem test_aes : aesEnc 0x000102030405060708090a0b0c0d0e0f101112131415161718191a1b1c1d1e1f ((List.range 16).map (fun i => 17 * i)) =
    [0x8e, 0xa2, 0xb7, 0xca, 0x51, 0x67, 0x45, 0xbf, 0xea, 0xfc, 0x49, 0x90, 0x4b, 0x49, 0x60, 0x89] := by decide +kernel

/-- FIPS 180-4: SHA-256 of "abc". -/
theorem test_sha256 : leNat (sha256 [0x61, 0x62, 0x63]).reverse = 0xba7816bf8f01cfea414140de5dae2223b00361a396177a9cb410ff61f20015ad := by decide +kernel

/-- "Reading a SNAP counter": the second half comes from the latch although the counter has moved on. -/
theorem test_snap : ((up.snapFill snapReg 0x1005 1).snapOf snapReg 0x1005).map (·.upper) = some 1 := by decide +kernel

/-- R449: IDCODE on the test port of a running package. -/
theorem test_idcode : (match exec .tapIdcode { up with tap := { up.tap with up := true } } with | .next t => t.out.head? | _ => none) = some (.bytes "TDO" [0x04800C9F]) := by decide +kernel

/-- "Quantising one block to MXFP4": the scale is 127, and 7.0, 5.3 and 2.5 become 6.0, 6.0 and 2.0. -/
theorem test_quantise : (toMx .fp4 ([0x40E00000, 0x40A9999A, 0x40200000] ++ List.replicate 29 0)).scale = 127 ∧
    ((toMx .fp4 ([0x40E00000, 0x40A9999A, 0x40200000] ++ List.replicate 29 0)).elems.take 3).map (fun x => ElemType.fp4.val x) = [.fin false 3 1, .fin false 3 1, .fin false 2 0] := by decide +kernel

/-- "Locating two signals": KTX2_P of link 37, CA7 of channel 5, sub-channel 1. -/
theorem test_cells : (Signal.ktx 37 2).ball = (106, 37) ∧ (Signal.ktx 37 2).cell = 549 ∧ (Signal.roost 5 1 (.ca 7)).ball = (76, 109) ∧ (Signal.roost 5 1 (.ca 7)).cell = 2490 := by decide

/-- R412: the character 0xA5 enters the receive FIFO of UART 1. -/
theorem test_uart : (match exec (.uartRxCharacter 1 (chars 0xA5)) (up.wr R.MGMT_UART_CFG.ENABLE 1 1) with | .next t => (t.uart 1).rx | _ => []) = [0xA5] := by decide +kernel

end Sys2Proof.Tests
end

