-- ==== Sys2Proof/Tests/WitnessMem.lean ====
section
/-! SUPPORT. Witnesses for the statements about the Roost engine, the tiles and the memory controllers. -/

-- One declaration after another: the kernel checks of many tests then need few threads.
set_option Elab.async false

namespace Sys2Proof.Tests
open Sys2Proof.Machine

/-! ### SessionEngineEventsComplete, CommitRecordIsStored -/

/-- `up` with the Roost and the Crypt engine ready and a key set for domain 0. -/
def keys0 : KeySet := { xts1 := 1, xts2 := 2, tag := 3, ex1 := 4, ex2 := 5, exTag := 6, version := 1 }
def upRoost : State :=
  ((((up.wr R.ROOST_ENG_STATUS.STATE engReady).wr R.ROOST_BR_STATUS.STATE brReady 0).wr R.ROOST_BR_STATUS.STATE brReady 1).wr R.CRYPT_STATUS.STATE cryptReadySt).updCrypt
    (fun c => { c with keys := [(0, { a := some keys0, b := none })] })

def parked : Session := { newSession (up.handleOf 0 1) 1 0 1000 0x7F with st := .parked }
def waiting : Session := { parked with st := .waiting, parking := true }
def move (k : XKind) (obj seq : Nat) (run : Bool) : Transfer := { kind := k, obj := obj, cls := 2, seq := seq, pages := [], ptLeft := 0, sent := 0, running := run, committed := false }

/-- A package whose engine holds the transfers `l` and whose slot 0 holds `x`. -/
def engine (x : Session) (l : List Transfer) : State := (upRoost.setSes 0 x).setXfers (fun _ => l)

theorem wit_parkEvaluation : up.coreOn = true := by decide +kernel
theorem wit_transferStart : (engine waiting [move .park 0 1 true, move .park 1 2 false]).runCount < (engine waiting [move .park 0 1 true, move .park 1 2 false]).runMax ∧
    (engine waiting [move .park 0 1 true, move .park 1 2 false]).roostUp = true ∧ (engine waiting [move .park 0 1 true, move .park 1 2 false]).xferRunning = true ∧
    ((engine waiting [move .park 0 1 true, move .park 1 2 false]).startFirst ((engine waiting [move .park 0 1 true, move .park 1 2 false]).xferOrder (fun _ => true))).2 = true := by decide +kernel
theorem wit_roostPageTransfer : (engine waiting [{ move .park 0 1 true with ptLeft := 1 }]).roostUp = true ∧
    (((engine waiting [{ move .park 0 1 true with ptLeft := 1 }]).roost.xfers.filter (engine waiting [{ move .park 0 1 true with ptLeft := 1 }]).canStep).find?
      (fun t => decide ((engine waiting [{ move .park 0 1 true with ptLeft := 1 }]).roost.rr < t.seq))).map (·.kind) = some .park := by decide +kernel
theorem wit_parkCommitWrite : (engine waiting [move .park 0 1 true]).xfer .park 0 = some (move .park 0 1 true) ∧ (engine waiting [move .park 0 1 true]).sesAt 0 = some waiting ∧
    (engine waiting [move .park 0 1 true]).roostUp = true ∧ ((engine waiting [move .park 0 1 true]).domKeys waiting.domain).pick ((engine waiting [move .park 0 1 true]).sealSet waiting.domain) = some keys0 ∧
    (engine waiting [move .park 0 1 true]).stblIdx (commitAddr 0 ((engine waiting [move .park 0 1 true]).nextPosB 0 waiting)) = none := by
  decide +kernel
theorem wit_commit_rests : (engine waiting [move .park 0 1 true]).Canon ∧ (engine waiting [move .park 0 1 true]).busy = false :=
  ⟨⟨by decide +kernel, by decide +kernel, by decide +kernel⟩, by decide +kernel⟩
theorem wit_parkCommitAck : (engine waiting [{ move .park 0 1 true with committed := true }]).xfer .park 0 = some { move .park 0 1 true with committed := true } ∧
    (engine waiting [{ move .park 0 1 true with committed := true }]).sesAt 0 = some waiting ∧ (engine waiting [{ move .park 0 1 true with committed := true }]).roostUp = true ∧ shardLost waiting [] = false ∧
    shardsFollow waiting [] = true := by decide +kernel
theorem wit_unparkComplete : (engine { parked with runnable := true, unparking := true } [move .unpark 0 1 true]).xfer .unpark 0 = some (move .unpark 0 1 true) ∧
    (engine { parked with runnable := true, unparking := true } [move .unpark 0 1 true]).sesAt 0 = some { parked with runnable := true, unparking := true } ∧ shardLost parked [] = false ∧
    shardsFollow parked [] = true := by decide +kernel

/-- A parked session of slot 0 that waits for its frames from time 0. -/
def deferred : Session := { parked with runnable := true, runnableAt := 0, framesAt := some 0 }

theorem wit_unparkDeferTimeout : (at_ 100000000 (engine deferred [])).sesAt 0 = some deferred ∧ deferred.unparking = false ∧ deferred.runnableAt + 100000000 ≤ (at_ 100000000 (engine deferred [])).epoch := by decide +kernel
theorem wit_unparkFrameTimeout : (at_ 10000000 (engine deferred [])).sesAt 0 = some deferred ∧ deferred.framesAt = some 0 ∧ 0 + 10000000 ≤ (at_ 10000000 (engine deferred [])).epoch := by decide +kernel

/-- A parked session whose buddy copy is due since time 0. -/
def due : Session := { parked with buddyDue := true, buddy := .pending, buddyPkg := 9 }

theorem wit_buddyRetryTimer : (at_ 1000000000 (engine due [])).sesAt 0 = some due ∧ due.buddyTryAt + 1000000000 ≤ (at_ 1000000000 (engine due [])).epoch := by decide +kernel

/-! ### TileEventsComplete -/

/-- A run of entry 1 of plan 1, and the pass that runs it. -/
def run0 : TileRun :=
  { seq := 0, plan := 1, entry := 1, args := [], positions := 0, slot := none, len := 0, lo := 0, hi := 0, crit := false, at_ := 0, wrote := 0, stop := none }
def pass0 : Pass := { id := 1, plan := 1, entry := 1, runs := [run0], full := 0, since := 0, at_ := 0, wakes := [], started := true, crit := false }

/-- A package whose tiles run the pass `p`. -/
def tiles (p : Pass) : State := upPlan.setTalon (fun t => { t with passes := [p] })

theorem wit_runComplete : pass0.runs.any (fun r => (tiles pass0).hasJobs r.seq) = false ∧ ((tiles pass0).takeUse pass0 [{ energy := 5, cycles := 7 }]).isSome = true ∧ (tiles pass0).talon.passes.find? (fun p => p.id == 1) = some pass0 ∧ (tiles pass0).entryOf pass0.plan pass0.entry = some entryN ∧ pass0.started = true ∧ 100 + pass0.waited ≤ entryN.maxCycles := by
  decide +kernel
theorem wit_runWatchdog : entryN.maxCycles ≠ 0 ∧ pass0.started = true ∧ ((tiles pass0).takeUse pass0 []).isSome = true ∧ ((tiles pass0).planTiles pass0.plan).contains 0 = true := by decide +kernel
theorem wit_runAbortPoint : (tiles { pass0 with runs := [{ run0 with stop := some Stat.aborted }] }).talon.passes.find? (fun p => p.id == 1) = some { pass0 with runs := [{ run0 with stop := some Stat.aborted }] } ∧
    [{ run0 with stop := some Stat.aborted }].find? (fun r => r.seq == 0) = some { run0 with stop := some Stat.aborted } ∧
    (tiles { pass0 with runs := [{ run0 with stop := some Stat.aborted }] }).hasJobs 0 = false := by decide +kernel
theorem wit_runDeferTimeout : (at_ 5000 (upPlan.setTalon (fun t => { t with ready := [run0] }))).talon.ready.find? (fun r => r.seq == 0) = some run0 ∧ upPlan.entryOf run0.plan run0.entry = some entryN ∧
    entryN.deferLimit ≠ 0 ∧ run0.at_ + 1000 * entryN.deferLimit ≤ (at_ 5000 (upPlan.setTalon (fun t => { t with ready := [run0] }))).epoch := by decide +kernel

/-- A KERNEL_RUN of entry 1 of plan 1 that has waited in the intake past its DEFER_LIMIT. -/
def upIntake : State := at_ 5000 (upPlan.updTci (fun t => { t with intake := [upPlan.newCmd (mk 0x303 [0, 0x10001]) none] }))

theorem wit_runDefer_intake : upIntake.talon.ready = [] ∧ upIntake.talon.passes = [] ∧ (upIntake.tci.intake.find? (fun i => i.seq == 0)).map (fun i => runEntry i.c) = some (some (1, 1)) ∧
    upIntake.deferDue 1 1 0 = true := by decide +kernel

/-- The command of the run, dispatched, and its DMA descriptor: a line of the tile's plan area to another. -/
def tilesDma : State := ((tiles pass0).updTci (fun t => { t with running := [{ i := (tiles pass0).newCmd (mk 0x303 [0, 0x10001]) none, wait := .none_, arg := 0, arg2 := 0, dead := false }] })).store
  tileBase (List.replicate 64 1)
def desc0 (src : Nat) : List Byte := leBytes 8 src ++ leBytes 8 (tileBase + 0x10000) ++ leBytes 4 64 ++ leBytes 4 0 ++ leBytes 4 0 ++ leBytes 2 (2 ^ 9) ++ leBytes 2 1
def dma0 : DmaEv := { tile := 0, ch := 3, seq := 0, desc := desc0 tileBase }

theorem wit_dmaComplete : (match tilesDma.dmaPush dma0 with
    | some (t, j, k) => decide (t.dmaFirst j = true ∧ (t.dmaWork j k none).2 = .sent ∧ (t.dmaWork j k none).1.dmaOut j.id = false ∧ (descOf j.desc).signal = true)
    | none => false) = true := by decide +kernel
/-- A source address of 2^56 is refused. -/
theorem wit_dmaStop : (match (tilesDma.runUse 0 []).bind (fun w => w.dmaPush { dma0 with desc := desc0 (2 ^ 56) }) with
    | some (t, j, k) => decide (t.dmaFirst j = true ∧ (t.dmaWork j k none).2 = .err DErr.decode ∧ ((t.dmaWork j k none).1.talon.passes.find? (fun q => q.id == k.pass)).map (fun q => q.runs) = some [run0]
        ∧ k.run = run0)
    | none => false) = true := by decide +kernel
theorem wit_poisonConsumed : ({ tiles pass0 with poison := [tileBase] } : State).planTiles pass0.plan = [0] ∧ (({ tiles pass0 with poison := [tileBase] } : State).takeUse pass0 []).isSome = true ∧
    (({ tiles pass0 with poison := [tileBase] } : State).tileLines 0 1 0).2.2 = true ∧ pass0.runs.any (fun r => [0].contains r.seq) = true := by decide +kernel
theorem wit_tileSramScrub : up.busy = false ∧ (383 : Nat) < 384 ∧ 0x3FFFFF < 0x400000 ∧ up.rd R.TALON_DIE_SCRUB.PERIOD_H (383 / 96) ≠ 0 := by decide +kernel

/-- A package in GLIDE, the tile groups of die 0 ungated. -/
def glide : State := (up.updPwr (fun p => { p with pstate := .glide, other := 24000 })).wr R.TALON_DIE_GATE.GATED 0 0

theorem wit_groupGateIdle : (at_ 1000000000 glide).coreOn = true ∧ (at_ 1000000000 glide).nextGates = [0, 1] ∧ (at_ 1000000000 glide).refReached false 2 = true ∧ (at_ 1000000000 glide).stepFree = true := by decide +kernel
theorem wit_groupWakeComplete : (up.wr R.TALON_DIE_GATE.WAKING (2 ^ 11) 3).waking 47 = true ∧ (up.wr R.TALON_DIE_GATE.WAKING (2 ^ 11) 3).coreOn = true := by decide +kernel

/-! ### HbmRequestEventsComplete, HbmUpkeepEventsComplete, StackTemperatureIsTakenFromAPoll -/

/-- A tile DMA's read of the HBM line at 0, and its place in a queue. -/
def rd0 : LineReq := { m := ⟨0x2000, .s, false⟩, addr := 0, op := .read, cls := .norm, data := [], mask := 0, poison := false }
def q0 : QReq := { id := 0, r := rd0, at_ := 0, mode := 0, key := 0, lcl := 0, bank := 0, row := 0, ent := 0, quiet := false }

/-- `up` with one read, or one write, in the queue of stack 0, pseudo-channel 0. -/
def upRq : State := up.setHq 0 0 { MQueue.reset with rq := [q0] }
def upWq : State := up.setHq 0 0 { MQueue.reset with wq := [{ q0 with r := { rd0 with op := .write, data := List.replicate 64 0 } }] }

theorem wit_hbmRequestIngress : up.decodeGate (portSrc rd0.m) rd0.m 0 64 = none ∧ rangeOf 0 = .hbm ∧ up.stackOf 0 = 0 ∧ up.pcOf 0 = 0 ∧ up.unitState 48 = Unit.normal ∧ up.stkState 0 = stkReady ∧
    (up.checker 1).reloading = false ∧ up.linkCut (masterDie rd0.m) 0 = false ∧ (up.hq 0 0).holds (up.hbmReq { rd0 with cls := sourceClass rd0.m rd0.cls } 0).2 = false ∧ viaCache rd0.m = false ∧ up.jessFails 1 rd0.m .r 0 64 = none := by decide +kernel
theorem wit_writeDrainAge : (at_ 2000 upWq).busy = false ∧ (((at_ 2000 upWq).hq 0 0).wq.head?).map (·.at_) = some 0 ∧ ((at_ 2000 upWq).hq 0 0).drain = false ∧ 0 + 2000 ≤ (at_ 2000 upWq).now := by decide +kernel
theorem wit_hbmRequestIssue : (upRq.decay [(0, [(3, 1)])]).stkState 0 = stkReady ∧ (upRq.decay [(0, [(3, 1)])]).unitState 48 ≠ Unit.resetting ∧
    ((upRq.decay [(0, [(3, 1)])]).hq 0 0).pick ((upRq.decay [(0, [(3, 1)])]).hcfg 0 0) ((upRq.decay [(0, [(3, 1)])]).hbmRows 0 0) [] (upRq.decay [(0, [(3, 1)])]).now = some q0 ∧ q0.isMasked = false := by
  decide +kernel
/-- A masked write whose internal read comes first. -/
def upMq : State := up.setHq 0 0 { MQueue.reset with wq := [{ q0 with r := { rd0 with op := .masked } }] }
theorem wit_hbmIssue_masked : ((upMq.hq 0 0).pick (upMq.hcfg 0 0) (upMq.hbmRows 0 0) [] upMq.now).map (fun x => (x.isMasked, (upMq.hq 0 0).dirOf x)) = some (true, false) := by decide +kernel
theorem wit_hbmIssue_none : (up.hq 0 0).pick (up.hcfg 0 0) (up.hbmRows 0 0) [] up.now = none ∧ (up.hq 0 0).turning (up.hcfg 0 0) (up.hbmRows 0 0) up.now = false := by decide +kernel
theorem wit_hbmRefreshDue : (at_ 10000 up).busy = false ∧ (at_ 10000 up).stkState 0 = stkReady ∧
    Tab.get ((at_ 10000 up).hq 0 0).dueAt 15 (2 * Tab.get (at_ 10000 up).hbm.readyAt 0 0 + refreshInterval ((at_ 10000 up).rd R.HBM_STK_TEMP.BAND 0)) ≤ 2 * (at_ 10000 up).now := by decide +kernel
theorem wit_parityRetry : upRq.busy = false ∧ ((upRq.hq 0 0).rq ++ (upRq.hq 0 0).wq).find? (fun x => x.id == 0) = some q0 ∧ (upRq.hq 0 0).retry = [] := by decide +kernel
theorem wit_orderedContribution : up.decodeGate (portSrc rd0.m) rd0.m 0 64 = none ∧ up.linkCut (masterDie rd0.m) 0 = false ∧ up.jessFails 1 rd0.m .a 0 64 = none ∧ (up.modeAt 1 0).1 ≤ 1 := by decide +kernel

/-- An ordered slot opened at time 0. -/
def ord0 : OrdSlot := { op := 0, accs := [], poison := false, last := 0 }

theorem wit_ordHoldExpiry : Tab.get? (at_ 1000000000000 (up.updHbm (fun h => { h with ords := [(0, ord0)] }))).hbm.ords 0 = some ord0 ∧
    ord0.last + 1000 * up.rd R.HBM_KITE_CFG.ORD_HOLD_US 0 ≤ (at_ 1000000000000 up).epoch := by decide +kernel
theorem wit_hbmSpareCmd : up.csrGate (R.HBM_PC_SPARE_CMD.addr 7 63 0) .w warden 8 0 true = none ∧ written (wr64 (1 + 15 * 2 ^ 4 + 49151 * 2 ^ 8)) R.HBM_PC_SPARE_CMD.GO = 1 ∧
    written (wr64 (1 + 15 * 2 ^ 4 + 49151 * 2 ^ 8)) R.HBM_PC_SPARE_CMD.ROW = 49151 := ⟨by decide +kernel, by decide +kernel, by decide +kernel⟩
/-- Row 0 of bank 0 of stack 7, pseudo-channel 63, being copied, its sixteen lines written to. -/
def upCopy : State := (List.range 16).foldl (fun s i => s.store (s.lineKey (hbmUnmap s.hbm.loc 7 63 (64 * i))) [1]) ((up.wr R.HBM_PC_SPARE.VALID 1 7 63 63).wr R.HBM_PC_SPARE.COPYING 1 7 63 63)
theorem wit_spareCopy_lines : upCopy.busy = false ∧ upCopy.rd R.HBM_PC_SPARE.BANK 7 63 63 = 0 ∧ upCopy.rd R.HBM_PC_SPARE.ROW 7 63 63 = 0 ∧
    (List.range 16).all (fun i => upCopy.cellErrs (hbmUnmap upCopy.hbm.loc 7 63 (64 * i)) (upCopy.lineKey (hbmUnmap upCopy.hbm.loc 7 63 (64 * i))) == []) = true := by decide +kernel
theorem wit_spareCopyComplete : ((up.wr R.HBM_PC_SPARE.VALID 1 7 63 63).wr R.HBM_PC_SPARE.COPYING 1 7 63 63).rd R.HBM_PC_SPARE.VALID 7 63 63 = 1 ∧
    ((up.wr R.HBM_PC_SPARE.VALID 1 7 63 63).wr R.HBM_PC_SPARE.COPYING 1 7 63 63).rd R.HBM_PC_SPARE.COPYING 7 63 63 = 1 := by decide +kernel
theorem wit_hbmPatrolScrub : up.busy = false ∧ up.rd R.HBM_STK_SCRUB.PERIOD_H 7 ≠ 0 ∧ up.stkState 7 = stkReady ∧ up.unitState 55 ≠ Unit.resetting ∧ 0x2FFFFFFF < 0x30000000 ∧
    scrubDue (Tab.get? up.hbm.scrubAt (64 * 7 + 63)) (up.rd R.HBM_STK_SCRUB.PERIOD_H 7) 12582912 up.now = true ∧ (up.hq 7 63).held = [] := by decide +kernel
theorem wit_rhWindowClear : (at_ 32000000 up).busy = false ∧ (at_ 32000000 up).hbm.rhWin < (at_ 32000000 up).epoch / 32000000 := by decide +kernel
theorem wit_hbmSelfRefreshExit : (up.wr R.HBM_STK_STATUS.STATE stkSelfRefresh 7).stkState 7 = stkSelfRefresh ∧ up.rd R.HBM_STK_TEMP.OVERTEMP 7 = 0 ∧ up.coreOn = true := by decide +kernel
theorem wit_hbmGlbLocWrite : up.Admits (R.HBM_GLB_LOC_HI.addr 0 0 0) (wr64 0xFFFFFFFF) ∧ up.Admits (R.HBM_GLB_LOC_LO.addr 0 0 0) (wr64 1) := ⟨admits (by decide +kernel), admits (by decide +kernel)⟩
theorem wit_locPropagationDone : (up.wr R.HBM_GLB_LOC_STATUS.PENDING 1).busy = false ∧ (up.wr R.HBM_GLB_LOC_STATUS.PENDING 1).rd R.HBM_GLB_LOC_STATUS.PENDING ≠ 0 := by decide +kernel
theorem wit_temperature : up.busy = false ∧ up.rd R.HBM_STK_TEMP.OVERTEMP 7 = 0 ∧ 103 < up.rd R.HBM_STK_THERM_CFG.THROTTLE_C 7 ∧ 103 < up.rd R.HBM_STK_THERM_CFG.STOP_C 7 ∧
    up.rd R.HBM_STK_THERM_CFG.THROTTLE_C 7 < 103 + up.rd R.HBM_STK_THERM_CFG.HYST 7 := by decide +kernel

/-! ### RoostEventsComplete -/

/-- A tile DMA's read of the first Roost line as region 0 admits it to mode PLAIN. -/
def rr0 : LineReq := { rd0 with m := ⟨0x5000, .f, false⟩, addr := roostBase }
def rq0 : QReq := { q0 with r := rr0, key := roostBase, lcl := roostBase }
def upPlain : State := upRoost.updJess (fun j => { j with
  checkers := [(9, { replica := [(0, { start := roostBase, stop := roostEnd - 64, attr := 1 + 7 * 2 ^ 8 + 0xFF * 2 ^ 20 })], queue := [], applied := 0, reloading := false })] })
def upRr : State := upRoost.setRq 0 0 { MQueue.reset with rq := [rq0] }
def upRw : State := upRoost.setRq 7 1 { MQueue.reset with wq := [{ rq0 with r := { rr0 with op := .write, data := List.replicate 64 0 } }] }

theorem wit_roostRequestIngress : upPlain.decodeGate (portSrc rr0.m) rr0.m roostBase 64 = none ∧ rangeOf roostBase = .roost ∧ (roostMap roostBase).ch = 0 ∧ (roostMap roostBase).sub = 0 ∧
    upPlain.unitState 56 = Unit.normal ∧ upPlain.unitState 58 = Unit.normal ∧ upPlain.chUp 0 = true ∧ (upPlain.checker 9).reloading = false ∧
    upPlain.linkCut (masterDie rr0.m) roostBase = false ∧ (upPlain.rq 0 0).holds (upPlain.roostReq { rr0 with cls := sourceClass rr0.m rr0.cls } 0).2 = false ∧ viaCache rr0.m = false ∧ upPlain.jessFails 9 rr0.m .r roostBase 64 = none ∧ rr0.m.cls ≠ 8 ∧
    upPlain.modeAt 9 roostBase = (0, 0) := by decide +kernel
theorem wit_roostDrainAge : (at_ 4000 upRw).busy = false ∧ ((at_ 4000 upRw).rq 7 1).wq.length = 1 ∧ ((at_ 4000 upRw).rq 7 1).drain = false ∧ 0 + 4000 ≤ (at_ 4000 upRw).now := by decide +kernel
theorem wit_roostRequestIssue : upRr.chUp 0 = true ∧ upRr.chSleeps 0 = false ∧ upRr.unitState 56 ≠ Unit.resetting ∧ upRr.unitState 58 ≠ Unit.resetting ∧
    (upRr.rq 0 0).pick (upRr.rcfg 0) .plain [] upRr.now = some rq0 ∧ rq0.isMasked = false := by decide +kernel
theorem wit_roostRefreshDue : (at_ 3900 upRoost).busy = false ∧ (at_ 3900 upRoost).chUp 7 = true ∧ (at_ 3900 upRoost).chSleeps 7 = false ∧
    Tab.get ((at_ 3900 upRoost).rq 7 1).dueAt 0 (2 * (at_ 3900 upRoost).roost.upAt + 7800) ≤ 2 * (at_ 3900 upRoost).now ∧
    (Tab.get? (at_ 3900 upRoost).roost.tempAt 7).any (fun t => decide ((at_ 3900 upRoost).now < t + 32000000)) = false := by decide +kernel
theorem wit_caParityRetry : upRr.busy = false ∧ ((upRr.rq 0 0).rq ++ (upRr.rq 0 0).wq).find? (fun x => some 0 == some x.id) = some rq0 ∧ Tab.get (upRr.rq 0 0).retry rq0.id 0 = 0 := by decide +kernel
theorem wit_wrCrcResend : upRw.busy = false ∧ ((upRw.rq 7 1).wq.find? (fun x => x.id == 0)).isSome = true ∧ Tab.get (upRw.rq 7 1).crc 0 0 = 0 := by decide +kernel
theorem wit_roostPatrolScrub : upRoost.rd R.ROOST_CH_SCRUB.PERIOD_H 7 ≠ 0 ∧ upRoost.chUp 7 = true ∧ upRoost.chSleeps 7 = false ∧ upRoost.unitState 57 ≠ Unit.resetting ∧ upRoost.unitState 65 ≠ Unit.resetting ∧
    upRoost.chPaused 7 = false ∧ (upRoost.rq 7 (roostMap (roostAddr 7 (2 ^ 25 - 1) 63)).sub).all = [] ∧ scrubDue (Tab.get? upRoost.roost.scrubAt 7) (upRoost.rd R.ROOST_CH_SCRUB.PERIOD_H 7) 2147483648 upRoost.now = true := by
  decide +kernel
theorem wit_roostRhWindowClear : (at_ 64000000 up).roost.rhWin < (at_ 64000000 up).epoch / 64000000 := by decide +kernel
theorem wit_roostRetrainCheck : upRoost.busy = false ∧ upRoost.rd R.ROOST_BR_STATUS.STATE 1 = brReady ∧ upRoost.rd R.ROOST_BR_STATUS.TRAIN_TEMP_C 1 < 256 ∧ Tab.get? upRoost.roost.retrain 1 = none ∧
    Tab.get? upRoost.roost.checkAt 1 = none ∧ upRoost.roost.rtFails = [] ∧ upRoost.roost.owing = [] ∧
    (upRoost.wr R.ROOST_BR_STATUS.TEMP_C (upRoost.rd R.ROOST_BR_STATUS.TRAIN_TEMP_C 1) 1).rd R.ROOST_BR_STATUS.TRAIN_TEMP_C 1 = upRoost.rd R.ROOST_BR_STATUS.TRAIN_TEMP_C 1 := by decide +kernel
theorem wit_roostSelfRefreshExit : (upRoost.wr R.ROOST_CH_STATUS.SELF_REFRESH 1 7).coreOn = true ∧ (List.range 8).any (upRoost.wr R.ROOST_CH_STATUS.SELF_REFRESH 1 7).chSleeps = true := by decide +kernel

end Sys2Proof.Tests
end

