-- ==== Sys2Proof/Tests/WitnessAct.lean ====
section
/-! SUPPORT. Witnesses for the statements about acting register writes, transport timers, sectors, Jess and security events. -/

-- One declaration after another: the kernel checks of many tests then need few threads.
set_option Elab.async false

namespace Sys2Proof.Tests
open Sys2Proof.Machine

/-! ### QueueAndDoorbellActsComplete -/

theorem wit_adminOn : up.Admits (R.TCI_ADMIN_CFG.addr 0 0 0) (wr64 1) ∧ written (wr64 1) R.TCI_ADMIN_CFG.ENABLE = 1 ∧ up.rd R.TCI_ADMIN_CFG.ENABLE = 0 ∧ (up.merged R.TCI_ADMIN_CFG (wr64 1)).field 0 1 = 1 :=
  ⟨admits (by decide +kernel), by decide +kernel⟩
theorem wit_adminOff : (up.wr R.TCI_ADMIN_CFG.ENABLE 1).Admits (R.TCI_ADMIN_CFG.addr 0 0 0) (wr64 0) ∧ written (wr64 0) R.TCI_ADMIN_CFG.ENABLE = 0 ∧ (up.wr R.TCI_ADMIN_CFG.ENABLE 1).rd R.TCI_ADMIN_CFG.ENABLE = 1 ∧
    ((up.wr R.TCI_ADMIN_CFG.ENABLE 1).merged R.TCI_ADMIN_CFG (wr64 0)).field 0 1 = 0 ∧ (((up.wr R.TCI_ADMIN_CFG.ENABLE 1).csrAt (R.TCI_ADMIN_CFG.addr 0 0 0)).setField 0 1 0).field 0 1 = 0 :=
  ⟨admits (by decide +kernel), by decide +kernel⟩
theorem wit_doorbells : upHost.Admits (R.TCI_DB_SQ.addr 0 0 0) (hostWr 15) ∧ upHost.Admits (R.TCI_DB_RQ.addr 0 0 0) (hostWr 15) ∧ (hostWr 15).sub = 0 ∧ upHost.doorbellDrop 0 host ((hostWr 15).val % 65536) (upHost.sqDepth 0) = none ∧
    upHost.doorbellDrop 0 host ((hostWr 15).val % 65536) (upHost.rqDepth 0) = none := ⟨admits (by decide +kernel), admits (by decide +kernel), by decide +kernel⟩
theorem wit_stageGo : up.Admits (R.JESS_STAGE_CMD.addr 0 0 0) (wr64 (2 ^ R.JESS_STAGE_CMD.GO.lo + 255 * 2 ^ R.JESS_STAGE_CMD.REGION.lo)) ∧
    written (wr64 (2 ^ R.JESS_STAGE_CMD.GO.lo + 255 * 2 ^ R.JESS_STAGE_CMD.REGION.lo)) R.JESS_STAGE_CMD.GO = 1 ∧ written (wr64 (2 ^ R.JESS_STAGE_CMD.GO.lo + 255 * 2 ^ R.JESS_STAGE_CMD.REGION.lo)) R.JESS_STAGE_CMD.REGION = 255 ∧
    stageResult (up.rd R.JESS_REGION_ATTR.LOCK 255 == 1) (up.csrAt (R.JESS_STAGE_START.addr 0 0 0)).toNat (up.csrAt (R.JESS_STAGE_END.addr 0 0 0)).toNat ((up.csrAt (R.JESS_STAGE_ATTR.addr 0 0 0)).toNat / 2 ^ 32 % 4) = 0 :=
  ⟨admits (by decide +kernel), by decide +kernel⟩
theorem wit_syncGo : up.Admits (R.JESS_SYNC.addr 0 0 0) (wr64 1) ∧ written (wr64 1) R.JESS_SYNC.GO = 1 := ⟨admits (by decide +kernel), by decide +kernel⟩
theorem wit_cryptEnable : up.Admits (R.CRYPT_CTRL.addr 0 0 0) (wr64 (2 ^ R.CRYPT_CTRL.ENABLE.lo)) ∧ written (wr64 (2 ^ R.CRYPT_CTRL.ENABLE.lo)) R.CRYPT_CTRL.ENABLE = 1 ∧
    (up.merged R.CRYPT_CTRL (wr64 (2 ^ R.CRYPT_CTRL.ENABLE.lo))).field R.CRYPT_CTRL.ENABLE.lo 1 = 1 ∧
    (up.csrPut (R.CRYPT_CTRL.addr 0 0 0) (up.merged R.CRYPT_CTRL (wr64 (2 ^ R.CRYPT_CTRL.ENABLE.lo)))).rd R.CRYPT_STATUS.STATE = cryptOff := ⟨admits (by decide +kernel), by decide +kernel⟩
theorem wit_linkDisable : up.Admits (R.KTL_LINK_CTRL.addr 63 0 0) (wr64 0) ∧ (csrMask (wr64 0)).field 0 1 ≠ 0 ∧ (up.merged R.KTL_LINK_CTRL (wr64 0) 63).field 0 1 = 0 ∧ written (wr64 0) R.KTL_LINK_CTRL.ENABLE = 0 :=
  ⟨admits (by decide +kernel), by decide +kernel⟩
theorem wit_linkEnable : up.Admits (R.KTL_LINK_CTRL.addr 63 0 0) (wr64 1) ∧ (up.merged R.KTL_LINK_CTRL (wr64 1) 63).field 0 1 = 1 ∧ written (wr64 1) R.KTL_LINK_CTRL.ENABLE = 1 ∧ written (wr64 1) R.KTL_LINK_CTRL.RETRAIN = 0 ∧
    up.Admits (R.KTL_LINK_CTRL.addr 63 0 0) (wr64 (1 + 2 ^ R.KTL_LINK_CTRL.RETRAIN.lo)) ∧ written (wr64 (1 + 2 ^ R.KTL_LINK_CTRL.RETRAIN.lo)) R.KTL_LINK_CTRL.RETRAIN = 1 ∧
    written (wr64 (1 + 2 ^ R.KTL_LINK_CTRL.RETRAIN.lo)) R.KTL_LINK_CTRL.ENABLE = 1 := ⟨admits (by decide +kernel), by decide +kernel, by decide +kernel, by decide +kernel, admits (by decide +kernel), by decide +kernel⟩

/-! ### CoreCacheAndFlashActsComplete -/

theorem wit_coreRelease : up.Admits (R.MEWS_CORE_CTRL.addr 15 0 0) (wr64 1) ∧ (wr64 1).m.isWardenF = true ∧ written (wr64 1) R.MEWS_CORE_CTRL.RELEASE = 1 ∧ written (wr64 1) R.MEWS_CORE_CTRL.RESET ≠ 1 ∧
    up.rd R.MEWS_CORE_STATUS.STATE 15 = coreHalted := ⟨admits (by decide +kernel), rfl, by decide +kernel⟩
theorem wit_coreReset : up.Admits (R.MEWS_CORE_CTRL.addr 15 0 0) (wr64 2) ∧ written (wr64 2) R.MEWS_CORE_CTRL.RELEASE ≠ 1 ∧ written (wr64 2) R.MEWS_CORE_CTRL.RESET = 1 := ⟨admits (by decide +kernel), by decide +kernel⟩
theorem wit_lock_off : up.Admits (lockAddr 8) (wr64 0) ∧ (lockOf (up.csrMerged (lockAddr 8) (wr64 0))).en = false := ⟨admits (by decide +kernel), by decide +kernel⟩
theorem wit_lock_on : up.Admits (lockAddr 8) (wr64 (1 + 2 ^ 48)) ∧ (lockOf (up.csrMerged (lockAddr 8) (wr64 (1 + 2 ^ 48)))).en = true ∧
    up.lockRefused 8 (lockOf (up.csrMerged (lockAddr 8) (wr64 (1 + 2 ^ 48)))) = false := ⟨admits (by decide +kernel), by decide +kernel⟩
theorem wit_lock_refused : up.Admits (lockAddr 0) (wr64 1) ∧ (lockOf (up.csrMerged (lockAddr 0) (wr64 1))).en = true ∧ up.lockRefused 0 (lockOf (up.csrMerged (lockAddr 0) (wr64 1))) = true :=
  ⟨admits (by decide +kernel), by decide +kernel⟩
theorem wit_cleanAll : up.Admits (R.MEWS_CACHE_MAINT.addr 0 0 0) (wr64 1) ∧ written (wr64 1) R.MEWS_CACHE_MAINT.CLEAN_ALL = 1 := ⟨admits (by decide +kernel), by decide +kernel⟩
theorem wit_imsic : up.Admits (R.MEWS_IMSIC.addr 15 5 0) (wr64 2047) ∧ written (wr64 2047) R.MEWS_IMSIC.SETEIPNUM_LE = 2047 ∧ written (wr64 2047) R.MEWS_IMSIC.SETEIPNUM_BE = 0 ∧
    up.rd R.MEWS_CORE_STATUS.STATE 15 ≠ 2 := ⟨admits (by decide +kernel), by decide +kernel⟩
theorem wit_flashGo : ∀ op, op < 3 → up.Admits (R.MEWS_FLASH_CMD.addr 0 0 0) (wr64 (4 + op)) ∧ written (wr64 (4 + op)) R.MEWS_FLASH_CMD.GO = 1 ∧ written (wr64 (4 + op)) R.MEWS_FLASH_CMD.OP = op ∧
    up.rd R.MEWS_FLASH_STATUS.BUSY = 0
  | 0, _ => ⟨admits (by decide +kernel), by decide +kernel⟩
  | 1, _ => ⟨admits (by decide +kernel), by decide +kernel⟩
  | 2, _ => ⟨admits (by decide +kernel), by decide +kernel⟩

/-! ### WatchAndTimeActsComplete -/

/-- Source 309 escalates. -/
def upLadder : State := up.wr R.WATCH_SRC_STATUS.LADDER Ladder.running 309

theorem wit_ack : ∀ c, 1 ≤ c → c ≤ 3 → upLadder.Admits (R.WATCH_ACK.addr 0 0 0) (wr64 (c * 2 ^ 9 + 309)) ∧ written (wr64 (c * 2 ^ 9 + 309)) R.WATCH_ACK.SOURCE = 309 ∧ srcUsed 309 = true ∧
    upLadder.ladder 309 = Ladder.running ∧ (csrMask (wr64 (c * 2 ^ 9 + 309))).field 0 1 ≠ 0 ∧ written (wr64 (c * 2 ^ 9 + 309)) R.WATCH_ACK.CODE = c ∧ upLadder.rd R.WATCH_SRC_STATUS.EXTENDS 309 < 3
  | 1, _, _ => ⟨admits (by decide +kernel), by decide +kernel⟩
  | 2, _, _ => ⟨admits (by decide +kernel), by decide +kernel⟩
  | 3, _, _ => ⟨admits (by decide +kernel), by decide +kernel⟩
theorem wit_alarmClear : up.Admits (R.WATCH_ALARM_CLR.addr 0 0 0) (wr64 1) ∧ written (wr64 1) R.WATCH_ALARM_CLR.CLEAR = 1 ∧ up.rd R.WATCH_STATUS.ALARM = 0 ∧
    (up.wr R.WATCH_STATUS.ALARM 1).Admits (R.WATCH_ALARM_CLR.addr 0 0 0) (wr64 1) ∧ (up.wr R.WATCH_STATUS.ALARM 1).rd R.WATCH_STATUS.ALARM ≠ 0 :=
  ⟨admits (by decide +kernel), by decide +kernel, by decide +kernel, admits (by decide +kernel), by decide +kernel⟩
theorem wit_pendingClear_ladder : upLadder.Admits (R.WATCH_SRC_STATUS.addr 309 0 0) (wr64 1) ∧ written (wr64 1) R.WATCH_SRC_STATUS.PENDING = 1 ∧ (upLadder.wr R.WATCH_SRC_STATUS.PENDING 0 309).ladder 309 = Ladder.running ∧
    (up.wr R.WATCH_SRC_STATUS.PENDING 0 309).ladder 309 ≠ Ladder.running := ⟨admits (by decide +kernel), by decide +kernel⟩
theorem wit_sourceForce : up.Admits (R.WATCH_SRC_CFG.addr 309 0 0) (wr64 ((resetWord (R.WATCH_SRC_CFG.addr 309 0 0)).toNat + 2 ^ R.WATCH_SRC_CFG.FORCE.lo)) ∧
    written (wr64 ((resetWord (R.WATCH_SRC_CFG.addr 309 0 0)).toNat + 2 ^ R.WATCH_SRC_CFG.FORCE.lo)) R.WATCH_SRC_CFG.FORCE = 1 ∧
    srcCfgOk (up.merged R.WATCH_SRC_CFG (wr64 ((resetWord (R.WATCH_SRC_CFG.addr 309 0 0)).toNat + 2 ^ R.WATCH_SRC_CFG.FORCE.lo)) 309) = true := ⟨admits (by decide +kernel), by decide +kernel⟩
theorem wit_unitRelease : (up.wr R.WATCH_RU_STATUS.STATE Unit.quarantined 147).Admits (R.WATCH_RU_CFG.addr 147 0 0) (wr64 (2 ^ R.WATCH_RU_CFG.RELEASE.lo)) ∧ unitUsed 147 = true ∧
    written (wr64 (2 ^ R.WATCH_RU_CFG.RELEASE.lo)) R.WATCH_RU_CFG.RELEASE = 1 ∧ written (wr64 (2 ^ R.WATCH_RU_CFG.RELEASE.lo)) R.WATCH_RU_CFG.RESET ≠ 1 ∧
    ((up.wr R.WATCH_RU_STATUS.STATE Unit.quarantined 147).csrPut (R.WATCH_RU_CFG.addr 147 0 0) ((up.wr R.WATCH_RU_STATUS.STATE Unit.quarantined 147).merged R.WATCH_RU_CFG
      (wr64 (2 ^ R.WATCH_RU_CFG.RELEASE.lo)) 147)).unitState 147 = Unit.quarantined := ⟨admits (by decide +kernel), by decide +kernel⟩
theorem wit_unitReset : up.Admits (R.WATCH_RU_CFG.addr 0 0 0) (wr64 (2 ^ R.WATCH_RU_CFG.RESET.lo)) ∧ written (wr64 (2 ^ R.WATCH_RU_CFG.RESET.lo)) R.WATCH_RU_CFG.RELEASE ≠ 1 ∧
    written (wr64 (2 ^ R.WATCH_RU_CFG.RESET.lo)) R.WATCH_RU_CFG.RESET = 1 := ⟨admits (by decide +kernel), by decide +kernel⟩
theorem wit_wakeAt : up.Admits (R.PWR_WAKE_AT.addr 0 0 0) (wr64 (1 + 2 ^ R.PWR_WAKE_AT.TICK.lo)) ∧
    up.time.ticks < (up.csrPut (R.PWR_WAKE_AT.addr 0 0 0) (up.merged R.PWR_WAKE_AT (wr64 (1 + 2 ^ R.PWR_WAKE_AT.TICK.lo)))).rd R.PWR_WAKE_AT.TICK := ⟨admits (by decide +kernel), by decide +kernel⟩
theorem wit_timeAlarm : up.Admits (R.TIME_ALARM.addr 0 0 0) (wr64 (2 ^ 63 + 1)) ∧ up.Admits (R.TIME_ALARM.addr 0 0 0) (wr64 (2 ^ 63)) ∧
    up.epoch < (up.csrPut (R.TIME_ALARM.addr 0 0 0) (up.merged R.TIME_ALARM (wr64 (2 ^ 63 + 1)))).rd R.TIME_ALARM.NS ∧
    (up.csrPut (R.TIME_ALARM.addr 0 0 0) (up.merged R.TIME_ALARM (wr64 (2 ^ 63)))).rd R.TIME_ALARM.ENABLE = 1 ∧ (up.csrPut (R.TIME_ALARM.addr 0 0 0) (up.merged R.TIME_ALARM (wr64 (2 ^ 63)))).time.fastRun = true ∧
    (up.csrPut (R.TIME_ALARM.addr 0 0 0) (up.merged R.TIME_ALARM (wr64 (2 ^ 63)))).rd R.TIME_ALARM.NS ≤ (up.csrPut (R.TIME_ALARM.addr 0 0 0) (up.merged R.TIME_ALARM (wr64 (2 ^ 63)))).epoch :=
  ⟨admits (by decide +kernel), admits (by decide +kernel), by decide +kernel⟩
theorem wit_timeCapture : up.Admits (R.TIME_CAPTURE.addr 0 0 0) (wr64 1) ∧ written (wr64 1) R.TIME_CAPTURE.GO = 1 := ⟨admits (by decide +kernel), by decide +kernel⟩

/-! ### SecurityConsoleAndRegisterReadsComplete -/

/-- A boot image of SVN 64, and a test port that is open. -/
def upSvn : State := (up.wr R.SEC_STATUS.IMAGE_SVN 64).updSec (fun x => { x with svn := 63 })
def upOpen : State := up.wr R.SEC_PORT.PORT_OPEN 1

theorem wit_svnAdvance : upSvn.Admits (R.SEC_SVN_ADVANCE.addr 0 0 0) (wr64 64) ∧ (wr64 64).m.isWardenF = true ∧ written (wr64 64) R.SEC_SVN_ADVANCE.TARGET = 64 ∧ 64 ≤ upSvn.rd R.SEC_STATUS.IMAGE_SVN ∧ upSvn.sec.svn < 64 :=
  ⟨admits (by decide +kernel), rfl, by decide +kernel⟩
theorem wit_tamperMask : upOpen.Admits (R.SEC_TAMPER_MASK.addr 0 0 0) (wr64 0x1F) ∧ upOpen.portOpen = true ∧ upOpen.pwr.pstate ≠ .off ∧
    ((upOpen.csrPut (R.SEC_TAMPER_MASK.addr 0 0 0) (upOpen.merged R.SEC_TAMPER_MASK (wr64 0x1F))).wr R.SEC_TAMPER.LIVE
      ((upOpen.csrPut (R.SEC_TAMPER_MASK.addr 0 0 0) (upOpen.merged R.SEC_TAMPER_MASK (wr64 0x1F))).rd R.SEC_TAMPER.LIVE % 32)).liveSensors = 0 := ⟨admits (by decide +kernel), by decide +kernel⟩
theorem wit_uartWrite : up.Admits (R.MGMT_UART_DATA.addr 1 0 0) (wr64 0xA5) ∧ up.Admits (R.MGMT_UART_DATA.addr 0 0 0) (wr64 0xA5) ∧ (csrMask (wr64 0xA5)).field 0 1 ≠ 0 ∧ (up.uart 1).tx.length < 64 ∧ (up.uart 0).tx.length < 64 :=
  ⟨admits (by decide +kernel), admits (by decide +kernel), by decide +kernel⟩
theorem wit_uartRead : (up.setUart 1 { up.uart 1 with rx := [7] }).csrGate (R.MGMT_UART_DATA.addr 1 0 0) .r warden 4 0 true = none ∧ ((up.setUart 1 { up.uart 1 with rx := [7] }).uart 1).rx = [7] := by decide +kernel
theorem wit_registerWrite : up.pwr.pstate ≠ .perch ∧ up.Admits (R.JESS_REGION_START.addr 255 0 0) (wr64 0) ∧ (wr64 0).m.cls ≠ 5 ∧ R.JESS_REGION_START.addr 255 0 0 / 0x1000000 = 3 ∧
    R.JESS_REGION_START.addr 255 0 0 ≠ R.JESS_STAGE_CMD.base ∧ R.JESS_REGION_START.addr 255 0 0 ≠ R.JESS_SYNC.base ∧ onlyF (R.JESS_REGION_START.addr 255 0 0) = false :=
  ⟨by decide +kernel, admits (by decide +kernel), by decide +kernel⟩

/-! ### TransportTimersComplete -/

/-- One command waits in the submission ring of queue pair 0. -/
def upRing : State := (up.wr R.TCI_QP_PTR.SQ_TAIL 1 0).updTci (fun t => { t with pendingMap := [0] })
def slot0 : HostEnt := ⟨leBytes 2 0x0001 ++ List.replicate 62 0, []⟩

theorem wit_fetchTurn : upRing.coreOn = true ∧ upRing.fetchPick = some 0 ∧ upRing.inHost 0 = true ∧ min (min upRing.fetchBurst (min (upRing.sqWait 0) (upRing.rqFree 0))) [slot0].length = 1 ∧
    ((upRing.fetchServed 0).fetchList 0 1 ((upRing.fetchServed 0).rd R.TCI_QP_PTR.SQ_HEAD 0) [slot0]).2.2 = true ∧
    ((((upRing.fetchServed 0).fetchList 0 1 ((upRing.fetchServed 0).rd R.TCI_QP_PTR.SQ_HEAD 0) [slot0]).1.wr R.TCI_QP_PTR.SQ_HEAD 1 0).sqWait 0 = 0) ∧ upRing.isPush 0 = false := by decide +kernel

/-- What a turn of one entry on queue pair 0 leaves, as the statement writes it. -/
def turned (s : State) (host : List HostEnt) : State × Bool :=
  match (s.fetchServed 0).fetchList 0 1 ((s.fetchServed 0).rd R.TCI_QP_PTR.SQ_HEAD 0) host with
  | (t, _, ok) =>
    let v := t.wr R.TCI_QP_PTR.SQ_HEAD 1 0
    let u := v.updTci (fun x => { x with reserved := if v.isPush 0 then x.reserved else Tab.put x.reserved 0 (Tab.get x.reserved 0 0 + 1) })
    ((u.updTci (fun t => { t with pendingMap := t.pendingMap.filter (fun p => p != 0) })).headShadow 0, ok)

/-- The same queue with its rings in the package, the completion ring in a Roost that does not answer: its head pointer cannot be written. -/
def upRingBad : State := ((upRing.wr R.TCI_QP_ATTR.LOC 1 0).csrPut (R.TCI_QP_RQB.addr 0 0 0) (BitVec.ofNat 64 roostBase)).cputLine 0 line0

theorem wit_fetchTurn_live : (turned upRing [slot0]).1.qpState 0 = qpLive := by decide +kernel
theorem wit_fetchTurn_error : upRingBad.coreOn = true ∧ upRingBad.fetchPick = some 0 ∧ upRingBad.inHost 0 = false ∧ min upRingBad.fetchBurst (min (upRingBad.sqWait 0) (upRingBad.rqFree 0)) = 1 ∧
    upRingBad.isPush 0 = false ∧ (turned upRingBad []).2 = true ∧ (turned upRingBad []).1.qpState 0 ≠ qpLive := by decide +kernel

/-- A command of queue pair 0 that waits; and completions that wait for their interrupt; and a remembered request ID. -/
def upWait : State := up.updTci (fun t => { t with running := [{ i := up.newCmd { mk 0x303 [0, 0x10001] with ridLo := 5, tag := 9 } none, wait := .run, arg := 0, arg2 := 0, dead := false }] })

theorem wit_commandTimeout : ((at_ 1000000000000000 upWait).tci.running.find? (fun x => (x.i.c.qp == 0 && x.i.c.fwdFrom.isNone && x.i.c.tag == 9 && x.i.c.ridLo == 5 &&
    decide (x.i.deadline ≤ (at_ 1000000000000000 upWait).epoch)) && !x.dead)).map (fun r => (decide (r.wait ≠ .original), r.i.c.once)) = some (true, false) := by decide +kernel
theorem wit_coalesce : Tab.get? ((up.wr R.TCI_QP_SIZE.COAL_TIME 1 4094).updTci (fun t => { t with unsig := [(4094, 1, 0)] })).tci.unsig 4094 = some (1, 0) ∧
    (up.wr R.TCI_QP_SIZE.COAL_TIME 1 4094).rd R.TCI_QP_SIZE.COAL_TIME 4094 ≠ 0 ∧
    0 + (up.wr R.TCI_QP_SIZE.COAL_TIME 1 4094).rd R.TCI_QP_SIZE.COAL_TIME 4094 * 1000 ≤ (at_ 1000 up).epoch := by decide +kernel

def dup0 : DupEnt := { rid := 5, at_ := 0, st := .final 0 0 0 0 }

theorem wit_onceId : (at_ 60000000000 (up.updTci (fun t => { t with dup := [(4094, [dup0])] }))).busy = false ∧
    (Tab.get (up.updTci (fun t => { t with dup := [(4094, [dup0])] })).tci.dup 4094 []).find? (fun e => e.rid == 5) = some dup0 ∧ dup0.at_ + 60000000000 ≤ (at_ 60000000000 up).epoch := by decide +kernel

/-! ### SectorEventsComplete -/

theorem wit_sectorTable : ((up.wr R.CRYPT_STATUS.STATE cryptInit).updBoot (fun b => { b with keyTable := true })).busy = false ∧ ((up.wr R.CRYPT_STATUS.STATE cryptInit).updBoot (fun b => { b with keyTable := true })).boot.keyTable = true ∧
    (up.wr R.CRYPT_STATUS.STATE cryptInit).rd R.CRYPT_STATUS.STATE = cryptInit := by decide +kernel

/-- The first sector in mode SECTOR by the default map, and an open merge entry with its first line. -/
def merge0 : Merge := { sector := 0, domain := 0, lines := [(0, List.replicate 64 9)], plain := none, firstAt := 0, used := 0, waiters := [], cls := .norm }
def upMerge : State := upRoost.updCrypt (fun c => { c with merge := [merge0] })

theorem wit_sectorRead : upMerge.sectorDomain? roostBase = some 0 ∧ upMerge.cryptReady = true ∧ upMerge.answers 2 roostBase = true ∧ upMerge.asleep roostBase = false ∧ viaCache (tcore 4) = true ∧ secOf roostBase = 0 ∧ upMerge.mergeOf 0 = some merge0 ∧
    Tab.get? merge0.lines (roostBase / 64 % 64) = some (List.replicate 64 9) := by decide +kernel
theorem wit_sectorWrite : upMerge.sectorDomain? roostBase = some 0 ∧ upMerge.cryptReady = true ∧ upMerge.answers 2 roostBase = true ∧ upMerge.asleep roostBase = false ∧ viaCache (tcore 4) = true ∧ upMerge.mergeOf (secOf roostBase) = some merge0 ∧ merge0.lines ≠ [] := by decide +kernel
theorem wit_mergeHold : upMerge.mergeOf 0 = some merge0 ∧ upMerge.cryptReady = true ∧ merge0.firstAt + clampN 100 10000 (upMerge.rd R.CRYPT_CFG.MERGE_HOLD_NS) ≤ (at_ 10000 upMerge).now := by decide +kernel
theorem wit_rawRead : upMerge.rawGate roostEngine .r (2 ^ 28 - 1) = none ∧ upMerge.rawGate roostEngine .w (2 ^ 28 - 1) = none ∧ upMerge.rawGate roostEngine .w 0 = none := by decide +kernel

/-- A rekey of domain 0 has begun. -/
def rekey0 : Rekey := { domain := 1, next := 16384, resealed := 0, failed := [], running := true }
def upRekey (recs : Tab SecRec) : State := upRoost.updCrypt (fun c => { c with rekey := some rekey0, recs := recs })
def rec0 : SecRec := { SecRec.zero with domain := 1, valid := true, setB := true }

theorem wit_rekeySector : (upRekey [(2 ^ 28 - 1, rec0)]).crypt.rekey = some rekey0 ∧ (upRekey [(2 ^ 28 - 1, rec0)]).cryptReady = true ∧ (upRekey [(2 ^ 28 - 1, rec0)]).roostUp = true ∧
    rekeyNext (upRekey [(2 ^ 28 - 1, rec0)]).crypt.recs 1 ((upRekey [(2 ^ 28 - 1, rec0)]).rd R.CRYPT_JOURNAL.NEW_SET == 1) 16384 = some (2 ^ 28 - 1) ∧
    rekeyNext (upRekey []).crypt.recs 1 ((upRekey []).rd R.CRYPT_JOURNAL.NEW_SET == 1) 16384 = none := by decide +kernel

/-! ### JessAndSecurityEventsComplete -/

theorem wit_checkerApply : up.busy = false ∧ (up.checker 14).reloading = false := by decide +kernel
theorem wit_syncDone : (up.updJess (fun j => { j with syncs := [(1, 0)] })).busy = false ∧ (up.updJess (fun j => { j with syncs := [(1, 0)] })).jess.syncs = (1, 0) :: [] ∧
    (∀ k < 15, ((up.updJess (fun j => { j with syncs := [(1, 0)] })).checker k).reloading = false ∧ 0 ≤ ((up.updJess (fun j => { j with syncs := [(1, 0)] })).checker k).applied) := by decide +kernel
theorem wit_checkerReload : (up.updJess (fun j => { j with checkers := [(14, { up.checker 14 with reloading := true })] })).busy = false ∧
    ((up.updJess (fun j => { j with checkers := [(14, { up.checker 14 with reloading := true })] })).checker 14).reloading = true := by decide +kernel
theorem wit_tamper : up.pwr.pstate ≠ .off ∧ (up.wr R.SEC_TAMPER.LIVE (16 % 32)).liveSensors ≠ 0 ∧ (up.wr R.SEC_TAMPER.LIVE (16 % 32)).tampered = false ∧ up.sec.opening = false := by decide +kernel
theorem wit_trng : up.sec.trngFail = false ∧ (up.updSec (fun x => { x with trngFail := true })).busy = false ∧ (up.updSec (fun x => { x with trngFail := true })).sec.trngFail = true ∧ up.sec.nonceWait = false ∧ up.sec.scrWait = false := by decide +kernel

end Sys2Proof.Tests
end

