-- ==== Sys2Proof/Tests/WitnessCmd.lean ====
section
/-! SUPPORT. Witnesses for the statements about TCI commands: states and operands that meet the hypotheses of each clause. -/

-- One declaration after another: the kernel checks of many tests then need few threads.
set_option Elab.async false

namespace Sys2Proof.Tests
open Sys2Proof.Machine

/-! ### AdminCommandsComplete -/

theorem wit_nop : ∃ u i, up.taken 0x0000 (mk 0 []) = some (u, i) ∧ handleBad i.c = false ∧ u.badParams i.c = false := takes (by decide +kernel)
theorem wit_identify : ∃ u i, up.taken 0x0001 (mk 1 []) = some (u, i) ∧ handleBad i.c = false ∧ u.badParams i.c = false := takes (by decide +kernel)
theorem wit_queueCreate : ∃ u i, up.taken 0x0002 (mk 2 [4094, 0, 0x100000, 0x200000, 4 + 16 * 2 ^ 5]) = some (u, i) ∧ handleBad i.c = false ∧ u.badParams i.c = false ∧ u.createBad i.c = false ∧
    u.createDenied i.c = false := takes (by decide +kernel)
theorem wit_queueDelete_fixed : ∃ u i, up.taken 0x0003 (mk 3 [4095]) = some (u, i) ∧ handleBad i.c = false ∧ u.badParams i.c = false ∧ (i.c.p 0 % 4096 = 0 ∨ i.c.p 0 % 4096 = 4095) := takes (by decide +kernel)

/-- A live queue pair 5 beside queue pair 0. -/
def up5 : State := ((up.wr R.TCI_QP_ATTR.STATE qpLive 5).wr R.TCI_QP_SIZE.SQ_LOG2 4 5).wr R.TCI_QP_SIZE.RQ_LOG2 4 5

theorem wit_queueDelete : ∃ u i, up5.taken 0x0003 (mk 3 [5]) = some (u, i) ∧ handleBad i.c = false ∧ u.badParams i.c = false ∧ i.c.p 0 % 4096 ≠ 0 ∧ i.c.p 0 % 4096 ≠ 4095 ∧ i.c.p 0 % 4096 ≠ i.c.qp ∧
    u.qpState (i.c.p 0 % 4096) ≠ qpAbsent := takes (by decide +kernel)
theorem wit_queueQuery : ∃ u i, up5.taken 0x0004 (mk 4 [5]) = some (u, i) ∧ handleBad i.c = false ∧ u.badParams i.c = false ∧ (u.cmdPriv i.c ≠ 0 ∨ i.c.p 0 % 4096 = i.c.qp) := takes (by decide +kernel)
theorem wit_queueModify : ∃ u i, up5.taken 0x0005 (mk 5 [5, 3]) = some (u, i) ∧ handleBad i.c = false ∧ u.badParams i.c = false ∧ i.c.p 0 % 4096 ≠ 0 ∧ i.c.p 0 % 4096 ≠ 4095 ∧
    u.qpState (i.c.p 0 % 4096) ≠ qpAbsent ∧ u.qpState (i.c.p 0 % 4096) ≠ qpErrorSt := takes (by decide +kernel)
theorem wit_resetWarm : ∃ u i, up.taken 0x0006 (mk 6 []) = some (u, i) ∧ handleBad i.c = false ∧ u.badParams i.c = false := takes (by decide +kernel)

/-! ### SessionCommandsComplete -/

/-- The handle of slot 0, generation 1, of this package. -/
def h0 : Nat := up.handleOf 0 1

/-- A new session of one group in slot 0. -/
def ses0 : Session := newSession h0 1 0 1000 0x7F

/-- `up` with the session `x` in slot 0. -/
def upWith (x : Session) : State := up.setSes 0 x

theorem wit_sessionOpen : ∃ u i, up.taken 0x0100 (mk 0x100 [1 + 10 * 2 ^ 32, 0x7F]) = some (u, i) ∧ handleBad i.c = false ∧ u.badParams i.c = false ∧ 1 ≤ i.c.p 0 % 2048 ∧ i.c.p 0 % 2048 ≤ 1024 ∧
    parkAfterOk (parkAfterOf (i.c.p 0 / 2 ^ 32)) = true ∧ u.buddyOk (i.c.p 1 % 128) = true ∧ u.slotRefused = none := takes (by decide +kernel)

/-- `u` finds the session of `i` in slot 0. -/
def found (u : State) (i : ICmd) : Bool := (match u.sessionFor i.c with | .inl 0 => true | _ => false) && !u.badParams i.c && (u.sesAt 0).isSome

theorem found_finds {u : State} {i : ICmd} (h : found u i = true) : ∃ x, u.finds i 0 x := by
  simp only [found, Bool.and_eq_true, Bool.not_eq_true'] at h
  obtain ⟨⟨h1, h2⟩, h3⟩ := h
  obtain ⟨x, hx⟩ := Option.isSome_iff_exists.mp h3
  refine ⟨x, ?_, h2, hx⟩
  revert h1
  cases u.sessionFor i.c with
  | inl n => cases n with | zero => simp | succ n => simp
  | inr p => simp

theorem wit_sessionResume_now : ∃ u i, (upWith { ses0 with st := .active }).taken 0x0102 (mk 0x102 [] h0) = some (u, i) ∧ found u i = true ∧ (u.activate 0 0x0102 i.crit).2 = .now := takes (by decide +kernel)
theorem wit_sessionResume_later : ∃ u i, (upWith { ses0 with st := .parked }).taken 0x0102 (mk 0x102 [] h0) = some (u, i) ∧ found u i = true ∧ (u.activate 0 0x0102 i.crit).2 = .later := takes (by decide +kernel)
theorem wit_sessionPark_joins : ∃ u i, (upWith { ses0 with st := .waiting, parking := true }).taken 0x0103 (mk 0x103 [] h0) = some (u, i) ∧ found u i = true ∧
    (u.sesAt 0).map (fun x => (x.gone, x.st, x.parking)) = some (false, .waiting, true) := takes (by decide +kernel)
theorem wit_sessionPark : ∃ u i, (upWith { ses0 with st := .waiting }).taken 0x0103 (mk 0x103 [] h0) = some (u, i) ∧ found u i = true ∧
    (u.sesAt 0).map (fun x => (x.gone, x.st, x.parking)) = some (false, .waiting, false) ∧ (u.startPark 0 false).2 = true := takes (by decide +kernel)
theorem wit_sessionSet : ∃ u i, (upWith ses0).taken 0x0104 (mk 0x104 [1, 3600000] h0) = some (u, i) ∧ found u i = true ∧ (u.sesAt 0).map (fun x => x.gone) = some false ∧ i.c.p 0 % 4 = 1 ∧
    parkAfterOk (i.c.p 1 % 2 ^ 32) = true := takes (by decide +kernel)
theorem wit_sessionQuery : ∃ u i, (upWith ses0).taken 0x0105 (mk 0x105 [] h0) = some (u, i) ∧ found u i = true ∧ (u.sesAt 0).map (fun x => x.closing) = some false := takes (by decide +kernel)
theorem wit_sessionExport : ∃ u i, (upWith { ses0 with st := .parked }).taken 0x0106 (mk 0x106 [9] h0) = some (u, i) ∧ found u i = true ∧
    (u.sesAt 0).map (fun x => (x.gone, x.st)) = some (false, .parked) := takes (by decide +kernel)
theorem wit_sessionClose : ∃ u i, (upWith ses0).taken 0x0109 (mk 0x109 [] h0) = some (u, i) ∧ found u i = true ∧ (u.sesAt 0).map (fun x => x.closing) = some false := takes (by decide +kernel)

theorem wit_sessionAppend : ∃ u i, (upPlan.setSes 0 { ses0 with length := 5 }).taken 0x0101 (mk 0x101 [8, 0x100000, 1, 0x200000, 8] h0) = some (u, i) ∧ found u i = true ∧
    (u.sesAt 0).map (fun x => (x.gone, x.length)) = some (false, 5) ∧ 1 ≤ i.c.p 0 % 2 ^ 25 ∧ i.c.p 0 % 2 ^ 25 ≤ 2 ^ 24 ∧ i.c.p 4 % 2 ^ 25 ≤ 2 ^ 24 ∧ 5 + i.c.p 0 % 2 ^ 25 + i.c.p 4 % 2 ^ 25 ≤ 2 ^ 24 ∧
    u.loadedEntry (i.c.p 2 % 65536) (i.c.p 2 / 65536 % 65536) = some entryS ∧ u.bufsOk i.c [(.r, i.c.p 1, 4 * (i.c.p 0 % 2 ^ 25)), (.w, i.c.p 3, 4 * (i.c.p 4 % 2 ^ 25))] = true ∧
    (u.activate 0 0x0101 i.crit).2 = .now ∧ ((u.activate 0 0x0101 i.crit).1.placeChunks 0 (newChunks 5 (5 + i.c.p 0 % 2 ^ 25 + i.c.p 4 % 2 ^ 25))).isSome = true := takes (by decide +kernel)
theorem wit_sessionImport : ∃ u i, up.taken 0x0107 (mk 0x107 [3, 0x7F]) = some (u, i) ∧ handleBad i.c = false ∧ u.badParams i.c = false ∧ u.buddyOk (i.c.p 1 % 128) = true ∧
    u.ses.imports.any (fun j => j.stream == i.c.p 0 % 2 ^ 32) = false ∧ u.slotRefused = none ∧ (u.enqueue .import_ (i.c.p 0 % 2 ^ 32) importClass [] 0).2 = true := takes (by decide +kernel)

/-- A buddy copy held for a session of package 9. -/
def copy9 : BuddyEnt := { handle := 9 * 2 ^ 58 + 2 ^ 16, home := 9, record := List.replicate 64 0, frames := [] }

theorem wit_sessionRecover : ∃ u i, (up.updSes (fun t => { t with buddies := [copy9] })).taken 0x0108 (mk 0x108 [1] copy9.handle) = some (u, i) ∧ u.badParams i.c = false ∧
    u.ses.buddies.find? (fun e => e.handle == i.c.handle) = some copy9 ∧ i.c.qp = 0 ∧ natBit (i.c.p 0) 0 = true ∧ u.noSlot = none ∧ u.roostDead = false ∧
    copy9.frames.any u.frameLost = false := takes (by decide +kernel)

/-! ### MemoryAndComputeCommandsComplete -/

theorem wit_memCopy : ∃ u i, up.taken 0x0200 (mk 0x200 [0x8000000000100000, 0x8000000000200000, 64, 1]) = some (u, i) ∧ handleBad i.c = false ∧ u.badParams i.c = false ∧ badLen (i.c.p 2) = false ∧
    bufsOverlap (i.c.p 0) (i.c.p 1) (i.c.p 2) = false ∧ i.c.p 3 < 2 ∧ u.bufsOk i.c [(.r, i.c.p 0, i.c.p 2), (.w, i.c.p 1, i.c.p 2)] = true := takes (by decide +kernel)
theorem wit_memFill : ∃ u i, up.taken 0x0201 (mk 0x201 [0x100000, 64, 5]) = some (u, i) ∧ handleBad i.c = false ∧ u.badParams i.c = false ∧ badLen (i.c.p 1) = false ∧
    u.bufsOk i.c [(.w, i.c.p 0, i.c.p 1)] = true := takes (by decide +kernel)
theorem wit_roostStatus : ∃ u i, up.taken 0x0202 (mk 0x202 []) = some (u, i) ∧ handleBad i.c = false ∧ u.badParams i.c = false := takes (by decide +kernel)
theorem wit_roostReclaim : ∃ u i, up.taken 0x0203 (mk 0x203 [25]) = some (u, i) ∧ handleBad i.c = false ∧ u.badParams i.c = false ∧ 25 ≤ i.c.p 0 % 128 ∧ i.c.p 0 % 128 ≤ 100 := takes (by decide +kernel)
theorem wit_planUnload : ∃ u i, upPlan.taken 0x0301 (mk 0x301 [1]) = some (u, i) ∧ handleBad i.c = false ∧ u.badParams i.c = false ∧ u.planOf? (i.c.p 0 % 65536) = some plan1 := takes (by decide +kernel)
theorem wit_planLoad_remote : ∃ u i, up.taken 0x0300 (mk 0x300 [3 * 2 ^ 50 + 0x100000, 4096]) = some (u, i) ∧ handleBad i.c = false ∧ u.badParams i.c = false ∧ badLen (i.c.p 1) = false ∧ 4096 ≤ i.c.p 1 ∧
    u.bufsOk i.c [(.r, i.c.p 0, i.c.p 1)] = true ∧ u.bufRemote (i.c.p 0) = true := takes (by decide +kernel)
theorem wit_weightsLoad_remote : ∃ u i, upPlan.taken 0x0302 (mk 0x302 [1, 3 * 2 ^ 50 + 0x100000, 64, 0]) = some (u, i) ∧ handleBad i.c = false ∧ u.badParams i.c = false ∧
    u.planOf? (i.c.p 0 % 65536) = some plan1 ∧ badLen (i.c.p 2) = false ∧ i.c.p 3 % 64 = 0 ∧ i.c.p 3 + i.c.p 2 ≤ plan1.tiles.length * plan1.weight ∧ u.bufsOk i.c [(.r, i.c.p 1, i.c.p 2)] = true ∧
    u.bufRemote (i.c.p 1) = true := takes (by decide +kernel)
theorem wit_weightsLoad : ∃ u i, upPlan.taken 0x0302 (mk 0x302 [1, 0x100000, 64, 0]) = some (u, i) ∧ handleBad i.c = false ∧ u.badParams i.c = false ∧ u.planOf? (i.c.p 0 % 65536) = some plan1 ∧
    badLen (i.c.p 2) = false ∧ i.c.p 3 % 64 = 0 ∧ i.c.p 3 + i.c.p 2 ≤ plan1.tiles.length * plan1.weight ∧ u.bufsOk i.c [(.r, i.c.p 1, i.c.p 2)] = true ∧ u.bufRemote (i.c.p 1) = false := takes (by decide +kernel)
theorem wit_kernelRun : ∃ u i, upPlan.taken 0x0303 (mk 0x303 [0x100000, 1 + 65536] 0 (leBytes 4 64 ++ leBytes 4 1 ++ leBytes 8 5 ++ leBytes 48 0)) = some (u, i) ∧ handleBad i.c = false ∧
    u.badParams i.c = false ∧ i.c.handle = 0 ∧ u.loadedEntry (i.c.p 1 % 65536) (i.c.p 1 / 65536 % 65536) = some entryN ∧ kernelBlockOk i.c = true ∧ u.argsOk i.c entryN (kernelArgs i.c) = true ∧
    u.bufsOk i.c (argChecks (argBufs entryN.kinds (kernelArgs i.c))) = true := takes (by decide +kernel)

/-! ### FabricPowerAndTimeCommandsComplete -/

theorem wit_linkStatus : ∃ u i, up.taken 0x0400 (mk 0x400 [63]) = some (u, i) ∧ handleBad i.c = false ∧ u.badParams i.c = false := takes (by decide +kernel)
theorem wit_linkControlEnable : ∃ u i, up.taken 0x0401 (mk 0x401 [5, 0]) = some (u, i) ∧ handleBad i.c = false ∧ u.badParams i.c = false ∧ i.c.p 1 = 0 := takes (by decide +kernel)
theorem wit_linkControlDisable : ∃ u i, up.taken 0x0401 (mk 0x401 [5, 1]) = some (u, i) ∧ handleBad i.c = false ∧ u.badParams i.c = false ∧ i.c.p 1 = 1 ∧ u.carries i (i.c.p 0 % 64) = false := takes (by decide +kernel)
theorem wit_linkControlRetrain : ∃ u i, up.taken 0x0401 (mk 0x401 [5, 2]) = some (u, i) ∧ handleBad i.c = false ∧ u.badParams i.c = false ∧ i.c.p 1 = 2 ∧ u.carries i (i.c.p 0 % 64) = false := takes (by decide +kernel)
theorem wit_reduce : ∃ u i, up.taken 0x0402 (mk 0x402 [0x100000, 0x200000, 64, 0, 0]) = some (u, i) ∧ handleBad i.c = false ∧ u.badParams i.c = false ∧ badLen (i.c.p 2) = false ∧ i.c.p 3 % 8 < 5 ∧
    u.bufLocal (i.c.p 0) = true ∧ hbmWord (i.c.p 1) (i.c.p 2) = true ∧ i.c.p 4 = 0 ∧ u.bufsOk i.c [(.r, i.c.p 0, i.c.p 2), (.a, i.c.p 1, i.c.p 2)] = true := takes (by decide +kernel)
theorem wit_reduceWait : ∃ u i, up.taken 0x0403 (mk 0x403 [0x100000, 5]) = some (u, i) ∧ handleBad i.c = false ∧ u.badParams i.c = false ∧ hbmWord (i.c.p 0) 64 = true ∧
    u.bufsOk i.c [(.r, i.c.p 0, 8)] = true ∧ u.bufLocal (i.c.p 0) = true := takes (by decide +kernel)
theorem wit_pkgDrainStart : ∃ u i, up.taken 0x0404 (mk 0x404 [1]) = some (u, i) ∧ handleBad i.c = false ∧ u.badParams i.c = false ∧ i.c.p 0 = 1 := takes (by decide +kernel)
theorem wit_pkgDrainEnd : ∃ u i, up.taken 0x0404 (mk 0x404 [0]) = some (u, i) ∧ handleBad i.c = false ∧ u.badParams i.c = false ∧ i.c.p 0 = 0 := takes (by decide +kernel)
theorem wit_powerQuery : ∃ u i, up.taken 0x0500 (mk 0x500 []) = some (u, i) ∧ handleBad i.c = false ∧ u.badParams i.c = false := takes (by decide +kernel)
theorem wit_powerSetCap_least : ∃ u i, up.taken 0x0501 (mk 0x501 [600]) = some (u, i) ∧ handleBad i.c = false ∧ u.badParams i.c = false ∧ 600 ≤ i.c.p 0 % 4096 ∧ i.c.p 0 % 4096 ≤ 2400 := takes (by decide +kernel)
theorem wit_powerSetCap_most : ∃ u i, up.taken 0x0501 (mk 0x501 [2400]) = some (u, i) ∧ handleBad i.c = false ∧ u.badParams i.c = false ∧ 600 ≤ i.c.p 0 % 4096 ∧ i.c.p 0 % 4096 ≤ 2400 := takes (by decide +kernel)
theorem wit_powerStateFlight : ∃ u i, up.taken 0x0502 (mk 0x502 [0]) = some (u, i) ∧ handleBad i.c = false ∧ u.badParams i.c = false ∧ i.c.p 0 = 0 ∧ u.pwr.pstate = .flight := takes (by decide +kernel)
theorem wit_powerStateGlide : ∃ u i, up.taken 0x0502 (mk 0x502 [1]) = some (u, i) ∧ handleBad i.c = false ∧ u.badParams i.c = false ∧ i.c.p 0 = 1 ∧ u.pwr.pstate = .flight := takes (by decide +kernel)
theorem wit_powerStatePerch : ∃ u i, up.taken 0x0502 (mk 0x502 [2]) = some (u, i) ∧ handleBad i.c = false ∧ u.badParams i.c = false ∧ i.c.p 0 = 2 ∧ u.pwr.pstate = .flight ∧ u.perchBusy = false := takes (by decide +kernel)
theorem wit_timeQuery : ∃ u i, up.taken 0x0600 (mk 0x600 [1]) = some (u, i) ∧ handleBad i.c = false ∧ u.badParams i.c = false := takes (by decide +kernel)

/-! ### KeyAccessAndFaultCommandsComplete -/

/-- The blob of 2,048 bytes as a host buffer gives it. Whether the transport secret opens it, Config leaves open: the statement's last hypothesis is met for a blob that it opens. -/
def blobExt : ExtRead := ⟨List.replicate blobLen 0, 0, []⟩

theorem wit_keyDomainLoad : ∃ u i, (up.wr R.SEC_STATUS.MODE modeNormal).taken 0x0700 (mk 0x700 [4095, 0x8000000000100000, blobLen]) = some (u, i) ∧ handleBad i.c = false ∧ u.badParams i.c = false ∧
    u.keyDenied i (i.c.p 0 % 4096) = false ∧ u.secMode = modeNormal ∧ i.c.p 0 % 4096 ≠ 0 ∧ u.domState (i.c.p 0 % 4096) = Dom.empty ∧ badBlob (i.c.p 2) = false ∧ u.bufRemote (i.c.p 1) = false ∧
    u.bufsOk i.c [(.r, i.c.p 1, i.c.p 2)] = true ∧ (u.gather (u.acting i.c) (i.c.p 1) blobExt i.cls (i.c.p 2 / 64) 0).2 = .inr blobExt.data := takes (by decide +kernel)
theorem wit_cryptRekey : ∃ u i, ((up.wr R.SEC_STATUS.MODE modeNormal).wr R.CRYPT_DOM.STATE Dom.active 9).taken 0x0702 (mk 0x702 [9, 0x8000000000100000, blobLen]) = some (u, i) ∧ handleBad i.c = false ∧
    u.badParams i.c = false ∧ u.keyDenied i (i.c.p 0 % 4096) = false ∧ u.secMode = modeNormal ∧ u.rekeyBusy i (i.c.p 0 % 4096) = false ∧
    u.domState (i.c.p 0 % 4096) ≠ Dom.empty ∧ i.c.p 0 % 4096 ≠ 0 ∧ badBlob (i.c.p 2) = false ∧ u.bufsOk i.c [(.r, i.c.p 1, i.c.p 2)] = true ∧ u.bufRemote (i.c.p 1) = false ∧ (u.gather (u.acting i.c) (i.c.p 1) blobExt i.cls (i.c.p 2 / 64) 0).2 = .inr blobExt.data := takes (by decide +kernel)
theorem wit_keyDomainLoad_remote : ∃ u i, (up.wr R.SEC_STATUS.MODE modeNormal).taken 0x0700 (mk 0x700 [4095, 3 * 2 ^ 50 + 0x100000, blobLen]) = some (u, i) ∧ handleBad i.c = false ∧
    u.badParams i.c = false ∧ u.keyDenied i (i.c.p 0 % 4096) = false ∧ u.secMode = modeNormal ∧ i.c.p 0 % 4096 ≠ 0 ∧ u.domState (i.c.p 0 % 4096) = Dom.empty ∧ badBlob (i.c.p 2) = false ∧
    u.bufsOk i.c [(.r, i.c.p 1, i.c.p 2)] = true ∧ u.bufRemote (i.c.p 1) = true := takes (by decide +kernel)
theorem wit_cryptRekey_remote : ∃ u i, ((up.wr R.SEC_STATUS.MODE modeNormal).wr R.CRYPT_DOM.STATE Dom.active 9).taken 0x0702 (mk 0x702 [9, 3 * 2 ^ 50 + 0x100000, blobLen]) = some (u, i) ∧
    handleBad i.c = false ∧ u.badParams i.c = false ∧ u.keyDenied i (i.c.p 0 % 4096) = false ∧ u.secMode = modeNormal ∧ u.rekeyBusy i (i.c.p 0 % 4096) = false ∧
    u.domState (i.c.p 0 % 4096) ≠ Dom.empty ∧ i.c.p 0 % 4096 ≠ 0 ∧ badBlob (i.c.p 2) = false ∧ u.bufsOk i.c [(.r, i.c.p 1, i.c.p 2)] = true ∧ u.bufRemote (i.c.p 1) = true := takes (by decide +kernel)
theorem wit_cryptRekey_zero : ∃ u i, ((up.wr R.SEC_STATUS.MODE modeNormal).wr R.CRYPT_DOM.STATE Dom.active 0).taken 0x0702 (mk 0x702 [0, 0, 0]) = some (u, i) ∧ handleBad i.c = false ∧
    u.badParams i.c = false ∧ u.keyDenied i (i.c.p 0 % 4096) = false ∧ u.secMode = modeNormal ∧ u.rekeyBusy i (i.c.p 0 % 4096) = false ∧ u.domState 0 = Dom.active ∧
    i.c.p 0 % 4096 = 0 ∧ i.c.p 1 = 0 ∧ i.c.p 2 = 0 := takes (by decide +kernel)
theorem wit_cryptRekey_mixed : ∃ u i, ((up.wr R.SEC_STATUS.MODE modeNormal).wr R.CRYPT_DOM.STATE Dom.mixed 0).taken 0x0702 (mk 0x702 [0, 0, 0]) = some (u, i) ∧ handleBad i.c = false ∧
    u.badParams i.c = false ∧ u.keyDenied i (i.c.p 0 % 4096) = false ∧ u.secMode = modeNormal ∧ u.rekeyBusy i (i.c.p 0 % 4096) = false ∧ u.domState 0 = Dom.mixed ∧
    i.c.p 0 % 4096 = 0 ∧ i.c.p 1 = 0 ∧ i.c.p 2 = 0 := takes (by decide +kernel)
theorem wit_cryptStatus : ∃ u i, up.taken 0x0703 (mk 0x703 [4095]) = some (u, i) ∧ handleBad i.c = false ∧ u.badParams i.c = false ∧ u.keyDenied i (i.c.p 0 % 4096) = false := takes (by decide +kernel)
theorem wit_keyDomainDelete : ∃ u i, up.taken 0x0701 (mk 0x701 [4095]) = some (u, i) ∧ handleBad i.c = false ∧ u.badParams i.c = false ∧ u.keyDenied i (i.c.p 0 % 4096) = false ∧ i.c.p 0 % 4096 ≠ 0 ∧
    u.domainUsed (i.c.p 0 % 4096) = false ∧ ((u.setKey (i.c.p 0 % 4096) false none).setKey (i.c.p 0 % 4096) true none).rd R.CRYPT_LOST.VALID = 0 := takes (by decide +kernel)
theorem wit_jessSetRegion : ∃ u i, up.taken 0x0704 (mk 0x704 [255, 0, 63, 1]) = some (u, i) ∧ handleBad i.c = false ∧ u.badParams i.c = false ∧ i.c.p 1 % 64 = 0 ∧ i.c.p 2 % 64 = 63 ∧ i.c.p 1 < 2 ^ 50 ∧
    i.c.p 2 < 2 ^ 50 := takes (by decide +kernel)
theorem wit_jessSync : ∃ u i, up.taken 0x0705 (mk 0x705 []) = some (u, i) ∧ handleBad i.c = false ∧ u.badParams i.c = false := takes (by decide +kernel)
theorem wit_trngRead : ∃ u i, up.taken 0x0706 (mk 0x706 []) = some (u, i) ∧ handleBad i.c = false ∧ u.badParams i.c = false ∧ u.sec.trngFail = false ∧ u.tampered = false := takes (by decide +kernel)
theorem wit_trngRead_failed : ∃ u i, (up.updSec (fun x => { x with trngFail := true })).taken 0x0706 (mk 0x706 []) = some (u, i) ∧ handleBad i.c = false ∧ u.badParams i.c = false ∧
    u.sec.trngFail = true := takes (by decide +kernel)
theorem wit_attest : ∃ u i, up.taken 0x0707 (mk 0x707 [0x8000000000100000, 0x8000000000200000, 8192]) = some (u, i) ∧ handleBad i.c = false ∧ u.badParams i.c = false ∧ badLen (i.c.p 2) = false ∧ 8192 ≤ i.c.p 2 ∧
    u.bufsOk i.c [(.r, i.c.p 0, 64), (.w, i.c.p 1, i.c.p 2)] = true := takes (by decide +kernel)
theorem wit_faultQuery : ∃ u i, up.taken 0x0800 (mk 0x800 [309]) = some (u, i) ∧ handleBad i.c = false ∧ u.badParams i.c = false ∧ srcUsed (i.c.p 0 % 512) = true := takes (by decide +kernel)
theorem wit_faultClear : ∃ u i, up.taken 0x0802 (mk 0x802 [0]) = some (u, i) ∧ handleBad i.c = false ∧ u.badParams i.c = false ∧ srcUsed (i.c.p 0 % 512) = true := takes (by decide +kernel)
theorem wit_faultInject : ∃ u i, up.taken 0x0803 (mk 0x803 [309]) = some (u, i) ∧ handleBad i.c = false ∧ u.badParams i.c = false ∧ srcUsed (i.c.p 0 % 512) = true := takes (by decide +kernel)
theorem wit_faultLogRead : ∃ u i, up.taken 0x0801 (mk 0x801 [3]) = some (u, i) ∧ handleBad i.c = false ∧ u.badParams i.c = false := takes (by decide +kernel)
theorem wit_blockReset : ∃ u i, up.taken 0x0804 (mk 0x804 [56]) = some (u, i) ∧ handleBad i.c = false ∧ u.badParams i.c = false ∧ u.resetReq (i.c.p 0 % 256) = .started := takes (by decide +kernel)

end Sys2Proof.Tests
end

