-- ==== Sys2Proof/Tests/WitnessKtl.lean ====
section
/-! SUPPORT. Witnesses for the statements about Kettle, the PCIe port, the cores and the Mews cache. -/

-- One declaration after another: the kernel checks of many tests then need few threads.
set_option Elab.async false

namespace Sys2Proof.Tests
open Sys2Proof.Machine

/-! ### KettleRequestsComplete -/

/-- A request of package 9 on its direct link, to HBM address 192 with one line of 7s. -/
def req (k : KKind) : KMsg := { msg0 with kind := k, addr := 192, slots := ({ msg0 with kind := k } : KMsg).expect, data := List.replicate 64 7 }

/-- The checks of a request leave it to be served, and then `P` holds of the state. -/
def served (s : State) (m : KMsg) (P : State → Bool) : Bool := match s.kGate m with | (u, none) => P u | _ => false

/-- `upLink` with region 0 admitting package 9 to the first 64 KiB of HBM. -/
def nine : Checker := { replica := [(0, { start := 0, stop := 0xFFC0, attr := 1 + 3 * 2 ^ 8 + 7 * 2 ^ 12 + 0x3FF * 2 ^ 20 })], queue := [], applied := 0, reloading := false }
def upNine : State := upLink.updJess (fun j => { j with checkers := (List.range 15).map (fun k => (k, nine)) })

theorem wit_rd : upNine.Heard 9 (req .rd) ∧ (req .rd).inBlock = true ∧ served upNine (req .rd) (fun u => (u.kPort (u.modeAt (u.checkerOf 192) 192).1 192).isNone && (u.kRead (remoteMaster (req .rd)) .norm 1 192 0).2.isSome) = true ∧
    upNine.asleepIn 192 64 = false := ⟨heard (by decide +kernel), by decide +kernel⟩
/-- The second line of the read lies in a Roost channel that is not ready. -/
theorem wit_rd_failed : (upNine.setLstate 9 lkUp).busy = false ∧ (upNine.kRead (remoteMaster (req .rd)) .norm 1 roostBase 0).2 = none := by decide +kernel
theorem wit_wr : upNine.Heard 9 (req .wr) ∧ (req .wr).inBlock = true ∧ served upNine (req .wr) (fun u => (u.kPort (u.modeAt (u.checkerOf 192) 192).1 192).isNone &&
    (u.kWrite (remoteMaster (req .wr)) .crit 192 (2 ^ 64 - 1) 0 [] (linesOf 1 (List.replicate 64 7)) 0).2) = true ∧ upNine.asleepIn 192 64 = false := ⟨heard (by decide +kernel), by decide +kernel⟩
def wrm : KMsg := { req .wrMask with mask := 2 ^ 64 - 1 }
theorem wit_wrMask : upNine.Heard 9 wrm ∧ 192 % 2 ^ 50 / 64 * 64 = 192 ∧ served upNine wrm (fun u => (u.kPort (u.modeAt (u.checkerOf 192) 192).1 192).isNone &&
    (u.kWrite (remoteMaster wrm) .crit 192 (2 ^ 64 - 1) 0 [] [List.replicate 64 7] 0).2) = true := ⟨heard (by decide +kernel), by decide +kernel⟩
theorem wit_add : upNine.Heard 9 (req .add) ∧ (req .add).inBlock = true ∧ served upNine (req .add) (fun _ => true) = true ∧ (req .add).ordered = false ∧ upNine.asleepIn 192 64 = false := ⟨heard (by decide +kernel), by decide +kernel⟩
theorem wit_wr_refused : upLink.Heard 9 { req .wr with addr := 2 ^ 50 } ∧ KMsg.inBlock { req .wr with addr := 2 ^ 50 } = true ∧ (upLink.kGate { req .wr with addr := 2 ^ 50 }).2 = some KSt.decode :=
  ⟨heard (by decide +kernel), by decide +kernel⟩

/-- Queue pair 17 is LIVE for package 9. -/
def upPeerQp : State := (((upNine.wr R.TCI_QP_ATTR.STATE qpLive 17).wr R.TCI_QP_ATTR.PARTNER kettle 17).wr R.TCI_QP_ATTR.PEER_PKG 9 17)
def cmdMsg (k : KKind) : KMsg := { msg0 with kind := k, slots := 2 + cmdSlots { mk 0 [] with qp := 17 }, w := [17, 1], cmds := [{ mk 0 [] with qp := 17 }] }

theorem wit_cmd : upPeerQp.Heard 9 (cmdMsg .cmd) ∧ (cmdMsg .cmd).w.headD 0 % 4096 = 17 ∧ upPeerQp.rd R.TCI_STATUS.READY = 1 ∧ upPeerQp.cmdFromPartner 17 9 (cmdMsg .cmd) = true ∧ upPeerQp.qpState 17 = qpLive :=
  ⟨heard (by decide +kernel), by decide +kernel⟩
theorem wit_fwd : upPeerQp.Heard 9 (cmdMsg .fwd) ∧ (cmdMsg .fwd).cmds = { mk 0 [] with qp := 17 } :: [] := ⟨heard (by decide +kernel), rfl⟩

/-- The same link with the Roost up. -/
def upRoost9 : State := (upRoost.setLstate 9 lkUp).updSes (fun t => { t with buddies := [{ idx := 0, handle := 5, home := 9, record := [], frames := [] }] })

theorem wit_buddySec : upRoost9.Heard 9 { req .buddySec with data := List.replicate 4096 0 } ∧ upRoost9.roostUp = true := ⟨heard (by decide +kernel), by decide +kernel⟩
/-- A receipt of package 9 runs. -/
def recv9 : Transfer := move .buddyRecv 9 1 true
def upRecv : State := upRoost9.setXfers (fun _ => [recv9])

theorem wit_buddyCommit : upRecv.Heard 9 (req .buddyCommit) ∧ upRecv.roostUp = true ∧ upRecv.roostDead = false ∧ upRecv.xfer .buddyRecv (req .buddyCommit).origin = some recv9 ∧ recv9.running = true ∧
    upRecv.msgsOf recv9 = [] ∧ upRecv.ses.buddies.length < 131072 := ⟨heard (by decide +kernel), by decide +kernel⟩
theorem wit_buddyDel : upRoost9.Heard 9 { req .buddyDel with w := [5] } ∧ (upRoost9.ses.buddies.find? (fun e => e.handle == 5 && e.home == 9)).isSome = true ∧
    upRoost9.ses.buddies.find? (fun e => e.handle == 6 && e.home == 9) = none := ⟨heard (by decide +kernel), by decide +kernel⟩
theorem wit_claim : (upLink.setSes 0 parked).Heard 9 { req .claim with w := [parked.handle] } ∧ (upLink.setSes 0 parked).sesAt (hSlot parked.handle) = some parked ∧ parked.closing = false :=
  ⟨heard (by decide +kernel), by decide +kernel⟩

/-- The gateway link is UP, and a message from the gateway on it. -/
def upGate : State := up.setLstate 0 lkUp
def gw (k : KKind) : KMsg := { msg0 with kind := k, slots := max 1 ({ msg0 with kind := k } : KMsg).expect, origin := 0, oclass := 15 }

theorem wit_expHdr : upGate.Heard 0 { gw .expHdr with data := List.replicate 64 0 } ∧ up.pkg = 0 := ⟨heard (by decide +kernel), by decide +kernel⟩
theorem wit_expSec : upGate.Heard 0 { gw .expSec with data := List.replicate 4096 0 } := heard (by decide +kernel)
theorem wit_impReq : upLink.Heard 9 (req .impReq) := heard (by decide +kernel)

/-! ### KettleResponsesAndRoutingComplete -/

/-- A read sent to package 9 under tag 3, and the route to 9 probed through link 12. -/
def out9 (k : KKind) : OutReq := { tag := 3, target := 9, kind := k, sentAt := some 0, m := warden, for_ := .access .r 0 0 64 }
def upOut (k : KKind) : State := upLink.updKtl (fun t => { t with outst := [out9 k] })

theorem wit_rdData : upLink.Heard 9 (req .ack) ∧ (upOut .rd).Heard 9 { req .rdData with slots := 5 } ∧
    (upOut .rd).ktl.outst.find? (fun o => o.tag == 3 && o.target == (if 9 = up.pkg then 64 else 9) && o.kind.answeredBy .rdData) = some (out9 .rd) ∧
    (upOut .wr).ktl.outst.find? (fun o => o.tag == 3 && o.target == (if 9 = up.pkg then 64 else 9) && o.kind.answeredBy .ack) = some (out9 .wr) ∧
    (upOut .fwd).ktl.outst.find? (fun o => o.tag == 3 && o.target == (if 9 = up.pkg then 64 else 9) && o.kind.answeredBy .fwdReply) = some (out9 .fwd) := ⟨heard (by decide +kernel), heard (by decide +kernel), by decide +kernel⟩
def rep0 : Rep := up.repOf (up.newCmd (mk 0 []) none) 0 0 0 noRetry 0
theorem wit_fwdReply : upLink.Heard 9 { req .fwdReply with slots := 4, reps := [rep0] } ∧ upLink.Heard 9 { req .reply with slots := 4, reps := [rep0], w := [0, 0, 1] } ∧ upLink.busy = false := ⟨heard (by decide +kernel), heard (by decide +kernel), by decide +kernel⟩
theorem wit_relay : upLink.coreOn = true ∧ upLink.hears 9 { req .rd with via := true, dest := 63 } = true ∧ upLink.msgBad 9 { req .rd with via := true, dest := 63 } = false := by decide +kernel
theorem wit_mgmt : ∀ k ∈ [KKind.presence, .linkstate, .probe, .routeFence, .leave, .join, .ready, .downReq, .downAck], upLink.Heard 9 { req k with slots := max 1 (req k).slots } := by
  intro k hk
  simp only [List.mem_cons, List.not_mem_nil, or_false] at hk
  rcases hk with rfl | rfl | rfl | rfl | rfl | rfl | rfl | rfl | rfl <;> exact heard (by decide +kernel)

/-- The route to 12 is probed through link 9, and the one to 63 is fenced. -/
def upProbe : State :=
  ((upLink.setRoute 12 { upLink.route 12 with probe := some { rest := [], round := [9], acked := [9], start := 0 } }).setRoute 63 { upLink.route 63 with fence := some (rtDirect, viaNone, 0) }).wr R.KTL_ROUTE.KIND rtRelay 63
    |>.wr R.KTL_ROUTE.VIA 9 63

theorem wit_probeAck : upProbe.Heard 9 { req .probeAck with slots := 1, origin := 12, relayed := true } ∧ ((upProbe.route 12).probe.map (fun p => p.round.head?)) = some (some 9) := ⟨heard (by decide +kernel), by decide +kernel⟩
theorem wit_fenceAck : upProbe.Heard 9 { req .fenceAck with slots := 1, origin := 63, relayed := true } ∧ (if upProbe.rkind 63 = rtRelay then upProbe.rvia 63 else 63) = 9 := ⟨heard (by decide +kernel), by decide +kernel⟩

/-- The link to 9 is withdrawn, a flit not yet acknowledged. -/
def upDown : State := (upLink.setLink 9 { upLink.link 9 with withdraw := some (false, 0), downSent := true, unacked := [(1, msg0)] }).setLstate 9 lkDraining

theorem wit_downReq : upDown.Heard 9 { req .downReq with slots := 1 } ∧ upDown.linkOpen 9 = true ∧ upDown.lstate 9 ≠ lkUp ∧
    (((upDown.mgmt 9 .downAck []).setLink 9 { (upDown.mgmt 9 .downAck []).link 9 with downSent := true, downAcked := true }).link 9).unacked.isEmpty = false := ⟨heard (by decide +kernel), by decide +kernel⟩
theorem wit_downAck : upDown.Heard 9 { req .downAck with slots := 1 } ∧ upDown.busy = false ∧ (upDown.link 9).withdraw.isSome = true ∧ (upDown.link 9).downSent = true ∧
    ((upDown.setLink 9 { upDown.link 9 with downAcked := true }).link 9).unacked.isEmpty = false := ⟨heard (by decide +kernel), by decide +kernel⟩
theorem wit_slotSync : upGate.busy = false ∧ upGate.Heard 0 { gw .slotSync with slots := 1 } ∧ upGate.Heard 0 (gw .tod) := ⟨by decide +kernel, heard (by decide +kernel), heard (by decide +kernel)⟩
theorem wit_wake : upLink.linkMgmt 9 = true ∧ upLink.msgBad 9 { req .wake with slots := 1 } = false ∧ (req .wake).via = false := by decide +kernel

/-! ### KettleLinkEventsComplete -/

def flit0 : Flit := { crcOk := true, fecOk := true, fecFixed := 0, seqd := true, nak := false, seq := 0, ack := 255, craPool := 0, craCount := 0, crbPool := 0, crbCount := 0, slotMask := 0 }

theorem wit_flit : upLink.coreOn = true ∧ upLink.linkOpen 9 = true ∧ (upLink.link 9).lockLost = none ∧ flit0.seq = (upLink.link 9).exp ∧ { flit0 with seq := 255 }.seq ≠ (upLink.link 9).exp ∧ (upLink.link 9).run = none := by decide +kernel
theorem wit_replayTimer : ((at_ 46875 upLink).setLink 63 { upLink.link 63 with run := some { start := 0, asked := 15 } }).busy = false ∧
    (((at_ 46875 upLink).setLink 63 { upLink.link 63 with run := some { start := 0, asked := 15 } }).link 63).run = some { start := 0, asked := 15 } ∧ 0 + 15 * 3125 ≤ (at_ 46875 upLink).now := by decide +kernel
theorem wit_linkDown : (((at_ 50000 upLink).setLink 63 { upLink.link 63 with lockLost := some 0 }).link 63).lockLost = some 0 ∧ 0 + 50000 ≤ (at_ 50000 upLink).now := by decide +kernel
theorem wit_lockLoss : upLink.busy = false ∧ upLink.linkOpen 9 = true ∧ (upLink.link 9).lockLost = none := by decide +kernel
theorem wit_keeperUp : (upLink.updBoot (fun b => { b with tirloRuns := true })).boot.tirloRuns = true ∧ upLink.coreOn = true := by decide +kernel
theorem wit_withdrawExpiry : ((at_ 200000 upLink).setLink 63 { upLink.link 63 with withdraw := some (true, 0) }).coreOn = true ∧
    (((at_ 200000 upLink).setLink 63 { upLink.link 63 with withdraw := some (true, 0) }).link 63).withdraw = some (true, 0) ∧ (upLink.link 63).downSent = false ∧ 0 + 200000 ≤ (at_ 200000 upLink).now := by decide +kernel

/-- The gateway link waits for its training slot, which runs. -/
def upSlot : State :=
  ((((up.wr R.KTL_GLB_STATUS.ALIGNED 1).wr R.KTL_LINK_CTRL.ENABLE 1 0).setLstate 0 lkKeeper).setLink 0 { up.link 0 with keeperUp := true }).updBoot (fun b => { b with slotsHad := [0] })

theorem wit_trainingSlot : upSlot.coreOn = true ∧ upSlot.rd R.KTL_GLB_STATUS.ALIGNED = 1 ∧ upSlot.curSlot = upSlot.rd R.KTL_LINK_STATUS.SLOT 0 ∧ upSlot.boot.slotsHad.contains 0 = true ∧ (upSlot.link 0).keeperUp = true ∧
    upSlot.pkg = 0 ∧ upSlot.lanesHeld = false ∧ upSlot.rd R.KTL_LINK_CTRL.ENABLE 0 = 1 ∧ upSlot.lstate 0 = lkKeeper ∧ upSlot.rd R.KTL_GLB_STATUS.KEEPER_ALL = 0 := by decide +kernel
theorem wit_trainingEnd : (up.setLstate 63 lkTraining).lstate 63 = lkTraining ∧ (up.setLstate 63 lkTraining).coreOn = true ∧ (up.setLstate 0 lkTraining).lstate 0 = lkTraining ∧
    (up.setLstate 0 lkTraining).coreOn = true ∧ up.pkg = 0 ∧ (63 : Nat) ≠ up.pkg := by decide +kernel
theorem wit_pcieConfig : up.busy = false ∧ up.pwr.pstate = .flight ∧ (up.boot.cfgReleased = false ∨ up.boot.pcieUp = false) ∧ up.perchQuiet = false ∧
    (up.updBoot (fun b => { b with cfgReleased := true, pcieUp := true })).boot.cfgReleased = true ∧ (up.updBoot (fun b => { b with cfgReleased := true, pcieUp := true })).perchQuiet = false := by decide +kernel

/-! ### KettleRoutingTimersComplete -/

theorem wit_respTimeout : (at_ 4000000 (upOut .rd)).coreOn = true ∧ (at_ 4000000 (upOut .rd)).ktl.outst.find? (fun o => o.tag == 3) = some (out9 .rd) ∧ (out9 .rd).sentAt = some 0 ∧ 0 + 4000000 ≤ (at_ 4000000 (upOut .rd)).now := by decide +kernel
theorem wit_probeRound : (at_ 20000 upProbe).coreOn = true ∧ ((at_ 20000 upProbe).route 12).probe.map (fun p => (p.round.find? (fun i => p.acked.contains i), decide (p.start + 20000 ≤ (at_ 20000 upProbe).now))) = some (some 9, true) := by decide +kernel
theorem wit_probeRound_none : ((at_ 20000 (up.setRoute 63 { up.route 63 with probe := some { rest := [1], round := [9], acked := [], start := 0 } })).route 63).probe.map
    (fun p => (p.round.find? (fun i => p.acked.contains i), decide (p.start + 20000 ≤ (at_ 20000 up).now))) = some (none, true) := by decide +kernel
def upLost : State := (up.setRoute 63 { up.route 63 with lostAt := some 0 }).wr R.KTL_ROUTE.KIND rtNone 63

theorem wit_stranded : ((at_ 1000000 upLost).route 63).lostAt = some 0 ∧ (at_ 1000000 upLost).rkind 63 = rtNone ∧ ((at_ 1000000 upLost).route 63).stranded = false ∧ (at_ 1000000 upLost).perched 63 = false ∧
    0 + 1000000 ≤ (at_ 1000000 upLost).now := by decide +kernel

/-- Package 63 is in PERCH, and messages are held for it since time 0. -/
def upPerched : State := (up.setRoute 63 { up.route 63 with perchAt := some 0 }).wr R.KTL_ROUTE.PERCHED 1 63

theorem wit_perchHold : ((at_ 50000000 upPerched).route 63).perchAt = some 0 ∧ (at_ 50000000 upPerched).perched 63 = true ∧ ((at_ 50000000 upPerched).route 63).perchDone = false ∧ 0 + 50000000 ≤ (at_ 50000000 upPerched).now := by decide +kernel
theorem wit_reprobe : upLost.coreOn = true ∧ upLost.rkind 63 = rtNone ∧ 63 ≠ upLost.pkg := by decide +kernel
theorem wit_fenceTimeout : ((at_ 200000 upProbe).route 63).fence = some (rtDirect, viaNone, 0) ∧ 0 + 200000 ≤ (at_ 200000 upProbe).now := by decide +kernel
theorem wit_slotSyncTimeout : up.syncStale = true ∧ up.rd R.KTL_GLB_STATUS.ALIGNED = 0 ∧ ((List.range 64).filter (fun t => t != (up.setPeer 63 { up.peer 63 with present := true, aligned := true }).pkg &&
    ((up.setPeer 63 { up.peer 63 with present := true, aligned := true }).peer t).present)).find? (fun t => ((up.setPeer 63 { up.peer 63 with present := true, aligned := true }).peer t).aligned) = some 63 := by decide +kernel
theorem wit_wakeResend : (upPerched.setRoute 63 { upPerched.route 63 with perchDone := true }).perched 63 = true ∧ ((upPerched.setRoute 63 { upPerched.route 63 with perchDone := true }).route 63).perchDone = true := by decide +kernel

/-! ### CoreAtomicsComplete -/

/-- A running core: what Runs asks, as one check. -/
theorem runs {s : State} {m : Master} (h : (s.coreOn && (match coreOf m with | some c => s.rd R.MEWS_CORE_STATUS.STATE c == coreRunning | none => true)) = true) : s.Runs m := by
  simp only [Bool.and_eq_true] at h
  refine ⟨h.1, fun c hc => ?_⟩
  have := h.2
  rw [hc] at this
  simpa using this

/-- An access reaches its line: what AtomicAt asks, as one check. -/
theorem atomicAt {s : State} {m : Master} {n addr : Nat} {c : CLine} (hr : s.Runs m) (h : (addr % n == 0 && addr / 2 ^ 50 == s.pkg && rangeOf (addr % 2 ^ 50) != .tile && rangeOf (addr % 2 ^ 50) != .csr &&
    s.coreGate m .a addr n == none && !s.mustWait addr && decide ((s.useLine m (addr % 2 ^ 50 / 64 * 64) 0 .clean).2 = some c) && !c.poison) = true) : ∃ t, s.AtomicAt m n addr t c := by
  simp only [Bool.and_eq_true, beq_iff_eq, bne_iff_ne, decide_eq_true_eq, Bool.not_eq_true'] at h
  exact ⟨_, hr, h.1.1.1.1.1.1.1, fun _ => ⟨h.1.1.1.1.1.1.2, h.1.1.1.1.1.2, h.1.1.1.1.2⟩, h.1.1.1.2, h.1.1.2, by rw [← h.1.2], h.2⟩

theorem wit_atomic : ∃ t, upLine.AtomicAt (tcore 4) 8 120 t line0 := atomicAt (runs (by decide +kernel)) (by decide +kernel)
theorem wit_atomic_word : ∃ t, upLine.AtomicAt (tcore 5) 4 124 t line0 := atomicAt (runs (by decide +kernel)) (by decide +kernel)
theorem wit_holds : upLine.holdsResv (tcore 4) 120 = true ∧ upLine.holdsResv (tcore 4) 128 = false ∧ coreOf (tcore 4) = some 4 := by decide +kernel

/-! ### CoreAndCacheEventsComplete -/

theorem wit_wfi : upLine.busy = false ∧ upLine.coreOn = true ∧ upLine.rd R.MEWS_CORE_STATUS.STATE 5 = coreRunning ∧ (∀ f < 6, upLine.pendingIds 5 f = []) := by decide +kernel
theorem wit_resvTimeout : Tab.get? (at_ 1000 upLine).mews.resv 4 = some (64, 1000) ∧ 1000 ≤ (at_ 1000 upLine).now := by decide +kernel
theorem wit_runs : upLine.Runs (coreMaster 4) ∧ upLine.Runs (tcore 5) := ⟨runs (by decide +kernel), runs (by decide +kernel)⟩
theorem wit_cbo : 64 / 2 ^ 50 = upLine.pkg ∧ rangeOf 64 ≠ .tile ∧ rangeOf 64 ≠ .csr ∧ upLine.coreGate (tcore 4) .r 64 1 = none ∧ upLine.coreGate (tcore 4) .w 64 1 = none := by decide +kernel
theorem wit_cacheAccess : (upLine.useLine (tcore 4) 64 0 .clean).2 = some line0 ∧ upLine.coreGate (tcore 4) .r 64 64 = none ∧ upLine.coreGate (tcore 4) .w 127 1 = none ∧
    ((upLine.breakResv 64 (coreOf (tcore 4))).useLine (tcore 4) 64 0 .clean).2 = some line0 ∧ upLine.mustWait 64 = false := by decide +kernel
theorem wit_lockFill : (up.updMews (fun m => { m with filling := [8] })).mews.filling = 8 :: [] ∧ (up.updMews (fun m => { m with filling := [8] })).coreOn = true := by decide +kernel

/-- A flash command has been given. -/
def flash (op addr len : Nat) : State := up.updMews (fun m => { m with flashCmd := some { op := op, addr := addr, buf := 0, len := len } })

theorem wit_flashDone : (⟨2, 65536, 0, 65536⟩ : FlashCmd).aligned = true ∧ (flash 2 65536 65536).flashProtected ⟨2, 65536, 0, 65536⟩ = false ∧ (flash 2 65536 65536).mews.flashCmd = some ⟨2, 65536, 0, 65536⟩ ∧
    (⟨2, 1, 0, 4096⟩ : FlashCmd).aligned = false ∧ (flash 2 65536 65536).coreOn = true ∧ ((flash 2 0 65536).wr R.MEWS_FLASH_PROTECT.PROTECT 1).flashProtected ⟨2, 0, 0, 65536⟩ = true := by decide +kernel

end Sys2Proof.Tests
end

