-- ==== Sys2Proof/Tests/WitnessPlan.lean ====
section
/-! SUPPORT. The witness for PLAN_LOAD: a plan image that the checks accept, gathered from a host buffer and installed. -/

-- One declaration after another: the kernel checks of many tests then need few threads.
set_option Elab.async false

namespace Sys2Proof.Tests
open Sys2Proof.Machine

theorem slice_left {α : Type} {a b : List α} {i n : Nat} (h : i + n ≤ a.length) : slice (a ++ b) i n = slice a i n := by
  simp only [slice]; rw [List.drop_append_of_le_length (by omega), List.take_append_of_le_length (by rw [List.length_drop]; omega)]
theorem slice_right {α : Type} {a b : List α} {i n k : Nat} (h : k = a.length) (hi : k ≤ i) : slice (a ++ b) i n = slice b (i - k) n := by
  subst h; simp only [slice]; rw [List.drop_append, List.drop_of_length_le hi, List.nil_append]

theorem shaRound_length (v : List W32) (k : W32 × W32) (h : v.length = 8) : (shaRound v k).length = 8 := by
  match v, h with
  | [a, b, c, d, e, f, g, i], _ => rfl
theorem shaBlock_length (h : List W32) (b : List Nat) (hh : h.length = 8) : (shaBlock h b).length = 8 := by
  have : ∀ (l : List (W32 × W32)) (v : List W32), v.length = 8 → (l.foldl shaRound v).length = 8 := by
    intro l
    induction l with
    | nil => intro v hv; exact hv
    | cons k l ih => intro v hv; exact ih _ (shaRound_length v k hv)
  simp only [shaBlock, List.length_zipWith, hh, this _ _ hh]; rfl
theorem shaBlocks_length (n : Nat) (h : List W32) (l : List Nat) (hh : h.length = 8) : (shaBlocks n h l).length = 8 := by
  induction n generalizing h l with
  | zero => exact hh
  | succ n ih =>
    exact ih _ _ (shaBlock_length h _ hh)

theorem sha256_length (m : List Byte) : (sha256 m).length = 32 := by
  have h := shaBlocks_length ((bytesN m ++ 0x80 :: List.replicate ((119 - m.length % 64) % 64) 0 ++ beBytes 8 (8 * m.length)).length / 64) shaH
    (bytesN m ++ 0x80 :: List.replicate ((119 - m.length % 64) % 64) 0 ++ beBytes 8 (8 * m.length)) rfl
  simp only [sha256, nBytes, List.length_map]
  match hx : shaBlocks _ shaH _, h with
  | [a, b, c, d, e, f, g, i], _ => simp [beBytes_length]

def planHead : List Byte :=
  leBytes 4 0x4E414C50 ++ leBytes 2 1 ++ leBytes 2 1 ++ leBytes 4 4096 ++ leBytes 2 1 ++ leBytes 2 0 ++ leBytes 4 64 ++ leBytes 4 64 ++ leBytes 4 64 ++ leBytes 4 0 ++ leBytes 4 128 ++ leBytes 4 160 ++
    leBytes 56 0
def planTabs : List Byte := leBytes 7 0 ++ [1] ++ leBytes 40 0
def planBody : List Byte := planTabs ++ List.replicate 3920 0
def planImage : List Byte := planHead ++ (sha256 planBody ++ planBody)

theorem planHead_length : planHead.length = 96 := by decide +kernel
theorem planTabs_length : planTabs.length = 48 := by decide +kernel

/-- A field of the image lies in its head or in its tables. -/
theorem fld_head {D B : List Byte} {i n : Nat} (h : i + n ≤ 96) : fld (planHead ++ (D ++ B)) i n = fld planHead i n := by
  rw [fld, slice_left (by rw [planHead_length]; exact h)]; rfl
theorem slice_tabs {D : List Byte} (hD : D.length = 32) {i n : Nat} (h : 128 ≤ i) (h' : i + n ≤ 176) : slice (planHead ++ (D ++ planBody)) i n = slice planTabs (i - 128) n := by
  rw [slice_right planHead_length.symm (by omega), slice_right (k := 32) hD.symm (by omega), planBody, slice_left (by rw [planTabs_length]; omega), Nat.sub_sub]

theorem planImage_length : planImage.length = 4096 := by
  simp only [planImage, List.length_append, planHead_length, sha256_length, planBody, planTabs_length, List.length_replicate]

theorem planImage_ok : imageOk planImage = true := by
  have hD := sha256_length planBody
  have hsha : sha256 (planImage.drop 128) = slice planImage 96 32 := by
    rw [planImage, slice_right planHead_length.symm (by omega), slice_left (by omega), List.drop_append, List.drop_of_length_le (by have := planHead_length; omega), planHead_length, List.drop_append,
      List.drop_of_length_le (by omega), hD]
    simp [slice, ← hD]
  have hl := planImage_length
  have f1 : fld planImage 6 2 = 1 := by rw [planImage, fld_head (by omega)]; decide +kernel
  have f2 : fld planImage 12 2 = 1 := by rw [planImage, fld_head (by omega)]; decide +kernel
  have f3 : fld planImage 16 4 = 64 := by rw [planImage, fld_head (by omega)]; decide +kernel
  have f4 : fld planImage 20 4 = 64 := by rw [planImage, fld_head (by omega)]; decide +kernel
  have f5 : fld planImage 24 4 = 64 := by rw [planImage, fld_head (by omega)]; decide +kernel
  have f6 : fld planImage 0 4 = 0x4E414C50 := by rw [planImage, fld_head (by omega)]; decide +kernel
  have f7 : fld planImage 4 2 = 1 := by rw [planImage, fld_head (by omega)]; decide +kernel
  have f8 : fld planImage 8 4 = 4096 := by rw [planImage, fld_head (by omega)]; decide +kernel
  have f9 : fld planImage 32 4 = 128 := by rw [planImage, fld_head (by omega)]; decide +kernel
  have f10 : fld planImage 36 4 = 160 := by rw [planImage, fld_head (by omega)]; decide +kernel
  have z1 : zeroes planImage 14 2 = true := by rw [zeroes, planImage, slice_left (by have := planHead_length; omega)]; decide +kernel
  have z2 : zeroes planImage 40 56 = true := by rw [zeroes, planImage, slice_left (by have := planHead_length; omega)]; decide +kernel
  have e1 : slice planImage 128 32 = slice planTabs 0 32 := by rw [planImage, slice_tabs hD (by omega) (by omega)]
  have e2 : slice planImage 160 16 = slice planTabs 32 16 := by rw [planImage, slice_tabs hD (by omega) (by omega)]
  have z3 : zeroes planImage 169 7 = true := by rw [zeroes, planImage, slice_tabs hD (by omega) (by omega)]; decide +kernel
  have t0 : tileEntry planImage 0 = { off := 0, len := 0, die := 0 } := by
    simp only [tileEntry, f10, Nat.mul_zero, Nat.add_zero, e2]; decide +kernel
  have p0 : planEntryOk planImage 0 = true := by
    simp only [planEntryOk, f9, f4, Nat.mul_zero, Nat.add_zero, e1, hl]; decide +kernel
  simp only [imageOk, f1, f2, f3, f4, f5, f6, f7, f8, f9, f10, hl, z1, z2, hsha, List.range_succ, List.range_zero, List.nil_append, List.all_cons, List.all_nil, p0, tileEntryOk, codePairsOk, t0, Nat.mul_zero,
    Nat.add_zero, z3, beq_self_eq_true]
  decide +kernel

theorem gather_host {s : State} (m : Master) {w : Nat} (x : ExtRead) (hw : s.bufLocal w = false) (hb : x.bad = []) (k : ReqClass) (n o : Nat) (h : o + 64 * n ≤ x.data.length) :
    s.gather m w x k n o = (s, .inr (slice x.data o (64 * n))) := by
  induction n generalizing o with
  | zero => simp [State.gather, slice]
  | succ n ih =>
    have hs : s.srcRead m w x o 64 k = (s, .inr (slice x.data o 64, false)) := by
      simp only [State.srcRead, hw, Bool.false_eq_true, if_false, hb]; rw [if_pos (by omega)]; rfl
    simp only [State.gather, hs, ih (o + 64) (by omega), Bool.false_eq_true, if_false]
    congr 2
    simp only [slice]
    rw [show 64 * (n + 1) = 64 + 64 * n by omega, List.take_add, List.drop_drop]

theorem install_ok {v : State} (d : Nat) (h : v.freePlan = some 1) (hp : (v.placement [0] 192).isSome = true) : ∃ t, v.planInstall planImage d = (t, .inl 1) := by
  obtain ⟨m, hm⟩ := Option.isSome_iff_exists.mp hp
  have f2 : fld planImage 12 2 = 1 := by rw [planImage, fld_head (by omega)]; decide +kernel
  have f3 : fld planImage 16 4 = 64 := by rw [planImage, fld_head (by omega)]; decide +kernel
  have f4 : fld planImage 20 4 = 64 := by rw [planImage, fld_head (by omega)]; decide +kernel
  have f5 : fld planImage 24 4 = 64 := by rw [planImage, fld_head (by omega)]; decide +kernel
  have f10 : fld planImage 36 4 = 160 := by rw [planImage, fld_head (by omega)]; decide +kernel
  have e2 : slice planImage 160 16 = slice planTabs 32 16 := by rw [planImage, slice_tabs (sha256_length _) (by omega) (by omega)]
  have t0 : (tileEntry planImage 0).die = 0 := by
    simp only [tileEntry, f10, Nat.mul_zero, Nat.add_zero, e2]; decide +kernel
  have hd : (List.range 1).map (fun i => (tileEntry planImage i).die) = [0] := by simp [List.range_succ, t0]
  simp only [State.planInstall, planImage_ok, Bool.not_true, Bool.false_eq_true, if_false, f2, hd, f3, f4, f5, h]
  rw [show (64 + 64 + 64 : Nat) = 192 from rfl, hm]
  exact ⟨_, rfl⟩

theorem wit_planLoad : ∃ u i v img t, up.taken 0x0300 (mk 0x300 [0x8000000000100000, 4096]) = some (u, i) ∧ handleBad i.c = false ∧ u.badParams i.c = false ∧ badLen (i.c.p 1) = false ∧ 4096 ≤ i.c.p 1 ∧
    u.bufsOk i.c [(.r, i.c.p 0, i.c.p 1)] = true ∧ u.bufRemote (i.c.p 0) = false ∧ u.gather (u.acting i.c) (i.c.p 0) ⟨planImage, 0, []⟩ i.cls (i.c.p 1 / 64) 0 = (v, .inr img) ∧ v.planInstall img (v.cmdDomain i.c) = (t, .inl 1) := by
  obtain ⟨u, i, h, h1, h2, h3, h4, h5, hr, h6, h7, h8, h9⟩ : ∃ u i, up.taken 0x0300 (mk 0x300 [0x8000000000100000, 4096]) = some (u, i) ∧ handleBad i.c = false ∧ u.badParams i.c = false ∧
      badLen (i.c.p 1) = false ∧ 4096 ≤ i.c.p 1 ∧ u.bufsOk i.c [(.r, i.c.p 0, i.c.p 1)] = true ∧ u.bufRemote (i.c.p 0) = false ∧ u.bufLocal (i.c.p 0) = false ∧ i.c.p 1 / 64 = 64 ∧ u.freePlan = some 1 ∧
      (u.placement [0] 192).isSome = true := takes (by decide +kernel)
  obtain ⟨t, ht⟩ := install_ok (u.cmdDomain i.c) h8 h9
  refine ⟨u, i, u, planImage, t, h, h1, h2, h3, h4, h5, hr, ?_, ht⟩
  rw [gather_host _ _ h6 rfl _ _ _ (by simp only [h7, planImage_length]; omega), h7]
  simp [slice, ← planImage_length]


end Sys2Proof.Tests
end

