-- ==== Sys2Proof/Tests/WitnessPwr.lean ====
section
/-! SUPPORT. Witnesses for the statements about power, time, Watch, the test port, the two-wire ports and bring-up. -/

-- One declaration after another: the kernel checks of many tests then need few threads.
set_option Elab.async false

namespace Sys2Proof.Tests
open Sys2Proof.Machine

/-! ### PowerEventsComplete, CreditWindowsAndThermalTripsComplete, PerchTimersComplete -/

/-- A package whose second window starts at 100 µs; at 0 its first one. -/
def windowed : State := (at_ 100000 up).updPwr (fun p => { p with windows := 1 })

theorem wit_creditWindow : windowed.coreOn = true ∧ windowed.time.fastRun = true ∧ windowed.pwr.windows ≠ 0 ∧ windowed.rd R.PWR_WINDOW ≠ windowed.epoch / 100000 := by decide +kernel
theorem wit_creditWindow_first : up.coreOn = true ∧ up.time.fastRun = true ∧ up.pwr.windows = 0 := by decide +kernel
theorem wit_creditWindow_same : (up.updPwr (fun p => { p with windows := 1 })).coreOn = true ∧ (up.updPwr (fun p => { p with windows := 1 })).busy = false ∧
    (up.updPwr (fun p => { p with windows := 1 })).pwr.windows ≠ 0 ∧ (up.updPwr (fun p => { p with windows := 1 })).rd R.PWR_WINDOW = (up.updPwr (fun p => { p with windows := 1 })).epoch / 100000 := by decide +kernel
theorem wit_dieTrip : up.coreOn = true ∧ (3 : Nat) < 4 ∧ up.rd R.PWR_THERM_CFG.DIE_TRIP_C * 10 ≤ 1250 ∧ up.pwr.tripped.contains 3 = false := by decide +kernel
theorem wit_dieTrip_not : up.coreOn = true ∧ up.busy = false ∧ 100 < up.rd R.PWR_THERM_CFG.DIE_TRIP_C * 10 ∧ (up.updPwr (fun p => { p with tripped := [3] })).coreOn = true ∧
    (up.updPwr (fun p => { p with tripped := [3] })).busy = false ∧ (up.updPwr (fun p => { p with tripped := [3] })).pwr.tripped.contains 3 = true := by decide +kernel

/-- A READY package whose power state is as `f` makes it. -/
def perch (f : PowerState → PowerState) : State := (up.updBoot (fun b => { b with stage := .ready })).updPwr f

/-- PERCH entry was asked for and is due, in FLIGHT and in GLIDE. -/
def asked : State := perch (fun p => { p with perchAt := some 0 })
def askedGlide : State := perch (fun p => { p with perchAt := some 0, pstate := .glide })

theorem wit_perchStart : asked.pwr.perchAt = some 0 ∧ 0 ≤ asked.now ∧ asked.boot.stage = .ready ∧ asked.pwr.pstate = .flight := by decide +kernel
theorem wit_perchStart_glide : askedGlide.pwr.perchAt = some 0 ∧ 0 ≤ askedGlide.now ∧ askedGlide.boot.stage = .ready ∧ askedGlide.pwr.pstate = .glide := by decide +kernel

/-- Entry has run for 10 ms, and a command still runs. -/
def stalled : State := (at_ 10000000 (perch (fun p => { p with pstate := .entering, entryStep := 1 }))).updTci (fun t =>
  { t with running := [{ i := up.newCmd (mk 0x303 [0, 0x10001]) none, wait := .run, arg := 0, arg2 := 0, dead := false }] })

theorem wit_perchTimeout : stalled.pwr.pstate = .entering ∧ stalled.pwr.entryStep = 1 ∧ stalled.pwr.entryAt + 10000000 ≤ stalled.now ∧ stalled.tci.running ≠ [] := by decide +kernel

/-- The links' 100 µs are over. -/
def held : State := (perch (fun p => { p with pstate := .entering, perchHoldAt := some 0 })).wr R.PWR_PERCH_STATE.CORE_EN 1

theorem wit_perchKeeper : held.pwr.perchHoldAt = some 0 ∧ held.pwr.pstate = .entering ∧ 0 ≤ held.now ∧
    ((((held.allKeeper).wr R.MGMT_TGT_STATUS.MBOX_LIVE 0).timeStop true).updPwr (fun p => { p with pstate := .perch, entryStep := 0, perchHoldAt := none, ballast := [0, 0, 0, 0] })).rd
      R.PWR_PERCH_STATE.CORE_EN ≠ 0 := by decide +kernel

/-- CORE_EN has been low for 2 ms, and a wake waits for it. -/
def lowOver : State := at_ 2000000 (perch (fun p => { p with pstate := .perch, coreLowAt := some 0, wakePend := true }))

theorem wit_coreEnLow : lowOver.pwr.coreLowAt = some 0 ∧ lowOver.pwr.wakePend = true ∧ 0 + 2000000 ≤ lowOver.now := by decide +kernel

/-- The wake timer is armed for a tick that has passed, in PERCH and in its entry. -/
def alarmed (p : PState) : State := (perch (fun x => { x with pstate := p })).wr R.PWR_WAKE_AT.ENABLE 1

theorem wit_wakeTimer : (alarmed .perch).rd R.PWR_WAKE_AT.ENABLE = 1 ∧ (alarmed .perch).rd R.PWR_WAKE_AT.TICK ≤ (alarmed .perch).time.ticks ∧ (alarmed .perch).pwr.pstate = .perch := by decide +kernel
theorem wit_wakeTimer_entry : (alarmed .entering).rd R.PWR_WAKE_AT.ENABLE = 1 ∧ (alarmed .entering).rd R.PWR_WAKE_AT.TICK ≤ (alarmed .entering).time.ticks ∧ (alarmed .entering).pwr.pstate = .entering := by
  decide +kernel
theorem wit_wakeTimer_off : up.busy = false ∧ up.rd R.PWR_WAKE_AT.ENABLE ≠ 1 := by decide +kernel

/-! ### TimeEventsComplete -/

/-- Rack time LOCKED since the edge at epoch 0. -/
def clocked (q : Quality) : State := up.updTime (fun t => { t with quality := q, edge := some 0, num := 1, den := 1 })

theorem wit_pps : (at_ 1000000000 (clocked .locked)).busy = false ∧ (at_ 1000000000 (clocked .locked)).time.accepts ((at_ 1000000000 (clocked .locked)).epoch + 5 - 5) = true ∧
    (at_ 500000000 (clocked .locked)).time.accepts ((at_ 500000000 (clocked .locked)).epoch + 5 - 5) = false := by decide +kernel
theorem wit_holdover : (at_ 1500000000 (clocked .locked)).time.fastRun = true ∧ (at_ 1500000000 (clocked .locked)).time.quality = .locked ∧ (at_ 1500000000 (clocked .locked)).time.edge = some 0 ∧
    0 + 1500000000 ≤ (at_ 1500000000 (clocked .locked)).epoch := by decide +kernel

/-- A slew of 50 ns at 500 ppm since epoch 0. -/
def slew0 : Slew := { start := 0, mag := 50, fwd := true, ppm := 500 }
def slewed : State := at_ 100000 ((clocked .slewing).updTime (fun t => { t with slew := some slew0 }))

theorem wit_slew : slewed.time.slew = some slew0 ∧ slewed.time.quality = .slewing ∧ slew0.done slewed.epoch = slew0.mag := by decide +kernel
def ppsOn : State := (clocked .locked).wr R.TIME_CFG.PPS_OUT_EN 1

theorem wit_ppsRise : ppsOn.busy = false ∧ ppsOn.ppsActive = true ∧ ppsOn.time.ppsHigh = false ∧ ppsOn.time.ppsRise = none ∧ ppsOn.rackNs % 1000000000 < 20 := by decide +kernel
theorem wit_ppsFall : (ppsOn.updTime (fun t => { t with ppsHigh := true })).busy = false ∧ (ppsOn.updTime (fun t => { t with ppsHigh := true })).time.ppsEnd ≤ up.now := by decide +kernel
theorem wit_anchor : (at_ 1000000 up).busy = false ∧ (at_ 1000000 up).time.fastRun = true ∧ (at_ 1000000 up).rd R.TIME_ANCHOR_NS + 1000000 ≤ (at_ 1000000 up).epoch := by decide +kernel

/-! ### WatchEventsComplete -/

theorem wit_ceWindow : (at_ 1000000000000000 up).busy = false ∧ (at_ 1000000000000000 up).coreOn = true ∧ (at_ 1000000000000000 up).ceWindow ≠ (at_ 1000000000000000 up).watch.ceWin := by decide +kernel

/-- Source 309 escalates with a grace timer that has run out. -/
def graced : State := (up.wr R.WATCH_SRC_STATUS.LADDER Ladder.running 309).updWatch (fun w => { w with timers := [(309, 0)] })

theorem wit_grace : graced.coreOn = true ∧ Tab.get? graced.watch.timers 309 = some 0 ∧ 0 ≤ graced.now ∧ graced.ladder 309 = Ladder.running := by decide +kernel

/-- Unit 147 is in reset since time 0. -/
def resetting : State := (up.wr R.WATCH_RU_STATUS.STATE Unit.resetting 147).updWatch (fun w => { w with unitAt := [(147, 0)] })

theorem wit_unitReset_end : resetting.coreOn = true ∧ unitUsed 147 = true ∧ resetting.unitState 147 = Unit.resetting ∧ Tab.get? (at_ 1000000000000 resetting).watch.unitAt 147 = some 0 ∧
    0 + 2 * unitLimitNs 147 ≤ (at_ 1000000000000 resetting).now := by decide +kernel
def shadowed (n : Nat) : State := up.updWatch (fun w => { w with shadows := [{ unit := n, link := 0, logged := 0, closeAt := some 0 }] })

theorem wit_shadow : (shadowed 0).busy = false ∧ (shadowed 0).watch.shadows.find? (fun x => x.unit == 0) = some { unit := 0, link := 0, logged := 0, closeAt := some 0 } ∧ 0 ≠ packageWindow ∧
    (shadowed packageWindow).watch.shadows.find? (fun x => x.unit == packageWindow) = some { unit := packageWindow, link := 0, logged := 0, closeAt := some 0 } := by decide +kernel
theorem wit_warmLimit : ((up.wr R.WATCH_STATUS.WARM_WATCH 1).updWatch (fun w => { w with warmAt := some 0 })).watch.warmAt = some 0 ∧
    ((up.wr R.WATCH_STATUS.WARM_WATCH 1).updWatch (fun w => { w with warmAt := some 0 })).rd R.WATCH_STATUS.WARM_WATCH = 1 := by decide +kernel

/-! ### TestPortCommandsComplete -/

def tapped : State := { up with tap := { up.tap with up := true } }
def tappedOpen : State := tapped.wr R.SEC_PORT.PORT_OPEN 1

theorem wit_tap : tapped.tapAnswers = true ∧ tapped.busy = false ∧ tapped.portOpen = false ∧ tapped.sec.opening = false := by decide +kernel
theorem wit_tapOpen : tappedOpen.tapAnswers = true ∧ tappedOpen.busy = false ∧ tappedOpen.portOpen = true ∧ tappedOpen.tap.res ≠ 1 ∧ dbgOp 2 ≠ 0 ∧ dbgOp 3 = 0 := by decide +kernel
theorem wit_openComplete : ({ tapped with sec := { tapped.sec with opening := true }, pwr := { tapped.pwr with corePg := false, pstate := .noPwr } } : State).tapAnswers = true ∧
    ((({ tapped with sec := { tapped.sec with opening := true }, pwr := { tapped.pwr with corePg := false, pstate := .noPwr } } : State).destroyBank.updSec (fun x => { x with opening := false })).wr
      R.SEC_PORT.OPEN_BUSY 0).coreOn = false := by decide +kernel

/-! ### TwoWireAndConsoleEventsComplete -/

/-- The target answers, and a reply of 32 bytes is staged; the mailbox lives. -/
def bussed : State := ((up.wr R.MGMT_TGT_STATUS.MBOX_LIVE 1).wr R.MGMT_TGT_STATUS.ALERT 1).updBus (fun b => { b with answers := true, reply := some (List.replicate 32 1) })

theorem wit_target : bussed.busView.tgtFree = true ∧ bussed.busView.mboxBusy = false ∧ bussed.busView.bus.reply = some (List.replicate 32 1) ∧ bussed.busView.rd R.MGMT_TGT_STATUS.ALERT = 1 ∧
    bussed.busView.pecOk [3, 1] none = true ∧ ((bussed.busView.updBus (fun b => { b with reply := none })).wr R.MGMT_TGT_STATUS.REPLY_READY 0).alertCheck.mboxLive = true := by decide +kernel
def stretched : State := at_ 10000000 (bussed.updBus (fun b => { b with stretch := some { since := 0, count := 64, entry := [], pec := none } }))

theorem wit_stretch : stretched.busView.bus.stretch = some { since := 0, count := 64, entry := [], pec := none } ∧ 0 + 10000000 ≤ stretched.busView.now ∧ bussed.busView.bus.answers = true ∧ bussed.busView.bus.stretch.isSome = false := by
  decide +kernel

/-- Queue pair 4,095 is LIVE with rings in cached lines; one entry is staged, and one reply waits. -/
def mailed : State :=
  let s := ((((bussed.wr R.TCI_QP_ATTR.STATE qpLive mgmtQp).wr R.TCI_QP_SIZE.SQ_LOG2 4 mgmtQp).wr R.TCI_QP_SIZE.RQ_LOG2 4 mgmtQp).wr R.TCI_QP_PTR.RQ_TAIL 1 mgmtQp).cputLine 0 line0
  s.updBus (fun b => { b with stage := some (List.replicate 64 3), reply := none })

theorem wit_mailbox : mailed.coreOn = true ∧ mailed.bus.stage = some (List.replicate 64 3) ∧ mailed.mboxLive = true ∧ mailed.qpState mgmtQp = qpLive ∧ mailed.sqWait mgmtQp < 15 ∧
    (mailed.cacheWrite mailboxEngine (mailed.sqBase mgmtQp + mailed.rd R.TCI_QP_PTR.SQ_TAIL mgmtQp * 64) (List.replicate 64 3)).2 = true := by decide +kernel
theorem wit_mailbox_reply : mailed.bus.reply = none ∧ mailed.repliesWaiting ≠ 0 ∧ (mailed.cacheRead mailboxEngine (mailed.rqBase mgmtQp + mailed.rd R.TCI_QP_PTR.RQ_HEAD mgmtQp * 32) 32).2 = some (List.replicate 32 0, false) := by
  decide +kernel

/-- The controller with one sensor. -/
def controlled : State := at_ 1000000 ((up.wr R.MGMT_CTL_CFG.ENABLE 1).wr R.MGMT_CTL_DEV.ENABLE 1 15)

theorem wit_round : controlled.pwr.pstate = .flight ∧ controlled.rd R.MGMT_CTL_CFG.ENABLE ≠ 0 ∧ controlled.epoch / 1000000 ≠ controlled.bus.roundMs ∧
    (controlled.roundEntries.foldl (fun (x : State) i => x.ctlAttempt [] i) (controlled.wr R.MGMT_CTL_STATUS.LATE (b2n (decide (10 ≤ controlled.epoch % 1000000))))).nextSensor = some 15 := by decide +kernel
theorem wit_uartFraming : uartReceive false ((chars 0xA5).take 144 ++ List.replicate 16 false) = .framing ∧ (up.wr R.MGMT_UART_CFG.ENABLE 1 1).uartOn 1 = true ∧ ((up.setUart 1 { up.uart 1 with line := some 5 }).uart 1).line = some 5 := by decide +kernel

/-! ### PowerPinAndResetEventsComplete -/

def off : State := up.updPwr (fun p => { p with pstate := .off, pwrOk := false, corePg := false })

theorem wit_perchPower : off.pwr.pstate = .off ∧ up.pwr.pstate ≠ .off := by decide +kernel
theorem wit_perchStartup : (at_ 2000000 up).pwr.perchUpAt + 2000000 ≤ (at_ 2000000 up).now ∧ up.sec.nonceWait = false ∧ up.busy = false ∧ up.pwr.pwrOkPend = false ∧
    ((at_ 2000000 up).updPwr (fun p => { p with pwrOkPend := true })).pwr.pwrOkPend = true := by decide +kernel
theorem wit_pwrOk : (up.updPwr (fun p => { p with pwrOk := false })).pwr.pwrOk = false ∧ up.now < up.pwr.perchUpAt + 2000000 ∧ up.pwr.perchUpAt + 2000000 ≤ (at_ 2000000 up).now ∧ up.pwr.pwrOk = true := by decide +kernel
theorem wit_corePg : ((up.updPwr (fun p => { p with corePg := false })).wr R.PWR_PERCH_STATE.CORE_EN 1).rd R.PWR_PERCH_STATE.CORE_EN = 1 ∧ up.pwr.corePg = true := by decide +kernel
theorem wit_pllLock : ((up.updPwr (fun p => { p with pstate := .noPwr })).wr R.PWR_PERCH_STATE.CORE_EN 1).pwr.pstate = .noPwr ∧
    (((up.updPwr (fun p => { p with pstate := .waking })).updTime (fun t => { t with fastRun := false })).wr R.PWR_PERCH_STATE.CORE_EN 1).time.fastRun = false := by decide +kernel
theorem wit_resetN : (up.updPwr (fun p => { p with resetN := true })).pwr.resetN = true ∧ (up.updPwr (fun p => { p with resetN := true })).coreOn = true ∧ (off.updPwr (fun p => { p with pstate := .noPwr })).coreOn = false ∧
    (off.updPwr (fun p => { p with pstate := .noPwr })).busy = false := by decide +kernel
theorem wit_straps : (up.updTop (fun t => { t with idValid := true })).busy = false ∧ (up.updTop (fun t => { t with idValid := true })).top.idValid = true ∧ (up.top.trayPins, up.top.selPins) ≠ (15 % 16, 3 % 4) := by decide +kernel
theorem wit_warmReset : (up.updPwr (fun p => { p with warmAt := some 0 })).pwr.warmAt = some 0 ∧ (up.updPwr (fun p => { p with warmAt := some 0 })).coreOn = true := by decide +kernel

/-! ### BringUpEventsComplete -/

def boot (g : Stage) : State := up.updBoot (fun b => { b with stage := g, tirloRuns := true })

/-- The image's signature check is a free value; the rest of the first clause holds. -/
theorem wit_bootRom : (boot .rom).boot.stage = .rom ∧ ((boot .rom).d2dTrain []).tampered = false ∧ ((boot .rom).d2dTrain []).liveSensors = 0 := by decide +kernel
theorem wit_bootWarm : ((boot .resetting).updBoot (fun b => { b with warm := true })).boot.warm = true ∧ (boot .resetting).pwr.warmHold = false ∧ (boot .resetting).coreOn = true := by decide +kernel
theorem wit_hbmTraining : ((boot .tirlo).wr R.HBM_STK_STATUS.STATE stkTraining 7).stkState 7 = stkTraining ∧ (boot .tirlo).boot.stage = .tirlo ∧ Tab.get (boot .tirlo).boot.trainTries 7 0 = 0 ∧
    Tab.get ((boot .tirlo).updBoot (fun b => { b with trainTries := [(7, 1)] })).boot.trainTries 7 0 ≠ 0 := by decide +kernel
theorem wit_roostTraining : ((boot .tirlo).wr R.ROOST_BR_STATUS.STATE brTraining 0).roostTrained = false ∧ (boot .tirlo).boot.warm = false := by decide +kernel
theorem wit_selfTest : (boot .tirlo).busy = false ∧ (boot .tirlo).boot.selfTest = false := by decide +kernel
theorem wit_revalidation : ((boot .ready).updBoot (fun b => { b with reval := true })).boot.tirloRuns = true ∧ (boot .ready).allStacks = true := by decide +kernel

/-- Everything that READY waits for has come. -/
def ripe : State :=
  ((((boot .tirlo).wr R.ROOST_BR_STATUS.STATE brReady 0).wr R.ROOST_BR_STATUS.STATE brReady 1).wr R.CRYPT_STATUS.STATE cryptReadySt).updBoot (fun b => { b with keyTable := true, selfTest := true, slotsHad := List.range 64 })

theorem wit_tciReady : ripe.pwr.pstate ≠ .waking ∧ ripe.boot.stage = .tirlo ∧ ripe.readyOk = true ∧ ripe.boot.warm = false := by decide +kernel

/-- D2D link 9 up, with a run of failures. -/
def d2d (r : D2dRun) : State := (up.wr R.TOP_D2D_STATUS.LINK_UP 0x3FF).updTop (fun t => { t with runs := [(9, r)] })

theorem wit_d2d : natBit ((d2d ⟨6, 0⟩).rd R.TOP_D2D_STATUS.LINK_UP) 9 = true ∧ (d2d ⟨6, 0⟩).busy = false ∧ Tab.get? (d2d ⟨6, 0⟩).top.runs 9 = some ⟨6, 0⟩ ∧ Tab.get? (d2d ⟨7, 0⟩).top.runs 9 = some ⟨7, 0⟩ ∧
    0 + 2000 ≤ (at_ 2000 (d2d ⟨7, 0⟩)).now := by decide +kernel
theorem wit_pcieLinkUp : (up.updPwr (fun p => { p with perstN := true })).busy = false ∧ (up.updPwr (fun p => { p with perstN := true })).pwr.perstN = true := by decide +kernel

end Sys2Proof.Tests
end

section
/-! PROOF. Register writes that are admitted in a package at rest: the state that stores the value, and what it leaves. -/

namespace Sys2Proof.Machine

/-! ### The state that stores a value (R5, R7) -/

/-- The register reads as stored. -/
theorem State.csrAt_stored_self {s : State} (h : Tab.wf s.csr = true) (a : Nat) (v : Word) (m : Master) : (s.stored a v m).csrAt a = v := by
  rw [State.stored, State.emit_csrAt, State.csrAt_csrPut_self h]

/-- Every other register reads as before. -/
theorem State.csrAt_stored_ne {s : State} (h : Tab.wf s.csr = true) {a b : Nat} (v : Word) (m : Master) (hb : b ≠ a) : (s.stored a v m).csrAt b = s.csrAt b := by
  rw [State.stored, State.emit_csrAt, State.csrAt_csrPut_ne h v hb]

/-- What a read of memory finds does not depend on the registers or on what has been put out. -/
theorem State.byteAt_stored (s : State) (a : Nat) (v : Word) (m : Master) (x : Nat) : (s.stored a v m).byteAt x = s.byteAt x := rfl

/-- A stored value changes the registers and puts out a completion. -/
theorem State.stored_only (s : State) (a : Nat) (v : Word) (m : Master) : s.stored a v m = { s with csr := (s.stored a v m).csr, out := .done m [] :: s.out } := rfl

/-! ### An admitted write that stores -/

/-- The outcome of an admitted write whose act is to store `v`. -/
theorem fin_csrWrite_stores {s : State} {a : Nat} {w : CsrWr} {f : State → State} {v : Word} (h : s.Admits a w) (hf : f s = s.csrPut a v) :
    fin s (s.csrWrite a w f) = .next (s.stored a v w.m) := fin_csrWrite h hf (s.csrPut_busy a v) (s.csrPut_pending a v)

/-- The same for a register that only WARDEN_CORE at privilege F writes. -/
theorem fin_csrWriteF_stores {s : State} {a : Nat} {w : CsrWr} {f : State → State} {v : Word} (h : s.Admits a w) (hm : w.m.isWardenF = true) (hf : f s = s.csrPut a v) :
    fin s (s.csrWriteF a w f) = .next (s.stored a v w.m) := fin_csrWriteF h hm hf (s.csrPut_busy a v) (s.csrPut_pending a v)

/-- A register with no act of its own takes the merged value (R6, R7), where its writer is not refused. -/
theorem fin_otherWrite_stores {s : State} {a : Nat} {w : CsrWr} (h : s.Admits a w) (hF : onlyF a = true → w.m.isWardenF = true) :
    fin s (s.otherWrite a w) = .next (s.stored a (s.csrMerged a w) w.m) := by
  unfold State.otherWrite
  by_cases ho : onlyF a = true
  · rw [if_pos ho]; exact fin_csrWriteF_stores h (hF ho) rfl
  · rw [if_neg ho]; exact fin_csrWrite_stores h rfl

/-! ### Configuration writes inside their bounds -/

theorem exec_hbmPcCfgWrite_stores {s : State} {st p : Nat} {w : CsrWr} (hst : st < 8) (hp : p < 64) (h : s.Admits (R.HBM_PC_CFG.addr st p 0) w)
    (hok : pcCfgOk (s.merged R.HBM_PC_CFG w st p) = true) :
    exec (.hbmPcCfgWrite st p w) s = .next (s.stored (R.HBM_PC_CFG.addr st p 0) (s.merged R.HBM_PC_CFG w st p) w.m) := by
  change fin s (if pcOk st p then s.pcCfgWrite st p w else s) = _
  rw [if_pos (by simp [pcOk, hst, hp])]
  exact fin_csrWrite_stores h (if_pos hok)

theorem exec_hbmStkCfgWrite_stores {s : State} {st : Nat} {w : CsrWr} (hst : st < 8) (h : s.Admits (R.HBM_STK_CFG.addr st 0 0) w) (hoff : s.stkState st = stkOff) :
    exec (.hbmStkCfgWrite st w) s = .next (s.stored (R.HBM_STK_CFG.addr st 0 0) (s.merged R.HBM_STK_CFG w st) w.m) := by
  change fin s (if st < 8 then s.stkCfgWrite st w else s) = _
  rw [if_pos hst]
  exact fin_csrWrite_stores h (if_pos hoff)

theorem exec_hbmThermCfgWrite_stores {s : State} {st : Nat} {w : CsrWr} (hst : st < 8) (h : s.Admits (R.HBM_STK_THERM_CFG.addr st 0 0) w)
    (hok : thermCfgOk (s.merged R.HBM_STK_THERM_CFG w st) = true) :
    exec (.hbmThermCfgWrite st w) s = .next (s.stored (R.HBM_STK_THERM_CFG.addr st 0 0) (s.merged R.HBM_STK_THERM_CFG w st) w.m) := by
  change fin s (if st < 8 then s.thermCfgWrite st w else s) = _
  rw [if_pos hst, State.thermCfgWrite]
  exact fin_csrWrite_stores h (if_pos hok)

theorem exec_roostChCfgWrite_stores {s : State} {ch : Nat} {w : CsrWr} (hch : ch < 8) (h : s.Admits (R.ROOST_CH_CFG.addr ch 0 0) w)
    (hok : chCfgOk (s.merged R.ROOST_CH_CFG w ch) = true) :
    exec (.roostChCfgWrite ch w) s = .next (s.stored (R.ROOST_CH_CFG.addr ch 0 0) (s.merged R.ROOST_CH_CFG w ch) w.m) := by
  change fin s (if ch < 8 then s.chCfgWrite ch w else s) = _
  rw [if_pos hch]
  exact fin_csrWrite_stores h (if_pos hok)

/-- PWR_CAP takes its value clamped (R332). -/
theorem exec_pwrCapWrite_stores {s : State} {w : CsrWr} (h : s.Admits (R.PWR_CAP.addr 0 0 0) w) :
    exec (.pwrCapWrite w) s = .next (s.stored (R.PWR_CAP.addr 0 0 0) (capClamp (s.merged R.PWR_CAP w)) w.m) :=
  fin_csrWrite_stores h rfl

theorem exec_pwrCfgWrite_stores {s : State} {which : PwrCfg} {w : CsrWr} (h : s.Admits (cfgAddr which) w) (hok : cfgOk which (s.csrMerged (cfgAddr which) w) = true) :
    exec (.pwrCfgWrite which w) s = .next (s.stored (cfgAddr which) (s.csrMerged (cfgAddr which) w) w.m) :=
  fin_csrWrite_stores h (if_pos hok)

theorem exec_mgmtTgtCfgWrite_stores {s : State} {w : CsrWr} (h : s.Admits (R.MGMT_TGT_CFG.addr 0 0 0) w) (hm : w.m.isWardenF = true) :
    exec (.mgmtTgtCfgWrite w) s = .next (s.stored (R.MGMT_TGT_CFG.addr 0 0 0) (s.merged R.MGMT_TGT_CFG w) w.m) :=
  fin_otherWrite_stores h fun _ => hm

theorem exec_flashProtectWrite_stores {s : State} {w : CsrWr} (h : s.Admits (R.MEWS_FLASH_PROTECT.addr 0 0 0) w) (hm : w.m.isWardenF = true) :
    exec (.flashProtectWrite w) s = .next (s.stored (R.MEWS_FLASH_PROTECT.addr 0 0 0) (s.merged R.MEWS_FLASH_PROTECT w) w.m) :=
  fin_otherWrite_stores h fun _ => hm

theorem exec_mgmtCtlCfgWrite_stores {s : State} {w : CsrWr} (h : s.Admits (R.MGMT_CTL_CFG.addr 0 0 0) w) (hm : w.m.isWardenF = true)
    (hok : s.ctlCfgOk (s.merged R.MGMT_CTL_CFG w) none = true) :
    exec (.mgmtCtlCfgWrite none w) s = .next (s.stored (R.MGMT_CTL_CFG.addr 0 0 0) (s.merged R.MGMT_CTL_CFG w) w.m) := by
  change fin s (if (none : Option Nat).getD 0 < 16 then s.ctlCfgWrite none w else s) = _
  rw [if_pos (by decide)]
  exact fin_csrWriteF_stores h hm (if_pos hok)

theorem exec_mgmtCtlDevWrite_stores {s : State} {i : Nat} {w : CsrWr} (hi : i < 16) (h : s.Admits (R.MGMT_CTL_DEV.addr i 0 0) w) (hm : w.m.isWardenF = true)
    (hok : s.ctlCfgOk (s.csrAt (R.MGMT_CTL_CFG.addr 0 0 0)) (some (i, s.merged R.MGMT_CTL_DEV w i)) = true) :
    exec (.mgmtCtlCfgWrite (some i) w) s = .next (s.stored (R.MGMT_CTL_DEV.addr i 0 0) (s.merged R.MGMT_CTL_DEV w i) w.m) := by
  change fin s (if i < 16 then s.ctlCfgWrite (some i) w else s) = _
  rw [if_pos hi]
  exact fin_csrWriteF_stores h hm (if_pos hok)

theorem exec_sourceCfgWrite_stores {s : State} {n : Nat} {w : CsrWr} (hn : srcUsed n = true) (h : s.Admits (R.WATCH_SRC_CFG.addr n 0 0) w)
    (hF : written w R.WATCH_SRC_CFG.FORCE = 0) (hok : srcCfgOk (s.merged R.WATCH_SRC_CFG w n) = true) :
    exec (.sourceCfgWrite n w) s = .next (s.stored (R.WATCH_SRC_CFG.addr n 0 0) (s.merged R.WATCH_SRC_CFG w n) w.m) := by
  have hlt : n < 512 := by simp only [srcUsed, decide_eq_true_eq] at hn; omega
  change fin s (if n < 512 ∧ written w R.WATCH_SRC_CFG.FORCE = 0 then s.srcCfg n w else s) = _
  rw [if_pos ⟨hlt, hF⟩]
  exact fin_csrWrite_stores h (by simp [hn, hok, hF])

/-- Settles O6: each register's write is an admitted write that stores. -/
theorem acceptedConfigurationIsStored : Obligations.AcceptedConfigurationIsStored := fun _ _ =>
  ⟨fun _ _ => exec_hbmPcCfgWrite_stores, fun _ => exec_hbmStkCfgWrite_stores, fun _ => exec_hbmThermCfgWrite_stores, fun _ => exec_roostChCfgWrite_stores,
    exec_pwrCapWrite_stores, fun _ => exec_pwrCfgWrite_stores, exec_mgmtTgtCfgWrite_stores, exec_mgmtCtlCfgWrite_stores, fun _ => exec_mgmtCtlDevWrite_stores,
    exec_flashProtectWrite_stores, fun _ => exec_sourceCfgWrite_stores⟩

/-- Settles O7: the rules of the stored value, for any register and for PWR_CAP_WRITE. -/
theorem writeReadsBackAndLeavesTheRest : Obligations.WriteReadsBackAndLeavesTheRest := by
  refine ⟨fun s a v m hs => ⟨State.csrAt_stored_self hs.csr a v m, fun b hb => State.csrAt_stored_ne hs.csr v m hb, s.byteAt_stored a v m, s.stored_only a v m⟩, fun s w hs hw => ?_⟩
  exact ⟨_, exec_pwrCapWrite_stores hw, State.csrAt_stored_self hs.csr _ _ _, fun b hb => State.csrAt_stored_ne hs.csr _ _ hb, s.byteAt_stored _ _ _⟩

end Sys2Proof.Machine
end

section
/-! PROOF. Reads of registers: what a load by each width and half answers, and what it does to the SNAP latches (R10, R11). -/

namespace Sys2Proof.Machine

/-! ### What a load of a register answers and leaves -/

/-- An admitted load answers the value that the register gives up, little-endian. -/
theorem State.csrLoad_admitted {s t : State} {a : Nat} {m : Master} {size sub v : Nat} (h : s.csrGate a .r m size sub true = none)
    (ht : s.csrTake a m.id size sub = (t, v)) : s.csrLoad a m size sub = t.emit (.done m ((leBytes size v).map BitVec.toNat)) := by
  simp only [State.csrLoad, h, ht]

/-- A 64-bit read takes the live value and touches no latch. -/
theorem State.csrTake_wide (s : State) {a : Nat} (hu : R.MGMT_UART_DATA.at1 2 a = none) (id sub : Nat) : s.csrTake a id 8 sub = (s, (s.csrValue a).toNat) := by
  simp [State.csrTake, hu]

/-- A read of a SNAP register's lower half captures the upper half (R10). -/
theorem State.csrTake_snapLower (s : State) {a : Nat} {r : RegInfo} (hr : findReg a = some r) (hs : r.snap = true) (hu : R.MGMT_UART_DATA.at1 2 a = none) (id : Nat) :
    s.csrTake a id 4 0 = (s.snapFill a id ((s.csrValue a).toNat / 2 ^ 32), (s.csrValue a).toNat % 2 ^ 32) := by
  simp [State.csrTake, hu, hr, hs]

/-- A read of a SNAP register's upper half by the holder of a latch takes the latched value and frees the latch (R11). -/
theorem State.csrTake_snapUpper_latched {s : State} {a id : Nat} {r : RegInfo} {x : SnapLatch} (hr : findReg a = some r) (hs : r.snap = true)
    (hu : R.MGMT_UART_DATA.at1 2 a = none) (hx : s.snapOf a id = some x) : s.csrTake a id 4 4 = ({ s with snap := s.snap.filter (fun y => y != x) }, x.upper) := by
  simp [State.csrTake, hu, hr, hs, hx]

/-- Without a latch it takes the live half (R11). -/
theorem State.csrTake_snapUpper_live {s : State} {a id : Nat} {r : RegInfo} (hr : findReg a = some r) (hs : r.snap = true) (hu : R.MGMT_UART_DATA.at1 2 a = none)
    (hx : s.snapOf a id = none) : s.csrTake a id 4 4 = (s, (s.csrValue a).toNat / 2 ^ 32) := by
  simp [State.csrTake, hu, hr, hs, hx]

/-- The index that an offset was made from is found again. -/
theorem RF.at1_addr (f : RF) {n i : Nat} (hi : i < n) (hs : 0 < f.s1) : f.at1 n (f.addr i 0 0) = some i := by
  simp [RF.at1, RF.addr, Nat.mul_div_cancel i hs, hi]

/-- A read of a UART's data takes the oldest byte, with VALID, where the FIFO holds one (R413). -/
theorem State.csrTake_uart {s : State} {n b : Nat} {l : List Nat} (hn : n < 2) (hl : (s.uart n).rx = b :: l) (id size : Nat) :
    s.csrTake (R.MGMT_UART_DATA.addr n 0 0) id size 0 = ((s.setUart n { s.uart n with rx := l }).uartDone n, b + 256) := by
  simp [State.csrTake, RF.at1_addr R.MGMT_UART_DATA hn (by decide), State.uartTake, hl]

/-! ### The reads of a SNAP register in a package at rest -/

/-- The latches are not what a step waits on. -/
theorem fin_snap {s : State} (h : s.Rests) (l : List SnapLatch) (o : Out) : fin s ({ s with snap := l }.emit o) = .next { s with snap := l, out := o :: s.out } :=
  fin_rests h rfl

theorem exec_snapLowerRead {s : State} {m : Master} {a : Nat} {r : RegInfo} (h : s.Rests) (hg : s.csrGate a .r m 4 0 true = none) (hr : findReg a = some r) (hs : r.snap = true)
    (hu : R.MGMT_UART_DATA.at1 2 a = none) :
    exec (.snapLowerRead m a) s = .next ((s.snapFill a m.id ((s.csrValue a).toNat / 2 ^ 32)).emit (.done m ((leBytes 4 ((s.csrValue a).toNat % 2 ^ 32)).map BitVec.toNat))) := by
  change fin s (s.csrLoad a m 4 0) = _
  rw [State.csrLoad_admitted hg (s.csrTake_snapLower hr hs hu m.id)]
  exact fin_snap h _ _

theorem exec_snapUpperRead_latched {s : State} {m : Master} {a : Nat} {r : RegInfo} {x : SnapLatch} (h : s.Rests) (hg : s.csrGate a .r m 4 4 true = none)
    (hr : findReg a = some r) (hs : r.snap = true) (hu : R.MGMT_UART_DATA.at1 2 a = none) (hx : s.snapOf a m.id = some x) :
    exec (.snapUpperRead m a) s = .next { s with snap := s.snap.filter (fun y => y != x), out := .done m ((leBytes 4 x.upper).map BitVec.toNat) :: s.out } := by
  change fin s (s.csrLoad a m 4 4) = _
  rw [State.csrLoad_admitted hg (State.csrTake_snapUpper_latched hr hs hu hx)]
  exact fin_snap h _ _

theorem exec_snapUpperRead_live {s : State} {m : Master} {a : Nat} {r : RegInfo} (h : s.Rests) (hg : s.csrGate a .r m 4 4 true = none)
    (hr : findReg a = some r) (hs : r.snap = true) (hu : R.MGMT_UART_DATA.at1 2 a = none) (hx : s.snapOf a m.id = none) :
    exec (.snapUpperRead m a) s = .next { s with out := .done m ((leBytes 4 ((s.csrValue a).toNat / 2 ^ 32)).map BitVec.toNat) :: s.out } := by
  change fin s (s.csrLoad a m 4 4) = _
  rw [State.csrLoad_admitted hg (State.csrTake_snapUpper_live hr hs hu hx)]
  exact fin_snap h s.snap _

/-- A load of a doubleword of this package's CSR space by a master that runs is a 64-bit read of the register there. -/
theorem exec_cacheAccess_csrRead {s : State} {c : CacheAcc} {a : Nat} (hrun : s.Runs c.m) (hk : c.kind = .r) (hl : c.len = 8)
    (ha : c.addr = s.pkg * 2 ^ 50 + csrBase + a) (hlt : a < 0x100000000) (h8 : a % 8 = 0) (hp : s.pkg < 64) (hrange : rangeOf (csrBase + a) = .csr) :
    exec (.cacheAccess c) s = fin s (s.csrLoad a c.m 8 0) := by
  have hb : csrBase = 0x3F000000000 := rfl
  have hmod : c.addr % 2 ^ 50 = csrBase + a := by omega
  have hpkg : c.addr / 2 ^ 50 = s.pkg := by omega
  have hin : c.addr < 2 ^ 56 := by omega
  have hoff : a / 8 * 8 = a := by omega
  change fin s (s.byMaster c.m _) = _
  rw [State.byMaster_runs hrun]
  simp only [State.cacheAccess, hpkg, hin, hmod, hrange, hk, hl, ne_eq, not_true_eq_false, and_false, and_self, if_false, if_true, true_or, Nat.add_sub_cancel_left, hoff, h8]

/-- Settles O45: the upper half comes from the reader's latch or is live; a 64-bit read is live. -/
theorem upperHalfReadUsesTheLatch : Obligations.UpperHalfReadUsesTheLatch := by
  intro s m a r h hr hs hu
  refine ⟨fun hg => ⟨fun x hx => exec_snapUpperRead_latched h hg hr hs hu hx, exec_snapUpperRead_live h hg hr hs hu⟩, ?_⟩
  rintro c rfl hk hl ha hlt h8 hp hrun hg hrange
  rw [exec_cacheAccess_csrRead hrun hk hl ha hlt h8 hp hrange, State.csrLoad_admitted hg (s.csrTake_wide hu c.m.id 0)]
  exact fin_snap h s.snap _

/-! ### The sixteen latches of a block (R10) -/

/-- The latches of block `b`. -/
def latchesOf (b : Nat) (l : List SnapLatch) : List SnapLatch := l.filter (fun x => x.block == b)

/-- The latches but those that master `id` holds for the register at `a`. -/
def otherLatches (a id : Nat) (l : List SnapLatch) : List SnapLatch := l.filter (fun x => !(x.reg == a && x.master == id))

/-- The latches after room is made in block `b`: with sixteen filled, the one filled longest ago is given up. -/
def roomIn (b : Nat) (l : List SnapLatch) : List SnapLatch :=
  if 16 ≤ (latchesOf b l).length then (match l.find? (fun x => x.block == b) with | some o => l.filter (· != o) | none => l) else l

/-- A capture drops the master's own latch for the register, makes room in the block, and appends the new latch. -/
theorem State.snapFill_snap (s : State) (a id upper : Nat) :
    (s.snapFill a id upper).snap = roomIn (a / 0x1000000) (otherLatches a id s.snap) ++ [{ block := a / 0x1000000, reg := a, master := id, upper := upper }] := rfl

theorem roomIn_free {b : Nat} {l : List SnapLatch} (h : (latchesOf b l).length < 16) : roomIn b l = l := if_neg (Nat.not_le.mpr h)

theorem roomIn_full {b : Nat} {l : List SnapLatch} (h : 16 ≤ (latchesOf b l).length) :
    ∃ o, l.find? (fun x => x.block == b) = some o ∧ roomIn b l = l.filter (fun x => x != o) := by
  cases ho : l.find? (fun x => x.block == b) with
  | none =>
    have hnil : latchesOf b l = [] := List.filter_eq_nil_iff.mpr (List.find?_eq_none.mp ho)
    simp [hnil] at h
  | some o => exact ⟨o, rfl, by simp only [roomIn, if_pos h, ho]⟩

theorem roomIn_sublist (b : Nat) (l : List SnapLatch) : (roomIn b l).Sublist l := by
  by_cases h : 16 ≤ (latchesOf b l).length
  · obtain ⟨o, -, ho⟩ := roomIn_full h
    rw [ho]; exact List.filter_sublist
  · exact (roomIn_free (Nat.not_le.mp h)).symm ▸ List.Sublist.refl l

/-- No sublist has more latches in a block. -/
theorem latchesOf_length_le {l l' : List SnapLatch} (h : l'.Sublist l) (b : Nat) : (latchesOf b l').length ≤ (latchesOf b l).length := (h.filter _).length_le

/-- Where a block holds at most sixteen latches, room leaves it fewer. -/
theorem latchesOf_roomIn_lt {b : Nat} {l : List SnapLatch} (h : (latchesOf b l).length ≤ 16) : (latchesOf b (roomIn b l)).length < 16 := by
  by_cases hf : 16 ≤ (latchesOf b l).length
  · obtain ⟨o, ho, hroom⟩ := roomIn_full hf
    have hmem : o ∈ latchesOf b l := List.mem_filter.mpr ⟨List.mem_of_find?_eq_some ho, List.find?_some (p := fun x : SnapLatch => x.block == b) ho⟩
    have hswap : latchesOf b (roomIn b l) = (latchesOf b l).filter (fun x => x != o) := by
      rw [hroom, latchesOf, latchesOf, List.filter_filter, List.filter_filter]
      exact List.filter_congr fun x _ => Bool.and_comm ..
    have hlt : ((latchesOf b l).filter (fun x => x != o)).length < (latchesOf b l).length :=
      List.length_filter_lt_length_iff_exists.mpr ⟨o, hmem, by simp⟩
    rw [hswap]; omega
  · rw [roomIn_free (Nat.not_le.mp hf)]; exact Nat.not_le.mp hf

/-- A capture keeps at most sixteen latches in every block. -/
theorem State.snapFill_latches_le {s : State} (h : ∀ b, (latchesOf b s.snap).length ≤ 16) (a id upper b : Nat) :
    (latchesOf b (s.snapFill a id upper).snap).length ≤ 16 := by
  have hle : ∀ c, (latchesOf c (otherLatches a id s.snap)).length ≤ 16 := fun c => Nat.le_trans (latchesOf_length_le List.filter_sublist c) (h c)
  rw [State.snapFill_snap, latchesOf, List.filter_append, List.length_append, ← latchesOf]
  by_cases hb : b = a / 0x1000000
  · subst hb
    have hroom := latchesOf_roomIn_lt (hle (a / 0x1000000))
    have hone : (List.filter (fun x : SnapLatch => x.block == a / 0x1000000) [⟨a / 0x1000000, a, id, upper⟩]).length ≤ 1 := List.length_filter_le ..
    omega
  · have hsub := Nat.le_trans (latchesOf_length_le (roomIn_sublist (a / 0x1000000) (otherLatches a id s.snap)) b) (hle b)
    simpa [Ne.symm hb] using hsub

/-- After a capture the master holds what it captured. -/
theorem State.snapOf_snapFill (s : State) (a id upper : Nat) :
    (s.snapFill a id upper).snapOf a id = some { block := a / 0x1000000, reg := a, master := id, upper := upper } := by
  have hnone : (roomIn (a / 0x1000000) (otherLatches a id s.snap)).find? (fun x => x.reg == a && x.master == id) = none :=
    List.find?_eq_none.mpr fun x hx => by
      have hother := (List.mem_filter.mp ((roomIn_sublist _ _).subset hx)).2
      simpa only [Bool.not_eq_true, Bool.not_eq_true'] using hother
  rw [State.snapOf, State.snapFill_snap, List.find?_append, hnone]
  simp

/-- Settles O44: the capture replaces the reader's own latch, uses a free one, or gives up the oldest of sixteen. -/
theorem lowerHalfReadTakesALatch : Obligations.LowerHalfReadTakesALatch := by
  intro s m a r h hg hr hs hu hle
  refine ⟨_, exec_snapLowerRead h hg hr hs hu, rfl, s.snapOf_snapFill a m.id _, ?_, s.snapFill_latches_le hle a m.id _⟩
  intro l hl
  have hsnap := s.snapFill_snap a m.id ((s.csrValue a).toNat / 2 ^ 32)
  rw [show otherLatches a m.id s.snap = l from hl] at hsnap
  refine ⟨fun hfree => ?_, fun hfull => ?_⟩
  · rw [State.emit_snap, hsnap, roomIn_free hfree]
  · obtain ⟨o, ho, hroom⟩ := roomIn_full hfull
    exact ⟨o, ho, by rw [State.emit_snap, hsnap, hroom]⟩

end Sys2Proof.Machine
end

section
/-! PROOF. The rules of interrupts and of hardware-set status bits, and the events that set one. -/

namespace Sys2Proof.Machine

/-! ### Raising an identity (R297) -/

/-- An identity that is raised changes the interrupt files and the core's state only. -/
theorem State.raiseAt_only (s : State) (c f id : Nat) :
    ∃ r i, s.raiseAt c f id = { s with csr := r, mews := { s.mews with imsic := i } } := by
  unfold State.raiseAt
  split
  · exact ⟨s.csr, s.mews.imsic, rfl⟩
  · split
    · exact ⟨_, _, rfl⟩
    · exact ⟨s.csr, _, rfl⟩

theorem State.raiseAt_csr_wf {s : State} (h : Tab.wf s.csr = true) (c f id : Nat) : Tab.wf (s.raiseAt c f id).csr = true := by
  unfold State.raiseAt
  split
  · exact h
  · split
    · exact State.wr_csr_wf h _ 1 c 0 0
    · exact h

/-- A register other than the core's status reads as before. -/
theorem State.raiseAt_csrAt_ne {s : State} (h : Tab.wf s.csr = true) {c b : Nat} (f id : Nat) (hb : b ≠ R.MEWS_CORE_STATUS.STATE.addr c 0 0) :
    (s.raiseAt c f id).csrAt b = s.csrAt b := by
  unfold State.raiseAt
  split
  · rfl
  · split
    · exact State.csrAt_wr_ne h _ 1 c 0 0 hb
    · rfl

/-- What each raise at a warden core keeps, the raise at the cores of the mask keeps. -/
theorem State.raiseWarden_keeps {P : State → Prop} {s : State} (id : Nat) (h : P s) (step : ∀ (t : State) (c : Nat), c < 4 → P t → P (t.raiseAt c 0 id)) : P (s.raiseWarden id) := by
  unfold State.raiseWarden
  refine List.foldlRecOn (List.range 4) _ h fun t ht c hc => ?_
  split
  · exact step t c (List.mem_range.mp hc) ht
  · exact ht

/-- Warden identities change the interrupt files and the cores' states only. -/
theorem State.raiseWarden_only (s : State) (id : Nat) : ∃ r i, s.raiseWarden id = { s with csr := r, mews := { s.mews with imsic := i } } := by
  refine State.raiseWarden_keeps (P := fun t => ∃ r i, t = { s with csr := r, mews := { s.mews with imsic := i } }) id ⟨s.csr, s.mews.imsic, rfl⟩ ?_
  rintro _ c - ⟨r, i, rfl⟩
  exact State.raiseAt_only _ c 0 id

theorem State.raiseWarden_csr_wf {s : State} (h : Tab.wf s.csr = true) (id : Nat) : Tab.wf (s.raiseWarden id).csr = true :=
  State.raiseWarden_keeps (P := fun t => Tab.wf t.csr = true) id h fun _ c _ ht => State.raiseAt_csr_wf ht c 0 id

/-- A register other than the warden cores' status reads as before. -/
theorem State.raiseWarden_csrAt_ne {s : State} (h : Tab.wf s.csr = true) (id : Nat) {b : Nat} (hb : ∀ c < 4, b ≠ R.MEWS_CORE_STATUS.STATE.addr c 0 0) :
    (s.raiseWarden id).csrAt b = s.csrAt b :=
  (State.raiseWarden_keeps (P := fun t => Tab.wf t.csr = true ∧ t.csrAt b = s.csrAt b) id ⟨h, rfl⟩ fun _ c hc ⟨hw, ht⟩ =>
    ⟨State.raiseAt_csr_wf hw c 0 id, (State.raiseAt_csrAt_ne hw 0 id (hb c hc)).trans ht⟩).2

@[simp] theorem State.raiseWarden_mem (s : State) (id : Nat) : (s.raiseWarden id).mem = s.mem := by obtain ⟨r, i, h⟩ := s.raiseWarden_only id; rw [h]
@[simp] theorem State.raiseWarden_pending (s : State) (id : Nat) : (s.raiseWarden id).pending = s.pending := by obtain ⟨r, i, h⟩ := s.raiseWarden_only id; rw [h]
/-- No identity that is raised is what a step waits on. -/
@[simp] theorem State.raiseWarden_busy (s : State) (id : Nat) : (s.raiseWarden id).busy = s.busy := by obtain ⟨r, i, h⟩ := s.raiseWarden_only id; rw [h]; rfl

/-! ### Status bits of the time block (R13) -/

section timeEvent
variable (s : State) (f cnt : RF) (n : Nat)

/-- The event is the bit's set and its count, with the identity raised or not. -/
theorem State.timeEvent_cases : s.timeEvent f cnt n = s.flag f cnt ∨ s.timeEvent f cnt n = (s.flag f cnt).raiseWarden 5 := by
  by_cases hn : natBit ((s.flag f cnt).rd R.TIME_EVENT_EN.EN) n = true
  · exact .inr (if_pos hn)
  · exact .inl (if_neg hn)

@[simp] theorem State.timeEvent_mem : (s.timeEvent f cnt n).mem = s.mem := by obtain h | h := s.timeEvent_cases f cnt n <;> simp [h]
@[simp] theorem State.timeEvent_pending : (s.timeEvent f cnt n).pending = s.pending := by obtain h | h := s.timeEvent_cases f cnt n <;> simp [h]
@[simp] theorem State.timeEvent_busy : (s.timeEvent f cnt n).busy = s.busy := by obtain h | h := s.timeEvent_cases f cnt n <;> simp [h]

variable {s}

/-- Every register but the cores' status reads as after the bit's set and its count. -/
theorem State.timeEvent_csrAt (h : Tab.wf s.csr = true) {b : Nat} (hb : ∀ c < 4, b ≠ R.MEWS_CORE_STATUS.STATE.addr c 0 0) :
    (s.timeEvent f cnt n).csrAt b = (s.flag f cnt).csrAt b := by
  obtain he | he := s.timeEvent_cases f cnt n
  · rw [he]
  · rw [he, State.raiseWarden_csrAt_ne (State.flag_csr_wf h f cnt 0 0 0) 5 hb]

theorem State.timeEvent_rd (h : Tab.wf s.csr = true) {g : RF} (hg : ∀ c < 4, g.addr 0 0 0 ≠ R.MEWS_CORE_STATUS.STATE.addr c 0 0) :
    (s.timeEvent f cnt n).rd g = (s.flag f cnt).rd g := by
  simp only [State.rd, State.timeEvent_csrAt f cnt n h hg]

/-- With its interrupt disabled the event is the bit's set and its count. -/
theorem State.timeEvent_quiet (h : Tab.wf s.csr = true) (hf : R.TIME_EVENT_EN.EN.addr 0 0 0 ≠ f.addr 0 0 0) (hc : R.TIME_EVENT_EN.EN.addr 0 0 0 ≠ cnt.addr 0 0 0)
    (hn : natBit (s.rd R.TIME_EVENT_EN.EN) n = false) : s.timeEvent f cnt n = s.flag f cnt := by
  have hen : (s.flag f cnt).rd R.TIME_EVENT_EN.EN = s.rd R.TIME_EVENT_EN.EN := by simp only [State.rd, State.flag_others h f cnt 0 0 0 hf hc]
  simp only [State.timeEvent, hen, hn, Bool.false_eq_true, if_false]

end timeEvent

/-! ### The alarm (R337) -/

/-- The state after the alarm has fired: disarmed, with ALARM set and counted. -/
def State.alarmFired (s : State) : State := (s.wr R.TIME_ALARM.ENABLE 0).timeEvent R.TIME_EVENT.ALARM R.TIME_ALARM_CNT.COUNT 5

theorem State.alarmCheck_fires {s : State} (hrun : s.time.fastRun = true) (hen : s.rd R.TIME_ALARM.ENABLE = 1) (hns : s.rd R.TIME_ALARM.NS ≤ s.epoch) :
    s.alarmCheck = s.alarmFired := if_pos ⟨hen, hns, hrun⟩

theorem State.alarmCheck_disarmed {s : State} (h : s.rd R.TIME_ALARM.ENABLE = 0) : s.alarmCheck = s := if_neg (by simp [h])

section alarmFired
variable {s : State} (h : Tab.wf s.csr = true)
include h

/-- A register outside the warden cores' status, the event and its counter reads as once the alarm is disarmed. -/
theorem State.alarmFired_csrAt {b : Nat} (hb : ∀ c < 4, b ≠ R.MEWS_CORE_STATUS.STATE.addr c 0 0) (hev : b ≠ R.TIME_EVENT.ALARM.addr 0 0 0)
    (hcnt : b ≠ R.TIME_ALARM_CNT.COUNT.addr 0 0 0) : s.alarmFired.csrAt b = (s.wr R.TIME_ALARM.ENABLE 0).csrAt b := by
  have hw := State.wr_csr_wf h R.TIME_ALARM.ENABLE 0 0 0 0
  rw [State.alarmFired, State.timeEvent_csrAt _ _ 5 hw hb, State.flag_others hw _ _ 0 0 0 hev hcnt]

theorem State.alarmFired_enable : s.alarmFired.rd R.TIME_ALARM.ENABLE = 0 := by
  rw [State.rd, State.alarmFired_csrAt h (by decide) (by decide) (by decide)]
  exact State.rd_wr_self h R.TIME_ALARM.ENABLE 0 0 0 0 (by decide)

theorem State.alarmFired_ns : s.alarmFired.rd R.TIME_ALARM.NS = s.rd R.TIME_ALARM.NS := by
  rw [State.rd, State.alarmFired_csrAt h (by decide) (by decide) (by decide)]
  exact State.rd_wr_beside h R.TIME_ALARM.ENABLE R.TIME_ALARM.NS 0 0 0 0 0 0 0 rfl (by decide)

theorem State.alarmFired_alarm : s.alarmFired.rd R.TIME_EVENT.ALARM = 1 := by
  have hw := State.wr_csr_wf h R.TIME_ALARM.ENABLE 0 0 0 0
  rw [State.alarmFired, State.timeEvent_rd _ _ 5 hw (by decide)]
  exact State.flag_bit hw R.TIME_EVENT.ALARM R.TIME_ALARM_CNT.COUNT 0 0 0 (by decide) (by decide)

theorem State.alarmFired_count : s.alarmFired.rd R.TIME_ALARM_CNT.COUNT = (s.rd R.TIME_ALARM_CNT.COUNT + 1) % 2 ^ 32 := by
  have hw := State.wr_csr_wf h R.TIME_ALARM.ENABLE 0 0 0 0
  rw [State.alarmFired, State.timeEvent_rd _ _ 5 hw (by decide), State.flag_count hw _ _ 0 0 0 (by decide) (by decide),
    State.rd_wr_ne h _ _ 0 0 0 0 0 0 0 (by decide)]
  rfl

/-- With the alarm's interrupt disabled three registers change, and nothing but registers. -/
theorem State.alarmFired_quiet (hq : natBit (s.rd R.TIME_EVENT_EN.EN) 5 = false) :
    s.alarmFired = (s.wr R.TIME_ALARM.ENABLE 0).flag R.TIME_EVENT.ALARM R.TIME_ALARM_CNT.COUNT := by
  refine State.timeEvent_quiet _ _ 5 (State.wr_csr_wf h R.TIME_ALARM.ENABLE 0 0 0 0) (by decide) (by decide) ?_
  rwa [State.rd_wr_ne h _ _ 0 0 0 0 0 0 0 (by decide)]

end alarmFired

/-- Settles O48: the alarm fires as an event of the time block, and a disarmed alarm does not fire. -/
theorem alarmFiresOnceAndDisarms : Obligations.AlarmFiresOnceAndDisarms := by
  intro s hs h hrun hen hns
  have hcsr := hs.csr
  have hrest : s.alarmFired.busy = false := by simpa [State.alarmFired] using h.busy
  have hfire : exec .timeAlarmExpiry s = .next s.alarmFired := by
    change fin s s.alarmCheck = _
    rw [State.alarmCheck_fires hrun hen hns]
    exact fin_rests hrest (by simp [State.alarmFired])
  have hagain : exec .timeAlarmExpiry s.alarmFired = .next s.alarmFired := by
    change fin s.alarmFired s.alarmFired.alarmCheck = _
    rw [State.alarmCheck_disarmed (State.alarmFired_enable hcsr)]
    exact fin_rests hrest rfl
  have hmem : s.alarmFired.mem = s.mem := by simp [State.alarmFired]
  refine ⟨_, hfire, State.alarmFired_enable hcsr, State.alarmFired_ns hcsr, State.alarmFired_alarm hcsr, State.alarmFired_count hcsr, hmem, hagain, fun hq => ?_⟩
  rw [State.alarmFired_quiet hcsr hq]
  refine ⟨rfl, fun a ha hev hcnt => ?_⟩
  exact (State.flag_others (State.wr_csr_wf hcsr _ 0 0 0 0) R.TIME_EVENT.ALARM R.TIME_ALARM_CNT.COUNT 0 0 0 hev hcnt).trans (State.csrAt_wr_ne hcsr R.TIME_ALARM.ENABLE 0 0 0 0 ha)

/-! ### A flash command while one runs (R299) -/

/-- Ignored but for FLASH_ERR and its counter. -/
theorem State.flashCmdWrite_busy {s : State} {w : CsrWr} (h : s.Admits (R.MEWS_FLASH_CMD.addr 0 0 0) w) (hm : w.m.isWardenF = true)
    (hbusy : s.rd R.MEWS_FLASH_STATUS.BUSY = 1) (hgo : written w R.MEWS_FLASH_CMD.GO = 1) (hop : written w R.MEWS_FLASH_CMD.OP < 3) :
    fin s (s.flashCmdWrite w) = .next ((s.flag R.MEWS_EVENT.FLASH_ERR R.MEWS_FLASH_ERR_CNT.COUNT).emit (.done w.m [])) :=
  fin_csrWriteF h hm (by rw [if_pos ⟨hgo, hop⟩, State.flashGo, if_pos hbusy]) (s.flag_busy _ _ 0 0 0) (s.flag_pending _ _ 0 0 0)

/-- Settles O46: each of the three rows is that write. -/
theorem flashCommandWhileBusyIsIgnored : Obligations.FlashCommandWhileBusyIsIgnored := by
  intro s w op hs h hm hgo hop hlt hbusy
  have hact := State.flashCmdWrite_busy h hm hbusy hgo (by omega)
  have hrow : ∀ k, op = k → fin s (if written w R.MEWS_FLASH_CMD.GO = 1 ∧ written w R.MEWS_FLASH_CMD.OP = k then s.flashCmdWrite w else s) =
      .next ((s.flag R.MEWS_EVENT.FLASH_ERR R.MEWS_FLASH_ERR_CNT.COUNT).emit (.done w.m [])) := by
    rintro k rfl
    rw [if_pos ⟨hgo, hop⟩, hact]
  refine ⟨_, hrow 0, hrow 1, hrow 2, ?_, ?_, fun a ha hc => ?_, rfl⟩
  · exact State.flag_bit hs.csr R.MEWS_EVENT.FLASH_ERR R.MEWS_FLASH_ERR_CNT.COUNT 0 0 0 (by decide) (by decide)
  · exact State.flag_count hs.csr R.MEWS_EVENT.FLASH_ERR R.MEWS_FLASH_ERR_CNT.COUNT 0 0 0 (by decide) (by decide)
  · exact State.flag_others hs.csr R.MEWS_EVENT.FLASH_ERR R.MEWS_FLASH_ERR_CNT.COUNT 0 0 0 ha hc

end Sys2Proof.Machine
end

section
/-! PROOF. The security and console registers, and the write of any register by its offset. -/

namespace Sys2Proof.Machine

/-! ### Security registers (R377, R383) -/

/-- A target above OTP_SVN, and at most the image's and 64, is stored. -/
theorem State.svnAdvance_stores {s : State} {n : Nat} (himg : n ≤ s.rd R.SEC_STATUS.IMAGE_SVN) (h64 : n ≤ 64) (habove : s.sec.svn < n) :
    s.svnAdvance n = (s.updSec (fun x => { x with svn := n })).wr R.SEC_STATUS.OTP_SVN n := if_neg (by omega)

theorem exec_svnAdvance {s : State} {w : CsrWr} (h : s.Admits (R.SEC_SVN_ADVANCE.addr 0 0 0) w) (hm : w.m.isWardenF = true)
    (himg : written w R.SEC_SVN_ADVANCE.TARGET ≤ s.rd R.SEC_STATUS.IMAGE_SVN) (h64 : written w R.SEC_SVN_ADVANCE.TARGET ≤ 64)
    (habove : s.sec.svn < written w R.SEC_SVN_ADVANCE.TARGET) :
    exec (.svnAdvance w) s = .next (((s.updSec (fun x => { x with svn := written w R.SEC_SVN_ADVANCE.TARGET })).wr R.SEC_STATUS.OTP_SVN
      (written w R.SEC_SVN_ADVANCE.TARGET)).emit (.done w.m [])) :=
  fin_csrWriteF h hm (State.svnAdvance_stores himg h64 habove) (by simp) (by simp)

/-- In an open service window the mask is stored, and the sensors' levels are looked at under it. -/
theorem State.maskWrite_open {s : State} {w : CsrWr} (h : s.Admits (R.SEC_TAMPER_MASK.addr 0 0 0) w) (hm : w.m.isWardenF = true) (hopen : s.portOpen = true) {v : State}
    (hv : v = s.csrPut (R.SEC_TAMPER_MASK.addr 0 0 0) (s.merged R.SEC_TAMPER_MASK w)) :
    s.maskWrite w = (v.sensorsAre (v.rd R.SEC_TAMPER.LIVE) false).emit (.done w.m []) := by
  subst hv
  rw [State.maskWrite, State.csrWriteF_admitted h.gate hm]
  simp only [hopen, Bool.not_true, Bool.false_eq_true, if_false]

/-- Levels under which no unmasked sensor asserts are recorded, and that is all. -/
theorem State.sensorsAre_quiet {s : State} {l : Nat} (hon : s.pwr.pstate ≠ .off) (hl : (s.wr R.SEC_TAMPER.LIVE (l % 32)).liveSensors = 0) (bankDone : Bool) :
    s.sensorsAre l bankDone = s.wr R.SEC_TAMPER.LIVE (l % 32) := (if_neg hon).trans (if_pos hl)

/-! ### UART data (R413) -/

/-- An admitted write to a UART's page acts: UART1's by any master, UART0's by WARDEN_CORE at privilege F (R415). -/
theorem State.uartWrite_admitted {s : State} {n a : Nat} {w : CsrWr} (h : s.csrGate a .w w.m w.size w.sub w.plain = none) (hm : n = 1 ∨ w.m.isWardenF = true) (f : State → State) :
    s.uartWrite n a w f = (f s).emit (.done w.m []) := by
  unfold State.uartWrite
  by_cases hn : n = 1
  · rw [if_pos hn, State.csrWrite_admitted h]
  · rw [if_neg hn, State.csrWriteF_admitted h (hm.resolve_left hn)]

/-- A byte is queued while the transmit FIFO has room. -/
theorem State.uartQueue_room {s : State} {n : Nat} (h : (s.uart n).tx.length < 64) (b : Nat) :
    s.uartQueue n b = ((s.setUart n { s.uart n with tx := (s.uart n).tx ++ [b] }).uartStart n).uartDone n := by
  simp only [State.uartQueue, if_neg (Nat.not_le.mpr h)]

theorem State.uartDataStore_queues {s : State} {n : Nat} {w : CsrWr} (h : s.Admits (R.MGMT_UART_DATA.addr n 0 0) w) (hm : n = 1 ∨ w.m.isWardenF = true)
    (hlow : (csrMask w).field 0 1 ≠ 0) (hroom : (s.uart n).tx.length < 64) :
    s.uartDataStore n w = (((s.setUart n { s.uart n with tx := (s.uart n).tx ++ [(csrWord w).toNat % 256] }).uartStart n).uartDone n).emit (.done w.m []) := by
  rw [State.uartDataStore, State.uartWrite_admitted h.gate hm]
  simp only [hlow, if_false, State.uartQueue_room hroom]

/-! ### The write of a register by its offset (R7) -/

/-- Outside PERCH a write acts as the register's own rule does. -/
theorem exec_registerWrite {s : State} (h : s.pwr.pstate ≠ .perch) (a : Nat) (w : CsrWr) :
    exec (.registerWrite a w) s = .next (((s.csrStore a w).barEnd w.m).settledFrom s) := by
  change fin s (s.barAccess w.m fun t => t.csrStore a w) = _
  rw [State.barAccess_admitted h, fin_settledFrom]

/-- A register of the Jess block other than its two commands has no act of its own. -/
theorem State.csrStore_jess (s : State) {a : Nat} (h : a / 0x1000000 = 3) (hcmd : a ≠ R.JESS_STAGE_CMD.base) (hsync : a ≠ R.JESS_SYNC.base) (w : CsrWr) :
    s.csrStore a w = s.otherWrite a w := by
  simp only [State.csrStore, h, if_neg hcmd, if_neg hsync]
  rfl

theorem exec_registerWrite_jess {s : State} {a : Nat} {w : CsrWr} (h : s.Admits a w) (hcls : w.m.cls ≠ 5) (hblock : a / 0x1000000 = 3) (hcmd : a ≠ R.JESS_STAGE_CMD.base)
    (hsync : a ≠ R.JESS_SYNC.base) (hF : onlyF a = false) : exec (.registerWrite a w) s = .next (s.stored a (s.csrMerged a w) w.m) := by
  rw [exec_registerWrite (State.gate_notPerch h.gate), State.csrStore_jess s hblock hcmd hsync, State.barEnd, if_pos (Or.inl hcls), ← fin_settledFrom]
  exact fin_otherWrite_stores h (by simp [hF])

/-- Settles O24: the security registers, the console, the halves of SNAP registers and the write by offset, each by its own rule. -/
theorem securityConsoleAndRegisterReadsComplete : Obligations.SecurityConsoleAndRegisterReadsComplete := by
  intro s w
  refine ⟨?svn, ?mask, ?uartWrite, ?uartRead, fun m a r h hg hr hs hu => exec_snapLowerRead h hg hr hs hu, ?upper,
    fun a hp => ⟨exec_registerWrite hp a w, exec_registerWrite_jess⟩⟩
  case svn =>
    rintro h hm _ rfl himg h64 habove
    exact exec_svnAdvance h hm himg h64 habove
  case mask =>
    intro h hm hopen v hv
    have hw := State.maskWrite_open h hm hopen hv
    refine ⟨congrArg (fin s) hw, fun hon hquiet => ?_⟩
    rw [State.sensorsAre_quiet (by simpa [hv] using hon) hquiet] at hw
    exact (congrArg (fin s) hw).trans (fin_rests (by simpa [hv] using h.rests.busy) (by simp [hv]))
  case uartWrite =>
    intro n hn h hm hlow hroom
    change fin s (if n < 2 then s.uartDataStore n w else s) = _
    rw [if_pos hn, State.uartDataStore_queues h hm hlow hroom, fin_settledFrom]
  case uartRead =>
    intro n m size b l hn hg hl
    change fin s (if n < 2 then s.csrLoad (R.MGMT_UART_DATA.addr n 0 0) m size 0 else s) = _
    rw [if_pos hn, State.csrLoad_admitted hg (State.csrTake_uart hn hl m.id size), fin_settledFrom]
  case upper =>
    intro m a r h hg hr hs hu
    exact ⟨fun x hx => exec_snapUpperRead_latched h hg hr hs hu hx, exec_snapUpperRead_live h hg hr hs hu⟩

end Sys2Proof.Machine
end

section
/-! PROOF. Kettle links: flits, replay and link timers, withdrawal, training, and the PCIe host's accesses. -/

namespace Sys2Proof.Machine

/-! ### The outcome of a command whose effect is known -/

theorem fin_effect {s t u : State} (h : t = u) : fin s t = .next (u.settledFrom s) := h ▸ fin_settledFrom s t

theorem fin_effect_rests {s t u : State} (h : t = u) (hb : u.busy = false) (hp : u.pending = s.pending) : fin s t = .next u := h ▸ fin_rests (h ▸ hb) (h ▸ hp)

/-- A deadline that has come is due. -/
theorem State.due_of_le {s : State} {t : Nat} (h : t ≤ s.now) : s.due t = true := decide_eq_true h

/-- The effect of a link timer is that of its rule, while the cores are on. -/
theorem fin_ktlTimer {s u : State} {n : Nat} {f : State → State} (hc : s.coreOn = true) (hn : n < 64) (h : f s = u) : fin s (s.ktlTimer n f) = .next (u.settledFrom s) :=
  fin_effect ((State.ktlTimer_on hc hn f).trans h)

theorem fin_ktlTimer_rests {s u : State} {n : Nat} {f : State → State} (hc : s.coreOn = true) (hn : n < 64) (h : f s = u) (hb : u.busy = false)
    (hp : u.pending = s.pending) : fin s (s.ktlTimer n f) = .next u :=
  fin_effect_rests ((State.ktlTimer_on hc hn f).trans h) hb hp

section link
variable {s : State} {n : Nat}

/-! ### Flits (R252, R253) -/

/-- Corrected codewords are counted. -/
def State.fecCounted (s : State) (n fixed : Nat) : State := if fixed = 0 then s else s.bump R.KTL_LINK_FEC_CORR fixed n

theorem State.fecCounted_now (s : State) (n fixed : Nat) : (s.fecCounted n fixed).now = s.now := by
  unfold State.fecCounted
  split <;> rfl

/-- A good flit on an open link whose receiver has lock: its corrections are counted, then its sequence number decides. -/
theorem State.flitReceive_good {f : Flit} (ho : s.linkOpen n = true) (hl : (s.link n).lockLost = none) (hfec : f.fecOk = true) (hcrc : f.crcOk = true) :
    s.flitReceive n f =
      if f.seqd && f.seq != (s.link n).exp then
        if (s.link n).run.isSome then s.fecCounted n f.fecFixed
        else (((s.fecCounted n f.fecFixed).setLink n { s.link n with run := some { start := (s.fecCounted n f.fecFixed).now, asked := 1 } }).bump R.KTL_LINK_REPLAYS 1 n).linkFlag
          R.KTL_LINK_EVENT.REPLAY R.KTL_LINK_RUN_CNT.COUNT n
      else (if f.seqd then ((s.fecCounted n f.fecFixed).setLink n { s.link n with exp := ((s.link n).exp + 1) % 256, run := none }).bump R.KTL_LINK_FLITS_RX 1 n
        else s.fecCounted n f.fecFixed).flitHeader n f := by
  simp only [State.flitReceive, ho, hl, hfec, hcrc, Option.isSome_none, Bool.not_true, Bool.false_eq_true, if_false, if_true, Bool.false_or]
  rfl

/-- The flit that was expected advances the expected number, ends a replay run, and its header acts. -/
theorem State.flitReceive_expected {f : Flit} (ho : s.linkOpen n = true) (hl : (s.link n).lockLost = none) (hfec : f.fecOk = true) (hcrc : f.crcOk = true)
    (hs : f.seqd = true) (hseq : f.seq = (s.link n).exp) :
    s.flitReceive n f =
      (((s.fecCounted n f.fecFixed).setLink n { s.link n with exp := ((s.link n).exp + 1) % 256, run := none }).bump R.KTL_LINK_FLITS_RX 1 n).flitHeader n f := by
  simp only [State.flitReceive_good ho hl hfec hcrc, hs, hseq, bne_self_eq_false, Bool.and_false, Bool.false_eq_true, if_false, if_true]

/-- A flit out of sequence with no run open opens one, with its first request. -/
theorem State.flitReceive_unexpected {f : Flit} (ho : s.linkOpen n = true) (hl : (s.link n).lockLost = none) (hfec : f.fecOk = true) (hcrc : f.crcOk = true)
    (hs : f.seqd = true) (hseq : f.seq ≠ (s.link n).exp) (hrun : (s.link n).run = none) :
    s.flitReceive n f =
      (((s.fecCounted n f.fecFixed).setLink n { s.link n with run := some { start := s.now, asked := 1 } }).bump R.KTL_LINK_REPLAYS 1 n).linkFlag
        R.KTL_LINK_EVENT.REPLAY R.KTL_LINK_RUN_CNT.COUNT n := by
  have hne : (f.seqd && f.seq != (s.link n).exp) = true := by simp [hs, hseq]
  rw [State.flitReceive_good ho hl hfec hcrc, if_pos hne, if_neg (by simp [hrun]), State.fecCounted_now]

/-! ### Timers of a link (R254, R270, R272) -/

theorem State.replayAsk_due {r : ReplayRun} (hrun : (s.link n).run = some r) (hr : r.asked < 16) (ht : r.start + r.asked * 3125 ≤ s.now) :
    s.replayAsk n = (s.setLink n { s.link n with run := some { r with asked := r.asked + 1 } }).bump R.KTL_LINK_REPLAYS 1 n := by
  have hgo : ¬ (16 ≤ r.asked ∨ (!s.due (r.start + r.asked * 3125)) = true) := by simp [State.due_of_le ht, hr]
  simp only [State.replayAsk, hrun, if_neg hgo]

theorem State.downTimeout_lockLost {t : Nat} (hl : (s.link n).lockLost = some t) (ht : t + 50000 ≤ s.now) : s.downTimeout n = s.linkDown n := by
  simp only [State.downTimeout, hl, State.due_of_le ht, Bool.or_true, if_true]

theorem State.lockLost_open (ho : s.linkOpen n = true) (hl : (s.link n).lockLost = none) :
    s.lockLost n = (s.setLink n { s.link n with lockLost := some s.now }).wr R.KTL_LINK_STATUS.LANES_LOCKED 0 n :=
  if_neg (by simp [ho, hl])

theorem State.withdrawRequest_due {w : Bool} {t : Nat} (hw : (s.link n).withdraw = some (w, t)) (hd : (s.link n).downSent = false) (ht : t + 200000 ≤ s.now) :
    s.withdrawRequest n = (s.setLink n { s.link n with downSent := true }).mgmt n .downReq [] := by
  simp only [State.withdrawRequest, hw, hd, State.due_of_le ht, Bool.not_true, Bool.false_eq_true, or_self, if_false]

/-! ### Training (R23, R270, R271) -/

theorem State.trainingStart_ready (ha : s.rd R.KTL_GLB_STATUS.ALIGNED = 1) (hslot : s.curSlot = s.rd R.KTL_LINK_STATUS.SLOT n) (hk : (s.link n).keeperUp = true)
    (hpeer : n = s.pkg ∨ (s.peer n).aligned = true) (hheld : s.lanesHeld = false) (hen : s.rd R.KTL_LINK_CTRL.ENABLE n = 1)
    (hst : s.lstate n = lkKeeper ∨ s.lstate n = lkMiswired) (hall : s.rd R.KTL_GLB_STATUS.KEEPER_ALL = 0) :
    s.trainingStart n = ((s.setLstate n lkTraining).wr R.KTL_GLB_STATUS.TRAIN_LINK n).wr R.KTL_GLB_STATUS.TRAINING 1 := by
  have hp : (n == s.pkg || (Tab.get s.ktl.peers n .reset).aligned) = true := by simpa [State.peer] using hpeer
  exact if_pos ⟨hslot, hk, ha, hp, by simp [hheld], hen, hst, hall⟩

theorem State.idMatches_iff {id : Nat} : s.idMatches n id = true ↔ n = s.pkg ∧ id = noPackageId ∨ n ≠ s.pkg ∧ id = n := by
  by_cases h : n = s.pkg <;> simp [State.idMatches, h]

theorem State.idMatches_eq_false_iff {id : Nat} : s.idMatches n id = false ↔ n = s.pkg ∧ id ≠ noPackageId ∨ n ≠ s.pkg ∧ id ≠ n := by
  by_cases h : n = s.pkg <;> simp [State.idMatches, h]

section trainingEnd
variable (h : s.lstate n = lkTraining) {u : State} (hu : u = s.wr R.KTL_GLB_STATUS.TRAINING 0)
include h hu

/-- A failed training counts, and the link is in keeper mode again. -/
theorem State.trainingEnd_failed {v : State}
    (hv : v = (u.setLstate n lkKeeper).wr R.KTL_LINK_STATUS.TRAIN_FAILS (min 255 (u.rd R.KTL_LINK_STATUS.TRAIN_FAILS n + 1)) n) :
    s.trainingEnd n .failed = (v.linkFlag R.KTL_LINK_EVENT.TRAIN_FAIL R.KTL_LINK_TRAIN_FAIL_CNT.COUNT n).report (Src.ktlLink n) Cls.ce Cause.trainFailed := by
  subst hu hv
  exact if_neg (not_not_intro h)

variable {id nonce : Nat} {eq : List Nat} {v : State} (hv : v = u.wr R.KTL_LINK_STATUS.PEER_ID (id % 64) n)
include hv

/-- The link comes up with the peer that its wiring asks for. -/
theorem State.trainingEnd_matched (hid : v.idMatches n id = true) : s.trainingEnd n (.up id nonce eq) = ((v.storeEq n eq).linkUp n).updKtl (fun k => { k with
    peers := Tab.upd k.peers n .reset (fun p => if p.present then p else { p with present := true, nonce := nonce }) }) := by
  subst hu hv
  simp only [State.trainingEnd, if_neg (not_not_intro h), hid, Bool.not_true, Bool.false_eq_true, if_false]

/-- Another ID makes the link MISWIRED. -/
theorem State.trainingEnd_miswired (hid : v.idMatches n id = false) : s.trainingEnd n (.up id nonce eq) =
    ((v.setLstate n lkMiswired).linkFlag R.KTL_LINK_EVENT.MISWIRED R.KTL_LINK_MISWIRE_CNT.COUNT n).report (Src.ktlLink n) Cls.uc Cause.miswire := by
  subst hu hv
  simp only [State.trainingEnd, if_neg (not_not_intro h), hid, Bool.not_false, if_true]

end trainingEnd
end link

/-! ### The rows of a link -/

section rows
variable {s : State} {n : Nat}

theorem exec_keeperUp (hc : s.coreOn = true) (hn : n < 64) (ht : s.boot.tirloRuns = true) : exec (.keeperUp n) s = .next ((s.keeperComes n).settledFrom s) :=
  fin_effect (if_pos ⟨hn, ht, .inl hc⟩)

theorem exec_trainingSlotStart_had (hc : s.coreOn = true) (hn : n < 64) (ha : s.rd R.KTL_GLB_STATUS.ALIGNED = 1) (hslot : s.curSlot = s.rd R.KTL_LINK_STATUS.SLOT n)
    (hhad : s.boot.slotsHad.contains n = true) : exec (.trainingSlotStart n) s = .next ((s.trainingStart n).settledFrom s) :=
  fin_ktlTimer hc hn (by simp only [ha, hslot, hhad, and_self, if_true])

end rows

/-! ### Accesses of the PCIe host (R306, R422) -/

section pcie
variable {s : State}

theorem exec_pcieConfigRequest_retry {fn off : Nat} (h : s.Rests) (hn : s.pwr.pstate ≠ .noPwr) (ho : s.pwr.pstate ≠ .off) (hh : s.pwr.pstate ≠ .hooded)
    (hr : s.perchQuiet = true ∨ s.boot.cfgReleased = false ∨ s.boot.pcieUp = false) :
    exec (.pcieConfigRequest fn off) s = .next (s.emit (.bytes "PCIE_RRS" [fn, off])) := by
  have hup : ¬ (s.pwr.pstate = .noPwr ∨ s.pwr.pstate = .off ∨ s.pwr.pstate = .hooded) := by simp [hn, ho, hh]
  exact fin_effect_rests ((if_neg hup).trans (if_pos (by simpa using hr))) h rfl

theorem exec_pcieConfigRequest_data {fn off : Nat} (h : s.Rests) (hn : s.pwr.pstate ≠ .noPwr) (ho : s.pwr.pstate ≠ .off) (hh : s.pwr.pstate ≠ .hooded)
    (hq : s.perchQuiet = false) (hc : s.boot.cfgReleased = true) (hp : s.boot.pcieUp = true) :
    exec (.pcieConfigRequest fn off) s = .next (s.emit (.bytes "PCIE_CONFIG" [fn, off, Config.pcieConfig fn off % 2 ^ 32])) := by
  have hup : ¬ (s.pwr.pstate = .noPwr ∨ s.pwr.pstate = .off ∨ s.pwr.pstate = .hooded) := by simp [hn, ho, hh]
  exact fin_effect_rests ((if_neg hup).trans (if_neg (by simp [hq, hc, hp]))) h rfl

theorem exec_pcieBar0Read_register {off size : Nat} (hc : s.boot.cfgReleased = true) (hp : s.boot.pcieUp = true) (he : s.pwr.pstate ≠ .entering)
    (hq : s.pwr.pstate ≠ .perch) (ho : off < 0x1000) :
    exec (.pcieBar0Read off size) s = .next ((s.csrLoad (0x1000000 + off / 8 * 8) ⟨0x5000, .s, false⟩ size (off % 8)).settledFrom s) :=
  fin_effect ((if_neg (by simp [hc, hp])).trans ((if_neg (by simp [he, hq])).trans (if_pos ho)))

end pcie

/-- Settles O30: each row is its rule's effect on a link that exists. -/
theorem kettleLinkEventsComplete : Obligations.KettleLinkEventsComplete := by
  intro s n hn
  refine ⟨?flit, ?replay, ?down, ?lock, ?keeper, ?withdraw, ?slot, ?trained, ?config, ?bar0, fin_settledFrom s _⟩
  case flit =>
    rintro hc ho hl f hfec hcrc _ rfl
    exact ⟨fun hs hseq => fin_ktlTimer hc hn (State.flitReceive_expected ho hl hfec hcrc hs hseq),
      fun hs hseq hrun => fin_ktlTimer hc hn (State.flitReceive_unexpected ho hl hfec hcrc hs hseq hrun)⟩
  case replay =>
    intro r h hc hrun hr ht
    exact fin_ktlTimer_rests hc hn (State.replayAsk_due hrun hr ht) h rfl
  case down =>
    intro t hc hl ht
    exact fin_ktlTimer hc hn (State.downTimeout_lockLost hl ht)
  case lock =>
    intro h hc ho hl
    exact fin_ktlTimer_rests hc hn (State.lockLost_open ho hl) h rfl
  case keeper =>
    rintro ht hc _ rfl
    exact exec_keeperUp hc hn ht
  case withdraw =>
    intro w t hc hw hd ht
    exact fin_ktlTimer hc hn (State.withdrawRequest_due hw hd ht)
  case slot =>
    intro hc ha hslot hhad hk hpeer hheld hen hst hall
    rw [exec_trainingSlotStart_had hc hn ha hslot hhad, State.trainingStart_ready ha hslot hk hpeer hheld hen hst hall]
  case trained =>
    intro hc hst u hu
    exact ⟨fun v hv => fin_ktlTimer hc hn (State.trainingEnd_failed hst hu hv), fun id nonce eq v hv =>
      ⟨fun hid => fin_ktlTimer hc hn (State.trainingEnd_matched hst hu hv (State.idMatches_iff.mpr hid)),
        fun hid => fin_ktlTimer hc hn (State.trainingEnd_miswired hst hu hv (State.idMatches_eq_false_iff.mpr hid))⟩⟩
  case config =>
    intro fn off h hnp ho hh
    exact ⟨exec_pcieConfigRequest_retry h hnp ho hh, exec_pcieConfigRequest_data h hnp ho hh⟩
  case bar0 =>
    intro off size hc hp he hq ho
    exact exec_pcieBar0Read_register hc hp he hq ho

end Sys2Proof.Machine
end

section
/-! PROOF. Power pins, resets and straps. -/

namespace Sys2Proof.Machine

/-! ### The Perch domain (R333, R393) -/

section power
variable {s : State}

/-- The Perch domain from its rail's rise, with the strap sampled and before its draws. -/
def State.perchLit (s : State) (sel : Nat) : State :=
  ((s.dark.updPwr (fun p => { p with pstate := .noPwr, perchUpAt := s.dark.now })).updBoot (fun b => { b with stage := .waitPwr })).wr R.MGMT_TGT_STATUS.SLOT (sel % 4)

theorem State.perchOn_off (h : s.pwr.pstate = .off) (sel : Nat) (ok : Bool) :
    s.perchOn sel ok = if ok then (s.perchLit sel).perchDraws else (s.perchLit sel).updSec (fun x => { x with trngFail := true, nonceWait := true }) :=
  if_neg (not_not_intro h)

theorem State.perchOff_on (h : s.pwr.pstate ≠ .off) : s.perchOff = s.coreLow.dark := if_neg h

/-- 2 ms after the rail's rise the target answers, and a rise of PWR_OK that came earlier is acted on. -/
theorem State.perchStarted_due (h : s.pwr.pstate ≠ .off) (ht : s.pwr.perchUpAt + 2000000 ≤ s.now) (hw : s.sec.nonceWait = false) :
    s.perchStarted = if s.pwr.pwrOkPend then (s.updBus (fun b => { b with answers := true })).powerStart else s.updBus (fun b => { b with answers := true }) :=
  if_neg (by simp [h, hw, State.due_of_le ht])

/-! ### Core power (R303, R307, R310, R330, R418) -/

/-- The straps as PWR_OK's rise samples them. -/
def State.pwrOkSampled (s : State) (tray sel : Nat) : State :=
  (s.updPwr (fun p => { p with pwrOk := true })).updTop (fun t => { t with trayPins := tray % 16, selPins := sel % 4 })

theorem State.pwrOkUp_rises (h : s.pwr.pstate ≠ .off) (hlow : s.pwr.pwrOk = false) (tray sel : Nat) :
    s.pwrOkUp tray sel = if s.now < s.pwr.perchUpAt + 2000000 then (s.pwrOkSampled tray sel).updPwr (fun p => { p with pwrOkPend := true })
      else (s.pwrOkSampled tray sel).powerStart :=
  if_neg (by simp [h, hlow])

theorem State.pwrOkDown_falls (h : s.pwr.pwrOk = true) :
    s.pwrOkDown = (s.updPwr (fun p => { p with pwrOk := false, pwrOkPend := false, wakePend := false })).powerFall :=
  if_neg (by simp [h])

theorem State.corePgUp_rises (h : s.pwr.corePg = false) (hen : s.rd R.PWR_PERCH_STATE.CORE_EN ≠ 0) :
    s.corePgUp = { s.updPwr (fun p => { p with corePg := true }) with tap := { s.tap with up := true } } :=
  if_neg (by simp [h, hen])

theorem State.corePgDown_falls (h : s.pwr.corePg = true) (hen : s.rd R.PWR_PERCH_STATE.CORE_EN = 1) :
    s.corePgDown = (s.updPwr (fun p => { p with corePg := false })).powerFall :=
  (if_neg (by simp [h])).trans (if_pos hen)

section pll
variable (h : s.pwr.corePg = true) (hen : s.rd R.PWR_PERCH_STATE.CORE_EN ≠ 0)
include h hen

theorem State.pllUp_cold (hp : s.pwr.pstate = .noPwr) : s.pllUp = s.coldGo := by
  simp only [State.pllUp, h, hen, hp, Bool.not_true, Bool.false_eq_true, or_self, if_false]

theorem State.pllUp_waking (hp : s.pwr.pstate = .waking) (hrun : s.time.fastRun = false) : s.pllUp = (((s.timeStart).clocksOn).allUp []).refillRanges := by
  simp only [State.pllUp, h, hen, hp, hrun, Bool.not_true, Bool.false_eq_true, or_self, if_false]

end pll

/-! ### Resets and straps (R21, R419, R420, R427) -/

section resetLow
variable (h : s.pwr.resetN = true) (hp : s.pwr.pstate ≠ .off)
include h hp

/-- RESET_N goes low; with the cores on it is logged and starts a WARM reset. -/
theorem State.resetLow_falls : s.resetLow = if !s.coreOn then s.updPwr (fun p => { p with resetN := false })
    else ((s.updPwr (fun p => { p with resetN := false })).wlog noSource 0 false false 2 0 none 0).startWarm .resetN
      ((s.updPwr (fun p => { p with resetN := false })).rd R.WATCH_LOG_HEAD.NEXT_SEQ) :=
  if_neg (by simp [h, hp])

theorem State.resetLow_coreOff (hc : s.coreOn = false) : s.resetLow = s.updPwr (fun p => { p with resetN := false }) :=
  (State.resetLow_falls h hp).trans (if_pos (by simp [hc]))

theorem State.resetLow_coreOn (hc : s.coreOn = true) :
    s.resetLow = ((s.updPwr (fun p => { p with resetN := false })).wlog noSource 0 false false 2 0 none 0).startWarm .resetN
      ((s.updPwr (fun p => { p with resetN := false })).rd R.WATCH_LOG_HEAD.NEXT_SEQ) :=
  (State.resetLow_falls h hp).trans (if_neg (by simp [hc]))

end resetLow

/-- PERST_N disables the admin queue pair and stops the host's. -/
theorem State.perstLow_coreOn {u v : State} (h : s.coreOn = true) (hu : u = s.updPwr (fun p => { p with perstN := false }))
    (hv : v = u.adminCfg ((u.csrAt (R.TCI_ADMIN_CFG.addr 0 0 0)).setField 0 1 0)) :
    s.perstLow = (((List.range 4095).filter (fun q => q != 0 && v.qpState q == qpLive && v.partner q == pcie)).foldl State.qpError v).updBoot
      (fun b => { b with pcieUp := false }) := by
  subst hu hv
  have hc : (s.updPwr (fun p => { p with perstN := false })).coreOn = true := h
  exact if_neg (by simp [hc])

/-- The strap pins at new levels. -/
def State.strapped (s : State) (tray sel : Nat) : State := s.updTop (fun t => { t with trayPins := tray % 16, selPins := sel % 4 })

theorem State.strapsAre_changed {tray sel : Nat} (hp : s.pwr.pwrOk = true) (hv : s.top.idValid = true) (hne : (s.top.trayPins, s.top.selPins) ≠ (tray % 16, sel % 4)) :
    s.strapsAre tray sel = (s.strapped tray sel).flag R.TOP_POSITION.STRAP_CHANGED R.TOP_STRAP_CHG_CNT.COUNT :=
  if_pos ⟨hp, hv, hne⟩

theorem State.strapsAre_quiet {tray sel : Nat} (h : s.pwr.pwrOk = false ∨ s.top.idValid = false ∨ (s.top.trayPins, s.top.selPins) = (tray % 16, sel % 4)) :
    s.strapsAre tray sel = s.strapped tray sel := by
  refine if_neg fun ⟨hp, hv, hne⟩ => ?_
  obtain hlow | hnew | hsame := h
  · exact Bool.false_ne_true (hlow.symm.trans hp)
  · exact Bool.false_ne_true (hnew.symm.trans hv)
  · exact hne hsame

theorem State.warmStarts_due {t : Nat} (hw : s.pwr.warmAt = some t) (ht : t ≤ s.now) (hc : s.coreOn = true) :
    s.warmStarts = ((s.updPwr (fun p => { p with warmAt := none })).logStep noSource 0 4 none noUnit).startWarm .command (s.rd R.WATCH_LOG_HEAD.NEXT_SEQ) := by
  simp only [State.warmStarts, hw, State.due_of_le ht, hc, Bool.not_true, Bool.false_eq_true, or_self, if_false]

end power

/-- Settles O39: each row is its rule's effect under the row's condition. -/
theorem powerPinAndResetEventsComplete : Obligations.PowerPinAndResetEventsComplete := by
  intro s
  refine ⟨?powerOn, fun hp => fin_effect (State.perchOff_on hp), ?startup, ?rise, fun h => fin_effect (State.pwrOkDown_falls h),
    fun h hen => fin_effect (State.corePgUp_rises h hen), fun h hen => fin_effect (State.corePgDown_falls h hen), ?pll, ?assert, ?release, ?perst, ?perstRelease, ?straps, ?warm⟩
  case powerOn =>
    rintro sel _ hp rfl
    exact ⟨fin_effect (State.perchOn_off hp sel true), fin_effect (State.perchOn_off hp sel false)⟩
  case startup =>
    intro hp ht hw
    have hdue := State.perchStarted_due hp ht hw
    exact ⟨fun h hpend => fin_effect_rests (hdue.trans (if_neg (by simp [hpend]))) h rfl, fun hpend => fin_effect (hdue.trans (if_pos hpend))⟩
  case rise =>
    rintro tray sel _ hp hlow rfl
    have hup := State.pwrOkUp_rises hp hlow tray sel
    exact ⟨fun hearly => fin_effect (hup.trans (if_pos hearly)), fun hlate => fin_effect (hup.trans (if_neg (Nat.not_lt.mpr hlate)))⟩
  case pll =>
    intro h hen
    exact ⟨fun hp => fin_effect (State.pllUp_cold h hen hp), fun hp hrun => fin_effect (State.pllUp_waking h hen hp hrun)⟩
  case assert =>
    rintro h hp _ rfl
    exact ⟨fun hr hc => fin_effect_rests (State.resetLow_coreOff h hp hc) hr rfl, fun hc => fin_effect (State.resetLow_coreOn h hp hc)⟩
  case release => exact fun h => fin_effect_rests rfl h rfl
  case perst =>
    intro u v hc hu hv
    exact fin_effect (State.perstLow_coreOn hc hu hv)
  case perstRelease => exact fun h => fin_effect_rests rfl h rfl
  case straps =>
    rintro tray sel _ h rfl
    exact ⟨fun ⟨hp, hv, hne⟩ => fin_effect_rests (State.strapsAre_changed hp hv hne) h rfl, fun hq => fin_effect_rests (State.strapsAre_quiet hq) h rfl⟩
  case warm =>
    rintro t _ hw ht hc rfl
    exact fin_effect (State.warmStarts_due hw ht hc)

end Sys2Proof.Machine
end

section
/-! PROOF. Bring-up: the boot ROM, trainings, self-test, revalidation, TCI READY, die-to-die errors and the PCIe link. -/

namespace Sys2Proof.Machine

section bringUp
variable {s : State}

/-! ### The boot ROM (R369, R428) -/

/-- A COLD boot without tamper, once its image is good, starts Tirlo. -/
theorem State.bootRom_cold {fails : List (Nat × Nat)} {u v : State} (hc : s.coreOn = true) (hst : s.boot.stage = .rom) (hu : u = s.d2dTrain fails)
    (ht : u.tampered = false) (hl : u.liveSensors = 0) (hf : u.bootFlash = (v, true)) : s.bootRom fails = v.tirloStart := by
  subst hu
  simp only [State.bootRom, hst, hc, ht, hl, hf, reduceCtorEq, false_and, ne_eq, not_true_eq_false, Bool.not_true, Bool.false_eq_true, or_self, if_false]

theorem State.bootRom_warm {fails : List (Nat × Nat)} (hc : s.coreOn = true) (hst : s.boot.stage = .resetting) (hw : s.boot.warm = true) (hh : s.pwr.warmHold = false) :
    s.bootRom fails = s.bootWarm :=
  if_pos ⟨hst, hw, hc, by simp [hh]⟩

/-! ### HBM training (R172, R178, R424) -/

/-- The repair list's entries take their results. -/
def State.pprResults (s : State) (st : Nat) (ppr : List Nat) : State :=
  (List.range 16).foldl (fun (x : State) n => if x.rd R.HBM_STK_PPR.VALID st n = 1 then x.wr R.HBM_STK_PPR.RESULT (lget ppr n 1) st n else x) s

/-- The stack is READY, at the rate that is configured. -/
def State.stkAtRate (s : State) (st : Nat) : State :=
  (s.wr R.HBM_STK_STATUS.STATE stkReady st).wr R.HBM_STK_STATUS.RATE_MBPS (stkRate (s.rd R.HBM_STK_CFG.RATE st)) st

section hbmTrained
variable {st : Nat} {ppr : List Nat} (hc : s.coreOn = true) (hlt : st < 8) (hb : s.boot.stage = .tirlo) (hf : s.sec.trngFail = false)
  (hst : s.stkState st = stkTraining ∨ s.stkState st = stkOff) {u : State} (hu : u = s.pprResults st ppr)
include hc hlt hb hf hst hu

/-- The end of a stack's training: its results are recorded, then it is READY, is tried again, or has FAILED. -/
theorem State.hbmTrained_ends (ok : Bool) :
    s.hbmTrained st ok ppr =
      if ok then (((u.stkAtRate st).updHbm (fun h => { h with readyAt := Tab.put h.readyAt st (u.stkAtRate st).now })).placePool).seedProb st
      else if Tab.get u.boot.trainTries st 0 = 0 then
        (u.wr R.HBM_STK_STATUS.STATE stkTraining st).updBoot (fun b => { b with trainTries := Tab.put b.trainTries st 1 })
      else (u.wr R.HBM_STK_STATUS.STATE stkFailed st).report (Src.hbmMem st 0) Cls.uc Cause.trainFailed := by
  have hgo : ¬ (8 ≤ st ∨ s.boot.stage ≠ .tirlo ∨ (!s.coreOn) = true ∨ s.sec.trngFail = true ∨ (s.stkState st ≠ stkTraining ∧ s.stkState st ≠ stkOff)) := by
    rintro (h | h | h | h | ⟨h, h'⟩)
    · exact Nat.not_le.mpr hlt h
    · exact h hb
    · simp [hc] at h
    · simp [hf] at h
    · exact hst.elim h h'
  rw [hu, State.hbmTrained, if_neg hgo]
  rfl

theorem State.hbmTrained_ready {v : State} (hv : v = u.stkAtRate st) :
    s.hbmTrained st true ppr = ((v.updHbm (fun h => { h with readyAt := Tab.put h.readyAt st v.now })).placePool).seedProb st := by
  rw [State.hbmTrained_ends hc hlt hb hf hst hu, if_pos rfl, ← hv]

theorem State.hbmTrained_retries (hfirst : Tab.get u.boot.trainTries st 0 = 0) :
    s.hbmTrained st false ppr = (u.wr R.HBM_STK_STATUS.STATE stkTraining st).updBoot (fun b => { b with trainTries := Tab.put b.trainTries st 1 }) := by
  rw [State.hbmTrained_ends hc hlt hb hf hst hu, if_neg Bool.false_ne_true, if_pos hfirst]

theorem State.hbmTrained_fails (hagain : Tab.get u.boot.trainTries st 0 ≠ 0) :
    s.hbmTrained st false ppr = (u.wr R.HBM_STK_STATUS.STATE stkFailed st).report (Src.hbmMem st 0) Cls.uc Cause.trainFailed := by
  rw [State.hbmTrained_ends hc hlt hb hf hst hu, if_neg Bool.false_ne_true, if_neg hagain]

end hbmTrained

/-! ### Roost training, self-test, revalidation, READY (R192, R423, R425, R431) -/

/-- The tiles' SRAM reads zero, and every tile is cleared. -/
theorem State.selfTested_allPass (hc : s.coreOn = true) (hb : s.boot.stage = .tirlo) (hself : s.boot.selfTest = false) (hw : s.boot.warm = false) :
    s.selfTested [] = ((s.forget tileBase tileEnd).setTalon (fun t => { t with cleared := List.range 384 })).updBoot (fun b => { b with selfTest := true }) :=
  if_neg (by simp [hc, hb, hself, hw])

/-- A start other than a stoop wake is READY once every condition of R423 holds. -/
theorem State.tciReady_cold (hc : s.coreOn = true) (hp : s.pwr.pstate ≠ .waking) (hb : s.boot.stage = .tirlo) (hr : s.readyOk = true) (hw : s.boot.warm = false) :
    s.tciReady = (s.updBoot (fun b => { b with stage := .ready, everReady := true })).goReady := by
  unfold State.tciReady
  split
  · next hwake => exact absurd hwake hp
  · simp only [hb, hc, hr, hw, and_self, if_true, Bool.false_eq_true, if_false]

/-! ### Die-to-die links (R18) -/

/-- A first error of a link that is up asks for a replay. -/
theorem State.d2dCrc_first {n : Nat} (hc : s.coreOn = true) (hn : n < 10) (hup : natBit (s.rd R.TOP_D2D_STATUS.LINK_UP) n = true) :
    s.d2dCrc n false = (s.updTop (fun t => { t with runs := Tab.put t.runs n { fails := 0, start := s.now } })).bump R.TOP_D2D_RETRY 1 n :=
  if_neg (by simp [hc, hup, hn])

/-- A replay that fails again is counted, and the eighth cuts the link. -/
theorem State.d2dCrc_replay {n : Nat} {r : D2dRun} (hc : s.coreOn = true) (hn : n < 10) (hup : natBit (s.rd R.TOP_D2D_STATUS.LINK_UP) n = true)
    (hr : Tab.get? s.top.runs n = some r) :
    s.d2dCrc n true = if 7 ≤ r.fails then s.d2dFail n
      else (s.updTop (fun t => { t with runs := Tab.put t.runs n { r with fails := r.fails + 1 } })).bump R.TOP_D2D_RETRY 1 n := by
  have hgo : ¬ (10 ≤ n ∨ (!natBit (s.rd R.TOP_D2D_STATUS.LINK_UP) n) = true ∨ (!s.coreOn) = true) := by simp [hc, hup, hn]
  simp only [State.d2dCrc, if_neg hgo, hr]

theorem State.d2dLate_due {n : Nat} {r : D2dRun} (hc : s.coreOn = true) (hr : Tab.get? s.top.runs n = some r) (ht : r.start + 2000 ≤ s.now) : s.d2dLate n = s.d2dFail n := by
  simp only [State.d2dLate, hr, State.due_of_le ht, hc, and_self, if_true]

end bringUp

/-- Settles O40: each row is its rule's effect while the cores are on. -/
theorem bringUpEventsComplete : Obligations.BringUpEventsComplete := by
  intro s hc
  refine ⟨?rom, ?romWarm, ?hbm, ?roost, ?tiles, ?reval, ?ready, ?crc, ?late, ?pcie⟩
  case rom =>
    intro fails u v hst hu ht hl hf
    exact fin_effect (congrArg State.mboxPoll (State.bootRom_cold hc hst hu ht hl hf))
  case romWarm =>
    intro fails hst hw hh
    exact fin_effect (congrArg State.mboxPoll (State.bootRom_warm hc hst hw hh))
  case hbm =>
    intro st ppr u hlt hb hf hst hu
    exact ⟨fun v hv => fin_effect (congrArg State.mboxPoll (State.hbmTrained_ready hc hlt hb hf hst hu hv)),
      fun hfirst => fin_effect (congrArg State.mboxPoll (State.hbmTrained_retries hc hlt hb hf hst hu hfirst)),
      fun hagain => fin_effect (congrArg State.mboxPoll (State.hbmTrained_fails hc hlt hb hf hst hu hagain))⟩
  case roost => exact fun results fig _ _ _ _ => fin_settledFrom s (s.roostTrainedAll results fig)
  case tiles =>
    rintro _ _ hb hself hw rfl
    exact fin_effect (State.selfTested_allPass hc hb hself hw)
  case reval => exact fun _ _ _ => fin_settledFrom s s.revalidation
  case ready =>
    intro hp hb hr hw
    exact fin_effect (State.tciReady_cold hc hp hb hr hw)
  case crc =>
    intro n hn hup
    refine ⟨fun h => fin_effect_rests (State.d2dCrc_first hc hn hup) h rfl, fun r hr => ?_⟩
    have hrun := State.d2dCrc_replay hc hn hup hr
    exact ⟨fun h hfew => fin_effect_rests (hrun.trans (if_neg (Nat.not_le.mpr hfew))) h rfl, fun hmany => fin_effect (hrun.trans (if_pos hmany))⟩
  case late =>
    intro n r hr ht
    exact fin_effect (State.d2dLate_due hc hr ht)
  case pcie =>
    intro h hp
    exact fin_effect_rests (if_pos ⟨hc, hp⟩) h rfl

end Sys2Proof.Machine
end

section
/-! PROOF. The Roost engine's session events and the commit record of a park. -/

namespace Sys2Proof.Machine

/-! ### Entries and sets that an update leaves in their form -/

/-- Replacing the value under a key by one that a test judges alike leaves what the test finds in the table. -/
theorem Tab.any_put {α : Type} {t : Tab α} {k : Nat} {v w : α} {p : Nat × α → Bool} (hv : Tab.get? t k = some v) (hp : p (k, w) = p (k, v)) : (Tab.put t k w).any p = t.any p := by
  induction t with
  | nil => simp [Tab.get?] at hv
  | cons e r ih =>
    obtain ⟨j, u⟩ := e
    simp only [Tab.get?] at hv
    by_cases hj : j = k
    · subst hj
      obtain rfl : u = v := by simpa using hv
      simp [Tab.put, hp]
    · by_cases hlt : k < j
      · simp [hj, hlt] at hv
      · simp only [hj, hlt, if_false] at hv
        simp [Tab.put, hj, hlt, ih hv]

/-- A set is in its one form exactly when its elements rise. -/
theorem setWf_iff (l : List Nat) : setWf l = true ↔ l.Pairwise (· < ·) := by
  induction l with
  | nil => exact ⟨fun _ => .nil, fun _ => rfl⟩
  | cons a r ih =>
    cases r with
    | nil => exact ⟨fun _ => List.pairwise_singleton .., fun _ => rfl⟩
    | cons b r =>
      rw [setWf, Bool.and_eq_true, decide_eq_true_eq, ih, List.pairwise_cons (a := a)]
      refine ⟨fun ⟨hab, hr⟩ => ⟨fun c hc => ?_, hr⟩, fun ⟨ha, hr⟩ => ⟨ha b List.mem_cons_self, hr⟩⟩
      obtain rfl | hc := List.mem_cons.mp hc
      · exact hab
      · exact Nat.lt_trans hab (List.rel_of_pairwise_cons hr hc)

theorem setWf_filter {l : List Nat} (h : setWf l = true) (p : Nat → Bool) : setWf (l.filter p) = true := (setWf_iff _).mpr (((setWf_iff l).mp h).filter p)

/-! ### A clean line stored outside HBM and the sector table -/

section putLine
variable {s : State} {a : Nat} (h : s.stblIdx a = none) (ha : hbmEnd ≤ a)
include h ha

/-- Such a line is its bytes in memory, with neither a poison mark nor errors in its cells. -/
theorem State.putLine_clean (l : List Byte) : s.putLine a l false = ({ s with cells := Tab.del s.cells a }.store a l).setPoison a false := by
  have hkey : s.lineKey a = a := if_neg (Nat.not_lt.mpr ha)
  rw [State.putLine, hkey, State.putAt_stored s h]
  rfl

theorem State.byteAt_putLine_inside (l : List Byte) (j : Nat) (hj : j < l.length) : some ((s.putLine a l false).byteAt (a + j)) = l[j]? := by
  have hin := State.byteAt_store_inside { s with cells := Tab.del s.cells a } a l (j := a + j) (by omega) (by omega)
  rw [Nat.add_sub_cancel_left] at hin
  rw [State.putLine_clean h ha]
  exact hin

theorem State.byteAt_putLine_outside (l : List Byte) (j : Nat) (hj : j < a ∨ a + l.length ≤ j) : (s.putLine a l false).byteAt j = s.byteAt j := by
  rw [State.putLine_clean h ha]
  exact State.byteAt_store_outside { s with cells := Tab.del s.cells a } a l hj

theorem State.putLine_canon (hs : s.Canon) (l : List Byte) : (s.putLine a l false).Canon := by
  rw [State.putLine_clean h ha]
  exact ⟨hs.csr, Memory.wf_memPut hs.mem a l, setWf_filter hs.poison _⟩

theorem State.putLine_busy (l : List Byte) : (s.putLine a l false).busy = s.busy := by
  rw [State.putLine_clean h ha]; rfl

theorem State.putLine_only (l : List Byte) :
    s.putLine a l false = { s with mem := (s.putLine a l false).mem, poison := (s.putLine a l false).poison, cells := (s.putLine a l false).cells } := by
  rw [State.putLine_clean h ha]; rfl

theorem State.putLine_linePoison (l : List Byte) : (s.putLine a l false).linePoison a = false := by
  have hkey : ∀ u : State, u.lineKey a = a := fun _ => if_neg (Nat.not_lt.mpr ha)
  rw [State.linePoison, hkey, State.putLine_clean h ha]
  simp [State.poisoned, State.setPoison]

end putLine

/-! ### Sessions and transfers in their tables -/

@[simp] theorem State.sesAt_setSes_self (s : State) (slot : Nat) (x : Session) : (s.setSes slot x).sesAt slot = some x := Tab.get?_put_self ..

theorem State.sesAt_setSes_ne (s : State) {slot n : Nat} (x : Session) (h : n ≠ slot) : (s.setSes slot x).sesAt n = s.sesAt n := Tab.get?_put_ne _ x h

/-! ### What a change of the session table or of the transfer queue leaves alone -/

@[simp] theorem State.byteAt_setSes (s : State) (slot : Nat) (x : Session) (a : Nat) : (s.setSes slot x).byteAt a = s.byteAt a := (rfl)
@[simp] theorem State.byteAt_putXfer (s : State) (t : Transfer) (a : Nat) : (s.putXfer t).byteAt a = s.byteAt a := (rfl)
@[simp] theorem State.linePoison_setSes (s : State) (slot : Nat) (x : Session) (a : Nat) : (s.setSes slot x).linePoison a = s.linePoison a := (rfl)
@[simp] theorem State.linePoison_putXfer (s : State) (t : Transfer) (a : Nat) : (s.putXfer t).linePoison a = s.linePoison a := (rfl)
@[simp] theorem State.sesAt_putXfer (s : State) (t : Transfer) (slot : Nat) : (s.putXfer t).sesAt slot = s.sesAt slot := (rfl)
@[simp] theorem State.putXfer_busy (s : State) (t : Transfer) : (s.putXfer t).busy = s.busy := (rfl)

theorem State.Canon.setSes {s : State} (h : s.Canon) (slot : Nat) (x : Session) : (s.setSes slot x).Canon := ⟨h.csr, h.mem, h.poison⟩
theorem State.Canon.putXfer {s : State} (h : s.Canon) (t : Transfer) : (s.putXfer t).Canon := ⟨h.csr, h.mem, h.poison⟩

/-- A change of a session that keeps its state and its being closed or exported is not what a step waits on. -/
theorem State.setSes_busy {s : State} {slot : Nat} {x y : Session} (hx : s.sesAt slot = some x) (hst : y.st = x.st) (hcl : y.closing = x.closing) (hun : y.under = x.under) :
    (s.setSes slot y).busy = s.busy := by
  have hany := Tab.any_put (w := y) (p := fun e => e.2.st == .active || e.2.closing || e.2.under) hx (by simp only [hst, hcl, hun])
  simp only [State.busy, State.setSes, State.updSes_watch, State.updSes_ktl, State.updSes_tci, State.updSes_hbm, State.updSes_crypt, State.updSes_mews, State.updSes_ses,
    State.updSes_talon, State.updSes_pwr, hany]

/-! ### The commit record (R46) -/

theorem hbmEnd_le_commitAddr (slot : Nat) (posB : Bool) : hbmEnd ≤ commitAddr slot posB :=
  Nat.le_trans (by decide : hbmEnd ≤ roostBase) (by rw [commitAddr, Nat.add_assoc]; exact Nat.le_add_right ..)

/-- The two positions of a slot's records are two lines. -/
theorem commitAddr_apart {posA posB : Bool} (h : posA ≠ posB) (slot : Nat) : commitAddr slot posA + 64 ≤ commitAddr slot posB ∨ commitAddr slot posB + 64 ≤ commitAddr slot posA := by
  cases posA <;> cases posB <;> simp [commitAddr] at h ⊢

theorem commitBytes_length (x : Session) (seq ptImage nonce : Nat) : (commitBytes x seq ptImage nonce).length = 48 := by
  simp only [commitBytes, List.length_append, leBytes_length]

/-- A record with its tag fills a line. -/
theorem commitRecord_length {b : List Byte} (k : KeySet) (hb : b.length = 48) : (b ++ commitTag k b).length = 64 := by
  have htag : (commitTag k b).length = 16 := cmac_length k.tag _ (n := 3) (by simp [hb])
  rw [List.length_append, hb, htag]

/-- A session whose record at a position is replaced by one of sequence `seq`, with the image of the park that runs. -/
def Session.withRecord (x : Session) (seq : Nat) (posB : Bool) : Session :=
  { x with recs := x.recs.filter (fun r => r.posB != posB) ++ [{ seq := seq, posB := posB, pt := x.ptFrames }] }

/-- The current record's position is not the one that the next commit writes to, and its sequence is one lower. -/
theorem State.next_of_current {s : State} {slot : Nat} {x : Session} {r : CommitRec} (h : s.current slot x = some r) :
    s.nextPosB slot x = !r.posB ∧ s.nextCommit slot x = r.seq + 1 := by
  simp only [State.nextPosB, State.nextCommit, h, and_self]

section commit
variable {s : State} {slot : Nat} {x : Session} {t : Transfer} {k : KeySet} {posB : Bool} {b : List Byte} (ht : s.xfer .park slot = some t) (hx : s.sesAt slot = some x)
include ht hx

/-- With every frame moved the record is stored, the session remembers it and the park is committed. -/
theorem State.commitWrite_commits (hrun : t.running = true) (hnew : t.committed = false) (hpages : t.pages = []) (hpt : t.ptLeft = 0) (hup : s.roostUp = true)
    (hk : (s.domKeys x.domain).pick (s.sealSet x.domain) = some k) (hpos : posB = s.nextPosB slot x)
    (hb : b = commitBytes x (s.nextCommit slot x) (match x.ptFrames with | f :: _ => frameAddr f | [] => 0) (s.rd R.TIME_NONCE)) :
    s.commitWrite slot = ((s.putLine (commitAddr slot posB) (b ++ commitTag k b) false).setSes slot (x.withRecord (s.nextCommit slot x) posB)).putXfer { t with committed := true } := by
  subst hpos hb
  simp only [State.commitWrite, ht, hx, hrun, hnew, hpages, hpt, hup, hk, Bool.not_true, bne_self_eq_false, Bool.or_self, Bool.false_eq_true, if_false]
  rfl

end commit

/-- Settles O54: the record is stored as a clean line of the Roost, away from the current record's line. -/
theorem commitRecordIsStored : Obligations.CommitRecordIsStored := by
  intro s slot x t k posB seq b hs hrest ht hx hrun hnew hpages hpt hup hk hpos hseq hline hb
  subst hseq
  have hroost := hbmEnd_le_commitAddr slot posB
  have hlen : (b ++ commitTag k b).length = 64 := commitRecord_length k (by rw [hb, commitBytes_length])
  have hout := State.commitWrite_commits ht hx hrun hnew hpages hpt hup hk hpos hb
  generalize b ++ commitTag k b = l at hlen hout ⊢
  have hinside := State.byteAt_putLine_inside hline hroost l
  have houtside := State.byteAt_putLine_outside hline hroost l
  have hcanon := State.putLine_canon hline hroost hs l
  have hbusy := State.putLine_busy hline hroost l
  have honly := State.putLine_only hline hroost l
  have hclean := State.putLine_linePoison hline hroost l
  rw [hlen] at hinside houtside
  generalize s.putLine (commitAddr slot posB) l false = v at hout hinside houtside hcanon hbusy honly hclean
  have hses : ∀ n, v.sesAt n = s.sesAt n := fun n => by rw [honly]; rfl
  refine ⟨_, fin_effect_rests hout ?rests ?queue, hlen, ?inside, ?outside, ?current, (hcanon.setSes ..).putXfer _, ?only, ?clean, ?session, ?others⟩
  case rests =>
    have hkept : (v.setSes slot (x.withRecord (s.nextCommit slot x) posB)).busy = v.busy := State.setSes_busy ((hses slot).trans hx) rfl rfl rfl
    exact (State.putXfer_busy ..).trans (hkept.trans (hbusy.trans hrest))
  case queue => rw [honly]; rfl
  case inside => simpa using hinside
  case outside => simpa using houtside
  case current =>
    intro r hr
    obtain ⟨hpos', hseq'⟩ := State.next_of_current hr
    have hapart := commitAddr_apart (posA := r.posB) (posB := posB) (by simp [hpos, hpos']) slot
    refine ⟨hseq', fun j hj => ?_⟩
    simpa using houtside (commitAddr slot r.posB + j) (by omega)
  case only => rw [honly]; rfl
  case clean => simpa using hclean
  case session => exact (State.sesAt_putXfer ..).trans (State.sesAt_setSes_self ..)
  case others =>
    intro n hn
    rw [State.sesAt_putXfer, State.sesAt_setSes_ne _ _ hn, hses]

/-! ### Transfers and timers of sessions (R52, R53, R54, R58, R206) -/

section events
variable {s : State}

/-- While a transfer runs another may start: the first of the queue that can. -/
theorem State.transferStart_further {t : State} (hroom : s.runCount < s.runMax) (hup : s.roostUp = true) (hrun : s.xferRunning = true)
    (ht : s.startFirst (s.xferOrder (fun _ => true)) = (t, true)) : s.transferStart = t := by
  simp only [State.transferStart, Nat.not_le.mpr hroom, hup, hrun, ht, Bool.not_true, Bool.false_eq_true, false_and, or_self, if_false]

/-- The round robin takes the next running transfer in arrival order; a park moves a page of its own. -/
theorem State.pageTransfer_park {t : Transfer} (hup : s.roostUp = true) (ht : (s.roost.xfers.filter s.canStep).find? (fun t => decide (s.roost.rr < t.seq)) = some t)
    (hk : t.kind = .park) : s.pageTransfer = ((s.updRoost (fun r => { r with rr := t.seq })).parkStep t).keepQuarter := by
  simp only [State.pageTransfer, hup, ht, hk, Bool.not_true, Bool.false_eq_true, if_false]

theorem State.unparkComplete_ends {slot : Nat} {shards : List (Nat × Bool)} {t : Transfer} {x : Session} (ht : s.xfer .unpark slot = some t) (hx : s.sesAt slot = some x)
    (hrun : t.running = true) (hpages : t.pages = []) (hlost : shardLost x shards = false) (hall : shardsFollow x shards = true) : s.unparkComplete slot shards = s.unparked slot x := by
  simp only [State.unparkComplete, ht, hx, hrun, hpages, hlost, hall, Bool.true_and, beq_self_eq_true, Bool.not_true, Bool.false_eq_true, if_false, if_true]

section timers
variable {slot : Nat} {x : Session} (hx : s.sesAt slot = some x)
include hx

theorem State.unparkDefer_due (hr : x.runnable = true) (hu : x.unparking = false) (ht : x.runnableAt + 100000000 ≤ s.epoch) :
    s.unparkDefer slot = ((s.dropXfer .unpark slot).deferred).failUnpark slot Stat.deferred (s.deferCode (creditsOf s.xferMw)) := by
  simp only [State.unparkDefer, hx]
  exact if_pos (by simp [hr, hu, ht])

theorem State.unparkFrames_short {t : Nat} (hf : x.framesAt = some t) (hu : x.unparking = false) (ht : t + 10000000 ≤ s.epoch) (hnone : s.framesFor (x.pages.map (·.1)) = none) :
    s.unparkFrames slot = (s.dropXfer .unpark slot).failUnpark slot Stat.busy 14 := by
  simp only [State.unparkFrames, hx, hf]
  exact if_neg (by simp [hu, hnone, ht])

theorem State.buddyRetry_due (hd : x.buddyDue = true) (hb : x.buddy = .pending) (ht : x.buddyTryAt + 1000000000 ≤ s.epoch) : s.buddyRetry slot = s.buddyStart slot := by
  simp only [State.buddyRetry, hx]
  exact if_pos (by simp [hd, hb, ht])

end timers
end events

/-- Settles O15: each event is its rule's effect under the event's condition. -/
theorem sessionEngineEventsComplete : Obligations.SessionEngineEventsComplete := by
  intro s
  refine ⟨fun hc => fin_effect (if_pos hc), fun hroom hup hrun t ht => fin_effect (State.transferStart_further hroom hup hrun ht), ?page, ?commit,
    fun slot freed shards _ _ _ _ _ _ _ _ => fin_settledFrom s (s.commitAck slot freed shards), ?unparked,
    fun slot x hx hr hu ht => fin_effect (State.unparkDefer_due hx hr hu ht), fun slot x t hx hf hu ht hnone => fin_effect (State.unparkFrames_short hx hf hu ht hnone),
    fun slot x hx hd hb ht => fin_effect (State.buddyRetry_due hx hd hb ht)⟩
  case page =>
    intro hup t ht hk
    exact ⟨_, fin_effect (State.pageTransfer_park hup ht hk), rfl, rfl, rfl⟩
  case commit =>
    intro slot t x k posB b ht hx hrun hnew hpages hpt hup hk hpos hb
    exact fin_effect (State.commitWrite_commits ht hx hrun hnew hpages hpt hup hk hpos hb)
  case unparked =>
    intro slot shards t x ht hx hrun hpages hlost hall
    exact fin_effect (State.unparkComplete_ends ht hx hrun hpages hlost hall)

end Sys2Proof.Machine
end

section
/-! PROOF. The session commands, dispatched with parameters inside their bounds. -/

namespace Sys2Proof.Machine

/-! ### Work that is admitted (R39, R41, R56) -/

/-- A run for a session that is active, or waits for its unpark, is queued once its buffers pass and its new chunks find their place. -/
theorem State.runFor_places {u t v : State} {i : ICmd} {slot op : Nat} {bufsOk : Bool} {new : List Nat} {g : Go} (hbufs : bufsOk = true) (ht : u.activate slot op i.crit = (t, g))
    (hgo : g = .now ∨ g = .later) (hv : t.placeChunks slot new = some v) (r : TileRun) : u.runFor i slot op bufsOk new r = v.queueRun r := by
  obtain rfl | rfl := hgo <;> simp only [State.runFor, ht, hbufs, hv, Bool.not_true, Bool.false_eq_true, if_false]

/-! ### The session commands (R33, R36, R39, R42, R50, R51, R54, R55, R108, R110) -/

section taken
variable {s u : State} {c : Cmd} {i : ICmd}

/-- The outcome of a command that names no session, from what it does once taken. -/
theorem fin_plain {op : Nat} {f : State → ICmd → State} {v : State} (h : s.taken op c = some (u, i)) (hp : u.plainOk i) (hv : f u i = v) : fin s (s.plain op c f) = .next (v.settledFrom s) :=
  fin_effect ((State.plain_taken h hp f).trans hv)

/-- The outcome of a session command, from what it does to the session it finds. -/
theorem fin_onSession {op slot : Nat} {x : Session} {f : State → ICmd → Nat → Session → State} {v : State} (h : s.taken op c = some (u, i)) (hs : u.finds i slot x) (hv : f u i slot x = v) :
    fin s (s.onSession op c f) = .next (v.settledFrom s) :=
  fin_effect ((State.onSession_taken h hs f).trans hv)

theorem exec_sessionOpen (h : s.taken 0x0100 c = some (u, i)) (hp : u.plainOk i) (hlo : 1 ≤ i.c.p 0 % 2048) (hhi : i.c.p 0 % 2048 ≤ 1024)
    (hafter : parkAfterOk (parkAfterOf (i.c.p 0 / 2 ^ 32)) = true) (hbuddy : u.buddyOk (i.c.p 1 % 128) = true) (hroom : u.slotRefused = none) :
    exec (.sessionOpen c) s = .next (((u.addSession (fun h => newSession h (i.c.p 0 % 2048) (u.cmdDomain i.c) (parkAfterOf (i.c.p 0 / 2 ^ 32)) (i.c.p 1 % 128))).1.endRun i.seq Stat.ok
      (u.handleOf (u.freeSlot.getD 0) u.ses.gen)).settledFrom s) := by
  refine fin_plain h hp ((if_neg ?_).trans ?_)
  · simp only [hafter, hbuddy, Bool.not_true, Bool.false_eq_true, or_false]; omega
  · simp only [hroom]; rfl

section onSession
variable {slot : Nat} {x : Session} (hs : u.finds i slot x)
include hs

section resume
variable (h : s.taken 0x0102 c = some (u, i)) {t : State}
include h

theorem exec_sessionResume_now (ht : u.activate slot 0x0102 i.crit = (t, .now)) : exec (.sessionResume c) s = .next ((t.endRun i.seq Stat.ok (t.wordOf slot)).settledFrom s) :=
  fin_onSession h hs (by simp only [ht])

theorem exec_sessionResume_later (ht : u.activate slot 0x0102 i.crit = (t, .later)) : exec (.sessionResume c) s = .next ((t.waitOn i.seq .unpark slot).settledFrom s) :=
  fin_onSession h hs (by simp only [ht])

end resume

section park
variable (h : s.taken 0x0103 c = some (u, i)) (hg : x.gone = false) (hw : x.st = .waiting)
include h hg hw

theorem exec_sessionPark_joins (hp : x.parking = true) : exec (.sessionPark c) s = .next ((u.waitOn i.seq .park slot).settledFrom s) :=
  fin_onSession h hs (by simp only [hg, hw, hp, Bool.false_eq_true, if_false, if_true])

theorem exec_sessionPark_starts (hp : x.parking = false) {t : State} (ht : u.startPark slot false = (t, true)) :
    exec (.sessionPark c) s = .next ((t.waitOn i.seq .park slot).settledFrom s) :=
  fin_onSession h hs (by simp only [hg, hw, hp, ht, Bool.false_eq_true, if_false])

end park

/-- The form that sets PARK_AFTER alone. -/
theorem exec_sessionSet_parkAfter (h : s.taken 0x0104 c = some (u, i)) (hg : x.gone = false) (hform : i.c.p 0 % 4 = 1) (hafter : parkAfterOk (i.c.p 1 % 2 ^ 32) = true) :
    exec (.sessionSet c) s = .next (((u.setSes slot { x with parkAfter := i.c.p 1 % 2 ^ 32 }).endRun i.seq Stat.ok).settledFrom s) := by
  have h0 : natBit (i.c.p 0) 0 = true := by simp [natBit, Nat.testBit_zero]; omega
  have h1 : natBit (i.c.p 0) 1 = false := by simp [natBit, Nat.testBit_succ, Nat.testBit_zero]; omega
  refine fin_onSession h hs ?_
  simp only [h0, h1, hafter, hg, Bool.not_true, Bool.and_false, Bool.false_and, Bool.or_self, Bool.false_eq_true, if_false, if_true]

theorem exec_sessionQuery (h : s.taken 0x0105 c = some (u, i)) (hc : x.closing = false) :
    exec (.sessionQuery c) s = .next ((u.endRun i.seq Stat.ok x.word (x.parkAfter + min (x.idleNs u.epoch / 1000000) 0xFFFFFFFF * 2 ^ 32)).settledFrom s) :=
  fin_onSession h hs (if_neg (by simp [hc]))

theorem exec_sessionExport (h : s.taken 0x0106 c = some (u, i)) (hg : x.gone = false) (hst : x.st ≠ .exported) :
    exec (.sessionExport c) s = .next (((u.beginExport slot).waitOn i.seq .export_ slot (i.c.p 0 % 2 ^ 32)).settledFrom s) :=
  fin_onSession h hs ((if_neg fun e => hst e.1).trans (if_neg (by simp [hg])))

theorem exec_sessionClose (h : s.taken 0x0109 c = some (u, i)) (hc : x.closing = false) : exec (.sessionClose c) s = .next (((u.beginClose slot).waitOn i.seq .close slot).settledFrom s) :=
  fin_onSession h hs (if_neg (by simp [hc]))

theorem exec_sessionAppend (h : s.taken 0x0101 c = some (u, i)) (hlo : 1 ≤ i.c.p 0 % 2 ^ 25) (hn : i.c.p 0 % 2 ^ 25 ≤ 2 ^ 24) (hcap : i.c.p 4 % 2 ^ 25 ≤ 2 ^ 24)
    (hlen : x.length + i.c.p 0 % 2 ^ 25 + i.c.p 4 % 2 ^ 25 ≤ 2 ^ 24) {e : PlanEntry} (he : u.loadedEntry (i.c.p 2 % 65536) (i.c.p 2 / 65536 % 65536) = some e)
    (hses : e.session = true) (hkinds : e.kinds = appendKinds)
    (hbufs : u.bufsOk i.c [(.r, i.c.p 1, 4 * (i.c.p 0 % 2 ^ 25)), (.w, i.c.p 3, 4 * (i.c.p 4 % 2 ^ 25))] = true)
    {g : Go} {t v : State} (ht : u.activate slot 0x0101 i.crit = (t, g)) (hgo : g = .now ∨ g = .later)
    (hv : t.placeChunks slot (newChunks x.length (x.length + i.c.p 0 % 2 ^ 25 + i.c.p 4 % 2 ^ 25)) = some v) :
    exec (.sessionAppend c) s = .next ((v.queueRun (appendRun i slot x.length)).settledFrom s) := by
  refine fin_onSession h hs ((if_neg ?_).trans (State.runFor_places hbufs ht hgo hv _))
  simp only [appendRun, he, hses, hkinds, beq_self_eq_true, Bool.and_self, Bool.not_true, Bool.false_eq_true, or_false]
  omega

end onSession

/-- An import that is queued waits for its stream, which joins those that come in. -/
theorem exec_sessionImport (h : s.taken 0x0107 c = some (u, i)) (hp : u.plainOk i) (hbuddy : u.buddyOk (i.c.p 1 % 128) = true)
    (hnew : u.ses.imports.any (fun j => j.stream == i.c.p 0 % 2 ^ 32) = false) (hroom : u.slotRefused = none) {t : State}
    (ht : u.enqueue .import_ (i.c.p 0 % 2 ^ 32) importClass [] 0 = (t, true)) :
    exec (.sessionImport c) s = .next (((t.updSes (fun x => { x with imports := x.imports ++ [
      { stream := i.c.p 0 % 2 ^ 32, seq := i.seq, domain := t.cmdDomain i.c, buddyPkg := i.c.p 1 % 128, header := false, groups := 0, length := 0, pt := 0, sectors := 0, got := 0,
        frames := [] }] })).waitOn i.seq .import_ (i.c.p 0 % 2 ^ 32)).settledFrom s) :=
  fin_plain h hp (by simp only [hbuddy, hnew, hroom, ht, Bool.not_true, Bool.false_eq_true, if_false])

/-- The override bit spares the wait for the home package's loss, and queue pair 0 the check of the domain. -/
theorem exec_sessionRecover (h : s.taken 0x0108 c = some (u, i)) (hp : u.badParams i.c = false) {b : BuddyEnt} (hb : u.ses.buddies.find? (fun e => e.handle == i.c.handle) = some b)
    (hqp : i.c.qp = 0) (hover : natBit (i.c.p 0) 0 = true) (hroom : u.noSlot = none) (hdead : u.roostDead = false) (hlost : b.frames.any u.frameLost = false) :
    exec (.sessionRecover c) s = .next (((u.recoverCopy b).1.endRun i.seq Stat.ok (u.recoverCopy b).2).settledFrom s) :=
  fin_effect ((State.command_taken h _).trans
    (by simp only [hb, hqp, hp, hover, hroom, hdead, hlost, ne_eq, not_true_eq_false, false_and, Bool.not_true, Bool.false_and, Bool.or_self, Bool.false_eq_true, if_false]))

end taken

/-- Settles O11: each command is its table's effect on what it finds. -/
theorem sessionCommandsComplete : Obligations.SessionCommandsComplete := by
  intro s c u i
  refine ⟨exec_sessionOpen, fun slot x hs => ⟨fun h _ => exec_sessionResume_now hs h, fun h _ => exec_sessionResume_later hs h, exec_sessionPark_joins hs,
    fun h hg hw hp _ => exec_sessionPark_starts hs h hg hw hp, exec_sessionSet_parkAfter hs, exec_sessionQuery hs, exec_sessionExport hs, exec_sessionClose hs, ?append⟩, ?import_,
    fun h hp _ => exec_sessionRecover h hp⟩
  case append =>
    intro h _ hlo hn hcap hlen e he hses hkinds hbufs g t v
    exact exec_sessionAppend hs h hlo hn hcap hlen he hses hkinds hbufs
  case import_ =>
    intro h hp hbuddy hnew hroom t ht
    exact ⟨_, exec_sessionImport h hp hbuddy hnew hroom ht, rfl, List.map_append⟩

end Sys2Proof.Machine
end

section
/-! PROOF. Replies into a ring in host memory, and the reply to a command that comes before READY. -/

namespace Sys2Proof.Machine

/-! ### The phases of the rings (R66) -/

theorem mem_sinsert {l : List Nat} {k j : Nat} : j ∈ sinsert l k ↔ j = k ∨ j ∈ l := by
  induction l with
  | nil => simp [sinsert]
  | cons x r ih =>
    by_cases he : x = k
    · simp [sinsert, he]
    · by_cases hl : k < x
      · simp [sinsert, he, hl]
      · simp [sinsert, he, hl, ih, or_left_comm]

/-- The set of queue pairs whose phase bit is 0, with `q` moved to the other phase. -/
def phaseFlip (l : List Nat) (q : Nat) : List Nat := if l.contains q then l.filter (· != q) else sinsert l q

theorem phaseFlip_contains (l : List Nat) (q : Nat) : (phaseFlip l q).contains q = !l.contains q := by
  by_cases h : q ∈ l <;> simp [phaseFlip, h, mem_sinsert]

/-! ### Fields beside each other, and epoch time -/

/-- Two registers of equal stride that start at different offsets are apart at each index. -/
theorem RF.addr_ne {f g : RF} (hs : f.s1 = g.s1) (hb : f.base ≠ g.base) (i : Nat) : f.addr i 0 0 ≠ g.addr i 0 0 := by simp [RF.addr, hs, hb]

/-- Epoch time depends on the time base and on its two anchors only. -/
theorem State.epoch_congr {s t : State} (ht : t.time = s.time) (hns : t.csrAt (R.TIME_ANCHOR_NS.addr 0 0 0) = s.csrAt (R.TIME_ANCHOR_NS.addr 0 0 0))
    (hticks : t.csrAt (R.TIME_ANCHOR_TICKS.addr 0 0 0) = s.csrAt (R.TIME_ANCHOR_TICKS.addr 0 0 0)) : t.epoch = s.epoch := by
  have h1 : t.rd R.TIME_ANCHOR_NS = s.rd R.TIME_ANCHOR_NS := by simp only [State.rd, hns]
  have h2 : t.rd R.TIME_ANCHOR_TICKS = s.rd R.TIME_ANCHOR_TICKS := by simp only [State.rd, hticks]
  simp only [State.epoch, State.anchorNs, ht, h1, h2]

section ring
variable {s : State} {q : Nat}

/-! ### The interrupt of a queue pair of the PCIe host (R72) -/

/-- The vector that a reply raises: with NOTIFY, or once COAL_COUNT replies are unsignalled, `n` of them before this one. -/
def State.vectorRaised (s : State) (q n : Nat) (notify : Bool) : List Out :=
  if notify = true ∨ (s.rd R.TCI_QP_SIZE.COAL_COUNT q ≠ 0 ∧ s.rd R.TCI_QP_SIZE.COAL_COUNT q ≤ n + 1) then [.msix (s.rd R.TCI_QP_SIZE.VECTOR q)] else []

theorem State.emits_vectorRaised_out (s t : State) (q n : Nat) (notify : Bool) : (t.emits (s.vectorRaised q n notify)).out = s.vectorRaised q n notify ++ t.out := by
  unfold State.vectorRaised; split <;> rfl

/-- But for its vector a reply of such a queue pair changes only the count of unsignalled replies. -/
theorem State.signal_pcie {n since : Nat} (hp : s.partner q = pcie) (hn : Tab.get s.tci.unsig q (0, s.epoch) = (n, since)) (notify : Bool) :
    ∃ l, s.signal q notify = (s.updTci (fun t => { t with unsig := l })).emits (s.vectorRaised q n notify) := by
  have hraise : ∀ t : State, t.partner q = pcie → t.raiseQp q = (t.updTci (fun t => { t with unsig := Tab.del t.unsig q })).emits [.msix (t.rd R.TCI_QP_SIZE.VECTOR q)] :=
    fun t ht => if_pos ht
  cases notify with
  | true => exact ⟨_, hraise s hp⟩
  | false =>
    by_cases hcoal : s.rd R.TCI_QP_SIZE.COAL_COUNT q ≠ 0 ∧ s.rd R.TCI_QP_SIZE.COAL_COUNT q ≤ n + 1
    · simp only [State.signal, State.vectorRaised, hn, Bool.false_eq_true, if_false, false_or, if_pos hcoal]
      exact ⟨_, hraise _ hp⟩
    · simp only [State.signal, State.vectorRaised, hn, Bool.false_eq_true, if_false, false_or, if_neg hcoal]
      exact ⟨Tab.put s.tci.unsig q (n + 1, since), rfl⟩

/-! ### One reply entry (R66, R71) -/

/-- A reply as it stands in its ring: with the ring's phase bit. -/
def State.phased (s : State) (q : Nat) (r : Rep) : Rep := { r with flags := r.flags / 2 * 2 + b2n (!s.tci.phase0.contains q) }

/-- A reply entry is written at the tail of a ring in host memory: the tail advances, and the phase turns at the wrap. -/
def State.replyStored (s : State) (q : Nat) (r : Rep) : State :=
  let next := (s.rd R.TCI_QP_PTR.RQ_TAIL q + 1) % s.rqDepth q
  (((s.emit (.hostWrite (s.rqBase q + s.rd R.TCI_QP_PTR.RQ_TAIL q * 32) (r.bytes.map BitVec.toNat))).wr R.TCI_QP_PTR.RQ_TAIL next q).updTci (fun t => { t with
    reserved := let n := Tab.get t.reserved q 0; if n ≤ 1 then Tab.del t.reserved q else Tab.put t.reserved q (n - 1),
    phase0 := if next = 0 then phaseFlip t.phase0 q else t.phase0 })).emit (.reply q r)

theorem State.rqWrite_host (hh : s.inHost q = true) (r : Rep) (notify : Bool) : s.rqWrite q r notify = (s.replyStored q (s.phased q r)).signal q notify := by
  simp only [State.rqWrite, State.ringWrite, hh, if_true]
  rfl

/-- Of an admitted command of a pull queue pair the reply goes to its ring. -/
theorem State.deliver_pull {i : ICmd} (hf : i.c.fwdFrom = none) (hlive : s.qpState i.c.qp = qpLive) (hp : s.partner i.c.qp = pcie) (r : Rep) :
    s.deliver i r = s.rqWrite i.c.qp r i.c.notify := by
  simp only [State.deliver, hf, hlive, ne_eq, not_true_eq_false, false_and, if_false, State.isPush, hp]
  rfl

section replyStored
variable (hs : Tab.wf s.csr = true) (r : Rep)
include hs

/-- A field of another register of the queue pair reads as before. -/
theorem State.replyStored_rd {f : RF} (h1 : f.s1 = R.TCI_QP_PTR.RQ_TAIL.s1) (hb : f.base ≠ R.TCI_QP_PTR.RQ_TAIL.base) : (s.replyStored q r).rd f q = s.rd f q :=
  State.rd_wr_ne hs _ f _ q 0 0 q 0 0 (RF.addr_ne h1 hb q)

theorem State.replyStored_tail {next : Nat} (hnext : (s.rd R.TCI_QP_PTR.RQ_TAIL q + 1) % s.rqDepth q = next) : (s.replyStored q r).rd R.TCI_QP_PTR.RQ_TAIL q = next % 2 ^ 16 := by
  subst hnext
  exact State.rd_wr_self hs R.TCI_QP_PTR.RQ_TAIL _ q 0 0 (by decide)

theorem State.replyStored_csrAt {a : Nat} (ha : a ≠ R.TCI_QP_PTR.RQ_TAIL.addr q 0 0) : (s.replyStored q r).csrAt a = s.csrAt a := State.csrAt_wr_ne hs R.TCI_QP_PTR.RQ_TAIL _ q 0 0 ha

theorem State.replyStored_epoch (hq : q < 4096) : (s.replyStored q r).epoch = s.epoch := by
  have hlow : ∀ f : RF, f.addr 0 0 0 < 0x1200020 ∨ 0x1240020 ≤ f.addr 0 0 0 → f.addr 0 0 0 ≠ R.TCI_QP_PTR.RQ_TAIL.addr q 0 0 := by
    intro f hf
    have : R.TCI_QP_PTR.RQ_TAIL.addr q 0 0 = 0x1200020 + q * 0x40 := by simp [RF.addr, R.TCI_QP_PTR.RQ_TAIL]
    omega
  exact State.epoch_congr rfl (State.replyStored_csrAt hs r (hlow _ (by decide))) (State.replyStored_csrAt hs r (hlow _ (by decide)))

theorem State.replyStored_vectorRaised (n : Nat) (notify : Bool) : (s.replyStored q r).vectorRaised q n notify = s.vectorRaised q n notify := by
  simp only [State.vectorRaised, State.replyStored_rd hs r (f := R.TCI_QP_SIZE.COAL_COUNT) rfl (by decide), State.replyStored_rd hs r (f := R.TCI_QP_SIZE.VECTOR) rfl (by decide)]

end replyStored

theorem State.replyStored_phase (r : Rep) {next : Nat} (hnext : (s.rd R.TCI_QP_PTR.RQ_TAIL q + 1) % s.rqDepth q = next) :
    (s.replyStored q r).tci.phase0.contains q = if next = 0 then !s.tci.phase0.contains q else s.tci.phase0.contains q := by
  subst hnext
  change List.contains (if (s.rd R.TCI_QP_PTR.RQ_TAIL q + 1) % s.rqDepth q = 0 then phaseFlip s.tci.phase0 q else s.tci.phase0) q = _
  split
  · exact phaseFlip_contains _ _
  · rfl

/-- After a reply to the PCIe host: the entry stands in its ring, `l` counts the unsignalled replies, and `o` holds the vector that was raised. -/
def State.replied (s : State) (q : Nat) (r : Rep) (l : Tab (Nat × Nat)) (o : List Out) : State := ((s.replyStored q r).updTci (fun t => { t with unsig := l })).emits o

@[simp] theorem State.replied_csr (r : Rep) (l : Tab (Nat × Nat)) (o : List Out) : (s.replied q r l o).csr = (s.replyStored q r).csr := by simp [State.replied]
@[simp] theorem State.replied_phase0 (r : Rep) (l : Tab (Nat × Nat)) (o : List Out) : (s.replied q r l o).tci.phase0 = (s.replyStored q r).tci.phase0 := by simp [State.replied]
@[simp] theorem State.replied_intake (r : Rep) (l : Tab (Nat × Nat)) (o : List Out) : (s.replied q r l o).tci.intake = s.tci.intake := by simp [State.replied, State.replyStored]
@[simp] theorem State.replied_csrAt (r : Rep) (l : Tab (Nat × Nat)) (o : List Out) (a : Nat) : (s.replied q r l o).csrAt a = (s.replyStored q r).csrAt a := by
  simp only [State.csrAt, State.replied_csr]
@[simp] theorem State.replied_rd (r : Rep) (l : Tab (Nat × Nat)) (o : List Out) (f : RF) (i : Nat) : (s.replied q r l o).rd f i = (s.replyStored q r).rd f i := by
  simp only [State.rd, State.replied_csrAt]

@[simp] theorem State.replied_pending (r : Rep) (l : Tab (Nat × Nat)) (o : List Out) : (s.replied q r l o).pending = s.pending := by simp [State.replied, State.replyStored]
@[simp] theorem State.replied_busy (r : Rep) (l : Tab (Nat × Nat)) (o : List Out) : (s.replied q r l o).busy = s.busy := by
  rw [State.replied, State.emits_busy, State.updTci_busy _ _ rfl, State.replyStored, State.emit_busy, State.updTci_busy _ _ rfl, State.wr_busy, State.emit_busy]

theorem State.replied_out (r : Rep) (l : Tab (Nat × Nat)) (u : State) (n : Nat) (notify : Bool) : (s.replied q r l (u.vectorRaised q n notify)).out =
    u.vectorRaised q n notify ++ ([.reply q r, .hostWrite (s.rqBase q + s.rd R.TCI_QP_PTR.RQ_TAIL q * 32) (r.bytes.map BitVec.toNat)] ++ s.out) :=
  State.emits_vectorRaised_out ..

/-- The registers, what is put out and the interface's own state change, nothing else. -/
theorem State.replied_only (r : Rep) (l : Tab (Nat × Nat)) (o : List Out) :
    s.replied q r l o = { s with csr := (s.replied q r l o).csr, out := (s.replied q r l o).out, tci := (s.replied q r l o).tci } := by
  simp only [State.replied, State.replyStored, State.emits, State.updTci, State.emit, State.wr, State.csrPut]

theorem State.rqWrite_pcie (hs : Tab.wf s.csr = true) (hq : q < 4096) (hp : s.partner q = pcie) (hh : s.inHost q = true) {n since : Nat}
    (hn : Tab.get s.tci.unsig q (0, s.epoch) = (n, since)) (r : Rep) (notify : Bool) :
    ∃ l, s.rqWrite q r notify = s.replied q (s.phased q r) l (s.vectorRaised q n notify) := by
  have hpartner : (s.replyStored q (s.phased q r)).partner q = pcie := (State.replyStored_rd hs _ (f := R.TCI_QP_ATTR.PARTNER) rfl (by decide)).trans hp
  have hunsig : Tab.get (s.replyStored q (s.phased q r)).tci.unsig q (0, (s.replyStored q (s.phased q r)).epoch) = (n, since) := by
    rw [State.replyStored_epoch hs _ hq]; exact hn
  rw [State.rqWrite_host hh, ← State.replyStored_vectorRaised hs (s.phased q r) n notify]
  exact State.signal_pcie hpartner hunsig notify

end ring

/-- A reply entry has 32 bytes. -/
theorem replyBytes_length (r : Rep) : r.bytes.length = 32 := by simp [Rep.bytes, leBytes_length]

theorem b2n_lt (b : Bool) : b2n b < 2 := by cases b <;> decide

/-! ### A command that comes before READY (R80) -/

section notReady
variable {s : State} {c : Cmd}

/-- The admission number that each command takes. -/
def State.numbered (s : State) : State := s.updTci (fun t => { t with seq := t.seq + 1 })

@[simp] theorem State.numbered_pending : s.numbered.pending = s.pending := rfl
@[simp] theorem State.numbered_busy : s.numbered.busy = s.busy := State.updTci_busy s _ rfl

theorem State.admitCmd_notReady (h : s.rd R.TCI_STATUS.READY = 0) : s.admitCmd c none = (s.numbered.turnAway (s.newCmd c none) Stat.notReady 16 0, none) := if_pos h

/-- A command that the intake does not hold, and that is answered at its admission, has no other effect. -/
theorem State.command_answered {t : State} {op : Nat} (hc : s.coreOn = true) (hnew : ∀ i ∈ s.tci.intake, i.c ≠ { c with opcode := op })
    (ht : s.admitCmd { c with opcode := op } none = (t, none)) (f : State → ICmd → State) : s.command op c f = t := by
  have hfind : s.tci.intake.find? (fun i => i.c == { c with opcode := op }) = none := by simpa using hnew
  simp only [State.command, hc, hfind, ht, Bool.not_true, Bool.false_eq_true, if_false]

theorem State.command_notReady {op : Nat} (hc : s.coreOn = true) (hready : s.rd R.TCI_STATUS.READY = 0) (hf : c.fwdFrom = none)
    (hnew : ∀ i ∈ s.tci.intake, i.c ≠ { c with opcode := op }) (hlive : s.qpState c.qp = qpLive) (hp : s.partner c.qp = pcie) (f : State → ICmd → State) :
    s.command op c f = s.numbered.rqWrite c.qp (s.repOf (s.newCmd c none) Stat.notReady 0 0 16 0) c.notify :=
  (State.command_answered hc hnew (State.admitCmd_notReady hready) f).trans (State.deliver_pull (s := s.numbered) (i := s.newCmd { c with opcode := op } none) hf hlive hp _)

end notReady

/-- Settles O52: the command is answered at its admission, by the rule of replies into a ring of the PCIe host. -/
theorem notReadyReplyEntersItsRing : Obligations.NotReadyReplyEntersItsRing := by
  rintro s c op _ _ next n since hs hrest hc hready hf rfl hq hnew hlive hp hh rfl hnext hn
  have hnext' : (s.numbered.rd R.TCI_QP_PTR.RQ_TAIL c.qp + 1) % s.numbered.rqDepth c.qp = next := hnext.symm
  have hwf : Tab.wf s.numbered.csr = true := hs.csr
  generalize hr : s.phased c.qp (s.repOf (s.newCmd c none) Stat.notReady 0 0 16 0) = r
  obtain ⟨l, hl⟩ : ∃ l, s.numbered.rqWrite c.qp (s.repOf (s.newCmd c none) Stat.notReady 0 0 16 0) c.notify = s.numbered.replied c.qp r l (s.vectorRaised c.qp n c.notify) :=
    hr ▸ State.rqWrite_pcie (s := s.numbered) hwf hq hp hh hn _ _
  have hact f : fin s (s.command op c f) = .next (s.numbered.replied c.qp r l (s.vectorRaised c.qp n c.notify)) :=
    fin_effect_rests ((State.command_notReady hc hready hf hnew hlive hp f).trans hl) (by simpa using hrest.busy) (by simp)
  refine ⟨s.numbered.replied c.qp r l (s.vectorRaised c.qp n c.notify), r, ?nop, ?identify, ?tag, ?status, ?retry, ?r0, ?r1, ?done, ?phase, replyBytes_length r, ?out,
    ?rqtail, ?others, ?turn, ?intake, ?only⟩
  case rqtail => rw [State.replied_rd, State.replyStored_tail hwf r hnext']
  case others => intro a ha; rw [State.replied_csrAt, State.replyStored_csrAt hwf r ha]; rfl
  case turn => rw [State.replied_phase0, State.replyStored_phase r hnext']; rfl
  case intake => rw [State.replied_intake]; rfl
  case only => exact State.replied_only r l _
  case nop => rintro rfl; exact hact _
  case identify => rintro rfl; exact hact _
  case out => rw [State.replied_out, List.append_assoc]; rfl
  case phase =>
    subst hr
    change (_ / 2 * 2 + b2n (!s.tci.phase0.contains c.qp)) % 2 = b2n (!s.tci.phase0.contains c.qp)
    have := b2n_lt (!s.tci.phase0.contains c.qp)
    omega
  all_goals subst hr; rfl

end Sys2Proof.Machine
end

section
/-! PROOF. Doorbells, the enable of queue pair 0, and the register writes that act on Jess, Crypt and the links. -/

namespace Sys2Proof.Machine

section
variable {s : State} {w : CsrWr}

/-! ### Writes through BAR0 (R305) -/

/-- The outcome of an admitted write that may come through BAR0, from what it does. -/
theorem fin_barWrite {a : Nat} {f : State → State} {u : State} (h : s.Admits a w) (hf : f s = u) :
    fin s (s.barAccess w.m fun t => t.csrWrite a w f) = .next (((u.emit (.done w.m [])).barEnd w.m).settledFrom s) := by
  refine fin_effect ((State.barAccess_admitted (State.gate_notPerch h.gate) _).trans ?_)
  rw [State.csrWrite_admitted h.gate, hf]

/-- In FLIGHT and GLIDE an access of the PCIe host wakes nothing. -/
theorem State.barEnd_awake (h : s.pwr.pstate = .flight ∨ s.pwr.pstate = .glide) (m : Master) : s.barEnd m = s := by
  have hwake : s.wakeBy R.PWR_WAKE_CAUSE.PCIE = s := by rcases h with h | h <;> simp only [State.wakeBy, h]
  rw [State.barEnd, hwake, ite_self]

/-! ### Doorbells (R62, R63) -/

section doorbell
variable {q : Nat}

/-- The outcome of an admitted doorbell, from what its checks and its act make of it. -/
theorem exec_sqDoorbell {u : State} (hq : q < 4096) (h : s.Admits (R.TCI_DB_SQ.addr q 0 0) w) (hu : s.sqDoorbellAt q w = u) :
    exec (.sqDoorbell q w) s = .next (((u.emit (.done w.m [])).barEnd w.m).settledFrom s) := by
  change fin s (if q < 4096 then _ else s) = _
  rw [if_pos hq]
  exact fin_barWrite h hu

theorem exec_rqDoorbell {u : State} (hq : q < 4096) (h : s.Admits (R.TCI_DB_RQ.addr q 0 0) w) (hu : s.rqDoorbellAt q w = u) :
    exec (.rqDoorbell q w) s = .next (((u.emit (.done w.m [])).barEnd w.m).settledFrom s) := by
  change fin s (if q < 4096 then _ else s) = _
  rw [if_pos hq]
  exact fin_barWrite h hu

/-- A doorbell that addresses INDEX is dropped as the checks say, or rings. -/
theorem State.sqDoorbellAt_index (hw : w.sub = 0) : s.sqDoorbellAt q w = (s.doorbellDrop q w.m (w.val % 65536) (s.sqDepth q)).getD (s.sqRing q (w.val % 65536)) := by
  simp only [State.sqDoorbellAt, indexWritten, hw, beq_self_eq_true, Bool.not_true, Bool.false_eq_true, if_false]
  cases s.doorbellDrop q w.m (w.val % 65536) (s.sqDepth q) <;> rfl

theorem State.rqDoorbellAt_index (hw : w.sub = 0) :
    s.rqDoorbellAt q w = (s.doorbellDrop q w.m (w.val % 65536) (s.rqDepth q)).getD (s.wr R.TCI_QP_PTR.RQ_HEAD (w.val % 65536) q) := by
  simp only [State.rqDoorbellAt, indexWritten, hw, beq_self_eq_true, Bool.not_true, Bool.false_eq_true, if_false]
  cases s.doorbellDrop q w.m (w.val % 65536) (s.rqDepth q) <;> rfl

end doorbell

/-- A doorbell of a queue pair that is not LIVE, or of its partner at or above the ring's depth, is dropped. -/
theorem State.doorbellDrop_outside {q v d : Nat} {m : Master} (h : s.qpState q ≠ qpLive ∨ s.doorbellsOpen q = true ∧ s.fromPartner q m = true ∧ d ≤ v) :
    s.doorbellDrop q m v d = some s.dropDoorbell := by
  by_cases hlive : s.qpState q = qpLive
  · obtain ⟨hopen, hfrom, hdepth⟩ := h.resolve_left (not_not_intro hlive)
    simp only [State.doorbellDrop, hopen, hlive, hfrom, hdepth, bne_self_eq_false, Bool.not_true, Bool.or_self, Bool.false_eq_true, if_false, if_true]
  · simp [State.doorbellDrop, hlive]

/-- What a dropped doorbell leaves in a package at rest that is awake: the count of drops, and its completion. -/
theorem State.dropped_settles (hs : s.Canon) (hrest : s.Rests) (hp : s.pwr.pstate = .flight ∨ s.pwr.pstate = .glide) {t : State}
    (ht : ((s.dropDoorbell.emit (.done w.m [])).barEnd w.m).settledFrom s = t) :
    t.rd R.TCI_DB_DROPPED_CNT.COUNT = (s.rd R.TCI_DB_DROPPED_CNT.COUNT + 1) % 2 ^ 32 ∧ (∀ a, a ≠ R.TCI_DB_DROPPED_CNT.addr 0 0 0 → t.csrAt a = s.csrAt a) ∧
      t = { s with csr := t.csr, out := .done w.m [] :: s.out } := by
  rw [State.barEnd_awake (by simpa [State.dropDoorbell] using hp), State.settledFrom_rests (by simpa [State.dropDoorbell] using hrest.busy) (by simp [State.dropDoorbell])] at ht
  subst ht
  exact ⟨State.rd_wr_self hs.csr R.TCI_DB_DROPPED_CNT.COUNT _ 0 0 0 (by decide), fun a ha => State.csrAt_wr_ne hs.csr R.TCI_DB_DROPPED_CNT.COUNT _ 0 0 0 ha, rfl⟩

end

/-- Settles O41: on either ring such a doorbell is dropped. -/
theorem doorbellOutsideTheRingIsDropped : Obligations.DoorbellOutsideTheRingIsDropped := by
  intro s q w hs hq hw hp
  constructor <;> intro h hout
  · have hdrop : s.sqDoorbellAt q w = s.dropDoorbell := by rw [State.sqDoorbellAt_index hw, State.doorbellDrop_outside hout, Option.getD_some]
    exact ⟨_, exec_sqDoorbell hq h hdrop, State.dropped_settles hs h.rests hp rfl⟩
  · have hdrop : s.rqDoorbellAt q w = s.dropDoorbell := by rw [State.rqDoorbellAt_index hw, State.doorbellDrop_outside hout, Option.getD_some]
    exact ⟨_, exec_rqDoorbell hq h hdrop, State.dropped_settles hs h.rests hp rfl⟩

section
variable {s : State} {w : CsrWr}

/-! ### Queue pair 0 (R80, R83) -/

theorem State.adminCfg_enables {v : Word} (hoff : s.rd R.TCI_ADMIN_CFG.ENABLE = 0) (hv : v.field 0 1 = 1) :
    s.adminCfg v = ((s.csrPut (R.TCI_ADMIN_CFG.addr 0 0 0) v).adminOn).adminCheck := by
  simp [State.adminCfg, hoff, hv]

/-- The other fields are fixed while ENABLE is 1. -/
theorem State.adminCfg_disables {v u : Word} (hon : s.rd R.TCI_ADMIN_CFG.ENABLE = 1) (hv : v.field 0 1 = 0)
    (hu : u = (s.csrAt (R.TCI_ADMIN_CFG.addr 0 0 0)).setField 0 1 0) (h0 : u.field 0 1 = 0) :
    s.adminCfg v = ((s.csrPut (R.TCI_ADMIN_CFG.addr 0 0 0) u).adminOff).adminCheck := by
  simp [State.adminCfg, hon, hv, ← hu, h0]

theorem exec_adminQpEnable (h : s.Admits (R.TCI_ADMIN_CFG.addr 0 0 0) w) (hw : written w R.TCI_ADMIN_CFG.ENABLE = 1) (hoff : s.rd R.TCI_ADMIN_CFG.ENABLE = 0)
    (hv : (s.merged R.TCI_ADMIN_CFG w).field 0 1 = 1) :
    exec (.adminQpEnable w) s =
      .next ((((((s.csrPut (R.TCI_ADMIN_CFG.addr 0 0 0) (s.merged R.TCI_ADMIN_CFG w)).adminOn).adminCheck).emit (.done w.m [])).barEnd w.m).settledFrom s) := by
  change fin s (if written w R.TCI_ADMIN_CFG.ENABLE = 1 then _ else s) = _
  rw [if_pos hw]
  exact fin_barWrite h (State.adminCfg_enables hoff hv)

theorem exec_adminQpDisable (h : s.Admits (R.TCI_ADMIN_CFG.addr 0 0 0) w) (hw : written w R.TCI_ADMIN_CFG.ENABLE = 0) (hon : s.rd R.TCI_ADMIN_CFG.ENABLE = 1)
    (hv : (s.merged R.TCI_ADMIN_CFG w).field 0 1 = 0) {v : Word} (hu : v = (s.csrAt (R.TCI_ADMIN_CFG.addr 0 0 0)).setField 0 1 0) (h0 : v.field 0 1 = 0) :
    exec (.adminQpDisable w) s = .next ((((((s.csrPut (R.TCI_ADMIN_CFG.addr 0 0 0) v).adminOff).adminCheck).emit (.done w.m [])).barEnd w.m).settledFrom s) := by
  change fin s (if written w R.TCI_ADMIN_CFG.ENABLE = 0 then _ else s) = _
  rw [if_pos hw]
  exact fin_barWrite h (State.adminCfg_disables hon hv hu h0)

/-! ### Jess (R242, R245, R246) -/

/-- The master table after a commit of region `n`. -/
def State.regionStored (s : State) (n start stop attr : Nat) : State :=
  ((((s.wr R.JESS_STAGE_STATUS.RESULT 0).wr R.JESS_REGION_START start n).wr R.JESS_REGION_END stop n).wr R.JESS_REGION_ATTR attr n).bump R.JESS_STAGE_STATUS.COMMITS 1

/-- A commit waits at every checker that does not reload. -/
def JessState.committed (j : JessState) (n start stop attr : Nat) : JessState :=
  { j with commits := j.commits + 1, checkers := (List.range 15).foldl (fun t k => Tab.upd t k .reset (fun c =>
    if c.reloading then c else { c with queue := c.queue ++ [(n, { start := start, stop := stop, attr := attr })] })) j.checkers }

theorem State.jessCommit_good {n start stop attr : Nat} (hstart : start = (s.csrAt (R.JESS_STAGE_START.addr 0 0 0)).toNat) (hstop : stop = (s.csrAt (R.JESS_STAGE_END.addr 0 0 0)).toNat)
    (hattr : attr = (s.csrAt (R.JESS_STAGE_ATTR.addr 0 0 0)).toNat) (hgood : stageResult (s.rd R.JESS_REGION_ATTR.LOCK n == 1) start stop (attr / 2 ^ 32 % 4) = 0) :
    s.jessCommit n = (s.regionStored n start stop attr).updJess (fun j => j.committed n start stop attr) := by
  subst hstart hstop hattr
  simp only [State.jessCommit, hgood, if_true]
  rfl

theorem exec_jessStageGo {n start stop attr : Nat} (h : s.Admits (R.JESS_STAGE_CMD.addr 0 0 0) w) (hgo : written w R.JESS_STAGE_CMD.GO = 1) (hn : n = written w R.JESS_STAGE_CMD.REGION)
    (hstart : start = (s.csrAt (R.JESS_STAGE_START.addr 0 0 0)).toNat) (hstop : stop = (s.csrAt (R.JESS_STAGE_END.addr 0 0 0)).toNat)
    (hattr : attr = (s.csrAt (R.JESS_STAGE_ATTR.addr 0 0 0)).toNat) (hgood : stageResult (s.rd R.JESS_REGION_ATTR.LOCK n == 1) start stop (attr / 2 ^ 32 % 4) = 0) :
    exec (.jessStageGo w) s = .next (((s.regionStored n start stop attr).updJess (fun j => j.committed n start stop attr)).emit (.done w.m [])) :=
  fin_csrWrite h ((if_pos hgo).trans (hn ▸ State.jessCommit_good hstart hstop hattr hgood)) (by simp [State.regionStored]) (by simp [State.regionStored])

theorem exec_jessSyncGo (h : s.Admits (R.JESS_SYNC.addr 0 0 0) w) (hgo : written w R.JESS_SYNC.GO = 1) : exec (.jessSyncGo w) s = .next (s.jessSyncGo.emit (.done w.m [])) :=
  fin_csrWrite h (if_pos hgo) (by simp [State.jessSyncGo]) (by simp [State.jessSyncGo])

/-! ### Crypt (R213) -/

theorem State.cryptCtrl_starts {v : Word} (hen : v.field R.CRYPT_CTRL.ENABLE.lo 1 = 1) (hoff : (s.csrPut (R.CRYPT_CTRL.addr 0 0 0) v).rd R.CRYPT_STATUS.STATE = cryptOff) :
    s.cryptCtrl v = (s.csrPut (R.CRYPT_CTRL.addr 0 0 0) v).wr R.CRYPT_STATUS.STATE cryptInit := by
  simp [State.cryptCtrl, hen, hoff]

theorem exec_cryptEnable (h : s.Admits (R.CRYPT_CTRL.addr 0 0 0) w) (hw : written w R.CRYPT_CTRL.ENABLE = 1) (hen : (s.merged R.CRYPT_CTRL w).field R.CRYPT_CTRL.ENABLE.lo 1 = 1)
    (hoff : (s.csrPut (R.CRYPT_CTRL.addr 0 0 0) (s.merged R.CRYPT_CTRL w)).rd R.CRYPT_STATUS.STATE = cryptOff) :
    exec (.cryptEnable w) s = .next (((s.csrPut (R.CRYPT_CTRL.addr 0 0 0) (s.merged R.CRYPT_CTRL w)).wr R.CRYPT_STATUS.STATE cryptInit).emit (.done w.m [])) := by
  change fin s (if written w R.CRYPT_CTRL.ENABLE = 1 then _ else s) = _
  rw [if_pos hw]
  exact fin_csrWrite h (State.cryptCtrl_starts hen hoff) (by simp) (by simp)

/-! ### Links (R272) -/

section link
variable {n : Nat} {v : Word} (hv : v = s.merged R.KTL_LINK_CTRL w n) (h : s.Admits (R.KTL_LINK_CTRL.addr n 0 0) w) (hm : (csrMask w).field 0 1 ≠ 0)
include hv h hm

theorem State.linkCtrlWrite_disables (h0 : v.field 0 1 = 0) :
    s.linkCtrlWrite n w = ((s.csrPut (R.KTL_LINK_CTRL.addr n 0 0) v).withdrawLink n false).emit (.done w.m []) := by
  subst hv
  simp [State.linkCtrlWrite, State.csrWrite_admitted h.gate, hm, h0]

theorem State.linkCtrlWrite_enables (h1 : v.field 0 1 = 1) (hr : written w R.KTL_LINK_CTRL.RETRAIN ≠ 1) :
    s.linkCtrlWrite n w = ((s.csrPut (R.KTL_LINK_CTRL.addr n 0 0) v).linkEnable n).emit (.done w.m []) := by
  subst hv
  simp [State.linkCtrlWrite, State.csrWrite_admitted h.gate, hm, h1, hr]

theorem State.linkCtrlWrite_retrains (h1 : v.field 0 1 = 1) (hr : written w R.KTL_LINK_CTRL.RETRAIN = 1) :
    s.linkCtrlWrite n w = (((s.csrPut (R.KTL_LINK_CTRL.addr n 0 0) v).linkEnable n).withdrawLink n true).emit (.done w.m []) := by
  subst hv
  simp [State.linkCtrlWrite, State.csrWrite_admitted h.gate, hm, h1, hr]

end link
end

/-- Settles O21: each row is its register's act, once the checks of the CSR space have passed. -/
theorem queueAndDoorbellActsComplete : Obligations.QueueAndDoorbellActsComplete := by
  intro s w
  refine ⟨exec_adminQpEnable, fun h hw hon hv v => exec_adminQpDisable h hw hon hv,
    fun q hq h hw hkeep => exec_sqDoorbell hq h ((State.sqDoorbellAt_index hw).trans (by rw [hkeep]; rfl)),
    fun q hq h hw hkeep => exec_rqDoorbell hq h ((State.rqDoorbellAt_index hw).trans (by rw [hkeep]; rfl)),
    fun h hgo n start stop attr hn hstart hstop hattr hgood => ⟨_, exec_jessStageGo h hgo hn hstart hstop hattr hgood, rfl⟩, ?sync, ?crypt, ?disable, ?enable⟩
  case sync => rintro h hgo _ rfl; exact exec_jessSyncGo h hgo
  case crypt => rintro _ rfl; exact exec_cryptEnable
  case disable =>
    intro n v hn hv h hm h0 hw
    exact fin_effect ((if_pos ⟨hn, hw⟩).trans (State.linkCtrlWrite_disables hv h hm h0))
  case enable =>
    intro n v hn hv h hm h1 hw
    exact ⟨fun hr => fin_effect ((if_pos ⟨hn, hw, hr⟩).trans (State.linkCtrlWrite_enables hv h hm h1 (by simp [hr]))),
      fun hr => fin_effect ((if_pos ⟨hn, hw, hr⟩).trans (State.linkCtrlWrite_retrains hv h hm h1 hr))⟩

end Sys2Proof.Machine
end

section
/-! PROOF. The admin commands, dispatched with parameters inside their bounds, and the timers of the interface. -/

namespace Sys2Proof.Machine

/-! ### The admin commands (R60, R83, R101, R102, R109) -/

section admin
variable {s u : State} {c : Cmd} {i : ICmd} (hp : u.plainOk i)
include hp

theorem exec_queueCreate (h : s.taken 0x0002 c = some (u, i)) (hbad : u.createBad i.c = false) (hdenied : u.createDenied i.c = false) :
    exec (.queueCreate c) s = .next (((u.createQp i.c).endRun i.seq Stat.ok).settledFrom s) :=
  fin_plain h hp ((if_neg (by simp [hbad])).trans (if_neg (by simp [hdenied])))

theorem exec_queueDelete_fixed (h : s.taken 0x0003 c = some (u, i)) (hq : i.c.p 0 % 4096 = 0 ∨ i.c.p 0 % 4096 = 4095) :
    exec (.queueDelete c) s = .next ((u.endRun i.seq Stat.badParam).settledFrom s) :=
  fin_plain h hp (if_pos (or_assoc.mp (Or.inl hq)))

theorem exec_queueDelete_drains (h : s.taken 0x0003 c = some (u, i)) (h0 : i.c.p 0 % 4096 ≠ 0) (hm : i.c.p 0 % 4096 ≠ 4095) (hown : i.c.p 0 % 4096 ≠ i.c.qp)
    (hq : u.qpState (i.c.p 0 % 4096) ≠ qpAbsent) :
    exec (.queueDelete c) s = .next (((u.queueDrain (i.c.p 0 % 4096) i.seq).waitOn i.seq .queueDrain (i.c.p 0 % 4096)).settledFrom s) :=
  fin_plain h hp ((if_neg (by simp [h0, hm, hown, mgmtQp])).trans (if_neg hq))

theorem exec_queueQuery (h : s.taken 0x0004 c = some (u, i)) (hself : u.cmdPriv i.c ≠ 0 ∨ i.c.p 0 % 4096 = i.c.qp) :
    exec (.queueQuery c) s = .next ((u.endRun i.seq Stat.ok (u.csrAt (R.TCI_QP_ATTR.addr (i.c.p 0 % 4096) 0 0)).toNat
      (u.csrAt (R.TCI_QP_PTR.addr (i.c.p 0 % 4096) 0 0)).toNat).settledFrom s) :=
  fin_plain h hp (if_neg fun ⟨hu, hne⟩ => hself.elim (· hu) hne)

theorem exec_queueModify (h : s.taken 0x0005 c = some (u, i)) (h0 : i.c.p 0 % 4096 ≠ 0) (hm : i.c.p 0 % 4096 ≠ 4095) (hq : u.qpState (i.c.p 0 % 4096) ≠ qpAbsent)
    (he : u.qpState (i.c.p 0 % 4096) ≠ qpErrorSt) :
    exec (.queueModify c) s = .next (((((u.wr R.TCI_QP_ATTR.PRIO (i.c.p 1 % 4) (i.c.p 0 % 4096)).wr R.TCI_QP_SIZE.COAL_COUNT (i.c.p 1 / 2 ^ 32 % 2 ^ 16) (i.c.p 0 % 4096)).wr
      R.TCI_QP_SIZE.COAL_TIME (i.c.p 1 / 2 ^ 48 % 2 ^ 16) (i.c.p 0 % 4096)).endRun i.seq Stat.ok).settledFrom s) := by
  refine fin_plain h hp ((if_neg (by simp [hq, he])).trans ?_)
  simp only [h0, hm, mgmtQp, or_self, if_false]
  rfl

end admin

/-- Settles O10: each command is its table's effect, once it has been taken with its checks passed. -/
theorem adminCommandsComplete : Obligations.AdminCommandsComplete := by
  intro s c u i hp
  refine ⟨fun h => fin_plain h hp rfl, fun h => fin_plain h hp rfl, exec_queueCreate hp, exec_queueDelete_fixed hp, exec_queueDelete_drains hp, exec_queueQuery hp, exec_queueModify hp, ?reset⟩
  case reset =>
    intro h
    exact ⟨(u.endRun i.seq Stat.ok).updPwr (fun p => { p with warmAt := some (u.now + 100000) }), fin_plain h hp rfl, rfl, rfl⟩

section timers
variable {s : State}

/-! ### A fetch turn (R68, R84) -/

/-- A turn that reads every entry: the head advances, reply entries are reserved, the head shadow is written, and the commands are admitted unless the shadow's write put the queue pair in ERROR. -/
theorem State.fetchTurn_pull {host : List HostEnt} {q n : Nat} {t v u x : State} {cs : List Cmd} (hq : s.fetchPick = some q)
    (hn : n = (if s.inHost q then min (min s.fetchBurst (min (s.sqWait q) (s.rqFree q))) host.length else min s.fetchBurst (min (s.sqWait q) (s.rqFree q)))) (hn0 : n ≠ 0)
    (ht : (s.fetchServed q).fetchList q n ((s.fetchServed q).rd R.TCI_QP_PTR.SQ_HEAD q) host = (t, cs, true))
    (hv : v = t.wr R.TCI_QP_PTR.SQ_HEAD (((s.fetchServed q).rd R.TCI_QP_PTR.SQ_HEAD q + n) % t.sqDepth q) q)
    (hu : u = v.updTci (fun x => { x with reserved := if v.isPush q then x.reserved else Tab.put x.reserved q (Tab.get x.reserved q 0 + n) }))
    (hempty : u.sqWait q = 0) (hpush : u.isPush q = false)
    (hx : x = (u.updTci (fun t => { t with pendingMap := t.pendingMap.filter (fun p => p != q) })).headShadow q) :
    s.fetchTurn host false = if x.qpState q ≠ qpLive then x else x.admitAll (cs.zip (x.slotLinks q ((s.fetchServed q).rd R.TCI_QP_PTR.SQ_HEAD q) n)) := by
  have hpush' : (u.updTci (fun t => { t with pendingMap := t.pendingMap.filter (fun p => p != q) })).isPush q = false := hpush
  simp only [State.fetchTurn, hq, ← hn, Bool.and_false, Bool.false_eq_true, if_false, hn0, ht, ← hv, ← hu, hempty, if_true, hpush', ← hx]

/-! ### Timeouts (R72, R74, R77) -/

theorem State.cmdTimeout_running {q tag rid : Nat} {r : Run}
    (hr : s.tci.running.find? (fun x => (x.i.c.qp == q && x.i.c.fwdFrom.isNone && x.i.c.tag == tag && x.i.c.ridLo == rid && decide (x.i.deadline ≤ s.epoch)) && !x.dead) = some r)
    (hw : r.wait ≠ .original) (honce : r.i.c.once = false) :
    s.cmdTimeout q tag rid = (s.deliver r.i (s.repOf r.i Stat.timeout 0 0 noRetry 0)).killRuns (fun x => x.i.seq == r.i.seq) := by
  simp only [State.cmdTimeout, hr, hw, honce, Bool.false_eq_true, if_false]

theorem State.coalesce_due {q n t : Nat} (hn : Tab.get? s.tci.unsig q = some (n, t)) (h0 : s.rd R.TCI_QP_SIZE.COAL_TIME q ≠ 0)
    (ht : t + s.rd R.TCI_QP_SIZE.COAL_TIME q * 1000 ≤ s.epoch) : s.coalesce q = s.raiseQp q := by
  simp only [State.coalesce, hn]
  exact if_neg (by simp [h0, ht])

theorem State.dupExpire_due {q rid : Nat} {e : DupEnt} (he : (Tab.get s.tci.dup q []).find? (fun e => e.rid == rid) = some e) (ht : e.at_ + 60000000000 ≤ s.epoch) :
    s.dupExpire q rid = s.dupForget q rid := by
  simp only [State.dupExpire, he, ht, if_true]

end timers

/-- Settles O25: each event is its rule's effect under the event's condition. -/
theorem transportTimersComplete : Obligations.TransportTimersComplete := by
  intro s
  refine ⟨?fetch, fun q tag rid r hr hw honce => fin_effect (State.cmdTimeout_running hr hw honce), fun q n t hn h0 ht => fin_effect (State.coalesce_due hn h0 ht), ?expiry⟩
  case fetch =>
    intro host q n t cs v u x hc hq hn hn0 ht hv hu hempty hpush hx
    have hturn : (if s.coreOn then s.fetchTurn host false else s) = _ := (if_pos hc).trans (State.fetchTurn_pull hq hn hn0 ht hv hu hempty hpush hx)
    exact ⟨fun hlive => fin_effect (hturn.trans (if_neg (not_not_intro hlive))), fun herr => fin_effect (hturn.trans (if_pos herr))⟩
  case expiry =>
    intro q rid e hrest he ht
    exact fin_effect_rests (State.dupExpire_due he ht) ((State.updTci_busy s _ rfl).trans hrest) rfl

end Sys2Proof.Machine
end

section
/-! PROOF. The link, collective, drain, power and time commands, dispatched with parameters inside their bounds. -/

namespace Sys2Proof.Machine

section taken
variable {s u : State} {c : Cmd} {i : ICmd} (hp : u.plainOk i)
include hp

/-! ### Commands with one of several actions -/

/-- Only an action that takes the link away asks which link carries the command (R105). -/
theorem State.linkControl_taken {act : Nat} (f : State → Nat → State) (h : s.taken 0x0401 c = some (u, i)) (hc : c.p 1 = act) (hi : i.c.p 1 = act)
    (hcarries : act = 0 ∨ u.carries i (i.c.p 0 % 64) = false) : s.linkControl c act f = (f u (i.c.p 0 % 64)).waitOn i.seq .link (i.c.p 0 % 64) act := by
  have hok : ¬ (i.c.p 1 ≠ act ∨ act ≠ 0 ∧ u.carries i (i.c.p 0 % 64) = true) := by
    rintro (hne | ⟨hact, hcar⟩)
    · exact hne hi
    · obtain h0 | hno := hcarries
      · exact hact h0
      · exact Bool.false_ne_true (hno.symm.trans hcar)
  exact (if_neg fun e => e.2 hc).trans ((State.plain_taken h hp _).trans (if_neg hok))

theorem State.pkgDrain_taken {act : Nat} (f : State → ICmd → State) (h : s.taken 0x0404 c = some (u, i)) (hc : c.p 0 = act) : s.pkgDrain c act f = f u i :=
  (if_neg fun e => e.2 hc).trans (State.plain_taken h hp f)

/-- POWER_STATE acts in FLIGHT and GLIDE only. -/
theorem State.powerTo_taken {target : Nat} (f : State → ICmd → State) (hst : u.pwr.pstate = .flight ∨ u.pwr.pstate = .glide) (h : s.taken 0x0502 c = some (u, i))
    (hc : c.p 0 = target) (hi : i.c.p 0 % 4 = target) : s.powerTo c target f = f u i := by
  have hstate : ¬ (u.pwr.pstate ≠ .flight ∧ u.pwr.pstate ≠ .glide) := fun ⟨hf, hg⟩ => hst.elim hf hg
  exact (if_neg fun e => e.2 hc).trans ((State.plain_taken h hp _).trans ((if_neg (not_not_intro hi)).trans (if_neg hstate)))

/-! ### Collectives (R113) -/

/-- Without a counter the destination alone takes contributions. -/
theorem exec_reduce_noCounter (h : s.taken 0x0402 c = some (u, i)) (hlen : badLen (i.c.p 2) = false) (hop : i.c.p 3 % 8 < 5) (hsrc : u.bufLocal (i.c.p 0) = true)
    (hdst : hbmWord (i.c.p 1) (i.c.p 2) = true) (hcnt : i.c.p 4 = 0) (hbufs : u.bufsOk i.c [(.r, i.c.p 0, i.c.p 2), (.a, i.c.p 1, i.c.p 2)] = true) :
    exec (.reduce c) s = .next ((u.reduceMove i).settledFrom s) := by
  refine fin_plain h hp ((if_neg ?_).trans (if_neg ?_))
  · simp [hlen, hop, hsrc, hdst, hcnt]
  · simp [hcnt, hbufs]

theorem exec_reduceWait_local (h : s.taken 0x0403 c = some (u, i)) (hw : hbmWord (i.c.p 0) 64 = true) (hbufs : u.bufsOk i.c [(.r, i.c.p 0, 8)] = true)
    (hl : u.bufLocal (i.c.p 0) = true) : exec (.reduceWait c) s = .next ((u.waitOn i.seq .counter).settledFrom s) :=
  fin_plain h hp ((if_neg (by simp [hw])).trans ((if_neg (by simp [hbufs])).trans (if_pos hl)))

/-! ### Power (R315) -/

theorem exec_powerSetCap (h : s.taken 0x0501 c = some (u, i)) (hlo : 600 ≤ i.c.p 0 % 4096) (hhi : i.c.p 0 % 4096 ≤ 2400) :
    exec (.powerSetCap c) s = .next (((u.wr R.PWR_CAP.CAP_W (i.c.p 0 % 4096)).endRun i.seq Stat.ok).settledFrom s) :=
  fin_plain h hp (if_neg (by omega))

end taken

/-- Settles O13: each command is its table's effect, once it has been taken with its checks passed. -/
theorem fabricPowerAndTimeCommandsComplete : Obligations.FabricPowerAndTimeCommandsComplete := by
  intro s c u i hp
  refine ⟨fun h => fin_plain h hp rfl, ?enable, ?disable, ?retrain, exec_reduce_noCounter hp, exec_reduceWait_local hp, ?drainStart, ?drainEnd, fun h => fin_plain h hp rfl,
    exec_powerSetCap hp, fun hst => ⟨?flight, ?glide, ?perch⟩, fun h => fin_plain h hp rfl⟩
  case enable => exact fun h hc hi => fin_effect (State.linkControl_taken hp _ h hc hi (.inl rfl))
  case disable => exact fun h hc hi hcar => fin_effect (State.linkControl_taken hp _ h hc hi (.inr hcar))
  case retrain => exact fun h hc hi hcar => fin_effect (State.linkControl_taken hp _ h hc hi (.inr hcar))
  case drainStart => exact fun h hc => ⟨u.updSes (fun t => { t with draining := true }), fin_effect (State.pkgDrain_taken hp _ h hc), rfl, rfl⟩
  case drainEnd => exact fun h hc => fin_effect (State.pkgDrain_taken hp _ h hc)
  case flight =>
    exact fun h hc hi => ⟨u.updPwr (fun p => { p with pstate := .flight }), fin_effect (State.powerTo_taken hp _ hst h hc (by simp [hi])), rfl, rfl⟩
  case glide =>
    exact fun h hc hi => ⟨u.updPwr (fun p => { p with pstate := .glide }), fin_effect (State.powerTo_taken hp _ hst h hc (by simp [hi])), rfl, rfl⟩
  case perch =>
    intro h hc hi hidle
    have hperch : execPowerStatePerch c s = .next (((u.endRun i.seq Stat.ok).updPwr (fun p => { p with perchAt := some (u.now + 100000) })).settledFrom s) :=
      fin_effect ((State.powerTo_taken hp _ hst h hc (by simp [hi])).trans (if_neg (by simp [hidle])))
    exact ⟨_, hperch, rfl, rfl⟩

end Sys2Proof.Machine
end

section
/-! PROOF. The key, Jess, entropy, attestation and fault commands, dispatched with parameters inside their bounds. -/

namespace Sys2Proof.Machine

/-! ### The command that is taken -/

/-- A command enters the intake as the new command of its admission, or not at all. -/
theorem State.admitCmd_some {s : State} {c : Cmd} {fwd : Option KMsg} {link : Option Nat} {j : ICmd} (h : (s.admitCmd c fwd link).2 = some j) : j = s.newCmd c fwd link := by
  simp only [State.admitCmd] at h
  repeat' split at h
  all_goals simp at h
  all_goals exact h.symm

/-- A command that is neither held back nor forwarded is dispatched as itself. -/
theorem State.dispatched_eq {s u : State} {c : Cmd} {i j : ICmd} (h : (if s.blocked j then none else if (s.dispatch j).isForward c then none else some (s.dispatch j, j)) = some (u, i)) :
    i = j := by
  split at h
  · cases h
  · split at h
    · cases h
    · cases h
      rfl

/-- What is dispatched is the command asked for, whether the intake held it or it was admitted in the step. -/
theorem State.taken_cmd {s u : State} {op : Nat} {c : Cmd} {i : ICmd} (h : s.taken op c = some (u, i)) : i.c = { c with opcode := op } := by
  simp only [State.taken] at h
  split at h
  · cases h
  · split at h
    case _ j hj =>
      have hfound := List.find?_some hj
      obtain rfl := State.dispatched_eq h
      exact beq_iff_eq.mp hfound
    case _ =>
      split at h
      case _ t j hj =>
        obtain rfl := State.dispatched_eq h
        exact congrArg ICmd.c (State.admitCmd_some (congrArg Prod.snd hj))
      case _ => cases h

theorem State.taken_opcode {s u : State} {op : Nat} {c : Cmd} {i : ICmd} (h : s.taken op c = some (u, i)) : i.c.opcode = op := by rw [State.taken_cmd h]

/-! ### Work on a key blob -/

section blob
variable {u v : State} {i : ICmd} {ext : ExtRead}

theorem State.startMove_remote {w : Nat} (h : u.bufRemote w = true) (n : Nat) : u.startMove i ext w n = u.fetchStart i w n := if_pos h

theorem State.startMove_local {w : Nat} (h : u.bufRemote w = false) (n : Nat) : u.startMove i ext w n = u.runMove i ext := if_neg (by simp [h])

/-- KEY_DOMAIN_LOAD of an EMPTY domain with a blob of this package that unwraps. -/
theorem State.startMove_keyDomainLoad {w n : Nat} {k : KeySet} (hop : i.c.opcode = 0x0700) (hw : u.bufRemote w = false) (hempty : u.domState (i.c.p 0 % 4096) = Dom.empty)
    (hk : u.blobKeys i ext = (v, .inr k)) :
    u.startMove i ext w n = ((v.wr R.CRYPT_DOM.CURRENT 0 (i.c.p 0 % 4096)).setKey (i.c.p 0 % 4096) false (some k)).endRun i.seq Stat.ok := by
  have hmove : u.runMove i ext = u.keyLoadMove i ext := by simp only [State.runMove, hop]
  refine (State.startMove_local hw n).trans (hmove.trans ((if_neg (not_not_intro hempty)).trans ?_))
  simp only [hk]

/-- CRYPT_REKEY with a blob of this package that unwraps. -/
theorem State.startMove_cryptRekey {w n : Nat} {k : KeySet} (hop : i.c.opcode = 0x0702) (hw : u.bufRemote w = false) (hfree : u.rekeyBusy i (i.c.p 0 % 4096) = false) (hk : u.blobKeys i ext = (v, .inr k)) :
    u.startMove i ext w n = v.rekeyBlob i (i.c.p 0 % 4096) k := by
  have hmove : u.runMove i ext = u.rekeyMove i ext := by simp only [State.runMove, hop]
  refine (State.startMove_local hw n).trans (hmove.trans ((if_neg (by simp [hfree])).trans ?_))
  simp only [hk]

end blob

section taken
variable {s u : State} {c : Cmd} {i : ICmd} {ext : ExtRead}

/-! ### The key commands (R116, R225, R374 to R376) -/

section key
variable (hp : u.plainOk i) (hown : u.keyDenied i (i.c.p 0 % 4096) = false)
include hp hown

theorem exec_keyDomainLoad (h : s.taken 0x0700 c = some (u, i)) (hmode : u.secMode = modeNormal) (h0 : i.c.p 0 % 4096 ≠ 0) (hempty : u.domState (i.c.p 0 % 4096) = Dom.empty)
    (hlen : badBlob (i.c.p 2) = false) (hbufs : u.bufsOk i.c [(.r, i.c.p 1, i.c.p 2)] = true) :
    exec (.keyDomainLoad c ext) s = .next ((u.startMove i ext (i.c.p 1) (i.c.p 2)).settledFrom s) :=
  fin_plain h hp ((if_neg (by simp [hown])).trans ((if_neg (by simp [h0, hlen])).trans ((if_neg (by simp [hmode])).trans ((if_neg (by simp [hempty])).trans
    (if_neg (by simp [hbufs]))))))

theorem exec_keyDomainDelete (h : s.taken 0x0701 c = some (u, i)) (h0 : i.c.p 0 % 4096 ≠ 0) (hfree : u.domainUsed (i.c.p 0 % 4096) = false) {v : State}
    (hv : v = (u.setKey (i.c.p 0 % 4096) false none).setKey (i.c.p 0 % 4096) true none) (hlost : v.rd R.CRYPT_LOST.VALID = 0) :
    exec (.keyDomainDelete c) s = .next ((v.endRun i.seq Stat.ok).settledFrom s) := by
  subst hv
  refine fin_plain h hp ((if_neg (by simp [hown])).trans ((if_neg h0).trans ((if_neg (by simp [hfree])).trans ?_)))
  exact congrArg (fun t : State => t.endRun i.seq Stat.ok) (if_neg fun e => by simp [hlost] at e)

/-- The checks that CRYPT_REKEY makes for every domain. -/
theorem exec_cryptRekey_checked (h : s.taken 0x0702 c = some (u, i)) (hmode : u.secMode = modeNormal) (hfree : u.rekeyBusy i (i.c.p 0 % 4096) = false)
    (hfull : u.domState (i.c.p 0 % 4096) ≠ Dom.empty) (hform : (if i.c.p 0 % 4096 = 0 then i.c.p 1 != 0 || i.c.p 2 != 0 else badBlob (i.c.p 2)) = false) :
    exec (.cryptRekey c ext) s = .next ((if i.c.p 0 % 4096 = 0 then (if u.domState 0 = Dom.mixed then u.walk0 i 0 (u.rd R.CRYPT_JOURNAL.BOUNDARY) else u.rekeyZero i)
      else if !u.bufsOk i.c [(.r, i.c.p 1, i.c.p 2)] then u.endRun i.seq Stat.denied else u.startMove i ext (i.c.p 1) (i.c.p 2)).settledFrom s) :=
  fin_plain h hp ((if_neg (by simp [hown])).trans ((if_neg (by simp [hform])).trans ((if_neg (by simp [hmode])).trans ((if_neg (by simp [hfree])).trans
    (if_neg hfull)))))

section rekey
variable (h : s.taken 0x0702 c = some (u, i)) (hmode : u.secMode = modeNormal) (hfree : u.rekeyBusy i (i.c.p 0 % 4096) = false) (hfull : u.domState (i.c.p 0 % 4096) ≠ Dom.empty)
include h hmode hfree hfull

/-- Domain 0 names no blob: its walk goes on at the journal's boundary, or starts with a drawn set. -/
theorem exec_cryptRekey_zero (h0 : i.c.p 0 % 4096 = 0) (h1 : i.c.p 1 = 0) (h2 : i.c.p 2 = 0) :
    exec (.cryptRekey c ext) s = .next ((if u.domState 0 = Dom.mixed then u.walk0 i 0 (u.rd R.CRYPT_JOURNAL.BOUNDARY) else u.rekeyZero i).settledFrom s) := by
  rw [exec_cryptRekey_checked hp hown h hmode hfree hfull (by simp [h0, h1, h2]), if_pos h0]

theorem exec_cryptRekey_blob (h0 : i.c.p 0 % 4096 ≠ 0) (hlen : badBlob (i.c.p 2) = false) (hbufs : u.bufsOk i.c [(.r, i.c.p 1, i.c.p 2)] = true) :
    exec (.cryptRekey c ext) s = .next ((u.startMove i ext (i.c.p 1) (i.c.p 2)).settledFrom s) := by
  rw [exec_cryptRekey_checked hp hown h hmode hfree hfull (by rw [if_neg h0, hlen]), if_neg h0, if_neg (by simp [hbufs])]

end rekey

theorem exec_cryptStatus (h : s.taken 0x0703 c = some (u, i)) :
    exec (.cryptStatus c) s = .next ((u.endRun i.seq Stat.ok (u.domState (i.c.p 0 % 4096) + u.rd R.CRYPT_DOM.HIGH_CTR (i.c.p 0 % 4096) * 2 ^ 32)
      (if u.domState (i.c.p 0 % 4096) = Dom.mixed then u.rd R.CRYPT_JOURNAL.BOUNDARY else 0)).settledFrom s) :=
  fin_plain h hp (if_neg (by simp [hown]))

end key

variable (hp : u.plainOk i)
include hp

/-! ### Jess, entropy and attestation (R242, R378, R379) -/

theorem exec_jessSetRegion (h : s.taken 0x0704 c = some (u, i)) (hstart : i.c.p 1 % 64 = 0) (hend : i.c.p 2 % 64 = 63) (hlo : i.c.p 1 < 2 ^ 50) (hhi : i.c.p 2 < 2 ^ 50) :
    exec (.jessSetRegion c) s = .next ((u.setRegion i).settledFrom s) :=
  fin_plain h hp (if_neg (by omega))

theorem exec_trngRead_healthy (h : s.taken 0x0706 c = some (u, i)) (hgood : u.sec.trngFail = false) (hno : u.tampered = false) :
    exec (.trngRead c) s = .next ((u.rand64.1.rand64.1.endRun i.seq Stat.ok u.rand64.2 u.rand64.1.rand64.2).settledFrom s) :=
  fin_plain h hp (if_neg (by simp [hgood, hno]))

theorem exec_trngRead_faulted (h : s.taken 0x0706 c = some (u, i)) (hbad : u.sec.trngFail = true ∨ u.tampered = true) :
    exec (.trngRead c) s = .next ((u.endRun i.seq Stat.faulted).settledFrom s) :=
  fin_plain h hp (if_pos hbad)

theorem exec_attest (h : s.taken 0x0707 c = some (u, i)) (hlen : badLen (i.c.p 2) = false) (hroom : 8192 ≤ i.c.p 2)
    (hbufs : u.bufsOk i.c [(.r, i.c.p 0, 64), (.w, i.c.p 1, i.c.p 2)] = true) : exec (.attest c ext) s = .next ((u.startMove i ext (i.c.p 0) 64).settledFrom s) :=
  fin_plain h hp ((if_neg (by simp [hlen, hroom])).trans (if_neg (by simp [hbufs])))

/-! ### Faults (R117, R358, R364, R368) -/

section source
variable (hused : srcUsed (i.c.p 0 % 512) = true)
include hused

theorem exec_faultQuery (h : s.taken 0x0800 c = some (u, i)) :
    exec (.faultQuery c) s = .next ((u.endRun i.seq Stat.ok (u.csrAt (R.WATCH_SRC_STATUS.PENDING.addr (i.c.p 0 % 512) 0 0)).toNat
      (u.rd R.WATCH_SRC_CE_CNT.COUNT (i.c.p 0 % 512))).settledFrom s) :=
  fin_plain h hp (if_neg (by simp [hused]))

theorem exec_faultClear (h : s.taken 0x0802 c = some (u, i)) : exec (.faultClear c) s = .next (((u.clearSource (i.c.p 0 % 512)).endRun i.seq Stat.ok).settledFrom s) :=
  fin_plain h hp (if_neg (by simp [hused]))

theorem exec_faultInject (h : s.taken 0x0803 c = some (u, i)) : exec (.faultInject c) s = .next (((u.endRun i.seq Stat.ok).inject (i.c.p 0 % 512)).settledFrom s) :=
  fin_plain h hp (if_neg (by simp [hused]))

end source

theorem exec_blockReset_started (h : s.taken 0x0804 c = some (u, i)) (hreq : u.resetReq (i.c.p 0 % 256) = .started) :
    exec (.blockReset c) s = .next (((u.waitOn i.seq .unitReset (i.c.p 0 % 256)).requestReset (i.c.p 0 % 256) .command).settledFrom s) :=
  fin_plain h hp (by simp only [hreq])

end taken

/-- Settles O14: each command is its table's effect, once it has been taken with its checks passed. -/
theorem keyAccessAndFaultCommandsComplete : Obligations.KeyAccessAndFaultCommandsComplete := by
  intro s c ext u i hp
  refine ⟨fun hown => ⟨?load, fun h h0 hfree v => exec_keyDomainDelete hp hown h h0 hfree, ?rekey, exec_cryptStatus hp hown⟩, exec_jessSetRegion hp, fun h => fin_plain h hp rfl,
    exec_trngRead_healthy hp, exec_trngRead_faulted hp, exec_attest hp, fun hused => ⟨exec_faultQuery hp hused, exec_faultClear hp hused, exec_faultInject hp hused⟩,
    fun h => fin_plain h hp rfl, exec_blockReset_started hp⟩
  case load =>
    intro h hmode h0 hempty hlen hbufs
    have hload : exec (.keyDomainLoad c ext) s = _ := exec_keyDomainLoad hp hown h hmode h0 hempty hlen hbufs
    refine ⟨fun hw v k hk => ?_, fun hw => ?_⟩
    · rw [hload, State.startMove_keyDomainLoad (State.taken_opcode h) hw hempty hk]
    · rw [hload, State.startMove_remote hw]
  case rekey =>
    intro h hmode hfree hfull
    refine ⟨fun h0 h1 h2 => ?zero, fun h0 hlen hbufs => ?blob⟩
    case zero =>
      have hzero : exec (.cryptRekey c ext) s = _ := exec_cryptRekey_zero hp hown h hmode hfree hfull h0 h1 h2
      exact ⟨fun hmixed => by rw [hzero, if_pos hmixed], fun hmixed => by rw [hzero, if_neg hmixed]⟩
    case blob =>
      have hblob : exec (.cryptRekey c ext) s = _ := exec_cryptRekey_blob hp hown h hmode hfree hfull h0 hlen hbufs
      refine ⟨fun hw v k hk => ?_, fun hw => ?_⟩
      · rw [hblob, State.startMove_cryptRekey (State.taken_opcode h) hw hfree hk]
      · rw [hblob, State.startMove_remote hw]

end Sys2Proof.Machine
end

section
/-! PROOF. The tiles' events: the end of a pass, stops, deferral, descriptors, poison, scrub and the gating of groups. -/

namespace Sys2Proof.Machine

section tiles
variable {s : State}

/-! ### The end of a pass (R140, R143) -/

section pass
variable {id : Nat} {use : List TileUse} {p q : Pass} {v : State} (hp : s.talon.passes.find? (fun p => p.id == id) = some p) (huse : s.takeUse p use = some (v, q))
include hp huse

theorem State.passComplete_ends {en : PlanEntry} {cycles : Nat} (outs : List Nat) (hen : s.entryOf p.plan p.entry = some en) (hstart : p.started = true)
    (hmax : en.maxCycles = 0 ∨ cycles + p.waited ≤ en.maxCycles) (hjobs : p.runs.any (fun r => s.hasJobs r.seq) = false) :
    s.passComplete id use cycles outs = (q.runs.zip (List.range q.runs.length)).foldl
      (fun (w : State) x => w.runDone x.1 en.session (shareUj q.drawn en.session q.positions x.1.positions) (cycles + p.waited) (lget outs x.2 0)) (v.passLeaves q true) := by
  have hlimit : (en.maxCycles != 0 && decide (en.maxCycles < cycles + p.waited)) = false := by
    rcases hmax with h | h
    · simp [h]
    · simp [Nat.not_lt.mpr h]
  simp only [State.passComplete, hp, hen, hstart, hlimit, hjobs, huse, Bool.not_true, Bool.or_self, Bool.false_eq_true, if_false]

theorem State.watchdog_fires {en : PlanEntry} {t : Nat} (hen : s.entryOf p.plan p.entry = some en) (hmax : en.maxCycles ≠ 0)
    (hover : p.started = true ∨ en.maxCycles < s.cyclesSince p) (ht : (s.planTiles p.plan).contains t = true) :
    s.watchdog id t use = (v.flag R.TALON_TILE_EVENT.WDOG R.TALON_TILE_WDOG_CNT.COUNT (t / 96) (t % 96)).leavePass q (q.runs.map (fun r => r.seq)) Stat.faulted 0 := by
  have hlate : (!p.started && decide (s.cyclesSince p ≤ en.maxCycles)) = false := by
    rcases hover with h | h
    · simp [h]
    · simp [Nat.not_le.mpr h]
  simp only [State.watchdog, hp, hen, beq_eq_false_iff_ne.mpr hmax, ht, hlate, huse, Bool.not_true, Bool.or_self, Bool.false_eq_true, if_false]

theorem State.abortPoint_leaves {seq st : Nat} {r : TileRun} (hr : p.runs.find? (fun r => r.seq == seq) = some r) (hstop : r.stop = some st) (hjobs : s.hasJobs seq = false) :
    s.abortPoint id seq use = v.leavePass q [seq] st 0 := by
  simp only [State.abortPoint, hp, hr, hstop, hjobs, State.leaveWith, huse, Bool.false_eq_true, if_false]

/-- Poison that a unit of a started pass finds in its line ends the runs hit (R127, R133). -/
theorem State.poisonRun_ends {t off : Nat} {hit : List Nat} {w : State} {l : List Byte} (hstart : p.started = true) (ht : (s.planTiles p.plan).contains t = true)
    (hhit : p.runs.any (fun r => hit.contains r.seq) = true) (hline : v.tileLines t 1 off = (w, l, true)) :
    s.poisonRun id t off hit use = (q.runs.filter (fun r => hit.contains r.seq)).foldl (fun x r => x.endRun r.seq Stat.faulted r.wrote)
      (((w.report (Src.tileGrp (t / 96) (t % 96)) Cls.uc Cause.poisonConsumed (tileDetail t off)).poisonChannels t hit).leaveRuns q hit) := by
  simp only [State.poisonRun, hp, hstart, ht, hhit, huse, hline, Bool.not_true, Bool.or_self, Bool.false_eq_true, if_false]

end pass

/-! ### Deferral (R142) -/

theorem State.deferLimit_of_entry {plan entry : Nat} {e : PlanEntry} (he : s.entryOf plan entry = some e) (h : e.deferLimit ≠ 0) : s.deferLimit plan entry = e.deferLimit := by
  simp only [State.deferLimit, he, h, if_false]

theorem State.deferDue_of_entry {plan entry t : Nat} {e : PlanEntry} (he : s.entryOf plan entry = some e) (h : e.deferLimit ≠ 0) (ht : t + 1000 * e.deferLimit ≤ s.epoch) :
    s.deferDue plan entry t = true := by
  simp only [State.deferDue, State.deferLimit_of_entry he h, ht, decide_true]

section defer
variable {seq : Nat}

theorem State.runDefer_ready {r : TileRun} (hr : s.talon.ready.find? (fun r => r.seq == seq) = some r) (hdue : s.deferDue r.plan r.entry r.at_ = true) :
    s.runDefer seq = ((s.setTalon (fun t => { t with ready := t.ready.filter (fun q => q.seq != seq) })).deferred).endRetry seq Stat.deferred
      (s.deferCode (creditsOf (s.passMw r.plan r.entry))) := by
  simp only [State.runDefer, hr, hdue, Bool.not_true, Bool.false_eq_true, if_false]

theorem State.runDefer_intake {i : ICmd} {plan entry : Nat} (hr : s.talon.ready.find? (fun r => r.seq == seq) = none)
    (hp : s.talon.passes.find? (fun p => p.runs.any (fun r => r.seq == seq)) = none) (hi : s.tci.intake.find? (fun i => i.seq == seq) = some i)
    (he : runEntry i.c = some (plan, entry)) (hdue : s.deferDue plan entry i.at_ = true) :
    s.runDefer seq = ((s.dispatch i).deferred).endRetry seq Stat.deferred (s.deferCode (creditsOf (s.passMw plan entry))) := by
  simp only [State.runDefer, hr, hp, hi, he, hdue, Bool.not_true, Bool.false_eq_true, if_false]

end defer

/-! ### Descriptors (R129, R133) -/

section dma
variable {d : DmaEv} {t v : State} {j : DmaJob} {k : DmaCtx}

theorem State.dmaDone_signals (h : (descOf j.desc).signal = true) :
    v.dmaDone j = (v.dropJobs (fun x => x.id == j.id)).bump R.TALON_TILE_DMA.DONE 1 (j.tile / 96) (j.tile % 96) j.ch := if_pos h

theorem State.dmaComplete_done (hpush : s.dmaPush d = some (t, j, k)) (hfirst : t.dmaFirst j = true) (hwork : t.dmaWork j k none = (v, .sent)) (hout : v.dmaOut j.id = false) :
    s.dmaComplete d = v.dmaDone j := by
  simp only [State.dmaComplete, hpush, hfirst, hwork, hout, Bool.not_true, Bool.false_eq_true, if_false]

theorem State.dmaStop_halts {use : List TileUse} {w : State} {e : Nat} (hrun : s.runUse d.seq use = some w) (hpush : w.dmaPush d = some (t, j, k)) (hfirst : t.dmaFirst j = true)
    (hwork : t.dmaWork j k none = (v, .err e)) : s.dmaStop d use = v.dmaHalt k e := by
  simp only [State.dmaStop, hrun, Option.bind_some, hpush, hfirst, hwork, Bool.not_true, Bool.false_eq_true, if_false]

/-- The state in which a channel has stopped with an ERR code, its run not yet ended (R133). -/
def State.channelStopped (v : State) (k : DmaCtx) (e : Nat) : State :=
  ((v.wr R.TALON_TILE_DMA.STATE 2 (k.tile / 96) (k.tile % 96) k.ch).wr R.TALON_TILE_DMA.ERR e (k.tile / 96) (k.tile % 96) k.ch).flag
    R.TALON_TILE_EVENT.DMA_ERR R.TALON_TILE_DMA_ERR_CNT.COUNT (k.tile / 96) (k.tile % 96)

theorem State.dmaHalt_leaves {e : Nat} {q : Pass} {r : TileRun} (hq : (v.channelStopped k e).talon.passes.find? (fun q => q.id == k.pass) = some q)
    (hr : q.runs.find? (fun r => r.seq == k.run.seq) = some r) : v.dmaHalt k e = (v.channelStopped k e).leavePass q [k.run.seq] (statOfErr e) r.wrote := by
  rw [State.channelStopped] at hq ⊢
  simp only [State.dmaHalt, hq, hr]

end dma

/-! ### Scrub and gating (R128, R302, R329) -/

/-- A scrub that corrects counts, and nothing waits on it. -/
theorem exec_tileSramScrub_corrected {t off : Nat} (hrest : s.Rests) (ht : t < 384) (hoff : off < 0x400000) (hper : s.rd R.TALON_DIE_SCRUB.PERIOD_H (t / 96) ≠ 0) :
    exec (.tileSramScrub t off .corrected) s = .next (s.bump R.TALON_TILE_CE_CNT.COUNT 1 (t / 96) (t % 96)) :=
  fin_effect_rests (if_pos ⟨ht, hoff, hper⟩) (by rw [State.bump_busy]; exact hrest) (by simp)

theorem State.gateIdle_gates (hne : s.nextGates ≠ []) (hfree : s.stepFree = true) (href : s.refReached false s.nextGates.length = true) :
    s.gateIdle = s.nextGates.foldl State.gateGroup (s.updPwr (fun p => { p with gateStep := s.now })) := if_neg (by simp [hne, hfree, href])

end tiles

/-- Settles O16: each event is its rule's effect under the event's condition. -/
theorem tileEventsComplete : Obligations.TileEventsComplete := by
  intro s
  refine ⟨?complete, ?watchdog, ?abort, ?deferReady, ?deferIntake, ?descriptor, ?stop, ?poison, fun t off hrest ht hoff hper => exec_tileSramScrub_corrected hrest ht hoff hper, ?gate,
    fun g hon hg _ => fin_effect (if_pos ⟨hon, hg⟩)⟩
  case complete =>
    intro id use cycles outs p q en v hp hen hstart hmax hjobs huse
    exact fin_effect (State.passComplete_ends hp huse outs hen hstart hmax hjobs)
  case watchdog =>
    intro id t use p q en v hp hen hmax hover ht huse
    exact fin_effect (State.watchdog_fires hp huse hen hmax hover ht)
  case abort =>
    intro id seq use p q r st v hp hr hstop hjobs huse
    exact fin_effect (State.abortPoint_leaves hp huse hr hstop hjobs)
  case deferReady =>
    intro seq r e hr he hlimit ht
    exact fin_effect (State.runDefer_ready hr (State.deferDue_of_entry he hlimit ht))
  case deferIntake =>
    intro seq i plan entry hr hp hi he hdue
    exact fin_effect (State.runDefer_intake hr hp hi he hdue)
  case descriptor =>
    intro d t j k v hpush hfirst hwork hout hsig
    exact fin_effect ((State.dmaComplete_done hpush hfirst hwork hout).trans (State.dmaDone_signals hsig))
  case stop =>
    intro d use w t j k v e hrun hpush hfirst hwork
    exact ⟨v.channelStopped k e, rfl, fun q r hq hr => fin_effect ((State.dmaStop_halts hrun hpush hfirst hwork).trans (State.dmaHalt_leaves hq hr))⟩
  case poison =>
    intro id t off hit use p q v w l hp hstart ht hhit huse hline
    exact fin_effect (State.poisonRun_ends hp huse hstart ht hhit hline)
  case gate =>
    intro hon hne hfree href
    exact ⟨s.updPwr (fun p => { p with gateStep := s.now }), fin_effect ((if_pos hon).trans (State.gateIdle_gates hne hfree href)), rfl, rfl⟩

end Sys2Proof.Machine
end

section
/-! PROOF. The HBM address map and its inverse (R148). -/

namespace Sys2Proof.Machine

/-! ### The two maps, by the block's bit -/

/-- What the default map folds into a granule's number of pseudo-channel: the granule's bits above its low nine. -/
def wideFold (hi : Nat) : Nat := (hi % 512) ^^^ (hi / 2 ^ 9 % 512) ^^^ (hi / 2 ^ 18 % 8)

/-- The same of the map that keeps a block's quarter in one pair of stacks: the granule's bits above its low seven. -/
def pairFold (hi : Nat) : Nat := (hi % 128) ^^^ (hi / 128 % 128)

theorem wideFold_lt (hi : Nat) : wideFold hi < 512 :=
  Nat.xor_lt_two_pow (n := 9) (Nat.xor_lt_two_pow (Nat.mod_lt _ (by decide)) (Nat.mod_lt _ (by decide))) (by omega)

theorem pairFold_lt (hi : Nat) : pairFold hi < 128 :=
  Nat.xor_lt_two_pow (n := 7) (Nat.mod_lt _ (by decide)) (Nat.mod_lt _ (by decide))

section maps
variable {loc : Nat}

theorem hbmMap_wide {a : Nat} (h : natBit loc (a / 2 ^ 32) = false) :
    hbmMap loc a = ((a / 512 % 512) ^^^ wideFold (a / 2 ^ 18), a / 2 ^ 18 * 512 + a % 512) := by
  have hbit : ¬ natBit loc (a / 2 ^ 32) = true := by rw [h]; exact Bool.false_ne_true
  have hhi : a / 512 / 2 ^ 9 = a / 2 ^ 18 := by omega
  have hmid : a / 512 / 2 ^ 18 = a / 2 ^ 18 / 2 ^ 9 := by omega
  have htop : a / 512 / 2 ^ 27 = a / 2 ^ 18 / 2 ^ 18 := by omega
  have hpc : (a / 512 % 512) ^^^ (a / 512 / 2 ^ 9 % 512) ^^^ (a / 512 / 2 ^ 18 % 512) ^^^ (a / 512 / 2 ^ 27 % 8) = (a / 512 % 512) ^^^ wideFold (a / 2 ^ 18) := by
    rw [hhi, hmid, htop, wideFold, ← Nat.xor_assoc, ← Nat.xor_assoc]
  have hlocal : a / 512 / 512 * 512 + a % 512 = a / 2 ^ 18 * 512 + a % 512 := by omega
  exact (if_neg hbit).trans (Prod.ext hpc hlocal)

theorem hbmUnmap_wide {l : Nat} (h : natBit loc (l / 2 ^ 23) = false) (stack pc : Nat) :
    hbmUnmap loc stack pc l = (l / 512 * 512 + ((stack * 64 + pc) ^^^ wideFold (l / 512))) * 512 + l % 512 := by
  simp only [hbmUnmap, h, Bool.false_eq_true, if_false, wideFold, Nat.xor_assoc]

theorem hbmMap_pair {a : Nat} (h : natBit loc (a / 2 ^ 32) = true) :
    hbmMap loc a = (a / 2 ^ 30 % 4 * 128 + ((a / 512 % 128) ^^^ pairFold (a % 2 ^ 30 / 2 ^ 16)), a / 2 ^ 32 * 2 ^ 23 + a % 2 ^ 30 / 2 ^ 16 * 512 + a % 512) := by
  have hlow : a % 2 ^ 30 / 512 % 128 = a / 512 % 128 := by omega
  have hhi : a % 2 ^ 30 / 512 / 2 ^ 7 = a % 2 ^ 30 / 2 ^ 16 := by omega
  have hmid : a % 2 ^ 30 / 512 / 2 ^ 14 = a % 2 ^ 30 / 2 ^ 16 / 128 := by omega
  have hq : (a % 2 ^ 30 / 512 % 128) ^^^ (a % 2 ^ 30 / 512 / 2 ^ 7 % 128) ^^^ (a % 2 ^ 30 / 512 / 2 ^ 14 % 128) =
      (a / 512 % 128) ^^^ pairFold (a % 2 ^ 30 / 2 ^ 16) := by
    rw [hlow, hhi, hmid, pairFold, ← Nat.xor_assoc]
  have hpc : ∀ q, (2 * (a / 2 ^ 30 % 4) + q / 64) * 64 + q % 64 = a / 2 ^ 30 % 4 * 128 + q := by omega
  have hlocal : a / 2 ^ 32 * 2 ^ 23 + a % 2 ^ 30 / 512 / 128 * 512 + a % 2 ^ 30 % 512 = a / 2 ^ 32 * 2 ^ 23 + a % 2 ^ 30 / 2 ^ 16 * 512 + a % 512 := by omega
  exact (if_pos h).trans (Prod.ext ((hpc _).trans (congrArg (a / 2 ^ 30 % 4 * 128 + ·) hq)) hlocal)

theorem hbmUnmap_pair {l : Nat} (h : natBit loc (l / 2 ^ 23) = true) (stack pc : Nat) :
    hbmUnmap loc stack pc l = l / 2 ^ 23 * 2 ^ 32 + stack / 2 * 2 ^ 30 +
      (l % 2 ^ 23 / 512 * 128 + ((stack % 2 * 64 + pc) ^^^ pairFold (l % 2 ^ 23 / 512))) * 512 + l % 512 := by
  simp only [hbmUnmap, h, if_true, pairFold, Nat.xor_assoc]

end maps

/-! ### Each is the other's inverse -/

/-- A fold that is applied twice gives back what it was applied to. -/
theorem xor_fold_fold (x f : Nat) : x ^^^ f ^^^ f = x := by rw [Nat.xor_assoc, Nat.xor_self, Nat.xor_zero]

section places
variable {loc a : Nat} (ha : a < hbmEnd)
include ha

/-- An address of HBM is found again from its place under the default map, and the place exists. -/
theorem hbmMap_place_wide (h : natBit loc (a / 2 ^ 32) = false) :
    (hbmMap loc a).1 < 512 ∧ (hbmMap loc a).2 < 0x30000000 ∧ hbmUnmap loc ((hbmMap loc a).1 / 64) ((hbmMap loc a).1 % 64) (hbmMap loc a).2 = a := by
  have hend : hbmEnd = 0x6000000000 := rfl
  have hrow : (a / 2 ^ 18 * 512 + a % 512) / 512 = a / 2 ^ 18 := by omega
  have hoff : (a / 2 ^ 18 * 512 + a % 512) % 512 = a % 512 := by omega
  have hblock : (a / 2 ^ 18 * 512 + a % 512) / 2 ^ 23 = a / 2 ^ 32 := by omega
  have hpc : (a / 512 % 512) ^^^ wideFold (a / 2 ^ 18) < 512 := Nat.xor_lt_two_pow (n := 9) (Nat.mod_lt _ (by decide)) (wideFold_lt _)
  rw [hbmMap_wide h]
  refine ⟨hpc, by dsimp only; omega, ?_⟩
  rw [hbmUnmap_wide (by rw [hblock, h]), hrow, hoff, Nat.div_add_mod', xor_fold_fold]
  omega

/-- The same under a locality map; the quarter of the block is the pair of stacks. -/
theorem hbmMap_place_pair (h : natBit loc (a / 2 ^ 32) = true) :
    (hbmMap loc a).1 < 512 ∧ (hbmMap loc a).2 < 0x30000000 ∧ hbmUnmap loc ((hbmMap loc a).1 / 64) ((hbmMap loc a).1 % 64) (hbmMap loc a).2 = a ∧
      (hbmMap loc a).1 / 128 = a / 2 ^ 30 % 4 := by
  have hend : hbmEnd = 0x6000000000 := rfl
  have hq : (a / 512 % 128) ^^^ pairFold (a % 2 ^ 30 / 2 ^ 16) < 128 := Nat.xor_lt_two_pow (n := 7) (Nat.mod_lt _ (by decide)) (pairFold_lt _)
  have hblock : (a / 2 ^ 32 * 2 ^ 23 + a % 2 ^ 30 / 2 ^ 16 * 512 + a % 512) / 2 ^ 23 = a / 2 ^ 32 := by omega
  have hrow : (a / 2 ^ 32 * 2 ^ 23 + a % 2 ^ 30 / 2 ^ 16 * 512 + a % 512) % 2 ^ 23 / 512 = a % 2 ^ 30 / 2 ^ 16 := by omega
  have hoff : (a / 2 ^ 32 * 2 ^ 23 + a % 2 ^ 30 / 2 ^ 16 * 512 + a % 512) % 512 = a % 512 := by omega
  rw [hbmMap_pair h]
  dsimp only
  have hstack : ∀ q < 128, (a / 2 ^ 30 % 4 * 128 + q) / 64 % 2 * 64 + (a / 2 ^ 30 % 4 * 128 + q) % 64 = q := by omega
  refine ⟨by omega, by omega, ?_, by omega⟩
  rw [hbmUnmap_pair (by rw [hblock, h]), hblock, hrow, hoff, hstack _ hq, xor_fold_fold]
  omega

end places

section addresses
variable {loc stack pc l : Nat} (hs : stack < 8) (hp : pc < 64) (hl : l < 0x30000000)
include hs hp hl

/-- A place is the place of the address that the default map gives up for it. -/
theorem hbmMap_unmap_wide (h : natBit loc (l / 2 ^ 23) = false) : hbmUnmap loc stack pc l < hbmEnd ∧ hbmMap loc (hbmUnmap loc stack pc l) = (stack * 64 + pc, l) := by
  have hend : hbmEnd = 0x6000000000 := rfl
  have hlow : (stack * 64 + pc) ^^^ wideFold (l / 512) < 512 := Nat.xor_lt_two_pow (n := 9) (by omega) (wideFold_lt _)
  rw [hbmUnmap_wide h]
  generalize hx : (stack * 64 + pc) ^^^ wideFold (l / 512) = x at hlow ⊢
  have hblock : ((l / 512 * 512 + x) * 512 + l % 512) / 2 ^ 32 = l / 2 ^ 23 := by omega
  have hgran : ((l / 512 * 512 + x) * 512 + l % 512) / 512 % 512 = x := by omega
  have hrow : ((l / 512 * 512 + x) * 512 + l % 512) / 2 ^ 18 = l / 512 := by omega
  refine ⟨by omega, ?_⟩
  rw [hbmMap_wide (by rw [hblock, h]), hgran, hrow, ← hx, xor_fold_fold]
  exact Prod.ext rfl (by dsimp only; omega)

/-- The same under a locality map. -/
theorem hbmMap_unmap_pair (h : natBit loc (l / 2 ^ 23) = true) : hbmUnmap loc stack pc l < hbmEnd ∧ hbmMap loc (hbmUnmap loc stack pc l) = (stack * 64 + pc, l) := by
  have hend : hbmEnd = 0x6000000000 := rfl
  have hlow : (stack % 2 * 64 + pc) ^^^ pairFold (l % 2 ^ 23 / 512) < 128 := Nat.xor_lt_two_pow (n := 7) (by omega) (pairFold_lt _)
  have hl' : l = l / 2 ^ 23 * 2 ^ 23 + l % 2 ^ 23 / 512 * 512 + l % 512 := by omega
  have hhi : l % 2 ^ 23 / 512 < 2 ^ 14 := by omega
  rw [hbmUnmap_pair h]
  generalize l % 2 ^ 23 / 512 = hi, l / 2 ^ 23 = k at *
  generalize hx : (stack % 2 * 64 + pc) ^^^ pairFold hi = x at hlow ⊢
  generalize ha : k * 2 ^ 32 + stack / 2 * 2 ^ 30 + (hi * 128 + x) * 512 + l % 512 = a
  have hblock : a / 2 ^ 32 = k := by omega
  have hquarters : a / 2 ^ 30 = 4 * k + stack / 2 := by omega
  have hquarter : a / 2 ^ 30 % 4 = stack / 2 := by omega
  have hgran : a / 512 % 128 = x := by omega
  have hrow : a % 2 ^ 30 / 2 ^ 16 = hi := by omega
  have hoff : a % 512 = l % 512 := by omega
  have hpc : stack / 2 * 128 + (stack % 2 * 64 + pc) = stack * 64 + pc := by omega
  refine ⟨by omega, ?_⟩
  rw [hbmMap_pair (by rw [hblock, h]), hblock, hquarter, hgran, hrow, hoff, ← hx, xor_fold_fold, hpc, ← hl']

end addresses

/-- Settles O49: with a block's bit clear and with it set, the map and its inverse undo each other. -/
theorem hbmAddressMapIsOneToOne : Obligations.HbmAddressMapIsOneToOne := by
  refine fun loc => ⟨fun a ha => ?place, fun stack pc l hs hp hl => ?address⟩
  case place =>
    cases h : natBit loc (a / 2 ^ 32)
    case false =>
      obtain ⟨hpc, hlocal, hback⟩ := hbmMap_place_wide ha h
      exact ⟨hpc, hlocal, hback, fun e => absurd e Bool.false_ne_true⟩
    case true =>
      obtain ⟨hpc, hlocal, hback, hpair⟩ := hbmMap_place_pair ha h
      exact ⟨hpc, hlocal, hback, fun _ => hpair⟩
  case address =>
    cases h : natBit loc (l / 2 ^ 23)
    case false => exact hbmMap_unmap_wide hs hp hl h
    case true => exact hbmMap_unmap_pair hs hp hl h

end Sys2Proof.Machine
end

section
/-! PROOF. Writes of the HBM registers that have an act of their own. -/

namespace Sys2Proof.Machine

/-- The events of a pseudo-channel act on one that exists. -/
theorem pcOk_true {st p : Nat} (hst : st < 8) (hp : p < 64) : pcOk st p = true := by simp [pcOk, hst, hp]

/-! ### A write of HBM_PC_CFG outside its bounds (R153) -/

section pcCfg
variable {s : State} {st p : Nat} {w : CsrWr}

/-- The bounds are those of the rule. -/
theorem pcCfgOk_iff (v : Word) : pcCfgOk v = true ↔
    v.field R.HBM_PC_CFG.WQ_LOW.lo 6 < v.field R.HBM_PC_CFG.WQ_HIGH.lo 6 ∧ 9 ≤ v.field R.HBM_PC_CFG.WQ_HIGH.lo 6 ∧ v.field R.HBM_PC_CFG.WQ_HIGH.lo 6 ≤ 31 ∧
      8 ≤ v.field R.HBM_PC_CFG.DRAIN_MAX.lo 6 ∧ v.field R.HBM_PC_CFG.DRAIN_MAX.lo 6 ≤ 63 := by
  simp only [pcCfgOk, Bool.and_eq_true, decide_eq_true_eq, and_assoc]
  rfl

/-- The write is ignored but for BAD_CFG and its counter. -/
theorem exec_hbmPcCfgWrite_bad (hst : st < 8) (hp : p < 64) (h : s.Admits (R.HBM_PC_CFG.addr st p 0) w) (hbad : pcCfgOk (s.merged R.HBM_PC_CFG w st p) ≠ true) :
    exec (.hbmPcCfgWrite st p w) s = .next ((s.flag R.HBM_PC_EVENT.BAD_CFG R.HBM_PC_BAD_CFG_CNT.COUNT st p).emit (.done w.m [])) := by
  change fin s (if pcOk st p then s.pcCfgWrite st p w else s) = _
  rw [if_pos (pcOk_true hst hp)]
  exact fin_csrWrite h (if_neg hbad) (s.flag_busy _ _ st p 0) (s.flag_pending _ _ st p 0)

end pcCfg

/-- A status bit that is set and counted, with a completion, changes the registers and what has been put out. Said of any bit and counter: at a page's own offset the kernel would compute with the
offset's terms. -/
theorem State.flag_emit_only (s : State) (f c : RF) (i j k : Nat) (o : Out) :
    (s.flag f c i j k).emit o = { s with csr := ((s.flag f c i j k).emit o).csr, out := o :: s.out } := rfl

/-- Settles O8: the write is the event's bit and its count, and the three registers lie apart in every page. -/
theorem queueBoundsOfHbmPcCfgAreKept : Obligations.QueueBoundsOfHbmPcCfgAreKept := by
  intro s st p w hs hst hp h hbad
  have hcfg_ev : R.HBM_PC_CFG.addr st p 0 ≠ R.HBM_PC_EVENT.BAD_CFG.addr st p 0 := by simp only [RF.addr, R.HBM_PC_CFG, R.HBM_PC_EVENT.BAD_CFG]; omega
  have hcfg_cnt : R.HBM_PC_CFG.addr st p 0 ≠ R.HBM_PC_BAD_CFG_CNT.COUNT.addr st p 0 := by simp only [RF.addr, R.HBM_PC_CFG, R.HBM_PC_BAD_CFG_CNT.COUNT]; omega
  have hev_cnt : R.HBM_PC_EVENT.BAD_CFG.addr st p 0 ≠ R.HBM_PC_BAD_CFG_CNT.COUNT.addr st p 0 := by simp only [RF.addr, R.HBM_PC_EVENT.BAD_CFG, R.HBM_PC_BAD_CFG_CNT.COUNT]; omega
  refine ⟨_, exec_hbmPcCfgWrite_bad hst hp h (mt (pcCfgOk_iff _).mp hbad), ?_, ?_, ?_, fun a hev hcnt => ?_, State.flag_emit_only ..⟩
  · rw [State.emit_csrAt, State.flag_others hs.csr _ _ st p 0 hcfg_ev hcfg_cnt]
  · rw [State.emit_rd, State.flag_bit hs.csr _ _ st p 0 (by decide) hev_cnt]
    rfl
  · rw [State.emit_rd, State.flag_count hs.csr _ _ st p 0 (by decide) hev_cnt]
    rfl
  · rw [State.emit_csrAt]
    exact State.flag_others hs.csr _ _ st p 0 hev hcnt

end Sys2Proof.Machine
end

section
/-! PROOF. The HBM controllers' requests: ingress, issue, drains, refresh, parity retries and ordered adds. -/

namespace Sys2Proof.Machine

section requests
variable {s : State} {st p : Nat}

/-! ### Ingress (R151) -/

/-- A stack's port lets pass what the Mews cache's port has checked already, and what its own checker finds no fault with. -/
theorem State.portJess_passes {m : Master} {k : Nat} {kind : AccKind} {a n : Nat} (h : viaCache m = true ∨ s.jessFails k m kind a n = none) :
    (if viaCache m then none else s.jessFails k m kind a n) = none := by
  rcases h with hc | hj
  · exact if_pos hc
  · rw [hj, ite_self]

/-- A line request that the checks at its stack's port let pass enters its pseudo-channel, behind the ward filter's and the ordered slot's work on its line. -/
theorem State.hbmIngress_enters {r q : LineReq} {a : Nat} (ha : a = r.addr / 64 * 64) (hq : q = { r with addr := a, cls := sourceClass r.m r.cls })
    (hdec : s.decodeGate (portSrc r.m) r.m r.addr 64 = none) (hrange : rangeOf a = .hbm) (hst : s.stackOf a = st) (hp : s.pcOf a = p)
    (hunit : s.unitState (48 + st) = Unit.normal) (hlink : s.linkCut (masterDie r.m) a = false) (hready : s.stkState st = stkReady)
    (hload : (s.checker (1 + st)).reloading = false) (hfree : (s.hq st p).holds (s.hbmReq q 0).2 = false)
    (hjess : viaCache r.m = true ∨ s.jessFails (1 + st) r.m (lineKind r.op) a 64 = none) {v : State} {x : QReq}
    (hv : (((if viaCache r.m then s else s.ward (lineWard r.op r.mask) a).flushOrd (s.modeAt (1 + st) a).1 a false).hbmReq q (s.modeAt (1 + st) a).1) = (v, x)) :
    s.hbmIngress r = v.hbmEnter st p x := by
  have hgate := State.portJess_passes hjess
  subst ha hq
  simp only [State.hbmIngress, hdec, hrange, hst, hp, hunit, hlink, hready, hload, hfree, hgate, hv, ne_eq, not_true_eq_false, false_and, Bool.false_eq_true, or_self, if_false]

/-! ### Drains by age (R152) -/

/-- A queue whose drain starts is put back with the drain counted. -/
theorem State.hqDone_drainStarts (q : MQueue) :
    s.hqDone st p q { q with drain := true, drained := 0, drains := q.drains + 1 } =
      (s.bump R.HBM_PC_DRAIN_CNT 1 st p).setHq st p { q with drain := true, drained := 0, drains := q.drains + 1 } := by
  have hne : q.drains + 1 ≠ q.drains := by omega
  simp only [State.hqDone, hne, if_false, Nat.add_sub_cancel_left, if_true]
  cases q.heldAt <;> rfl

theorem MQueue.ageDrain_old {q : MQueue} {x : QReq} {age now : Nat} (hx : q.wq.head? = some x) (hd : q.drain = false) (hage : x.at_ + age ≤ now) :
    q.ageDrain age now = { q with drain := true, drained := 0, drains := q.drains + 1 } := by
  simp [MQueue.ageDrain, hx, hd, hage]

theorem exec_writeDrainAge (hst : st < 8) (hp : p < 64) {x : QReq} (h : s.Rests) (hx : (s.hq st p).wq.head? = some x) (hd : (s.hq st p).drain = false) (hage : x.at_ + 2000 ≤ s.now) :
    exec (.writeDrainAge st p) s = .next ((s.bump R.HBM_PC_DRAIN_CNT 1 st p).setHq st p { s.hq st p with drain := true, drained := 0, drains := (s.hq st p).drains + 1 }) := by
  have hdrain : s.hbmAge st p = (s.bump R.HBM_PC_DRAIN_CNT 1 st p).setHq st p { s.hq st p with drain := true, drained := 0, drains := (s.hq st p).drains + 1 } := by
    rw [State.hbmAge, State.hqStep, MQueue.ageDrain_old hx hd hage, State.hqDone_drainStarts]
  exact fin_effect_rests ((if_pos (pcOk_true hst hp)).trans hdrain) (by simpa using h.busy) (by simp)

/-! ### Issue slots (R150, R157) -/

section issue
variable {notReady : List Nat} {w : WireErr} {v : State}

/-- The scheduler's pick issues, unless it is a masked write whose internal read is still to come. -/
theorem State.hbmSlot_issues {x : QReq} (hx : (v.hq st p).pick (v.hcfg st p) (v.hbmRows st p) notReady v.now = some x) (hdir : x.isMasked = false ∨ (v.hq st p).dirOf x = true) {u : State}
    {r : Ans} (hu : v.hbmIssueOne st p x w = (u, r)) : v.hbmSlot st p notReady w = (u, some (x, r)) := by
  have hread : (x.isMasked && !(v.hq st p).dirOf x) = false := by
    rcases hdir with h | h <;> simp [h]
  simp only [State.hbmSlot, hx, hread, hu, Bool.false_eq_true, if_false]

theorem State.hbmSlot_reads {x : QReq} (hx : (v.hq st p).pick (v.hcfg st p) (v.hbmRows st p) notReady v.now = some x) (hm : x.isMasked = true) (hdir : (v.hq st p).dirOf x = false) :
    v.hbmSlot st p notReady w = (v.hbmInner st p x w, none) := by
  simp only [State.hbmSlot, hx, hm, hdir, Bool.not_false, Bool.and_self, if_true]

/-- With nothing ready, and no request that waits for the turnaround alone, the slot passes. -/
theorem State.hbmSlot_idles (hx : (v.hq st p).pick (v.hcfg st p) (v.hbmRows st p) notReady v.now = none) (hturn : (v.hq st p).turning (v.hcfg st p) (v.hbmRows st p) v.now = false) :
    v.hbmSlot st p notReady w = (v.hqDone st p (v.hq st p)
      (((((v.hq st p).idle (v.hcfg st p)).checkDrain (v.hcfg st p)).refillIngress (v.hcfg st p)).closeRows (v.hcfg st p) v.now), none) := by
  simp only [State.hbmSlot, hx, hturn, Bool.false_eq_true, if_false]

section slot
variable (hst : st < 8) (hp : p < 64) {cells : CellErrs} (hready : (s.decay cells).stkState st = stkReady) (hunit : (s.decay cells).unitState (48 + st) ≠ Unit.resetting) {u : State}
include hst hp hready hunit

/-- The request that issues in the slot is answered. -/
theorem exec_hbmRequestIssue_answers {x : QReq} {r : Ans} (hslot : (s.decay cells).hbmSlot st p notReady w = (u, some (x, r))) :
    exec (.hbmRequestIssue st p notReady w cells) s = .next ((u.complete x r).settledFrom s) := by
  have hissue : (s.decay cells).hbmIssue st p notReady w = u.complete x r := by
    rw [State.hbmIssue, if_neg (by simp [hready, hunit]), hslot]
  exact fin_effect ((if_pos (pcOk_true hst hp)).trans hissue)

/-- A slot in which nothing completes. -/
theorem exec_hbmRequestIssue_passes (hslot : (s.decay cells).hbmSlot st p notReady w = (u, none)) :
    exec (.hbmRequestIssue st p notReady w cells) s = .next (u.settledFrom s) := by
  have hissue : (s.decay cells).hbmIssue st p notReady w = u := by
    rw [State.hbmIssue, if_neg (by simp [hready, hunit]), hslot]
  exact fin_effect ((if_pos (pcOk_true hst hp)).trans hissue)

end slot

end issue

/-! ### Refresh (R159) -/

theorem exec_hbmRefreshDue (hst : st < 8) (hp : p < 64) {bank step : Nat} (h : s.Rests) (hb : bank < 16) (hready : s.stkState st = stkReady)
    (hstep : step = refreshInterval (s.rd R.HBM_STK_TEMP.BAND st)) (hdue : Tab.get (s.hq st p).dueAt bank (2 * Tab.get s.hbm.readyAt st 0 + step) ≤ 2 * s.now) :
    exec (.hbmRefreshDue st p bank) s = .next (s.setHq st p ({ s.hq st p with dueAt := Tab.put (s.hq st p).dueAt bank (2 * s.now + step) }.refreshDue bank 2)) := by
  subst hstep
  have hcond : ¬ (s.stkState st ≠ stkReady ∨ 2 * s.now < Tab.get (s.hq st p).dueAt bank (2 * Tab.get s.hbm.readyAt st 0 + refreshInterval (s.rd R.HBM_STK_TEMP.BAND st))) := by
    simp [hready, hdue]
  exact fin_effect_rests ((if_pos (by simp [pcOk_true hst hp, hb])).trans (if_neg hcond)) ((State.setHq_busy ..).trans h) (State.setHq_pending ..)

/-! ### Parity retries (R167) -/

/-- The first retry of a queued request while no other is open. -/
theorem State.hbmParity_first {req : Nat} {x : QReq} (hx : ((s.hq st p).rq ++ (s.hq st p).wq).find? (fun x => x.id == req) = some x) (hr : (s.hq st p).retry = []) :
    s.hbmParity st p req = (s.setHq st p { s.hq st p with retry := [(req, 1)] }).flag R.HBM_PC_RAS_EVENT.RETRY R.HBM_PC_RETRY_CNT.COUNT st p := by
  simp [State.hbmParity, hx, hr, Tab.get, Tab.get?, Tab.put]

theorem exec_parityRetry (hst : st < 8) (hp : p < 64) {req : Nat} {x : QReq} (h : s.Rests) (hx : ((s.hq st p).rq ++ (s.hq st p).wq).find? (fun x => x.id == req) = some x)
    (hr : (s.hq st p).retry = []) :
    exec (.parityRetry st p req) s = .next ((s.setHq st p { s.hq st p with retry := [(req, 1)] }).flag R.HBM_PC_RAS_EVENT.RETRY R.HBM_PC_RETRY_CNT.COUNT st p) :=
  fin_effect_rests ((if_pos (pcOk_true hst hp)).trans (State.hbmParity_first hx hr)) ((State.flag_busy ..).trans h) (State.flag_pending ..)

/-! ### Ordered adds (R183, R184) -/

theorem State.ordered_submits {m : Master} {addr op src : Nat} {data : List Byte} {poison : Bool} (hop : op < 3) (hdec : s.decodeGate (portSrc m) m addr 64 = none)
    (hrange : rangeOf (addr / 64 * 64) = .hbm) (hst : s.stackOf (addr / 64 * 64) = st) (hunit : s.unitState (48 + st) = Unit.normal)
    (hlink : s.linkCut (masterDie m) (addr / 64 * 64) = false) (hready : s.stkState st = stkReady) (hload : (s.checker (1 + st)).reloading = false)
    (hjess : viaCache m = true ∨ s.jessFails (1 + st) m .a (addr / 64 * 64) 64 = none) (hmode : (s.modeAt (1 + st) (addr / 64 * 64)).1 ≤ 1) :
    s.ordered m addr op src data poison =
      s.ordSubmit [{ m := m, addr := addr / 64 * 64, op := op, src := src % 64, data := data, poison := poison, reply := none, run := none }] := by
  have hgate := State.portJess_passes hjess
  simp only [State.ordered, Nat.not_le.mpr hop, hdec, hrange, hst, hunit, hlink, hready, hload, hgate, Nat.not_lt.mpr hmode, ne_eq, not_true_eq_false, false_and, Bool.false_eq_true, or_self,
    if_false]

theorem State.ordHold_due {a : Nat} {o : OrdSlot} (ho : Tab.get? s.hbm.ords a = some o) (hdue : o.last + 1000 * s.rd R.HBM_KITE_CFG.ORD_HOLD_US (s.stackOf a) ≤ s.epoch) :
    s.ordHold a = s.flushOrd (s.modeAt (1 + s.stackOf a) a).1 a true := by
  simp only [State.ordHold, ho, hdue, if_true]

end requests

/-- Settles O17: each event is its rule's effect under the event's condition. -/
theorem hbmRequestEventsComplete : Obligations.HbmRequestEventsComplete := by
  intro s st p hst hp
  refine ⟨?ingress, fun x h hx hd hage => exec_writeDrainAge hst hp h hx hd hage, ?issue, fun bank step h hb hready hstep hdue => exec_hbmRefreshDue hst hp h hb hready hstep hdue,
    fun req x h hx hr => exec_parityRetry hst hp h hx hr, ?ordered, fun a o ho hdue => fin_effect (State.ordHold_due ho hdue)⟩
  case ingress =>
    intro r q a ha hq hdec hrange hs hpc hunit hlink hready hload hfree hjess v x hv
    exact fin_effect (State.hbmIngress_enters ha hq hdec hrange hs hpc hunit hlink hready hload hfree hjess hv)
  case issue =>
    rintro notReady w cells v rfl hready hunit
    refine ⟨fun x hx hdir u r hu => ?_, fun x hx hm hdir => ?_, fun hx hturn => ?_⟩
    · exact exec_hbmRequestIssue_answers hst hp hready hunit (State.hbmSlot_issues hx hdir hu)
    · exact exec_hbmRequestIssue_passes hst hp hready hunit (State.hbmSlot_reads hx hm hdir)
    · exact exec_hbmRequestIssue_passes hst hp hready hunit (State.hbmSlot_idles hx hturn)
  case ordered =>
    intro m addr op src data poison hop hdec hrange hs hunit hlink hready hload hjess hmode
    exact fin_effect ((if_pos (by omega)).trans (State.ordered_submits hop hdec hrange hs hunit hlink hready hload hjess hmode))

end Sys2Proof.Machine
end

section
/-! PROOF. The heat of an HBM stack: the bounds of its thermal configuration, and the polls of its temperature. -/

namespace Sys2Proof.Machine

section heat
variable {s : State} {st : Nat}

/-! ### A write of HBM_STK_THERM_CFG outside its bounds (R176) -/

/-- The bounds are those of the rule. -/
theorem thermCfgOk_iff (v : Word) : thermCfgOk v = true ↔
    85 ≤ v.field R.HBM_STK_THERM_CFG.THROTTLE_C.lo 8 ∧ v.field R.HBM_STK_THERM_CFG.THROTTLE_C.lo 8 + 2 ≤ v.field R.HBM_STK_THERM_CFG.STOP_C.lo 8 ∧
      v.field R.HBM_STK_THERM_CFG.STOP_C.lo 8 ≤ 125 ∧ 1 ≤ v.field R.HBM_STK_THERM_CFG.HYST.lo 4 ∧ v.field R.HBM_STK_THERM_CFG.MIN_DUTY.lo 4 ≠ 1 := by
  simp only [thermCfgOk, Bool.and_eq_true, decide_eq_true_eq, and_assoc]
  rfl

/-- The write is ignored whole. -/
theorem exec_hbmThermCfgWrite_bad {w : CsrWr} (hst : st < 8) (h : s.Admits (R.HBM_STK_THERM_CFG.addr st 0 0) w) (hbad : thermCfgOk (s.merged R.HBM_STK_THERM_CFG w st) ≠ true) :
    exec (.hbmThermCfgWrite st w) s = .next (s.emit (.done w.m [])) := by
  change fin s (if st < 8 then s.thermCfgWrite st w else s) = _
  rw [if_pos hst, State.thermCfgWrite]
  exact fin_csrWrite (u := s) h (if_neg hbad) rfl rfl

/-! ### A reading that is taken (R174) -/

/-- What every valid reading does first: READ_FAIL is 0, TEMP_C the reading and BAND its band. -/
def State.tempTaken (s : State) (st c : Nat) : State :=
  let u := (s.wr R.HBM_STK_TEMP.READ_FAIL 0 st).wr R.HBM_STK_TEMP.TEMP_C c st
  u.wr R.HBM_STK_TEMP.BAND (bandStep (u.rd R.HBM_STK_TEMP.BAND st) c) st

/-- A field set on top of register changes changes nothing but registers. -/
theorem State.wr_only_of {u : State} (h : u = { s with csr := u.csr }) (f : RF) (v i j k : Nat) : u.wr f v i j k = { s with csr := (u.wr f v i j k).csr } :=
  (u.wr_only f v i j k).trans (congrArg (fun x : State => { x with csr := (u.wr f v i j k).csr }) h)

theorem State.tempTaken_only (s : State) (st c : Nat) : s.tempTaken st c = { s with csr := (s.tempTaken st c).csr } :=
  State.wr_only_of (State.wr_only_of (s.wr_only ..) ..) ..

@[simp] theorem State.tempTaken_busy (s : State) (st c : Nat) : (s.tempTaken st c).busy = s.busy := by simp only [State.tempTaken, State.wr_busy]
@[simp] theorem State.tempTaken_pending (s : State) (st c : Nat) : (s.tempTaken st c).pending = s.pending := by simp only [State.tempTaken, State.wr_pending]

/-- In a stack's HBM_STK_TEMP, setting one field leaves another. -/
theorem State.rd_wr_temp (hs : Tab.wf s.csr = true) (f g : RF) (v : Nat) (hf : f.addr st 0 0 = R.HBM_STK_TEMP.addr st 0 0) (hg : g.addr st 0 0 = R.HBM_STK_TEMP.addr st 0 0)
    (h : g.lo + g.w ≤ f.lo ∨ f.lo + f.w ≤ g.lo) : (s.wr f v st).rd g st = s.rd g st :=
  State.rd_wr_beside hs f g v st 0 0 st 0 0 (hg.trans hf.symm) h

theorem State.tempTaken_temp (hs : Tab.wf s.csr = true) (c : Nat) : (s.tempTaken st c).rd R.HBM_STK_TEMP.TEMP_C st = c % 2 ^ R.HBM_STK_TEMP.TEMP_C.w := by
  have hfail := State.wr_csr_wf hs R.HBM_STK_TEMP.READ_FAIL 0 st 0 0
  rw [State.tempTaken, State.rd_wr_temp (State.wr_csr_wf hfail ..) R.HBM_STK_TEMP.BAND R.HBM_STK_TEMP.TEMP_C _ rfl rfl (by decide), State.rd_wr_self hfail R.HBM_STK_TEMP.TEMP_C _ _ _ _ (by decide)]

theorem State.tempTaken_readFail (hs : Tab.wf s.csr = true) (c : Nat) : (s.tempTaken st c).rd R.HBM_STK_TEMP.READ_FAIL st = 0 := by
  have hfail := State.wr_csr_wf hs R.HBM_STK_TEMP.READ_FAIL 0 st 0 0
  rw [State.tempTaken, State.rd_wr_temp (State.wr_csr_wf hfail ..) R.HBM_STK_TEMP.BAND R.HBM_STK_TEMP.READ_FAIL _ rfl rfl (by decide),
    State.rd_wr_temp hfail R.HBM_STK_TEMP.TEMP_C R.HBM_STK_TEMP.READ_FAIL _ rfl rfl (by decide), State.rd_wr_self hs R.HBM_STK_TEMP.READ_FAIL _ _ _ _ (by decide), Nat.zero_mod]

/-- The fields between BAND and READ_FAIL, DUTY and OVERTEMP, are left. -/
theorem State.tempTaken_between (hs : Tab.wf s.csr = true) (c : Nat) {g : RF} (hg : g.addr st 0 0 = R.HBM_STK_TEMP.addr st 0 0) (hlo : 10 ≤ g.lo) (hhi : g.lo + g.w ≤ 16) :
    (s.tempTaken st c).rd g st = s.rd g st := by
  have hfail := State.wr_csr_wf hs R.HBM_STK_TEMP.READ_FAIL 0 st 0 0
  rw [State.tempTaken, State.rd_wr_temp (State.wr_csr_wf hfail ..) R.HBM_STK_TEMP.BAND g _ rfl hg (.inr hlo),
    State.rd_wr_temp hfail R.HBM_STK_TEMP.TEMP_C g _ rfl hg (.inr (Nat.le_trans (by decide) hlo)), State.rd_wr_temp hs R.HBM_STK_TEMP.READ_FAIL g _ rfl hg (.inl hhi)]

/-- Every other register is left. -/
theorem State.tempTaken_others (hs : Tab.wf s.csr = true) (c : Nat) {a : Nat} (ha : a ≠ R.HBM_STK_TEMP.addr st 0 0) : (s.tempTaken st c).csrAt a = s.csrAt a := by
  rw [State.tempTaken, State.csrAt_wr_ne (State.wr_csr_wf (State.wr_csr_wf hs ..) ..) R.HBM_STK_TEMP.BAND _ _ _ _ ha,
    State.csrAt_wr_ne (State.wr_csr_wf hs ..) R.HBM_STK_TEMP.TEMP_C _ _ _ _ ha, State.csrAt_wr_ne hs R.HBM_STK_TEMP.READ_FAIL _ _ _ _ ha]

/-- A valid reading below STOP_C and THROTTLE_C, above THROTTLE_C − HYST, of a stack without OVERTEMP, is taken and does no more. -/
theorem State.hbmPoll_takes {c : Nat} (hs : Tab.wf s.csr = true) (hc : c ≤ 150) (hover : s.rd R.HBM_STK_TEMP.OVERTEMP st = 0) (hthr : c < s.rd R.HBM_STK_THERM_CFG.THROTTLE_C st)
    (hstop : c < s.rd R.HBM_STK_THERM_CFG.STOP_C st) (hhyst : s.rd R.HBM_STK_THERM_CFG.THROTTLE_C st < c + s.rd R.HBM_STK_THERM_CFG.HYST st) :
    s.hbmPoll st (some c) = s.tempTaken st c := by
  have hvalid : ¬ decide (150 < c) = true := by simpa using hc
  have hcool : ¬ (s.tempTaken st c).rd R.HBM_STK_TEMP.OVERTEMP st = 1 := by
    rw [State.tempTaken_between hs c (g := R.HBM_STK_TEMP.OVERTEMP) rfl (by decide) (by decide), hover]
    exact Nat.zero_ne_one
  exact (if_neg hvalid).trans <| (if_neg hcool).trans <| (if_neg (Nat.not_le.mpr hstop)).trans <| (if_neg (Nat.not_le.mpr hthr)).trans (if_neg (Nat.not_le.mpr hhyst))

end heat

/-- Settles O9: the bounds that the write tests are those of the rule. -/
theorem thermalBoundsAreKept : Obligations.ThermalBoundsAreKept :=
  fun _ _ _ hst h hbad => exec_hbmThermCfgWrite_bad hst h (mt (thermCfgOk_iff _).mp hbad)

/-- Settles O19: the poll takes the reading, which fits TEMP_C's eight bits, and goes into no other branch of the rule. -/
theorem stackTemperatureIsTakenFromAPoll : Obligations.StackTemperatureIsTakenFromAPoll := by
  intro s st c hs h hst hc hover hthr hstop hhyst
  have hpoll : (if st < 8 then s.hbmPoll st (some c) else s) = s.tempTaken st c := (if_pos hst).trans (State.hbmPoll_takes hs.csr hc hover hthr hstop hhyst)
  refine ⟨_, fin_effect_rests hpoll ((s.tempTaken_busy st c).trans h) (s.tempTaken_pending st c), ?_, State.tempTaken_readFail hs.csr c,
    State.tempTaken_between hs.csr c rfl (by decide) (by decide), fun a => State.tempTaken_others hs.csr c, s.tempTaken_only st c⟩
  rw [State.tempTaken_temp hs.csr, Nat.mod_eq_of_lt (Nat.lt_of_le_of_lt hc (by decide))]

end Sys2Proof.Machine
end

section
/-! PROOF. The Roost address map and its inverse (R188). -/

namespace Sys2Proof.Machine

/-! ### The channel is the stripe's low three bits, folded with the channel stripe -/

/-- What the map folds into a stripe's low three bits to give its channel: the channel stripe's bits. -/
def channelFold (cs : Nat) : Nat := (cs ^^^ (cs / 2 ^ 8) ^^^ (cs / 2 ^ 16)) % 8

theorem channelFold_lt (cs : Nat) : channelFold cs < 8 := Nat.mod_lt _ (by decide)

/-- The channel that a fold gives is one of the eight. -/
theorem xor_channelFold_lt {x : Nat} (hx : x < 8) (cs : Nat) : x ^^^ channelFold cs < 8 := Nat.xor_lt_two_pow (n := 3) hx (channelFold_lt cs)

theorem roostMap_cs (a : Nat) : (roostMap a).cs = (a - roostBase) / 4096 / 8 := rfl

theorem roostMap_line (a : Nat) : (roostMap a).line = (a - roostBase) / 64 % 64 := rfl

theorem roostMap_ch (a : Nat) : (roostMap a).ch = ((a - roostBase) / 4096 % 8) ^^^ channelFold (roostMap a).cs := by
  have hmod : ∀ x y : Nat, (x ^^^ y) % 8 = (x % 8) ^^^ (y % 8) := fun _ _ => Nat.xor_mod_two_pow (n := 3)
  rw [roostMap_cs, channelFold, Nat.div_div_eq_div_mul _ 8 (2 ^ 8), Nat.div_div_eq_div_mul _ 8 (2 ^ 16), ← hmod, ← Nat.xor_assoc, ← Nat.xor_assoc]
  rfl

theorem roostAddr_eq {ch : Nat} (hch : ch < 8) (cs line : Nat) : roostAddr ch cs line = roostBase + (cs * 8 + (ch ^^^ channelFold cs)) * 4096 + line * 64 := by
  have hlow : (ch ^^^ cs ^^^ (cs / 2 ^ 8) ^^^ (cs / 2 ^ 16)) % 8 = ch ^^^ channelFold cs := by
    rw [Nat.xor_assoc, Nat.xor_assoc, Nat.xor_mod_two_pow (n := 3), Nat.mod_eq_of_lt (b := 2 ^ 3) hch, ← Nat.xor_assoc cs]
    rfl
  exact congrArg (fun low => roostBase + (cs * 8 + low) * 4096 + line * 64) hlow

/-! ### Each is the other's inverse -/

/-- A line of Roost is found again from its channel, its channel stripe and its line in the stripe. -/
theorem roostAddr_map {a : Nat} (ha : roostBase ≤ a) : roostAddr (roostMap a).ch (roostMap a).cs (roostMap a).line = a / 64 * 64 := by
  have hch : (roostMap a).ch < 8 := Nat.mod_lt _ (by decide)
  rw [roostAddr_eq hch, roostMap_ch, xor_fold_fold, roostMap_cs, roostMap_line]
  simp only [roostBase] at ha ⊢
  omega

section places
variable {ch cs line : Nat} (hch : ch < 8)
include hch

/-- The address of a place lies in Roost. -/
theorem roostAddr_inRoost (hcs : cs < 2 ^ 25) (hline : line < 64) : roostBase ≤ roostAddr ch cs line ∧ roostAddr ch cs line < roostEnd := by
  have hlow := xor_channelFold_lt hch cs
  rw [roostAddr_eq hch]
  simp only [roostBase, roostEnd]
  omega

/-- A place is the place of its address. -/
theorem roostMap_addr (hline : line < 64) : (roostMap (roostAddr ch cs line)).ch = ch ∧ (roostMap (roostAddr ch cs line)).cs = cs ∧ (roostMap (roostAddr ch cs line)).line = line := by
  have hlow := xor_channelFold_lt hch cs
  have hoff : roostAddr ch cs line - roostBase = (cs * 8 + (ch ^^^ channelFold cs)) * 4096 + line * 64 := by rw [roostAddr_eq hch]; omega
  have hcs : (roostMap (roostAddr ch cs line)).cs = cs := by rw [roostMap_cs, hoff]; omega
  have hstripe : (roostAddr ch cs line - roostBase) / 4096 % 8 = ch ^^^ channelFold cs := by rw [hoff]; omega
  refine ⟨?_, hcs, ?_⟩
  · rw [roostMap_ch, hcs, hstripe, xor_fold_fold]
  · rw [roostMap_line, hoff]; omega

end places

/-- Settles O50: the channel's fold undoes itself, so the map and its inverse undo each other. -/
theorem roostAddressMapIsOneToOne : Obligations.RoostAddressMapIsOneToOne := by
  refine ⟨fun a ha hend => ⟨Nat.mod_lt _ (by decide), Nat.mod_lt _ (by decide), Nat.mod_lt _ (by decide), Nat.mod_lt _ (by decide), ?stripe, roostAddr_map ha⟩,
    fun ch cs line hch hcs hline => ?place⟩
  case stripe =>
    rw [roostMap_cs]
    simp only [roostBase, roostEnd] at ha hend ⊢
    omega
  case place =>
    obtain ⟨hlo, hhi⟩ := roostAddr_inRoost hch hcs hline
    exact ⟨hlo, hhi, roostMap_addr hch hline⟩

end Sys2Proof.Machine
end

section
/-! PROOF. The Roost controllers' requests: ingress, issue, drains, refresh and retries. -/

namespace Sys2Proof.Machine

/-- The events of a sub-channel act on one that exists. -/
theorem subOk_true {ch sub : Nat} (hch : ch < 8) (hsub : sub < 2) : subOk ch sub = true := by simp [subOk, hch, hsub]

section requests
variable {s : State} {ch sub : Nat}

theorem State.chAwake_true (hup : s.chUp ch = true) (hsleep : s.chSleeps ch = false) : s.chAwake ch = true := by simp [State.chAwake, hup, hsleep]

/-! ### Ingress (R194, R195) -/

/-- A line request that the checks at the Roost port let pass, outside the sector mode, enters its sub-channel, behind the ward filter's work on its line. -/
theorem State.roostIngress_enters {r q : LineReq} {a mode d : Nat} (ha : a = r.addr / 64 * 64) (hq : q = { r with addr := a, cls := sourceClass r.m r.cls })
    (hdec : s.decodeGate (portSrc r.m) r.m r.addr 64 = none) (hrange : rangeOf a = .roost) (hch : (roostMap a).ch = ch) (hsub : (roostMap a).sub = sub)
    (hbridge : s.unitState (56 + ch / 4) = Unit.normal) (hunit : s.unitState (58 + ch) = Unit.normal) (hlink : s.linkCut (masterDie r.m) a = false) (hup : s.chUp ch = true)
    (hload : (s.checker 9).reloading = false) (hfree : (s.rq ch sub).holds (s.roostReq q 0).2 = false)
    (hjess : viaCache r.m = true ∨ s.jessFails 9 r.m (lineKind r.op) a 64 = none) (hmode : (if r.m.cls = 8 then (0, 0) else s.modeAt 9 a) = (mode, d)) (hplain : mode ≠ 2)
    (hadd : ∀ k, r.op ≠ .add k) {v : State} {x : QReq} (hv : (if viaCache r.m then s else s.ward (lineWard r.op r.mask) a).roostReq q mode = (v, x)) :
    s.roostIngress r = v.roostEnter ch sub x := by
  have hgate := State.portJess_passes hjess
  subst ha hq
  simp only [State.roostIngress, hdec, hrange, hch, hsub, hbridge, hunit, hlink, hup, hload, hfree, hgate, hmode, ne_eq, not_true_eq_false, Bool.not_true,
    hplain, decide_false, Bool.false_and, Bool.false_eq_true, or_self, if_false, hv]

/-! ### Drains by age (R195) -/

theorem exec_roostDrainAge (hch : ch < 8) (hsub : sub < 2) {x : QReq} (h : s.Rests) (hx : (s.rq ch sub).wq.head? = some x) (hd : (s.rq ch sub).drain = false) (hage : x.at_ + 4000 ≤ s.now) :
    exec (.roostDrainAge ch sub) s = .next (s.setRq ch sub { s.rq ch sub with drain := true, drained := 0, drains := (s.rq ch sub).drains + 1 }) := by
  have hdrain := congrArg (s.setRq ch sub) (MQueue.ageDrain_old hx hd hage)
  exact fin_effect_rests ((if_pos (subOk_true hch hsub)).trans hdrain) ((State.setRq_busy ..).trans h) (State.setRq_pending ..)

/-! ### Issue slots (R194, R197) -/

section issue
variable {notReady : List Nat} {w : WireErr} {v : State}

/-- The scheduler's pick issues, unless it is a masked write whose internal read is still to come. -/
theorem State.roostSlot_issues {x : QReq} (hx : (v.rq ch sub).pick (v.rcfg ch) .plain notReady v.now = some x) (hdir : x.isMasked = false ∨ (v.rq ch sub).dirOf x = true) {u : State} {r : Ans}
    (hu : v.roostIssueOne ch sub x w = (u, r)) : v.roostSlot ch sub notReady w = (u, some (x, r)) := by
  have hread : (x.isMasked && !(v.rq ch sub).dirOf x) = false := by
    rcases hdir with h | h <;> simp [h]
  simp only [State.roostSlot, hx, hread, hu, Bool.false_eq_true, if_false]

theorem State.roostSlot_reads {x : QReq} (hx : (v.rq ch sub).pick (v.rcfg ch) .plain notReady v.now = some x) (hm : x.isMasked = true) (hdir : (v.rq ch sub).dirOf x = false) :
    v.roostSlot ch sub notReady w = (v.roostInner ch sub x w, none) := by
  simp only [State.roostSlot, hx, hm, hdir, Bool.not_false, Bool.and_self, if_true]

/-- With nothing ready the slot passes. -/
theorem State.roostSlot_idles (hx : (v.rq ch sub).pick (v.rcfg ch) .plain notReady v.now = none) :
    v.roostSlot ch sub notReady w = (v.setRq ch sub
      (((((v.rq ch sub).idle (v.rcfg ch)).checkDrain (v.rcfg ch)).refillIngress (v.rcfg ch)).closeRows (v.rcfg ch) v.now), none) := by
  simp only [State.roostSlot, hx]

section slot
variable (hch : ch < 8) (hsub : sub < 2) {cells : CellErrs} (hv : v = s.decay cells) (hup : v.chUp ch = true) (hsleep : v.chSleeps ch = false)
  (hbridge : v.unitState (56 + ch / 4) ≠ Unit.resetting) (hunit : v.unitState (58 + ch) ≠ Unit.resetting) {u : State}
include hch hsub hv hup hsleep hbridge hunit

/-- The request that completes in the slot is answered. -/
theorem exec_roostRequestIssue_answers {x : QReq} {r : Ans} (hslot : v.roostSlot ch sub notReady w = (u, some (x, r))) :
    exec (.roostRequestIssue ch sub notReady w cells) s = .next ((u.complete x r).settledFrom s) := by
  subst hv
  have hissue : (s.decay cells).roostIssue ch sub notReady w = u.complete x r := by
    rw [State.roostIssue, if_neg (by simp [hup, hsleep, hbridge, hunit]), hslot]
  exact fin_effect ((if_pos (subOk_true hch hsub)).trans hissue)

/-- A slot in which nothing completes. -/
theorem exec_roostRequestIssue_passes (hslot : v.roostSlot ch sub notReady w = (u, none)) :
    exec (.roostRequestIssue ch sub notReady w cells) s = .next (u.settledFrom s) := by
  subst hv
  have hissue : (s.decay cells).roostIssue ch sub notReady w = u := by
    rw [State.roostIssue, if_neg (by simp [hup, hsleep, hbridge, hunit]), hslot]
  exact fin_effect ((if_pos (subOk_true hch hsub)).trans hissue)

end slot

end issue

/-! ### Refresh and its rate (R196) -/

theorem exec_roostRefreshDue (hch : ch < 8) (hsub : sub < 2) (h : s.Rests) (hup : s.chUp ch = true) (hsleep : s.chSleeps ch = false)
    (hdue : Tab.get (s.rq ch sub).dueAt 0 (2 * s.roost.upAt + 7800) ≤ 2 * s.now) :
    exec (.roostRefreshDue ch sub) s = .next ((s.setRq ch sub ({ s.rq ch sub with
      dueAt := Tab.put (s.rq ch sub).dueAt 0 (2 * s.now + if s.roost.hot.contains ch then 3900 else 7800) }.refreshAll)).wr R.ROOST_CH_STATUS.TREFI_HALF (b2n (s.roost.hot.contains ch)) ch) := by
  have hact : ¬ ((!s.chAwake ch) = true ∨ 2 * s.now < Tab.get (s.rq ch sub).dueAt 0 (2 * s.roost.upAt + 7800)) := by simp [State.chAwake_true hup hsleep, hdue]
  exact fin_effect_rests ((if_pos (subOk_true hch hsub)).trans (if_neg hact)) (by rw [State.wr_busy, State.setRq_busy]; exact h) (by rw [State.wr_pending, State.setRq_pending])

theorem exec_roostTempRead (hch : ch < 8) {hot : List Bool} (h : s.Rests) (hup : s.chUp ch = true) (hsleep : s.chSleeps ch = false)
    (hlast : (Tab.get? s.roost.tempAt ch).any (fun t => decide (s.now < t + 32000000)) = false) :
    exec (.roostTempRead ch hot) s = .next (s.updRoost (fun r => { r with
      tempAt := Tab.put r.tempAt ch s.now, hot := if (hot.take 2).any id then sinsert r.hot ch else r.hot.filter (· != ch) })) := by
  have hact : ¬ ((!s.chAwake ch) = true ∨ (Tab.get? s.roost.tempAt ch).any (fun t => decide (s.now < t + 32000000)) = true) := by
    rw [State.chAwake_true hup hsleep, hlast]
    decide
  exact fin_effect_rests ((if_pos hch).trans (if_neg hact)) ((State.updRoost_busy ..).trans h) (State.updRoost_pending ..)

/-! ### Retries (R190, R191) -/

/-- The first retry of a queued request after a CA parity error. -/
theorem State.roostCaParity_first {req : Nat} {x : QReq} (hx : ((s.rq ch sub).rq ++ (s.rq ch sub).wq).find? (fun x => some req == some x.id) = some x)
    (hn : Tab.get (s.rq ch sub).retry x.id 0 = 0) :
    s.roostCaParity ch sub [req] = (s.setRq ch sub { s.rq ch sub with retry := Tab.put (s.rq ch sub).retry x.id 1 }).flag R.ROOST_BR_EVENT.CA_PARITY R.ROOST_BR_CAPAR_CNT.COUNT (ch / 4) := by
  simp only [State.roostCaParity, List.head?_cons, hx, hn, Nat.reduceLeDiff, if_false, Nat.zero_add]

/-- The first time that a queued write's burst is sent again after a CRC error. -/
theorem State.roostWrCrc_first {req : Nat} {x : QReq} (hx : (s.rq ch sub).wq.find? (fun x => x.id == req) = some x) (hn : Tab.get (s.rq ch sub).crc req 0 = 0) :
    s.roostWrCrc ch sub req = (s.flag R.ROOST_BR_EVENT.WR_CRC R.ROOST_BR_CRC_CNT.COUNT (ch / 4)).setRq ch sub { s.rq ch sub with crc := Tab.put (s.rq ch sub).crc req 1 } := by
  simp only [State.roostWrCrc, hx, hn, Nat.reduceLeDiff, if_false, Nat.zero_add]

theorem exec_caParityRetry (hch : ch < 8) (hsub : sub < 2) {req : Nat} {x : QReq} (h : s.Rests) (hx : ((s.rq ch sub).rq ++ (s.rq ch sub).wq).find? (fun x => some req == some x.id) = some x)
    (hn : Tab.get (s.rq ch sub).retry x.id 0 = 0) :
    exec (.caParityRetry ch sub [req]) s = .next
      ((s.setRq ch sub { s.rq ch sub with retry := Tab.put (s.rq ch sub).retry x.id 1 }).flag R.ROOST_BR_EVENT.CA_PARITY R.ROOST_BR_CAPAR_CNT.COUNT (ch / 4)) :=
  fin_effect_rests ((if_pos (subOk_true hch hsub)).trans (State.roostCaParity_first hx hn)) ((State.flag_busy ..).trans h) (State.flag_pending ..)

theorem exec_wrCrcResend (hch : ch < 8) (hsub : sub < 2) {req : Nat} {x : QReq} (h : s.Rests) (hx : (s.rq ch sub).wq.find? (fun x => x.id == req) = some x)
    (hn : Tab.get (s.rq ch sub).crc req 0 = 0) :
    exec (.wrCrcResend ch sub req) s = .next
      ((s.flag R.ROOST_BR_EVENT.WR_CRC R.ROOST_BR_CRC_CNT.COUNT (ch / 4)).setRq ch sub { s.rq ch sub with crc := Tab.put (s.rq ch sub).crc req 1 }) :=
  fin_effect_rests ((if_pos (subOk_true hch hsub)).trans (State.roostWrCrc_first hx hn)) (by rw [State.setRq_busy, State.flag_busy]; exact h) (by rw [State.setRq_pending, State.flag_pending])

end requests

end Sys2Proof.Machine
end

section
/-! PROOF. The Roost tier's upkeep: patrol scrub, disturbance windows, retraining checks and self-refresh. -/

namespace Sys2Proof.Machine

section upkeep
variable {s : State} {ch : Nat}

/-! ### Patrol scrub (R198) -/

/-- A channel that takes requests is awake. -/
theorem State.chSleeps_false (h : s.chPaused ch = false) : s.chSleeps ch = false := (Bool.or_eq_false_iff.mp h).1

theorem State.roostScrub_reads {sector line a : Nat} {w : WireErr} {v : State} {x : QReq} (ha : a = roostAddr ch sector line) (hper : s.rd R.ROOST_CH_SCRUB.PERIOD_H ch ≠ 0)
    (hup : s.chUp ch = true) (hpause : s.chPaused ch = false) (hbridge : s.unitState (56 + ch / 4) ≠ Unit.resetting) (hunit : s.unitState (58 + ch) ≠ Unit.resetting)
    (hempty : (s.rq ch (roostMap a).sub).all = []) (hdue : scrubDue (Tab.get? s.roost.scrubAt ch) (s.rd R.ROOST_CH_SCRUB.PERIOD_H ch) 2147483648 s.now = true)
    (hv : ((s.updRoost (fun r => { r with scrubAt := Tab.put r.scrubAt ch s.now })).decay [(a, w.errs)]).roostReq
      { m := ⟨0x9000, .f, false⟩, addr := a, op := .read, cls := .bulk, data := [], mask := 0, poison := false } 0 true = (v, x)) :
    s.roostScrub ch sector line w = v.roostEnter ch (roostMap a).sub x := by
  subst ha
  have hawake := State.chAwake_true hup (State.chSleeps_false hpause)
  rw [State.roostScrub, if_neg (by simp [hper, hawake, hpause, hbridge, hunit, hempty, hdue])]
  simp only [hv]

/-! ### Disturbance windows (R200) -/

theorem exec_roostRhWindowClear (h : s.Rests) (hwin : s.roost.rhWin < s.epoch / 64000000) :
    exec .roostRhWindowClear s = .next (s.updRoost (fun r => { r with rhWin := s.epoch / 64000000, subs := r.subs.map (fun e => (e.1, e.2.clearActs)) })) :=
  fin_effect_rests (if_neg (Nat.not_le.mpr hwin)) ((State.updRoost_busy ..).trans h) (State.updRoost_pending ..)

/-! ### Retraining checks (R193) -/

/-- The tier's own state is no register. -/
theorem State.updRoost_rd (f : RoostState → RoostState) (g : RF) (i j k : Nat) : (s.updRoost f).rd g i j k = s.rd g i j k := rfl

/-- A temperature that has not moved is not too far from itself. -/
theorem retrain_notFar (delta c : Nat) : (delta != 0 && decide (delta < max c c - min c c)) = false := by simp

/-- The channels of bridge `b` are those whose number's quarter it is. -/
theorem channel_ofBridge {b c : Nat} (h : c ∈ [4 * b, 4 * b + 1, 4 * b + 2, 4 * b + 3]) : c / 4 = b := by
  simp only [List.mem_cons, List.not_mem_nil, or_false] at h
  omega

/-- A check of a bridge whose temperature has not moved, and that owes no channel a retraining, takes the temperature and does no more. -/
theorem State.retrainCheck_steady {b c : Nat} {t : State} (hready : s.rd R.ROOST_BR_STATUS.STATE b = brReady) (hnone : Tab.get? s.roost.retrain b = none)
    (hlast : (Tab.get? s.roost.checkAt b).any (fun t => decide (s.epoch / 128000000 ≤ t)) = false)
    (howes : ∀ c, c / 4 = b → Tab.get s.roost.rtFails c 0 = 0 ∧ s.roost.owing.contains c = false) (ht : t = s.wr R.ROOST_BR_STATUS.TEMP_C c b)
    (hc : t.rd R.ROOST_BR_STATUS.TRAIN_TEMP_C b = c) :
    s.retrainCheck b c [] = t.updRoost (fun r => { r with checkAt := Tab.put r.checkAt b (s.epoch / 128000000) }) := by
  subst ht
  generalize hu : (s.wr R.ROOST_BR_STATUS.TEMP_C c b).updRoost (fun r => { r with checkAt := Tab.put r.checkAt b (s.epoch / 128000000) }) = u
  have htrain : u.rd R.ROOST_BR_STATUS.TRAIN_TEMP_C b = c := by rw [← hu, State.updRoost_rd, hc]
  have hfails : u.roost.rtFails = s.roost.rtFails := by rw [← hu, State.updRoost_roost, State.wr_roost]
  have howing : u.roost.owing = s.roost.owing := by rw [← hu, State.updRoost_roost, State.wr_roost]
  rw [State.retrainCheck, if_neg (by simp [hready, hnone, hlast]), hu]
  simp only [htrain, retrain_notFar, Bool.false_or]
  refine if_pos (List.filter_eq_nil_iff.mpr fun k hk => ?_)
  obtain ⟨hk0, hk1⟩ := howes k (channel_ofBridge hk)
  rw [hfails, howing, hk0, hk1]
  simp

/-! ### Self-refresh (R201) -/

theorem State.roostExit_wakes (hon : s.coreOn = true) (hsleep : (List.range 8).any s.chSleeps = true) :
    s.roostExit [] = [0, 1].foldl (fun u b => if u.rd R.ROOST_BR_STATUS.STATE b = brRetain then u.bridgeBack b else u) ((List.range 8).foldl State.roostChWake s) := by
  have hact : ¬ ((!s.coreOn) = true ∨ (List.range 8).all (fun c => !s.chSleeps c) = true) := by
    rw [hon, ← List.not_any_eq_all_not, hsleep]
    decide
  exact if_neg hact

end upkeep

/-- Settles O20: each event is its rule's effect under the event's condition. -/
theorem roostEventsComplete : Obligations.RoostEventsComplete := by
  intro s ch sub hch hsub
  refine ⟨?ingress, fun x h hx hd hage => exec_roostDrainAge hch hsub h hx hd hage, ?issue,
    fun h hup hsleep => ⟨exec_roostRefreshDue hch hsub h hup hsleep, fun hot hlast => exec_roostTempRead hch h hup hsleep hlast⟩,
    fun req x h hx hn => exec_caParityRetry hch hsub h hx hn, fun req x h hx hn => exec_wrCrcResend hch hsub h hx hn, ?scrub, exec_roostRhWindowClear, ?retrain,
    fin_settledFrom s _, fun hon hsleep => ⟨_, fin_effect (State.roostExit_wakes hon hsleep), rfl⟩⟩
  case ingress =>
    intro r q a mode d ha hq hdec hrange hc hs hbridge hunit hlink hup hload hfree hjess hmode hplain hadd v x hv
    exact fin_effect (State.roostIngress_enters ha hq hdec hrange hc hs hbridge hunit hlink hup hload hfree hjess hmode hplain hadd hv)
  case issue =>
    intro notReady w cells v hv hup hsleep hbridge hunit
    refine ⟨fun x hx hdir u r hu => ?_, fun x hx hm hdir => ?_, fun hx => ?_⟩
    · exact exec_roostRequestIssue_answers hch hsub hv hup hsleep hbridge hunit (State.roostSlot_issues hx hdir hu)
    · exact exec_roostRequestIssue_passes hch hsub hv hup hsleep hbridge hunit (State.roostSlot_reads hx hm hdir)
    · exact exec_roostRequestIssue_passes hch hsub hv hup hsleep hbridge hunit (State.roostSlot_idles hx)
  case scrub =>
    intro sector line w a v x hsector hline ha hper hup hpause hbridge hunit hempty hdue hv
    exact fin_effect ((if_pos ⟨hch, hsector, hline⟩).trans (State.roostScrub_reads ha hper hup hpause hbridge hunit hempty hdue hv))
  case retrain =>
    intro b h hb hready htemp hnone hlast howes t ht hc
    have hcheck := State.retrainCheck_steady hready hnone hlast howes ht hc
    refine fin_effect_rests ((if_pos ⟨hb, htemp⟩).trans hcheck) ?_ ?_
    · rw [State.updRoost_busy, ht, State.wr_busy]
      exact h
    · rw [State.updRoost_pending, ht, State.wr_pending]

end Sys2Proof.Machine
end

section
/-! PROOF. The Crypt engine's events: the sector table's fill, line accesses to SECTOR sectors, the merge hold, raw sector accesses and the rekey walk. -/

namespace Sys2Proof.Machine

section events
variable {s : State}

/-! ### The sector table's fill (R213) -/

theorem State.cryptFilled_ready (h : s.rd R.CRYPT_STATUS.STATE = cryptInit) :
    s.cryptFilled = (s.updCrypt (fun c => { c with recs := [] })).wr R.CRYPT_STATUS.STATE cryptReadySt := if_neg (not_not_intro h)

theorem exec_sectorTableFillDone (h : s.Rests) (hkeys : s.boot.keyTable = true) (hinit : s.rd R.CRYPT_STATUS.STATE = cryptInit) :
    exec .sectorTableFillDone s = .next ((s.updCrypt (fun c => { c with recs := [] })).wr R.CRYPT_STATUS.STATE cryptReadySt) := by
  refine fin_effect_rests ((if_pos hkeys).trans (State.cryptFilled_ready hinit)) ?_ ?_
  · rw [State.wr_busy, State.updCrypt_busy _ _ rfl]
    exact h
  · rw [State.wr_pending, State.updCrypt_pending]

/-! ### Line accesses to SECTOR sectors (R216, R220) -/

theorem exec_sectorLineRead (m : Master) (addr : Nat) :
    exec (.sectorLineRead m addr) s = fin s (s.sectorAccess { m := m, addr := addr, op := .read, cls := .norm, data := [], mask := 0, poison := false }) := rfl

theorem exec_sectorLineWrite (m : Master) (addr : Nat) (data : List Byte) :
    exec (.sectorLineWrite m addr data) s =
      fin s (s.sectorAccess { m := m, addr := addr, op := .write, cls := .norm, data := (data ++ List.replicate 64 0).take 64, mask := 2 ^ 64 - 1, poison := false }) := rfl

/-- The engine serves a line access that Jess grants, in a READY engine whose range answers and is awake, behind the ward filter's work on the line. -/
theorem State.sectorAccess_serves {r : LineReq} {a d : Nat} (ha : a = r.addr / 64 * 64) (hdom : s.sectorDomain? a = some d) (hready : s.cryptReady = true) (hans : s.answers 2 a = true)
    (hawake : s.asleep a = false) (hjess : viaCache r.m = true ∨ s.jessFails 9 r.m (lineKind r.op) a 64 = none) :
    s.sectorAccess r = (if viaCache r.m then s else s.ward (lineWard r.op r.mask) a).sectorServe r a d := by
  have hgate := State.portJess_passes hjess
  subst ha
  simp only [State.sectorAccess, hdom, hgate, hready, hans, hawake, Bool.not_true, Bool.false_eq_true, if_false]

section merge
variable {u : State} {a d : Nat} {e : Merge} (hmerge : u.mergeOf (secOf a) = some e)
include hmerge

/-- A line that has been written to its sector's merge entry is read there. -/
theorem State.sectorRead_merged {l : List Byte} (c : ReqClass) (hl : Tab.get? e.lines (a / 64 % 64) = some l) : u.sectorRead a d c = (u.mergePut e, some l) := by
  simp only [State.sectorRead, hmerge, hl]

/-- A line written to a sector whose entry is dirty joins the entry, which keeps the time of its first write. -/
theorem State.sectorWrite_joins (hdirty : e.lines ≠ []) (l : List Byte) (who : List Waiter) (c : ReqClass) :
    u.sectorWrite a d l who c = u.mergePut { e with lines := Tab.put e.lines (a / 64 % 64) l, waiters := e.waiters ++ who, domain := d, cls := c } := by
  simp only [State.sectorWrite, hmerge, hdirty, if_false]

theorem State.sectorServe_readMerged {r : LineReq} {l : List Byte} (hop : r.op = .read) (hl : Tab.get? e.lines (a / 64 % 64) = some l) :
    u.sectorServe r a d = (u.mergePut e).emit (.done r.m (l.map BitVec.toNat)) := by
  simp only [State.sectorServe, hop, State.sectorRead_merged hmerge r.cls hl]
  rfl

theorem State.sectorServe_writeJoins {r : LineReq} (hop : r.op = .write) (hdirty : e.lines ≠ []) :
    u.sectorServe r a d =
      u.mergePut { e with lines := Tab.put e.lines (a / 64 % 64) r.data, waiters := e.waiters ++ [.master r.m], domain := d, cls := r.cls } := by
  simp only [State.sectorServe, hop, State.sectorWrite_joins hmerge hdirty]

end merge

/-! ### The merge hold (R220) -/

theorem State.mergeDue_true {e : Merge} (hdirty : e.lines ≠ []) (hready : s.cryptReady = true) (hage : e.firstAt + clampN 100 10000 (s.rd R.CRYPT_CFG.MERGE_HOLD_NS) ≤ s.now) :
    s.mergeDue e = true := by
  simp [State.mergeDue, hdirty, hready, hage]

theorem State.mergeHold_due {sec : Nat} {e : Merge} (hmerge : s.mergeOf sec = some e) (hdue : s.mergeDue e = true) : s.mergeHold sec = s.mergeBack e := by
  simp only [State.mergeHold, hmerge, hdue, if_true]

/-! ### Raw sector accesses (R217) -/

/-- The bytes that fill an operand up to its length are not read from one that has it. -/
theorem slice_padded {α : Type} {l r : List α} {n : Nat} (h : l.length = n) : slice (l ++ r) 0 n = l := List.take_left' h

theorem exec_rawSectorWrite {m : Master} {sec : Nat} {rec_ : List Byte} (cipher : List Byte) (hsec : sec < 2 ^ 28) (hrec : rec_.length = 32) :
    exec (.rawSectorWrite m sec rec_ cipher) s = fin s (s.rawWrite m sec rec_ cipher) := by
  have hact : exec (.rawSectorWrite m sec rec_ cipher) s = fin s (if sec < 2 ^ 28 then s.rawWrite m sec (slice (rec_ ++ List.replicate 32 0) 0 32) cipher else s) := rfl
  rw [hact, if_pos hsec, slice_padded hrec]

theorem State.rawRead_admitted {m : Master} {sec : Nat} {u : State} {l : List Byte} {po : Bool} (hgate : s.rawGate m .r sec = none)
    (hload : (s.mergeSettle sec).rawLoad sec .bulk = (u, l, po)) : s.rawRead m sec = u.answerRead m (l ++ (u.secRec sec).bytes) po := by
  simp only [State.rawRead, hgate, hload]

theorem State.rawWrite_admitted {m : Master} {sec : Nat} {cipher : List Byte} (rec_ : List Byte) (hgate : s.rawGate m .w sec = none) (hlen : cipher.length = 4096) :
    s.rawWrite m sec rec_ cipher = (((s.wardSector sec).mergeSettle sec).rawStore sec { SecRec.ofBytes rec_ with failed := false } cipher).emit (.done m []) := by
  simp only [State.rawWrite, hgate, slice_padded hlen]

/-! ### The rekey walk (R225 to R228) -/

section rekey
variable {r : Rekey} (hrekey : s.crypt.rekey = some r) (hready : s.cryptReady = true) (hup : s.roostUp = true)
include hrekey hready hup

theorem State.rekeyStep_reseals {sec : Nat} (hnext : rekeyNext s.crypt.recs r.domain (s.rd R.CRYPT_JOURNAL.NEW_SET == 1) r.next = some sec) :
    s.rekeyStep = (s.rekeySector r sec).1.updCrypt (fun c => { c with rekey := some (s.rekeySector r sec).2 }) := by
  simp only [State.rekeyStep, hrekey, hready, hup, hnext, Bool.not_true, Bool.false_eq_true, or_self, if_false]

theorem State.rekeyStep_ends (hnext : rekeyNext s.crypt.recs r.domain (s.rd R.CRYPT_JOURNAL.NEW_SET == 1) r.next = none) : s.rekeyStep = s.rekeyEnd r := by
  simp only [State.rekeyStep, hrekey, hready, hup, hnext, Bool.not_true, Bool.false_eq_true, or_self, if_false]

end rekey

end events

/-- Settles O26: each event is its rule's effect once its checks let it pass. -/
theorem sectorEventsComplete : Obligations.SectorEventsComplete := by
  intro s
  refine ⟨exec_sectorTableFillDone, ?read, ?write, ?hold, ?rawRead, ?rawWrite, ?rekey⟩
  case read =>
    intro m addr a d u e ha hdom hready hans hawake hjess hu hmerge l hl
    subst hu
    rw [exec_sectorLineRead]
    exact fin_effect (Eq.trans (State.sectorAccess_serves ha hdom hready hans hawake hjess) (State.sectorServe_readMerged hmerge rfl hl))
  case write =>
    intro m addr data a d u e ha hdom hready hans hawake hjess hu hmerge hdirty
    subst hu
    rw [exec_sectorLineWrite]
    exact fin_effect (Eq.trans (State.sectorAccess_serves ha hdom hready hans hawake hjess) (State.sectorServe_writeJoins hmerge rfl hdirty))
  case hold =>
    intro sec e hmerge hdirty hready hage
    exact fin_effect (State.mergeHold_due hmerge (State.mergeDue_true hdirty hready hage))
  case rawRead =>
    intro m sec u l po hsec hgate hload
    exact fin_effect ((if_pos hsec).trans (State.rawRead_admitted hgate hload))
  case rawWrite =>
    intro m sec rec_ cipher hsec hrec hcipher hgate
    rw [exec_rawSectorWrite cipher hsec hrec]
    exact fin_effect (State.rawWrite_admitted rec_ hgate hcipher)
  case rekey =>
    intro r hrekey hready hup
    exact ⟨fun _ hnext => fin_effect (State.rekeyStep_reseals hrekey hready hup hnext), fun hnext => fin_effect (State.rekeyStep_ends hrekey hready hup hnext)⟩

end Sys2Proof.Machine
end

section
/-! PROOF. The decision of a checker: a fetch outside HBM, and a request that no enabled region matches (R236 to R238). -/

namespace Sys2Proof.Machine

/-! ### The parts of a request (R237, R240) -/

/-- The ranges of the map begin and end between granules. -/
theorem rangeOf_granule (a : Nat) : rangeOf (a / 64 * 64) = rangeOf a := by
  have hend : ∀ e : Nat, e % 64 = 0 → (a / 64 * 64 < e ↔ a < e) := fun e he => by omega
  have hbase : ∀ b : Nat, b % 64 = 0 → (b ≤ a / 64 * 64 ↔ b ≤ a) := fun b hb => by omega
  simp only [rangeOf, hend hbmEnd rfl, hbase roostBase rfl, hend roostEnd rfl, hbase tileBase rfl, hend tileEnd rfl, hbase csrBase rfl, hend csrEnd rfl]

section decision
variable {t : Tab RegionW} {a n : Nat}

/-- A request's granules begin with the one that holds its first byte. -/
theorem jessGranules_cons (t : Tab RegionW) (a n : Nat) : ∃ r, jessGranules t a n = (a / 64 * 64, jessMatch t (a / 64 * 64)) :: r := by
  simp only [jessGranules, List.range_succ_eq_map, List.map_cons, Nat.add_zero]
  exact ⟨_, rfl⟩

/-- Every granule of a request stands no lower than the first one and below its end, with the regions that match it. -/
theorem jessGranules_within (hn : 0 < n) {p : Nat × List Nat} (hp : p ∈ jessGranules t a n) : a / 64 * 64 ≤ p.1 ∧ p.1 < a + n ∧ p.2 = jessMatch t p.1 := by
  simp only [jessGranules, List.mem_map, List.mem_range] at hp
  obtain ⟨i, hi, rfl⟩ := hp
  exact ⟨by omega, by omega, rfl⟩

theorem jessRuns_none_cons (p : Nat × List Nat) (l : List (Nat × List Nat)) : jessRuns none (p :: l) = p :: jessRuns (some p.2) l := if_neg nofun

/-- Granules that the same regions match as the granule before begin no part. -/
theorem jessRuns_uniform {ms : List Nat} {l : List (Nat × List Nat)} (h : ∀ p ∈ l, p.2 = ms) : jessRuns (some ms) l = [] := by
  induction l with
  | nil => rfl
  | cons p l ih =>
    obtain ⟨hp, hl⟩ := List.forall_mem_cons.mp h
    rw [jessRuns, hp, if_pos rfl, ih hl]

/-- A request that no region matches is one part. -/
theorem jessRuns_unmatched (hn : 0 < n) (h : ∀ g, a / 64 * 64 ≤ g → g < a + n → jessMatch t g = []) : jessRuns none (jessGranules t a n) = [(a / 64 * 64, [])] := by
  obtain ⟨r, hr⟩ := jessGranules_cons t a n
  have hfirst : jessMatch t (a / 64 * 64) = [] := h _ (Nat.le_refl _) (by omega)
  have hrest : ∀ p ∈ r, p.2 = [] := fun p hp => by
    obtain ⟨hlow, hhigh, hmatch⟩ := jessGranules_within hn (hr ▸ List.mem_cons_of_mem _ hp)
    rw [hmatch, h _ hlow hhigh]
  rw [hr, hfirst, jessRuns_none_cons, jessRuns_uniform hrest]

/-- The report on a request that is one part and that no region matches names the request's address. -/
theorem jessDecide_unmatched (hn : 0 < n) (h : ∀ g, a / 64 * 64 ≤ g → g < a + n → jessMatch t g = []) (m : Master) (k : AccKind) :
    jessDecide t m k a n = (jessPart t [] m k (a / 64 * 64)).map (fun r => { addr := a, regA := r.2.1, regB := r.2.2, reason := r.1, straddle := false }) := by
  have haddr : max a (a / 64 * 64) = a := by omega
  simp only [jessDecide, jessRuns_unmatched hn h, List.findSome?_singleton, haddr, List.length_singleton, Nat.lt_irrefl, decide_false]

/-- A request whose first part fails is refused. -/
theorem jessDecide_firstFails {m : Master} {k : AccKind} (n : Nat) (h : jessPart t (jessMatch t (a / 64 * 64)) m k (a / 64 * 64) ≠ none) : jessDecide t m k a n ≠ none := by
  obtain ⟨r, hr⟩ := jessGranules_cons t a n
  obtain ⟨x, hx⟩ := Option.ne_none_iff_exists'.mp h
  simp [jessDecide, hr, jessRuns_none_cons, hx]

/-! ### The decision on one part (R236, R237) -/

/-- A fetch outside HBM fails as FIXED in the JESS block and as X_RANGE elsewhere, whatever regions match. -/
theorem jessPart_fetchOutsideHbm (h : rangeOf a ≠ .hbm) (t : Tab RegionW) (ms : List Nat) (m : Master) : jessPart t ms m .x a ≠ none := by
  simp only [jessPart]
  split
  · exact Option.some_ne_none _
  · simp [h]

/-- A part outside the JESS block that no region matches. -/
theorem jessPart_unmatched (h : inJessBlock a = false) (t : Tab RegionW) (m : Master) (k : AccKind) :
    jessPart t [] m k a =
      if k = .x ∧ rangeOf a ≠ .hbm then some (.xRange, 0x100, 0x100)
      else if m.cls = 4 ∨ m.priv = .u then some (.noMatch, 0x100, 0x100)
      else if defaultMap (rangeOf a) m.priv k then none else some (.defaultDenied, 0x100, 0x100) := by
  simp [jessPart, h]

theorem jessPart_unmatched_regions (h : inJessBlock a = false) {m : Master} {k : AccKind} {r : JReason × Nat × Nat} (hr : jessPart t [] m k a = some r) :
    r.2 = (0x100, 0x100) := by
  rw [jessPart_unmatched h] at hr
  split at hr
  · cases hr; rfl
  · split at hr
    · cases hr; rfl
    · split at hr
      · cases hr
      · cases hr; rfl

theorem jessPart_unmatched_outsider (h : inJessBlock a = false) {m : Master} (hm : m.cls = 4 ∨ m.priv = .u) (k : AccKind) : jessPart t [] m k a ≠ none := by
  rw [jessPart_unmatched h, if_pos hm]
  split <;> exact Option.some_ne_none _

theorem jessPart_unmatched_none (h : inJessBlock a = false) {m : Master} (hcls : m.cls ≠ 4) (hpriv : m.priv ≠ .u) (k : AccKind) :
    jessPart t [] m k a = none ↔ (k = .x → rangeOf a = .hbm) ∧ defaultMap (rangeOf a) m.priv k = true := by
  rw [jessPart_unmatched h, if_neg (not_or.mpr ⟨hcls, hpriv⟩)]
  by_cases hx : k = .x ∧ rangeOf a ≠ .hbm
  · simp [hx]
  · rw [if_neg hx, and_iff_right (Decidable.not_and_not_right.mp hx)]
    simp

/-- The table of R238, column by column: no privilege fetches outside HBM. -/
theorem defaultMap_tabled {p : Priv} (hp : p ≠ .u) (rg : Range) (k : AccKind) :
    ((k = .x → rg = .hbm) ∧ defaultMap rg p k = true) ↔
      (rg = .hbm ∧ (p = .f ∨ k ≠ .x)) ∨ (rg = .roost ∧ p = .f ∧ k ≠ .x) ∨ (rg = .tile ∧ (k = .r ∨ k = .w)) ∨ (rg = .csr ∧ p = .f ∧ (k = .r ∨ k = .w)) := by
  cases p with
  | u => exact absurd rfl hp
  | s => cases rg <;> cases k <;> decide
  | f => cases rg <;> cases k <;> decide

end decision

/-- Settles O51: the request is one part, which R236 and R237 decide. -/
theorem defaultMapGrantsAsTabled : Obligations.DefaultMapGrantsAsTabled := by
  intro t m k a n hn _
  refine ⟨?fetch, fun hjess hmatch => ?unmatched⟩
  case fetch =>
    rintro hrange rfl
    exact jessDecide_firstFails n (jessPart_fetchOutsideHbm (by rwa [rangeOf_granule]) _ _ m)
  case unmatched =>
    have hout : inJessBlock (a / 64 * 64) = false := hjess _ (Nat.le_refl _) (by omega)
    have hreport : ∀ f, jessDecide t m k a n = some f → f.addr = a ∧ f.regA = 0x100 ∧ f.regB = 0x100 ∧ f.straddle = false := fun f hf => by
      rw [jessDecide_unmatched hn hmatch, Option.map_eq_some_iff] at hf
      obtain ⟨r, hr, rfl⟩ := hf
      simp [jessPart_unmatched_regions hout hr]
    refine ⟨fun hm => ?outsider, fun hcls hpriv => ⟨?granted, hreport⟩⟩
    case outsider =>
      have hfails : jessDecide t m k a n ≠ none := by
        rw [jessDecide_unmatched hn hmatch, Ne, Option.map_eq_none_iff]
        exact jessPart_unmatched_outsider hout hm k
      obtain ⟨f, hf⟩ := Option.ne_none_iff_exists'.mp hfails
      exact ⟨f, hf, hreport f hf⟩
    case granted =>
      rw [jessDecide_unmatched hn hmatch, Option.map_eq_none_iff, jessPart_unmatched_none hout hcls hpriv, rangeOf_granule, defaultMap_tabled hpriv]

end Sys2Proof.Machine
end

section
/-! PROOF. The events of Jess's checkers, of the tamper sensors and of the entropy source. -/

namespace Sys2Proof.Machine

section events
variable {s : State}

/-! ### The checkers (R245, R246, R248) -/

theorem exec_jessCheckerApply {k : Nat} (h : s.Rests) (hk : k < 15) (hready : (s.checker k).reloading = false) :
    exec (.jessCheckerApply k) s = .next (s.updJess (fun j => { j with checkers := Tab.upd j.checkers k .reset Checker.applyOne })) :=
  fin_effect_rests (if_pos ⟨hk, hready⟩) ((State.updJess_busy ..).trans h) (State.updJess_pending ..)

/-- The oldest sync can complete once every checker has applied the commits that it needs. -/
theorem State.jessSyncReady_applied {n need : Nat} {r : List (Nat × Nat)} (hsyncs : s.jess.syncs = (n, need) :: r)
    (hall : ∀ k < 15, (s.checker k).reloading = false ∧ need ≤ (s.checker k).applied) : s.jessSyncReady = true := by
  simpa [State.jessSyncReady, hsyncs] using hall

theorem State.syncDone_ready {n need : Nat} {r : List (Nat × Nat)} (hsyncs : s.jess.syncs = (n, need) :: r) (hready : s.jessSyncReady = true) :
    s.syncDone = (s.updJess (fun j => { j with syncs := r })).wr R.JESS_SYNC_SEQ.DONE_SEQ n := by
  simp only [State.syncDone, hsyncs, hready, if_true]

theorem exec_jessSyncDone {n need : Nat} {r : List (Nat × Nat)} (h : s.Rests) (hsyncs : s.jess.syncs = (n, need) :: r)
    (hall : ∀ k < 15, (s.checker k).reloading = false ∧ need ≤ (s.checker k).applied) :
    exec .jessSyncDone s = .next ((s.updJess (fun j => { j with syncs := r })).wr R.JESS_SYNC_SEQ.DONE_SEQ n) :=
  fin_effect_rests (State.syncDone_ready hsyncs (State.jessSyncReady_applied hsyncs hall)) (by rw [State.wr_busy, State.updJess_busy]; exact h)
    (by rw [State.wr_pending, State.updJess_pending])

theorem exec_jessCheckerReload {k : Nat} (h : s.Rests) (hk : k < 15) (hreload : (s.checker k).reloading = true) :
    exec (.jessCheckerReload k) s = .next (s.updJess (fun j => { j with
      checkers := Tab.put j.checkers k { replica := s.masterTable, queue := [], applied := j.commits, reloading := false } })) :=
  fin_effect_rests (if_pos ⟨hk, hreload⟩) ((State.updJess_busy ..).trans h) (State.updJess_pending ..)

/-! ### Tamper (R380) -/

theorem State.tamperLatch_sec (u : State) (bits first : Nat) : (u.tamperLatch bits first).sec = u.sec := by
  simp only [State.tamperLatch]
  split <;> simp only [State.wr_sec]

/-- The first event with no OPEN under way destroys the keys and enters HOODED. -/
theorem State.tamper_first {u : State} (hfirst : u.tampered = false) (hopen : u.sec.opening = false) (bits first : Nat) (bankDone : Bool) :
    u.tamper bits first bankDone =
      (((u.tamperLatch bits first).updSec (fun x => { x with opening := false })).wr R.SEC_PORT.OPEN_BUSY 0).zeroize.hood := by
  simp only [State.tamper, hfirst, State.tamperLatch_sec, hopen, Bool.false_and, Bool.false_eq_true, if_false]

/-- Levels under which an unmasked sensor asserts are a tamper event, in every state but OFF. -/
theorem State.sensorsAre_live {l : Nat} (hon : s.pwr.pstate ≠ .off) (hlive : (s.wr R.SEC_TAMPER.LIVE (l % 32)).liveSensors ≠ 0) (bankDone : Bool) :
    s.sensorsAre l bankDone = (s.wr R.SEC_TAMPER.LIVE (l % 32)).tamper (s.wr R.SEC_TAMPER.LIVE (l % 32)).liveSensors
      (lowestBit (s.wr R.SEC_TAMPER.LIVE (l % 32)).liveSensors) bankDone := (if_neg hon).trans (if_neg hlive)

/-! ### The entropy source (R378) -/

theorem State.trngFails_passing (h : s.sec.trngFail = false) :
    s.trngFails = ((s.updSec (fun x => { x with trngFail := true })).flag R.SEC_EVENT.TRNG_HEALTH R.SEC_TRNG_CNT.COUNT).report Src.secTrng Cls.uc Cause.trngHealth :=
  if_neg (by simp [h])

/-- A recovery that no draw has waited for ends the failure, and that is all. -/
theorem State.trngRecovers_noDraw (hfail : s.sec.trngFail = true) (hnonce : s.sec.nonceWait = false) (hscr : s.sec.scrWait = false) (hrun : s.tci.running = []) :
    s.trngRecovers = s.updSec (fun x => { x with trngFail := false }) := by
  simp only [State.trngRecovers, hfail, State.updSec_sec, hnonce, hscr, State.updSec_tci, hrun, List.find?_nil, Bool.not_true, Bool.false_eq_true, if_false]

theorem exec_trngHealthRecover (h : s.Rests) (hfail : s.sec.trngFail = true) (hnonce : s.sec.nonceWait = false) (hscr : s.sec.scrWait = false) :
    exec .trngHealthRecover s = .next (s.updSec (fun x => { x with trngFail := false })) :=
  fin_effect_rests (State.trngRecovers_noDraw hfail hnonce hscr h.running) ((State.updSec_busy ..).trans h) (State.updSec_pending ..)

end events

/-- Settles O27: each event is its rule's effect, with what follows from it in the same step. -/
theorem jessAndSecurityEventsComplete : Obligations.JessAndSecurityEventsComplete := by
  intro s
  refine ⟨fun _ => exec_jessCheckerApply, fun _ _ _ => exec_jessSyncDone, fun _ => exec_jessCheckerReload, ?tamper, fun hpass => fin_effect (State.trngFails_passing hpass), exec_trngHealthRecover⟩
  case tamper =>
    rintro sensors bankDone u b hon rfl rfl hlive hfirst hopen
    exact fin_effect ((State.sensorsAre_live hon hlive bankDone).trans (State.tamper_first hfirst hopen _ _ bankDone))

end Sys2Proof.Machine
end

section
/-! PROOF. Steps: a step is its front command's outcome, every command answers a next state and leaves the queue, and the state after reset (00_scope.md). -/

namespace Sys2Proof.Machine

/-- What a command answers is what `fin` makes of some effect, whichever command it is. -/
theorem exec_eq_fin (c : Instr) (s : State) : ∃ u : State, exec c s = fin s u := by
  cases c <;> exact ⟨_, rfl⟩

theorem step_nil {s : State} (h : s.pending = []) : step s = idleTick s := by simp only [step, h]

theorem step_cons {c : Instr} {rest : List Instr} {s : State} (h : s.pending = c :: rest) : step s = exec c { s with pending := rest } := by simp only [step, h]

/-- A step answers a next state and takes one command from the queue. -/
theorem step_next (s : State) : ∃ t : State, step s = .next t ∧ t.pending = s.pending.tail := by
  cases hp : s.pending with
  | nil => exact ⟨_, step_nil hp, hp⟩
  | cons c rest =>
    obtain ⟨u, hu⟩ := exec_eq_fin c { s with pending := rest }
    exact ⟨_, (step_cons hp).trans hu, rfl⟩

/-- Settles O1: the two rows of a step. -/
theorem stepRunsFrontCommand : Obligations.StepRunsFrontCommand := ⟨fun _ _ _ => step_cons, fun _ => step_nil⟩

/-- Settles O2: every command's outcome is a next state with the queue that it found. -/
theorem everyStepAnswersAndKeepsTheQueueOrder : Obligations.EveryStepAnswersAndKeepsTheQueueOrder := step_next

/-- Steps run one after another while they answer a next state. -/
theorem core_run_succ {n : Nat} {s t : State} (h : step s = .next t) : core.run (n + 1) s = core.run n t := by
  have hstep : core.step s = .next t := h
  simp only [Host.Core.run, hstep]

/-- Settles O3, by induction on the number of steps: each takes one command from the queue. -/
theorem waitingCommandsAllExecute : Obligations.WaitingCommandsAllExecute := by
  intro s n
  induction n generalizing s with
  | zero => exact fun _ => ⟨s, rfl, rfl⟩
  | succ n ih =>
    intro hn
    obtain ⟨t, hstep, hpend⟩ := step_next s
    obtain ⟨u, hrun, hu⟩ := ih t (by rw [hpend, List.length_tail]; omega)
    exact ⟨u, (core_run_succ hstep).trans hrun, by rw [hu, hpend, List.drop_tail]⟩

/-- Settles O5: nothing is stored, waits or runs after reset. -/
theorem resetStateIsCanonicalAndAtRest : Obligations.ResetStateIsCanonicalAndAtRest :=
  ⟨⟨rfl, rfl, rfl⟩, fun _ h => (List.not_mem_nil h).elim, rfl, rfl⟩

/-- Settles O57: no row of the table has bits, so the decoder finds no command in any word. -/
theorem noWordSpellsACommand : Obligations.NoWordSpellsACommand := fun _ _ _ => ⟨rfl, rfl⟩

end Sys2Proof.Machine
end

section
/-! PROOF. The timers of requests, routes and the slot clock of the Kettle fabric. -/

namespace Sys2Proof.Machine

section routing
variable {s : State} {t : Nat}

/-! ### Requests and routes (R261, R264, R266, R267, R269) -/

theorem State.respTimeout_memory {tag : Nat} {o : OutReq} {at_ : Nat} (ho : s.ktl.outst.find? (fun o => o.tag == tag) = some o)
    (hk : o.kind = .rd ∨ o.kind = .wr ∨ o.kind = .wrMask ∨ o.kind = .add) (hsent : o.sentAt = some at_) (hdue : at_ + 4000000 ≤ s.now) :
    s.respTimeout tag = ((s.glbFlag R.KTL_GLB_EVENT.RESP_TIMEOUT R.KTL_GLB_RESPTO_CNT.COUNT).report Src.ktlRoute Cls.ce Cause.respTimeout).reqFails o := by
  have hmem : (o.kind == .rd || o.kind == .wr || o.kind == .wrMask || o.kind == .add) = true := by obtain h | h | h | h := hk <;> rw [h] <;> rfl
  have hlate : o.sentAt.any (fun t => s.due (t + 4000000)) = true := by rw [hsent, Option.any_some]; exact State.due_of_le hdue
  simp only [State.respTimeout, ho, hmem, hlate, Bool.and_self, if_true]

section probe
variable {p : Probe} (hp : (s.route t).probe = some p) (hdue : p.start + 20000 ≤ s.now)
include hp hdue

theorem State.probeTimeout_answered {i : Nat} (hi : p.round.find? (fun i => p.acked.contains i) = some i) : s.probeTimeout t = s.chooseRelay t i := by
  simp only [State.probeTimeout, hp, if_neg (Nat.not_lt.mpr hdue), hi]

theorem State.probeTimeout_silent (hi : p.round.find? (fun i => p.acked.contains i) = none) : s.probeTimeout t = s.probeRound t p.rest := by
  simp only [State.probeTimeout, hp, if_neg (Nat.not_lt.mpr hdue), hi]

end probe

theorem State.strandExpiry_due {l : Nat} (hl : (s.route t).lostAt = some l) (hnone : s.rkind t = rtNone) (hs : (s.route t).stranded = false) (hp : s.perched t = false)
    (hdue : l + 1000000 ≤ s.now) :
    s.strandExpiry t = ((s.setRoute t { s.route t with stranded := true }).strandHeld t).glbFlag R.KTL_GLB_EVENT.STRANDED R.KTL_GLB_STRAND_CNT.COUNT := by
  simp [State.strandExpiry, hl, hnone, hs, hp, State.due_of_le hdue]

theorem State.perchHoldEnd_due {p : Nat} (hp : (s.route t).perchAt = some p) (hperch : s.perched t = true) (hd : (s.route t).perchDone = false) (hdue : p + 50000000 ≤ s.now) :
    s.perchHoldEnd t = ((s.setRoute t { s.route t with perchDone := true }).strandHeld t).glbFlag R.KTL_GLB_EVENT.STRANDED R.KTL_GLB_STRAND_CNT.COUNT := by
  simp [State.perchHoldEnd, hp, hperch, hd, State.due_of_le hdue]

theorem State.fenceTimeout_due {a b at_ : Nat} (hf : (s.route t).fence = some (a, b, at_)) (hdue : at_ + 200000 ≤ s.now) : s.fenceTimeout t = s.fenceDone t := by
  simp [State.fenceTimeout, hf, State.due_of_le hdue]

end routing

/-! ### The slot clock (R274, R275) -/

section slotSync
variable {s : State} (hsrc : s.rd R.KTL_GLB_STATUS.ALIGNED = 0 ∨ s.rd R.KTL_GLB_STATUS.ALIGN_SRC = 1)
include hsrc

theorem State.alignByPeers_aligned {t : Nat} (ht : ((List.range 64).filter (fun t => t != s.pkg && (s.peer t).present)).find? (fun t => (s.peer t).aligned) = some t) :
    s.alignByPeers = (((s.updKtl (fun k => { k with slotBase := (s.peer t).phase })).wr R.KTL_GLB_STATUS.ALIGNED 1).wr R.KTL_GLB_STATUS.ALIGN_SRC 2).wr R.KTL_GLB_STATUS.ALIGN_PEER t := by
  have hgo : ¬ (s.rd R.KTL_GLB_STATUS.ALIGNED = 1 ∧ s.rd R.KTL_GLB_STATUS.ALIGN_SRC = 0) := by omega
  simp only [State.alignByPeers, if_neg hgo, ht]

theorem exec_slotSyncTimeout (hc : s.coreOn = true) (hstale : s.syncStale = true) : exec .slotSyncTimeout s = fin s s.alignByPeers :=
  congrArg (fin s) (if_pos ⟨hc, hstale, hsrc⟩)

end slotSync

/-- Settles O31: each timer is its rule's effect once its time has come. -/
theorem kettleRoutingTimersComplete : Obligations.KettleRoutingTimersComplete := by
  intro s hc
  refine ⟨?response, fin_effect (if_pos hc), fin_effect (if_pos hc), ?probe, ?stranded, ?perch, ?reprobe, ?fence, ?sync, ?wake⟩
  case response =>
    intro tag o t ho hk hsent hdue
    exact fin_effect ((if_pos hc).trans (State.respTimeout_memory ho hk hsent hdue))
  case probe =>
    intro t p ht hp hdue
    exact ⟨fun i hi => fin_ktlTimer hc ht (State.probeTimeout_answered hp hdue hi), fun hi => fin_ktlTimer hc ht (State.probeTimeout_silent hp hdue hi)⟩
  case stranded => exact fun t l ht hl hnone hs hp hdue => fin_ktlTimer hc ht (State.strandExpiry_due hl hnone hs hp hdue)
  case perch => exact fun t p ht hp hperch hd hdue => fin_ktlTimer hc ht (State.perchHoldEnd_due hp hperch hd hdue)
  case reprobe => exact fun t ht hnone hself => fin_ktlTimer hc ht (if_pos ⟨hnone, hself⟩)
  case fence => exact fun t a b at_ ht hf hdue => fin_ktlTimer hc ht (State.fenceTimeout_due hf hdue)
  case sync =>
    intro hstale hsrc
    rw [exec_slotSyncTimeout hsrc hc hstale]
    exact ⟨fin_settledFrom s _, fun t h ht => fin_effect_rests (State.alignByPeers_aligned hsrc ht) h rfl⟩
  case wake => exact fun t ht hperch hd => fin_ktlTimer hc ht (if_pos ⟨hperch, hd⟩)

end Sys2Proof.Machine
end

section
/-! PROOF. Atomic accesses of the cores: AMOs, LR and SC on a line of local main memory. -/

namespace Sys2Proof.Machine

section atomics
variable {s t : State} {m : Master} {wide : Bool} {addr n a old : Nat} {c : CLine} (hn : n = if wide then 8 else 4) (h : s.AtomicAt m n addr t c) (ha : a = addr % 2 ^ 50)
  (hold : old = leNat (slice c.data (a % 64) n))
include hn h ha hold

/-! ### What an atomic access that reaches its line does (R292) -/

theorem State.atomic_stores (f ret : Nat → Nat) (resv : State → State) : s.atomic m wide addr (fun x => some (f x)) ret resv =
    ((((resv t).bump R.MEWS_ATOMICS).breakResv (a / 64 * 64) (coreOf m)).cputLine (a / 64 * 64) (mergeInto c (a % 64) (leBytes n (f old)))).emit (.done m [ret old]) := by
  subst hn ha hold
  exact State.atomic_at h _ ret resv

theorem State.atomic_leaves (ret : Nat → Nat) (resv : State → State) :
    s.atomic m wide addr (fun _ => none) ret resv = ((resv t).bump R.MEWS_ATOMICS).emit (.done m [ret old]) := by
  subst hn ha hold
  exact State.atomic_at h _ ret resv

/-! ### SC (R294) -/

omit hn ha hold in
/-- The line is there, so that SC does not wait for it. -/
theorem State.storeCond_goes (x : Nat) : s.storeCond wide m addr x =
    if s.holdsResv m addr then (s.atomic m wide addr (fun _ => some x) (fun _ => 0) (fun s => s)).clearResv m
    else (s.atomic m wide addr (fun _ => none) (fun _ => 1) (fun s => s)).clearResv m := by
  have hgo : s.atomicWaits m wide addr = false := by simp only [State.atomicWaits, h.awake, Bool.and_false]
  rw [State.storeCond, hgo, if_neg Bool.false_ne_true]

theorem State.storeCond_held (hheld : s.holdsResv m addr = true) (x : Nat) : s.storeCond wide m addr x =
    (((((t.bump R.MEWS_ATOMICS).breakResv (a / 64 * 64) (coreOf m)).cputLine (a / 64 * 64) (mergeInto c (a % 64) (leBytes n x))).emit (.done m [0]))).clearResv m := by
  rw [State.storeCond_goes h x, if_pos hheld, State.atomic_stores hn h ha hold (fun _ => x)]

theorem State.storeCond_lost (hlost : s.holdsResv m addr = false) (x : Nat) : s.storeCond wide m addr x = ((t.bump R.MEWS_ATOMICS).emit (.done m [1])).clearResv m := by
  rw [State.storeCond_goes h x, hlost, if_neg Bool.false_ne_true, State.atomic_leaves hn h ha hold]

end atomics

/-- The effect of a master that runs is its access's. -/
theorem fin_byMaster {s u : State} {m : Master} {f : State → State} (hrun : s.Runs m) (h : f s = u) : fin s (s.byMaster m f) = .next (u.settledFrom s) :=
  fin_effect ((State.byMaster_runs hrun f).trans h)

theorem State.setResv_core (s : State) {m : Master} {k : Nat} (hk : coreOf m = some k) (addr : Nat) :
    s.setResv m addr = s.updMews (fun x => { x with resv := Tab.put x.resv k (addr % 2 ^ 50 / 64 * 64, s.now + resvNs) }) := by
  simp only [State.setResv, hk]

/-- Settles O32: each access is the atomic of its operation on the line that it reached. -/
theorem coreAtomicsComplete : Obligations.CoreAtomicsComplete := by
  intro s m wide addr rs2 t c a old n hn h ha hold
  refine ⟨fun op => fin_byMaster h.runs (State.atomic_stores hn h ha hold _ id id), fin_byMaster h.runs (State.atomic_stores hn h ha hold _ id id), ?reserve, ?held, ?lost⟩
  case reserve =>
    intro k hk
    refine fin_byMaster h.runs ?_
    rw [State.atomic_leaves hn h ha hold, State.setResv_core t hk, ← ha, id_eq]
  case held => exact fun hheld => fin_byMaster h.runs (State.storeCond_held hn h ha hold hheld rs2)
  case lost => exact fun hlost => fin_byMaster h.runs (State.storeCond_lost hn h ha hold hlost rs2)

end Sys2Proof.Machine
end

section
/-! PROOF. Accesses of the cores at the cache port, cache-block operations, fences, locked ranges and the boot flash. -/

namespace Sys2Proof.Machine

section accesses
variable {s : State}

/-! ### Accesses that local main memory takes (R4, R283) -/

/-- An address of this package outside the tiles and the CSR space is main memory's. -/
theorem State.notMain_none {m : Master} {k : AccKind} {addr : Nat} (hpkg : addr / 2 ^ 50 = s.pkg) (htile : rangeOf (addr % 2 ^ 50) ≠ .tile) (hcsr : rangeOf (addr % 2 ^ 50) ≠ .csr) :
    s.notMain m k addr = none := by
  simp only [State.notMain, hpkg, htile, hcsr, ne_eq, not_true_eq_false, or_self, if_false, ite_self]

theorem State.cbo_admitted {m : Master} {k : AccKind} {addr a : Nat} (ha : a = addr % 2 ^ 50) (hpkg : addr / 2 ^ 50 = s.pkg) (htile : rangeOf a ≠ .tile) (hcsr : rangeOf a ≠ .csr)
    (hgate : s.coreGate m k addr 1 = none) (f : Nat → State → State) : s.cbo m k addr f = (f (a / 64 * 64) s).emit (.done m []) := by
  subst ha
  simp only [State.cbo, State.notMain_none hpkg htile hcsr, hgate, Option.none_or]

/-- A load or store of local main memory that the checks let pass, and that waits for nothing, is one of the cache. -/
theorem State.cacheAccess_main {r : CacheAcc} {n a : Nat} (hn : n = max 1 (if r.kind = .w then r.data.length else r.len)) (ha : a = r.addr % 2 ^ 50) (hpkg : r.addr / 2 ^ 50 = s.pkg)
    (hk : r.kind = .r ∨ r.kind = .w) (hcsr : rangeOf a ≠ .csr) (htile : rangeOf a ≠ .tile) (hgate : s.coreGate r.m r.kind r.addr n = none) (hwait : s.mustWait r.addr = false)
    (csr : Nat → State → State) : s.cacheAccess r csr = s.cacheMain r := by
  subst hn ha
  have hka : r.kind ≠ .a := by obtain h | h := hk <;> rw [h] <;> decide
  simp only [State.cacheAccess, hpkg, hcsr, htile, hka, hgate, hwait, ne_eq, not_true_eq_false, and_false, if_false, Bool.false_eq_true]

/-! ### Loads and stores of a line (R284, R285, R294) -/

section line
variable {r : CacheAcc} {a : Nat} {t : State} {c : CLine} (ha : a = r.addr % 2 ^ 50) (hnc : (r.nc && !(s.cline? (a / 64 * 64)).isSome) = false)
include ha hnc

theorem State.cacheMain_store (hk : r.kind = .w) (hline : (s.breakResv (a / 64 * 64) (coreOf r.m)).useLine r.m (a / 64 * 64) r.way r.ecc = (t, some c)) :
    s.cacheMain r = (t.cputLine (a / 64 * 64) (mergeInto c (a % 64) r.data)).emit (.done r.m []) := by
  subst ha
  simp only [State.cacheMain, hnc, hk, if_true, hline, Bool.false_eq_true, if_false]

theorem State.cacheMain_load (hk : r.kind = .r) (hline : s.useLine r.m (a / 64 * 64) r.way r.ecc = (t, some c)) (hclean : c.poison = false) :
    s.cacheMain r = t.emit (.done r.m ((slice c.data (a % 64) r.len).map BitVec.toNat)) := by
  subst ha
  have hkw : r.kind ≠ .w := by rw [hk]; decide
  simp only [State.cacheMain, hnc, if_neg hkw, hline, hclean, Bool.false_eq_true, if_false]
  rfl

end line
end accesses

/-! ### A store that hits (R285, R294) -/

/-- A hit with no bit error counts and finds the line as it is. -/
theorem State.useLine_hit {s : State} {a : Nat} {c : CLine} (h : s.cline? a = some c) (m : Master) (way : Nat) : s.useLine m a way .clean = (s.bump R.MEWS_HITS, some c) := by
  simp only [State.useLine, h, State.hitEcc]

/-- What is found in a table after entries have been dropped. -/
theorem Tab.get?_filter {α : Type} {t : Tab α} (h : Tab.wf t = true) (p : Nat × α → Bool) (k : Nat) :
    Tab.get? (t.filter p) k = (Tab.get? t k).filter (fun v => p (k, v)) := by
  induction t with
  | nil => rfl
  | cons e r ih =>
    obtain ⟨j, v⟩ := e
    have hr := ih (Tab.wf_tail h)
    by_cases hk : j = k
    · subst hk
      have hnone : Tab.get? r j = none := Tab.get?_tail_none h (Nat.le_refl j)
      rw [hnone] at hr
      cases hp : p (j, v) <;> simp [Tab.get?, hp, hr, Option.filter]
    · by_cases hlt : k < j
      · have hnone : Tab.get? r k = none := Tab.get?_tail_none h (Nat.le_of_lt hlt)
        rw [hnone] at hr
        cases hp : p (j, v) <;> simp [Tab.get?, hp, hr, hk, hlt]
      · cases hp : p (j, v) <;> simp [Tab.get?, hp, hr, hk, hlt]

/-- Reservations that a store by `keep` breaks: those of other cores on the line. -/
theorem State.holdsResv_breakResv {s : State} (h : Tab.wf s.mews.resv = true) (l : Nat) (keep : Option Nat) (m : Master) (x : Nat) :
    (s.breakResv l keep).holdsResv m x = (s.holdsResv m x && (x % 2 ^ 50 / 64 * 64 != l || coreOf m == keep)) := by
  simp only [State.holdsResv, State.breakResv, State.updMews_mews, State.updMews_now]
  cases hc : coreOf m with
  | none => rfl
  | some c =>
    simp only [Tab.get?_filter h]
    cases hg : Tab.get? s.mews.resv c with
    | none => rfl
    | some e =>
      obtain ⟨l', t⟩ := e
      generalize x % 2 ^ 50 / 64 * 64 = y
      by_cases hl : l' = y
      · subst hl
        cases hkeep : (l' != l || some c == keep) <;> simp [Option.filter, hkeep]
      · have hly : (l' == y) = false := beq_eq_false_iff_ne.mpr hl
        cases hkeep : (l' != l || some c == keep) <;> simp [Option.filter, hkeep, hly]

/-- What a store leaves that hits the cache: other reservations of the line broken, a hit counted, the bytes in the line, and its completion. -/
def State.storeHit (s : State) (r : CacheAcc) (a : Nat) (c : CLine) : State :=
  (((s.breakResv (a / 64 * 64) (coreOf r.m)).bump R.MEWS_HITS).cputLine (a / 64 * 64) (mergeInto c (a % 64) r.data)).emit (.done r.m [])

section storeHit
variable {s : State} {r : CacheAcc} {a : Nat} {c : CLine}

theorem exec_cacheAccess_storeHit (h : s.Rests) (hrun : s.Runs r.m) (ha : a = r.addr % 2 ^ 50) (hpkg : r.addr / 2 ^ 50 = s.pkg) (hk : r.kind = .w) (hcsr : rangeOf a ≠ .csr)
    (htile : rangeOf a ≠ .tile) (hgate : s.coreGate r.m .w r.addr (max 1 r.data.length) = none) (hc : s.cline? (a / 64 * 64) = some c) (hecc : r.ecc = .clean) :
    exec (.cacheAccess r) s = .next (s.storeHit r a c) := by
  have hwait : s.mustWait r.addr = false := by rw [State.mustWait, ← ha, hc]; rfl
  have hline : (s.breakResv (a / 64 * 64) (coreOf r.m)).useLine r.m (a / 64 * 64) r.way r.ecc = ((s.breakResv (a / 64 * 64) (coreOf r.m)).bump R.MEWS_HITS, some c) := by
    rw [hecc]; exact State.useLine_hit (s := s.breakResv _ _) hc r.m r.way
  refine fin_effect_rests ((State.byMaster_runs hrun _).trans ((State.cacheAccess_main (by rw [if_pos hk]) ha hpkg (.inr hk) hcsr htile (hk ▸ hgate) hwait _).trans
    (State.cacheMain_store ha ?_ hk hline))) h rfl
  rw [hc, Option.isSome_some, Bool.not_true, Bool.and_false]

theorem State.storeHit_holdsResv (hresv : Tab.wf s.mews.resv = true) (m : Master) (x : Nat) :
    (s.storeHit r a c).holdsResv m x = (s.holdsResv m x && (x % 2 ^ 50 / 64 * 64 != a / 64 * 64 || coreOf m == coreOf r.m)) :=
  State.holdsResv_breakResv hresv _ _ m x

theorem State.storeHit_cline : (s.storeHit r a c).cline? (a / 64 * 64) = some (mergeInto c (a % 64) r.data) := Tab.get?_put_self _ _ _

theorem State.storeHit_cline_ne {x : Nat} (hx : x ≠ a / 64 * 64) : (s.storeHit r a c).cline? x = s.cline? x := Tab.get?_put_ne _ _ hx

theorem State.storeHit_csrAt_ne (hs : Tab.wf s.csr = true) {x : Nat} (hx : x ≠ R.MEWS_HITS.addr 0 0 0) : (s.storeHit r a c).csrAt x = s.csrAt x :=
  State.csrAt_csrPut_ne (s := s) hs _ hx

end storeHit

/-- Settles O53: the store is the hit's, which drops other cores' reservations of its line. -/
theorem writeBreaksOtherReservations : Obligations.WriteBreaksOtherReservations := by
  intro s r a c hs h hrun ha hpkg hk hcsr htile _ hgate hc hecc hresv
  refine ⟨s.storeHit r a c, exec_cacheAccess_storeHit h hrun ha hpkg hk hcsr htile hgate hc hecc, ?broken, ?kept, State.storeHit_cline, fun _ => State.storeHit_cline_ne,
    fun _ => State.storeHit_csrAt_ne hs.csr, rfl, rfl⟩
  case broken =>
    intro m x hx hm
    rw [State.storeHit_holdsResv hresv, hx, bne_self_eq_false, beq_eq_false_iff_ne.mpr hm, Bool.or_self, Bool.and_false]
  case kept =>
    intro m x hx
    have hkeep : (x % 2 ^ 50 / 64 * 64 != a / 64 * 64 || coreOf m == coreOf r.m) = true := by
      rw [Bool.or_eq_true, bne_iff_ne, beq_iff_eq]
      exact hx.imp_left fun hne heq => hne (Nat.eq_of_mul_eq_mul_right (by decide) heq)
    rw [State.storeHit_holdsResv hresv, hkeep, Bool.and_true]

/-! ### Events of the cores and of the cache (R287, R289, R294) -/

section events
variable {s : State}

theorem exec_coreWfi {c : Nat} (h : s.Rests) (hc : c < 16) (hon : s.coreOn = true) (hrun : s.rd R.MEWS_CORE_STATUS.STATE c = coreRunning)
    (hnone : ∀ f < 6, s.pendingIds c f = []) : exec (.coreWfi c) s = .next (s.wr R.MEWS_CORE_STATUS.STATE coreWfiSt c) := by
  have hall : (List.range 6).all (fun f => s.pendingIds c f == []) = true :=
    List.all_eq_true.mpr fun f hf => beq_iff_eq.mpr (hnone f (List.mem_range.mp hf))
  exact fin_effect_rests (if_pos ⟨hc, hon, hrun, hall⟩) h rfl

theorem exec_reservationTimeout {c l t : Nat} (h : s.Rests) (hresv : Tab.get? s.mews.resv c = some (l, t)) (hdue : t ≤ s.now) :
    exec (.reservationTimeout c) s = .next (s.updMews (fun x => { x with resv := Tab.del x.resv c })) := by
  refine fin_effect_rests ?_ ((State.updMews_busy s _ rfl).trans h) rfl
  rw [hresv]
  exact if_pos (State.due_of_le hdue)

theorem exec_fenceW {c : Nat} (hc : c < 16) (hrun : s.Runs (coreMaster c)) :
    exec (.fenceW c) s = .next ((s.updMews (fun x => { x with fences := x.fences ++ [c] })).settledFrom s) :=
  fin_effect ((if_pos hc).trans (State.byMaster_runs hrun _))

theorem exec_prefetchHint_dropped {m : Master} {addr mq : Nat} (way : Nat) (hrun : s.Runs m) (hmq : 48 < mq) (h : s.Rests) :
    exec (.prefetchHint m addr mq way) s = .next s :=
  fin_effect_rests ((State.byMaster_runs hrun _).trans (if_pos hmq)) h rfl

theorem exec_prefetchHint_taken {m : Master} {addr mq : Nat} (way : Nat) (hrun : s.Runs m) (hmq : mq ≤ 48) :
    exec (.prefetchHint m addr mq way) s = .next ((s.prefetch m addr way).settledFrom s) :=
  fin_byMaster hrun (if_neg (Nat.not_lt.mpr hmq))

/-! ### Locked ranges and the boot flash (R295, R299) -/

theorem State.lockFill_first {i : Nat} {r : List Nat} (hfill : s.mews.filling = i :: r) : s.lockFill =
    (State.lockLines ((s.lockRange i).size / 64) (s.lockRange i).base s).updMews (fun m => { m with filling := r }) := by
  simp only [State.lockFill, hfill]

section flash
variable {c : FlashCmd} {u : State} (hc : s.mews.flashCmd = some c) (hu : u = s.updMews (fun m => { m with flashCmd := none }))
include hc hu

/-- A command that does not fit the flash's blocks, or touches a protected slot, or meets a device error, ends with that error. -/
theorem State.flashEnd_fails {dev : Bool} {err : Nat}
    (herr : err = 2 ∧ c.aligned = false ∨ err = 3 ∧ c.aligned = true ∧ u.flashProtected c = true ∨ err = 1 ∧ c.aligned = true ∧ u.flashProtected c = false ∧ dev = true) :
    s.flashEnd dev = ((((u.wr R.MEWS_FLASH_STATUS.BUSY 0).wr R.MEWS_FLASH_STATUS.ERR err).wr R.MEWS_FLASH_STATUS.STATE 2).flag R.MEWS_EVENT.FLASH_ERR
      R.MEWS_FLASH_ERR_CNT.COUNT).raiseWarden 6 := by
  subst hu
  have hp : (s.updMews (fun m => { m with flashCmd := none })).flashProtected c = s.flashProtected c := rfl
  rw [hp] at herr
  obtain ⟨rfl, hal⟩ | ⟨rfl, hal, hprot⟩ | ⟨rfl, hal, hprot, rfl⟩ := herr
  · simp [State.flashEnd, hc, hal]
  · simp [State.flashEnd, hc, hal, hprot, hp]
  · simp [State.flashEnd, hc, hal, hprot, hp]

/-- An erase that its checks let pass empties the blocks. -/
theorem State.flashEnd_erases (hal : c.aligned = true) (hprot : u.flashProtected c = false) (hop : c.op = 2) : s.flashEnd false =
    ((((u.updMews (fun m => { m with flash := m.flash.filter (fun e => decide (e.1 < c.addr) || decide (c.addr + c.len ≤ e.1)) })).wr R.MEWS_FLASH_STATUS.BUSY 0).wr
      R.MEWS_FLASH_STATUS.ERR 0).wr R.MEWS_FLASH_STATUS.STATE 2).raiseWarden 6 := by
  subst hu
  have hp : (s.updMews (fun m => { m with flashCmd := none })).flashProtected c = s.flashProtected c := rfl
  rw [hp] at hprot
  simp [State.flashEnd, hc, hal, hop, hp, hprot]

end flash
end events

/-- Settles O33: each event is its rule's effect once its conditions hold. -/
theorem coreAndCacheEventsComplete : Obligations.CoreAndCacheEventsComplete := by
  intro s
  refine ⟨fun _ => exec_coreWfi, fun _ _ _ => exec_reservationTimeout, fun _ => exec_fenceW, ?cbo,
    fun m addr mq way hrun => ⟨exec_prefetchHint_dropped way hrun, exec_prefetchHint_taken way hrun⟩, ?access, ?lock, ?flash⟩
  case cbo =>
    intro m addr a ha hrun hpkg htile hcsr
    have hcbo (k : AccKind) (f : Nat → State → State) (hgate : s.coreGate m k addr 1 = none) :
        fin s (s.byMaster m (fun s => s.cbo m k addr f)) = .next (((f (a / 64 * 64) s).emit (.done m [])).settledFrom s) :=
      fin_byMaster hrun (State.cbo_admitted ha hpkg htile hcsr hgate f)
    exact ⟨fun hgate => ⟨hcbo .r _ hgate, hcbo .r _ hgate, hcbo .r _ hgate⟩, fun hgate => hcbo .w _ hgate⟩
  case access =>
    intro r n a t c hn ha hrun hpkg hk hcsr htile hgate hwait hnc hline
    have hmain (csr) := State.cacheAccess_main hn ha hpkg hk hcsr htile hgate hwait csr
    have hfalse : (r.nc && !(s.cline? (a / 64 * 64)).isSome) = false := by rw [hnc, Bool.false_and]
    exact ⟨fun hw => fin_byMaster hrun ((hmain _).trans (State.cacheMain_store ha hfalse hw (by rwa [if_pos hw] at hline))),
      fun hr hclean => fin_byMaster hrun ((hmain _).trans (State.cacheMain_load ha hfalse hr (by rwa [if_neg (by rw [hr]; decide)] at hline) hclean))⟩
  case lock => exact fun i r hon hfill => fin_effect ((if_pos hon).trans (congrArg State.mboxPoll (State.lockFill_first hfill)))
  case flash =>
    intro c dev hon hc u hu
    refine ⟨fun err herr => fin_effect ((if_pos hon).trans (State.flashEnd_fails hc hu herr)), ?_⟩
    rintro hal hprot rfl hop
    exact fin_effect ((if_pos hon).trans (State.flashEnd_erases hc hu hal hprot hop))

end Sys2Proof.Machine
end

section
/-! PROOF. Register writes that act on the cores, the Mews cache, the interrupt files and the boot flash. -/

namespace Sys2Proof.Machine

section
variable {s u : State} {w : CsrWr}

/-! ### What an admitted write shows of its act -/

theorem fin_csrWrite_settles {a : Nat} {f : State → State} (h : s.Admits a w) (hf : f s = u) : fin s (s.csrWrite a w f) = .next ((u.emit (.done w.m [])).settledFrom s) :=
  fin_effect (by rw [State.csrWrite_admitted h.gate, hf])

theorem fin_csrWriteF_settles {a : Nat} {f : State → State} (h : s.Admits a w) (hm : w.m.isWardenF = true) (hf : f s = u) :
    fin s (s.csrWriteF a w f) = .next ((u.emit (.done w.m [])).settledFrom s) :=
  fin_effect (by rw [State.csrWriteF_admitted h.gate hm, hf])

/-- A master that may not write such a register is answered with an error, and nothing else happens (R281). -/
theorem fin_csrWriteF_refused {a : Nat} {f : State → State} (h : s.Admits a w) (hm : w.m.isWardenF = false) : fin s (s.csrWriteF a w f) = .next (s.errTo w.m) :=
  fin_effect_rests (State.csrWriteF_refused h.gate hm f) h.rests rfl

/-! ### Release and reset of a core (R281, R282) -/

section core
variable {c : Nat} (hc : c < 16) (h : s.Admits (R.MEWS_CORE_CTRL.addr c 0 0) w)
include hc h

theorem exec_coreRelease (hm : w.m.isWardenF = true) (hrel : written w R.MEWS_CORE_CTRL.RELEASE = 1) (hres : written w R.MEWS_CORE_CTRL.RESET ≠ 1)
    (hhalt : s.rd R.MEWS_CORE_STATUS.STATE c = coreHalted) :
    exec (.coreRelease c w) s = .next ((((s.wr R.MEWS_CORE_STATUS.STATE coreRunning c).tenantServe c).emit (.done w.m [])).settledFrom s) := by
  have hrow : exec (.coreRelease c w) s = fin s (s.coreCtrlWrite c w) := congrArg (fin s) (if_pos ⟨hc, hrel⟩)
  rw [hrow, State.coreCtrlWrite]
  exact fin_csrWriteF_settles h hm (by simp only [if_pos (And.intro hrel hhalt), if_neg hres]; rfl)

theorem exec_coreReset (hm : w.m.isWardenF = true) (hrel : written w R.MEWS_CORE_CTRL.RELEASE ≠ 1) (hres : written w R.MEWS_CORE_CTRL.RESET = 1) :
    exec (.coreReset c w) s = .next (((s.requestReset (132 + c) .register).emit (.done w.m [])).settledFrom s) := by
  have hrow : exec (.coreReset c w) s = fin s (s.coreCtrlWrite c w) := congrArg (fin s) (if_pos ⟨hc, hres⟩)
  rw [hrow, State.coreCtrlWrite]
  exact fin_csrWriteF_settles h hm (by simp only [hrel, false_and, if_false, if_pos hres])

theorem exec_coreRelease_refused (hm : w.m.isWardenF = false) (hrel : written w R.MEWS_CORE_CTRL.RELEASE = 1) : exec (.coreRelease c w) s = .next (s.errTo w.m) :=
  (congrArg (fin s) (if_pos ⟨hc, hrel⟩)).trans (fin_csrWriteF_refused h hm)

theorem exec_coreReset_refused (hm : w.m.isWardenF = false) (hres : written w R.MEWS_CORE_CTRL.RESET = 1) : exec (.coreReset c w) s = .next (s.errTo w.m) :=
  (congrArg (fin s) (if_pos ⟨hc, hres⟩)).trans (fin_csrWriteF_refused h hm)

end core

/-- The vector register of a core lies in the Mews block between the control registers: its offset names that register alone. -/
theorem State.csrStore_coreVector {c : Nat} (s : State) (hc : c < 16) (w : CsrWr) : s.csrStore (R.MEWS_CORE_VECTOR.addr c 0 0) w = s.coreVectorWrite c w := by
  have hblock : R.MEWS_CORE_VECTOR.addr c 0 0 / 0x1000000 = 11 := by simp only [RF.addr, R.MEWS_CORE_VECTOR]; omega
  have hoff : s.csrStore (R.MEWS_CORE_VECTOR.addr c 0 0) w = s.mewsWrite (R.MEWS_CORE_VECTOR.addr c 0 0) w := by simp [State.csrStore, hblock]
  rw [hoff]
  interval_cases c <;> rfl

theorem exec_coreVector_refused {c : Nat} (hc : c < 16) (h : s.Admits (R.MEWS_CORE_VECTOR.addr c 0 0) w) (hm : w.m.isWardenF = false) (hcls : w.m.cls ≠ 5) :
    exec (.registerWrite (R.MEWS_CORE_VECTOR.addr c 0 0) w) s = .next (s.errTo w.m) := by
  rw [exec_registerWrite (State.gate_notPerch h.gate), State.csrStore_coreVector s hc, State.barEnd, if_pos (Or.inl hcls), ← fin_settledFrom]
  exact fin_csrWriteF_refused h hm

/-! ### Locked ranges, maintenance and interrupts (R287, R295, R297) -/

section lock
variable {i : Nat} {v : Word} (hi : i < 9) (hv : v = s.csrMerged (lockAddr i) w) (h : s.Admits (lockAddr i) w)
include hi hv h

theorem exec_mewsLockWrite_disables (hen : (lockOf v).en = false) : exec (.mewsLockWrite i w) s =
    .next (((((s.unlock (i + 1)).csrPut (lockAddr i) v).updMews (fun m => { m with filling := m.filling.filter (fun j => j != i) })).emit (.done w.m [])).settledFrom s) :=
  (congrArg (fin s) (if_pos hi)).trans (fin_csrWrite_settles h (by rw [← hv, State.lockWrite]; simp only [hen, Bool.not_false, if_true]))

theorem exec_mewsLockWrite_fills (hen : (lockOf v).en = true) (hok : s.lockRefused i (lockOf v) = false) : exec (.mewsLockWrite i w) s =
    .next (((((s.unlock (i + 1)).csrPut (lockAddr i) v).updMews (fun m => { m with filling := sinsert m.filling i })).emit (.done w.m [])).settledFrom s) :=
  (congrArg (fin s) (if_pos hi)).trans (fin_csrWrite_settles h (by rw [← hv, State.lockWrite]; simp only [hen, hok, Bool.not_true, Bool.false_eq_true, if_false]))

theorem exec_mewsLockWrite_refused (hen : (lockOf v).en = true) (hbad : s.lockRefused i (lockOf v) = true) :
    exec (.mewsLockWrite i w) s = .next ((s.flag R.MEWS_EVENT.LOCK_REFUSED R.MEWS_LOCK_REF_CNT.COUNT).emit (.done w.m [])) := by
  refine (congrArg (fin s) (if_pos hi)).trans (fin_csrWrite h ?_ (s.flag_busy _ _ 0 0 0) (s.flag_pending _ _ 0 0 0))
  rw [← hv, State.lockWrite]
  simp only [hen, hbad, Bool.not_true, Bool.false_eq_true, if_false, if_true]

end lock

theorem exec_cleanAll (h : s.Admits (R.MEWS_CACHE_MAINT.addr 0 0 0) w) (hw : written w R.MEWS_CACHE_MAINT.CLEAN_ALL = 1) :
    exec (.cleanAll w) s = .next (((s.mews.cache.foldl (fun s e => s.cleanLine e.1) s).emit (.done w.m [])).settledFrom s) :=
  (congrArg (fin s) (if_pos hw)).trans (fin_csrWrite_settles h (if_pos hw))

/-- An identity that a file has goes to the pending ones of a core that does not wait. -/
theorem State.raiseAt_pends {c f id : Nat} (h1 : 1 ≤ id) (h2 : id ≤ 2047) (hst : s.rd R.MEWS_CORE_STATUS.STATE c ≠ 2) :
    s.raiseAt c f id = s.updMews (fun m => { m with imsic := Tab.put m.imsic (16 * c + f) (sinsert (s.pendingIds c f) id) }) := by
  have hid : ¬ (id = 0 ∨ 2047 < id) := by omega
  simp only [State.raiseAt, if_neg hid, if_neg hst, State.updMews]

theorem State.raiseAt_zero (s : State) (c f : Nat) : s.raiseAt c f 0 = s := if_pos (.inl rfl)

theorem exec_imsicSeteipnum {c f id : Nat} (hc : c < 16) (hf : f < 6) (h : s.Admits (R.MEWS_IMSIC.addr c f 0) w) (hle : written w R.MEWS_IMSIC.SETEIPNUM_LE = id)
    (hbe : written w R.MEWS_IMSIC.SETEIPNUM_BE = 0) (h1 : 1 ≤ id) (h2 : id ≤ 2047) (hst : s.rd R.MEWS_CORE_STATUS.STATE c ≠ 2) :
    exec (.imsicSeteipnum c f w) s =
      .next ((s.updMews (fun m => { m with imsic := Tab.put m.imsic (16 * c + f) (sinsert (s.pendingIds c f) id) })).emit (.done w.m [])) := by
  refine (congrArg (fin s) (if_pos ⟨hc, hf⟩)).trans (fin_csrWrite h ?_ (s.updMews_busy _ rfl) rfl)
  rw [hle, hbe, show swap32 0 = 0 from rfl, State.raiseAt_zero, State.raiseAt_pends h1 h2 hst]

/-! ### The boot flash (R299) -/

theorem State.flashCmdWrite_starts {op : Nat} (h : s.Admits (R.MEWS_FLASH_CMD.addr 0 0 0) w) (hm : w.m.isWardenF = true) (hgo : written w R.MEWS_FLASH_CMD.GO = 1)
    (hop : written w R.MEWS_FLASH_CMD.OP = op) (hlt : op < 3) (hidle : s.rd R.MEWS_FLASH_STATUS.BUSY = 0) :
    fin s (s.flashCmdWrite w) = .next (((((s.wr R.MEWS_FLASH_STATUS.BUSY 1).wr R.MEWS_FLASH_STATUS.ERR 0).wr R.MEWS_FLASH_STATUS.STATE 1).updMews (fun m => { m with
      flashCmd := some { op := op, addr := s.rd R.MEWS_FLASH_ADDR.ADDR, buf := s.rd R.MEWS_FLASH_BUF.BUF * 64, len := s.rd R.MEWS_FLASH_LEN.LEN } })).emit (.done w.m [])) := by
  have hfree : s.rd R.MEWS_FLASH_STATUS.BUSY ≠ 1 := by omega
  subst hop
  exact fin_csrWriteF h hm ((if_pos ⟨hgo, hlt⟩).trans (if_neg hfree)) rfl rfl

end

/-- Settles O22: each write is its rule's act once the checks admit it. -/
theorem coreCacheAndFlashActsComplete : Obligations.CoreCacheAndFlashActsComplete := by
  intro s w
  refine ⟨fun _ => exec_coreRelease, fun _ => exec_coreReset, fun i v hi hv h => ⟨exec_mewsLockWrite_disables hi hv h, exec_mewsLockWrite_fills hi hv h,
    exec_mewsLockWrite_refused hi hv h⟩, exec_cleanAll, fun _ _ _ => exec_imsicSeteipnum, ?flash⟩
  case flash =>
    rintro op _ h hm hgo hop hidle rfl
    have hact (hlt : op < 3) := State.flashCmdWrite_starts h hm hgo hop hlt hidle
    refine ⟨?_, ?_, ?_⟩ <;> rintro rfl <;> exact (congrArg (fin s) (if_pos ⟨hgo, hop⟩)).trans (hact (by decide))

/-- Settles O43: the registers are written by WARDEN_CORE at privilege F alone. -/
theorem coreControlBelongsToTheFirmwareCore : Obligations.CoreControlBelongsToTheFirmwareCore := fun _ _ _ _ hc hm hcls =>
  ⟨fun h => ⟨exec_coreRelease_refused hc h hm, exec_coreReset_refused hc h hm⟩, fun h => exec_coreVector_refused hc h hm hcls⟩

end Sys2Proof.Machine
end

section
/-! PROOF. Register writes that act on Watch, on the wake time, on the alarm's time and on the time capture. -/

namespace Sys2Proof.Machine

/-! ### Fields of one register set to 0 -/

/-- The fields `fs` of the register family's entry `n` are set to 0. -/
def State.zeroFields (s : State) (n : Nat) (fs : List RF) : State := fs.foldl (fun s f => s.wr f 0 n) s

/-- Two fields that lie beside each other in one register. -/
abbrev RF.beside (f g : RF) : Prop := f.base = g.base ∧ f.s1 = g.s1 ∧ (f.lo + f.w ≤ g.lo ∨ g.lo + g.w ≤ f.lo)

theorem RF.addr_beside {f g : RF} (h : f.beside g) (n : Nat) : f.addr n 0 0 = g.addr n 0 0 := by
  obtain ⟨hbase, hs1, -⟩ := h
  simp only [RF.addr, hbase, hs1, Nat.zero_mul]

section zeroFields
variable {n : Nat}

theorem State.zeroFields_only (s : State) (fs : List RF) : s.zeroFields n fs = { s with csr := (s.zeroFields n fs).csr } := by
  induction fs generalizing s with
  | nil => rfl
  | cons f fs ih => exact ih (s.wr f 0 n)

theorem State.zeroFields_busy (s : State) (fs : List RF) : (s.zeroFields n fs).busy = s.busy := by rw [State.zeroFields_only]; rfl

theorem State.zeroFields_pending (s : State) (fs : List RF) : (s.zeroFields n fs).pending = s.pending := by rw [State.zeroFields_only]

theorem State.zeroFields_emit_only (s : State) (fs : List RF) (o : Out) :
    (s.zeroFields n fs).emit o = { s with csr := ((s.zeroFields n fs).emit o).csr, out := o :: s.out } := by rw [State.zeroFields_only]; rfl

theorem State.zeroFields_csrAt_ne {s : State} (h : Tab.wf s.csr = true) {fs : List RF} {a : Nat} (hfs : ∀ f ∈ fs, a ≠ f.addr n 0 0) :
    (s.zeroFields n fs).csrAt a = s.csrAt a := by
  induction fs generalizing s with
  | nil => rfl
  | cons f fs ih =>
    rw [← State.csrAt_wr_ne h f 0 n 0 0 (hfs f List.mem_cons_self)]
    exact ih (State.wr_csr_wf h f 0 n 0 0) fun g hg => hfs g (List.mem_cons_of_mem f hg)

/-- A field beside them reads as before. -/
theorem State.zeroFields_rd_beside {s : State} (h : Tab.wf s.csr = true) {fs : List RF} {g : RF} (hfs : ∀ f ∈ fs, g.beside f) :
    (s.zeroFields n fs).rd g n = s.rd g n := by
  induction fs generalizing s with
  | nil => rfl
  | cons f fs ih =>
    obtain hf := hfs f List.mem_cons_self
    rw [← State.rd_wr_beside h f g 0 n 0 0 n 0 0 (RF.addr_beside hf n) hf.2.2]
    exact ih (State.wr_csr_wf h f 0 n 0 0) fun k hk => hfs k (List.mem_cons_of_mem f hk)

/-- Each of them reads 0, where those after it lie beside it. -/
theorem State.zeroFields_rd_mem {s : State} (h : Tab.wf s.csr = true) (fs : List RF) {l gs : List RF} {g : RF} (hl : l = fs ++ g :: gs) (hg : g.lo + g.w ≤ 64)
    (hgs : ∀ f ∈ gs, g.beside f) : (s.zeroFields n l).rd g n = 0 := by
  subst hl
  induction fs generalizing s with
  | nil =>
    refine (State.zeroFields_rd_beside (s := s.wr g 0 n) (State.wr_csr_wf h g 0 n 0 0) hgs).trans ?_
    rw [State.rd_wr_self h g 0 n 0 0 hg, Nat.zero_mod]
  | cons f fs ih => exact ih (State.wr_csr_wf h f 0 n 0 0)

end zeroFields

/-! ### PENDING_CLEAR (R358) -/

/-- The fields that PENDING_CLEAR sets to 0: PENDING alone while the source's ladder runs. -/
def clearedFields (running : Bool) : List RF :=
  if running then [R.WATCH_SRC_STATUS.PENDING]
  else [R.WATCH_SRC_STATUS.PENDING, R.WATCH_SRC_STATUS.CLASS, R.WATCH_SRC_STATUS.STEP, R.WATCH_SRC_STATUS.LADDER, R.WATCH_SRC_STATUS.EXTENDS]

section pendingClear
variable {s : State} {w : CsrWr} {n : Nat}

theorem State.clearSource_running (hrun : (s.wr R.WATCH_SRC_STATUS.PENDING 0 n).ladder n = Ladder.running) : s.clearSource n = s.zeroFields n (clearedFields true) :=
  if_pos hrun

theorem State.clearSource_ended (hrun : (s.wr R.WATCH_SRC_STATUS.PENDING 0 n).ladder n ≠ Ladder.running) : s.clearSource n = s.zeroFields n (clearedFields false) :=
  if_neg hrun

theorem exec_pendingClear {u : State} (h : s.Admits (R.WATCH_SRC_STATUS.addr n 0 0) w) (hn : srcUsed n = true) (hw : written w R.WATCH_SRC_STATUS.PENDING = 1)
    (hact : s.clearSource n = u) (hb : u.busy = s.busy) (hp : u.pending = s.pending) : exec (.pendingClear n w) s = .next (u.emit (.done w.m [])) := by
  have hlt : n < 512 := by simp only [srcUsed, decide_eq_true_eq] at hn; omega
  have hrow : exec (.pendingClear n w) s = fin s (s.srcStatusWrite n w) := congrArg (fin s) (if_pos ⟨hlt, hw⟩)
  exact hrow.trans (fin_csrWrite h ((if_pos ⟨hw, hn⟩).trans hact) hb hp)

/-- Every field that is set to 0 lies in the source's status register. -/
theorem clearedFields_addr (running : Bool) : ∀ f ∈ clearedFields running, f.addr n 0 0 = R.WATCH_SRC_STATUS.addr n 0 0 := by
  cases running <;> simp [clearedFields, RF.addr, R.WATCH_SRC_STATUS, R.WATCH_SRC_STATUS.PENDING, R.WATCH_SRC_STATUS.CLASS, R.WATCH_SRC_STATUS.STEP, R.WATCH_SRC_STATUS.LADDER,
    R.WATCH_SRC_STATUS.EXTENDS]

/-- PENDING is set to 0, and nothing that follows touches LADDER before it is looked at. -/
theorem State.ladder_pending (h : Tab.wf s.csr = true) : (s.wr R.WATCH_SRC_STATUS.PENDING 0 n).ladder n = s.ladder n :=
  State.rd_wr_beside h R.WATCH_SRC_STATUS.PENDING R.WATCH_SRC_STATUS.LADDER 0 n 0 0 n 0 0 rfl (by decide)

/-- What both forms leave: the fields beside and the other registers. -/
theorem State.cleared_frame (h : Tab.wf s.csr = true) {running : Bool} {u : State} (hu : s.zeroFields n (clearedFields running) = u) :
    u.rd R.WATCH_SRC_STATUS.PENDING n = 0 ∧ u.rd R.WATCH_SRC_STATUS.PRIMARY_SEQ n = s.rd R.WATCH_SRC_STATUS.PRIMARY_SEQ n ∧
      u.rd R.WATCH_SRC_STATUS.LAST_CODE n = s.rd R.WATCH_SRC_STATUS.LAST_CODE n ∧ u.rd R.WATCH_SRC_STATUS.CONSEQ_LAST n = s.rd R.WATCH_SRC_STATUS.CONSEQ_LAST n ∧
      u.rd R.WATCH_SRC_STATUS.RU n = s.rd R.WATCH_SRC_STATUS.RU n ∧ (∀ a, a ≠ R.WATCH_SRC_STATUS.addr n 0 0 → u.csrAt a = s.csrAt a) := by
  subst hu
  have hbeside {g : RF} (hg : ∀ f ∈ clearedFields running, g.beside f) : (s.zeroFields n (clearedFields running)).rd g n = s.rd g n := State.zeroFields_rd_beside h hg
  refine ⟨?pending, hbeside ?_, hbeside ?_, hbeside ?_, hbeside ?_, fun a ha => State.zeroFields_csrAt_ne h fun f hf => (clearedFields_addr running f hf).symm ▸ ha⟩
  case pending => cases running <;> exact State.zeroFields_rd_mem h [] rfl (by decide) (by decide)
  all_goals cases running <;> decide

end pendingClear

/-- Settles O47: PENDING_CLEAR sets its fields to 0 and leaves the others. -/
theorem pendingClearTouchesOnlyItsSource : Obligations.PendingClearTouchesOnlyItsSource := by
  intro s w n hs hn h hw
  have hcsr := hs.csr
  by_cases hrun : s.ladder n = Ladder.running
  · have hact := State.clearSource_running ((State.ladder_pending hcsr).trans hrun)
    have hbeside {g : RF} (hg : ∀ f ∈ clearedFields true, g.beside f) : (s.zeroFields n (clearedFields true)).rd g n = s.rd g n := State.zeroFields_rd_beside hcsr hg
    obtain ⟨hpend, hprim, hcode, hconseq, hru, hothers⟩ := State.cleared_frame (n := n) (running := true) hcsr rfl
    refine ⟨_, exec_pendingClear h hn hw hact (s.zeroFields_busy _) (s.zeroFields_pending _), ?_⟩
    simp only [State.emit_rd, State.emit_csrAt]
    exact ⟨hpend, fun hne => absurd hrun hne, fun _ => ⟨hbeside (by decide), hbeside (by decide), hbeside (by decide), hbeside (by decide)⟩, hprim, hcode, hconseq,
      hru, hothers, s.zeroFields_emit_only _ _⟩
  · have hact := State.clearSource_ended fun heq => hrun ((State.ladder_pending hcsr).symm.trans heq)
    have hzero (fs : List RF) {g : RF} {gs : List RF} (hl : clearedFields false = fs ++ g :: gs) (hg : g.lo + g.w ≤ 64) (hgs : ∀ f ∈ gs, g.beside f) :
        (s.zeroFields n (clearedFields false)).rd g n = 0 := State.zeroFields_rd_mem hcsr fs hl hg hgs
    obtain ⟨hpend, hprim, hcode, hconseq, hru, hothers⟩ := State.cleared_frame (n := n) (running := false) hcsr rfl
    refine ⟨_, exec_pendingClear h hn hw hact (s.zeroFields_busy _) (s.zeroFields_pending _), ?_⟩
    simp only [State.emit_rd, State.emit_csrAt]
    exact ⟨hpend, fun _ => ⟨hzero [_] rfl (by decide) (by decide), hzero [_, _] rfl (by decide) (by decide), hzero [_, _, _] rfl (by decide) (by decide),
      hzero [_, _, _, _] rfl (by decide) (by decide)⟩, fun heq => absurd heq hrun, hprim, hcode, hconseq, hru, hothers, s.zeroFields_emit_only _ _⟩

end Sys2Proof.Machine
end

section
/-! PROOF. Acknowledgements, clears, forces and unit controls of Watch, and writes of the wake time, the alarm's time and the time capture. -/

namespace Sys2Proof.Machine

section
variable {s : State} {w : CsrWr}

/-! ### Acknowledgements of a running ladder (R353) -/

/-- The acknowledgement of source `n` with CODE `code` has been logged. -/
def State.ackLogged (s : State) (n code : Nat) : State :=
  s.wlog n (Tab.get s.watch.cls n Cls.de) false false 2 code (some (s.rd R.WATCH_SRC_STATUS.PRIMARY_SEQ n)) 0

section ack
variable {n : Nat} (hn : srcUsed n = true) (hl : s.ladder n = Ladder.running)
include hn hl

theorem State.watchAck_handled : s.watchAck n 1 = (s.ackLogged n 1).endLadder Ladder.handled n := by
  simp [State.watchAck, State.ackLogged, hn, hl]

theorem State.watchAck_extend (hext : s.rd R.WATCH_SRC_STATUS.EXTENDS n < 3) : s.watchAck n 2 =
    ((s.ackLogged n 2).bump R.WATCH_SRC_STATUS.EXTENDS 1 n).updWatch (fun x => { x with
      timers := Tab.put x.timers n ((s.ackLogged n 2).now + (s.ackLogged n 2).grace (Tab.get s.watch.cls n Cls.de)) }) := by
  have hok : (srcUsed n && s.ladder n == Ladder.running && (2 == 1 || (2 == 2 && decide (s.rd R.WATCH_SRC_STATUS.EXTENDS n < 3)) || 2 == 3)) = true := by simp [hn, hl, hext]
  simp only [State.watchAck, hok]
  rfl

theorem State.watchAck_advance : s.watchAck n 3 = (s.ackLogged n 3).takeStep n ((s.ackLogged n 3).rd R.WATCH_SRC_STATUS.STEP n + 1) := by
  simp [State.watchAck, State.ackLogged, hn, hl]

end ack

/-- An admitted write of WATCH_ACK that writes its low half acknowledges. -/
theorem fin_ackWrite {n code : Nat} {u : State} (h : s.Admits (R.WATCH_ACK.addr 0 0 0) w) (hlow : (csrMask w).field 0 1 ≠ 0) (hsrc : n = written w R.WATCH_ACK.SOURCE)
    (hcode : written w R.WATCH_ACK.CODE = code) (hu : s.watchAck n code = u) : fin s (s.ackWrite w) = .next ((u.emit (.done w.m [])).settledFrom s) :=
  fin_csrWrite_settles h ((if_neg hlow).trans (by rw [← hsrc, hcode, hu]))

/-! ### Sources and units (R354, R357, R364) -/

theorem srcUsed_lt {n : Nat} (hn : srcUsed n = true) : n < 512 := by
  simp only [srcUsed, decide_eq_true_eq] at hn; omega

theorem unitUsed_lt {n : Nat} (hn : unitUsed n = true) : n < 256 := by
  simp only [unitUsed, decide_eq_true_eq] at hn; omega

theorem exec_sourceForce {n : Nat} {v : State} (h : s.Admits (R.WATCH_SRC_CFG.addr n 0 0) w) (hn : srcUsed n = true) (hforce : written w R.WATCH_SRC_CFG.FORCE = 1)
    (hok : srcCfgOk (s.merged R.WATCH_SRC_CFG w n) = true) (hv : v = s.csrPut (R.WATCH_SRC_CFG.addr n 0 0) (s.merged R.WATCH_SRC_CFG w n)) :
    exec (.sourceForce n w) s = .next (((v.report n (v.rd R.WATCH_SRC_CFG.INJ_CLASS n) Cause.injected).emit (.done w.m [])).settledFrom s) := by
  have hrow : exec (.sourceForce n w) s = fin s (s.srcCfg n w) := congrArg (fin s) (if_pos ⟨srcUsed_lt hn, hforce⟩)
  subst hv
  refine hrow.trans (fin_csrWrite_settles h ?_)
  simp only [hn, hok, hforce, Bool.not_true, Bool.false_eq_true, if_false, if_true]
  rfl

section unit
variable {n : Nat} {v : State} (h : s.Admits (R.WATCH_RU_CFG.addr n 0 0) w) (hn : unitUsed n = true)
  (hv : v = s.csrPut (R.WATCH_RU_CFG.addr n 0 0) (s.merged R.WATCH_RU_CFG w n))
include h hn hv

theorem exec_unitRelease (hrel : written w R.WATCH_RU_CFG.RELEASE = 1) (hres : written w R.WATCH_RU_CFG.RESET ≠ 1) (hquar : v.unitState n = Unit.quarantined) :
    exec (.unitRelease n w) s = .next ((((v.wr R.WATCH_RU_STATUS.STATE Unit.normal n).act (.release n)).emit (.done w.m [])).settledFrom s) := by
  have hrow : exec (.unitRelease n w) s = fin s (s.ruCfgWrite n w) := congrArg (fin s) (if_pos ⟨unitUsed_lt hn, hrel⟩)
  subst hv
  refine hrow.trans (fin_csrWrite_settles h ?_)
  simp only [hn, hrel, hres, Bool.not_true, Bool.false_eq_true, if_false, if_true]
  exact if_pos hquar

theorem exec_unitReset (hrel : written w R.WATCH_RU_CFG.RELEASE ≠ 1) (hres : written w R.WATCH_RU_CFG.RESET = 1) :
    exec (.unitReset n w) s = .next (((v.requestReset n .register).emit (.done w.m [])).settledFrom s) := by
  have hrow : exec (.unitReset n w) s = fin s (s.ruCfgWrite n w) := congrArg (fin s) (if_pos ⟨unitUsed_lt hn, hres⟩)
  subst hv
  refine hrow.trans (fin_csrWrite_settles h ?_)
  simp only [hn, hrel, hres, Bool.not_true, Bool.false_eq_true, if_false, if_true]

end unit

/-! ### The tray alarm (R356) -/

section alarmClear
variable (h : s.Admits (R.WATCH_ALARM_CLR.addr 0 0 0) w) (hw : written w R.WATCH_ALARM_CLR.CLEAR = 1)
include h hw

theorem exec_alarmClear_quiet (hal : s.rd R.WATCH_STATUS.ALARM = 0) : exec (.alarmClear w) s = .next (s.emit (.done w.m [])) :=
  (congrArg (fin s) (if_pos hw)).trans (fin_csrWrite h ((if_pos hw).trans (if_pos hal)) rfl rfl)

theorem exec_alarmClear_raised (hal : s.rd R.WATCH_STATUS.ALARM ≠ 0) :
    exec (.alarmClear w) s = .next (((s.wr R.WATCH_STATUS.ALARM 0).emit (.pin "FAULT_N" true)).emit (.done w.m [])) :=
  (congrArg (fin s) (if_pos hw)).trans (fin_csrWrite h ((if_pos hw).trans (if_neg hal)) (by rw [State.emit_busy, State.wr_busy]) rfl)

end alarmClear

/-! ### The wake time, the alarm's time and the time capture (R306, R337, R347) -/

theorem exec_pwrWakeAtWrite_ahead {v : State} (h : s.Admits (R.PWR_WAKE_AT.addr 0 0 0) w) (hv : v = s.csrPut (R.PWR_WAKE_AT.addr 0 0 0) (s.merged R.PWR_WAKE_AT w))
    (hahead : v.rd R.PWR_WAKE_AT.ENABLE = 1 → s.time.ticks < v.rd R.PWR_WAKE_AT.TICK) : exec (.pwrWakeAtWrite w) s = .next (v.emit (.done w.m [])) := by
  subst hv
  exact fin_csrWrite h (if_neg fun hdue => absurd hdue.2.1 (Nat.not_le.mpr (hahead hdue.1))) rfl rfl

theorem exec_timeAlarmWrite_ahead {v : State} (h : s.Admits (R.TIME_ALARM.addr 0 0 0) w) (hv : v = s.csrPut (R.TIME_ALARM.addr 0 0 0) (s.merged R.TIME_ALARM w))
    (hahead : v.rd R.TIME_ALARM.ENABLE = 1 → v.epoch < v.rd R.TIME_ALARM.NS) : exec (.timeAlarmWrite w) s = .next (v.emit (.done w.m [])) := by
  subst hv
  exact fin_csrWrite h (if_neg fun hdue => absurd hdue.2.1 (Nat.not_le.mpr (hahead hdue.1))) rfl rfl

theorem exec_timeAlarmWrite_passed {v : State} (h : s.Admits (R.TIME_ALARM.addr 0 0 0) w) (hv : v = s.csrPut (R.TIME_ALARM.addr 0 0 0) (s.merged R.TIME_ALARM w))
    (hen : v.rd R.TIME_ALARM.ENABLE = 1) (hns : v.rd R.TIME_ALARM.NS ≤ v.epoch) (hrun : v.time.fastRun = true) :
    exec (.timeAlarmWrite w) s = .next ((v.alarmFired.emit (.done w.m [])).settledFrom s) := by
  subst hv
  exact fin_csrWrite_settles h (State.alarmCheck_fires hrun hen hns)

theorem exec_timeCapture {u : State} (h : s.Admits (R.TIME_CAPTURE.addr 0 0 0) w) (hgo : written w R.TIME_CAPTURE.GO = 1)
    (hu : u = (s.wr R.TIME_CAP_EPOCH s.epoch).wr R.TIME_CAP_RACK s.rackNs) :
    exec (.timeCapture w) s = .next ((((u.wr R.TIME_CAP_STATUS.QUALITY u.time.quality.code).wr R.TIME_CAP_STATUS.PPS_OUT_ACTIVE (b2n u.ppsActive)).wr R.TIME_CAP_STATUS.UNC_NS
      u.uncNs).emit (.done w.m [])) := by
  subst hu
  exact fin_csrWrite h (if_pos hgo) rfl rfl

end

/-- Settles O23: each write is its rule's act once the checks admit it. -/
theorem watchAndTimeActsComplete : Obligations.WatchAndTimeActsComplete := by
  intro s w
  refine ⟨?ack, fun h hw => ⟨exec_alarmClear_quiet h hw, exec_alarmClear_raised h hw⟩, ?pending, fun _ _ => exec_sourceForce,
    fun _ _ h hn hv => ⟨exec_unitRelease h hn hv, exec_unitReset h hn hv⟩, fun _ => exec_pwrWakeAtWrite_ahead,
    fun _ h hv => ⟨exec_timeAlarmWrite_ahead h hv, exec_timeAlarmWrite_passed h hv⟩, fun _ => exec_timeCapture⟩
  case ack =>
    rintro n _ h hsrc hn hl hlow rfl
    exact ⟨fun hcode => (congrArg (fin s) (if_pos hcode)).trans (fin_ackWrite h hlow hsrc hcode (State.watchAck_handled hn hl)),
      fun hcode hext => (congrArg (fin s) (if_pos hcode)).trans (fin_ackWrite h hlow hsrc hcode (State.watchAck_extend hn hl hext)),
      fun hcode => (congrArg (fin s) (if_pos hcode)).trans (fin_ackWrite h hlow hsrc hcode (State.watchAck_advance hn hl))⟩
  case pending =>
    exact fun n h hn hw => ⟨fun hrun => exec_pendingClear h hn hw (if_pos hrun) rfl rfl, fun hrun => exec_pendingClear h hn hw (if_neg hrun) rfl rfl⟩

end Sys2Proof.Machine
end

section
/-! PROOF. The events of the time unit and of Watch. -/

namespace Sys2Proof.Machine

section time
variable {s : State}

/-! ### Edges, holdover and slews (R338, R342, R343) -/

section edge
variable {j e : Nat} (hon : s.coreOn = true) (hrun : s.time.fastRun = true) (he : e = s.epoch + j - 5)
include hon hrun he

theorem exec_ppsEdge {u : State} (hu : s.ppsAt e = u) : exec (.ppsEdge j) s = .next (u.settledFrom s) := by
  subst he
  exact fin_effect ((if_pos (by rw [hon, hrun, Bool.and_self])).trans hu)

theorem exec_ppsEdge_accepted (h : s.Rests) (hacc : s.time.accepts e = true) : exec (.ppsEdge j) s = .next ((s.updTime (fun t => { t with
    uncEdge := t.uncAt e, prevEdge := t.edge, edge := some e, labelled := false })).wr R.TIME_PPS_STAMP e) := by
  rw [exec_ppsEdge hon hrun he (if_pos hacc)]
  exact congrArg _ (State.settledFrom_rests (by rw [State.wr_busy, State.updTime_busy]; exact h) rfl)

theorem exec_ppsEdge_rejected (hrej : s.time.accepts e = false) :
    exec (.ppsEdge j) s = .next ((s.timeEvent R.TIME_EVENT.PPS_REJECT R.TIME_PPSREJ_CNT.COUNT 3).settledFrom s) :=
  exec_ppsEdge hon hrun he (if_neg (by rw [hrej]; exact Bool.false_ne_true))

end edge

theorem exec_holdoverTimeout {e : Nat} (hrun : s.time.fastRun = true) (hq : s.time.quality = .locked ∨ s.time.quality = .slewing) (he : s.time.edge = some e)
    (hlate : e + 1500000000 ≤ s.epoch ∨ s.time.labelAt + 3000000000 ≤ s.epoch) :
    exec .holdoverTimeout s = .next (((s.updTime (fun t => t.hold s.epoch)).timeEvent R.TIME_EVENT.LOST R.TIME_LOSS_CNT.COUNT 1).settledFrom s) := by
  have hgood : (s.time.quality == .locked || s.time.quality == .slewing) = true := by obtain hq | hq := hq <;> rw [hq] <;> rfl
  have hold : (decide (e + 1500000000 ≤ s.epoch) || decide (s.time.labelAt + 3000000000 ≤ s.epoch)) = true := by
    rw [Bool.or_eq_true, decide_eq_true_eq, decide_eq_true_eq]
    exact hlate
  refine fin_effect (if_pos ?_)
  simp only [hgood, he, hold, hrun, Bool.and_self]

theorem exec_slewComplete {x : Slew} (hx : s.time.slew = some x) (hq : s.time.quality = .slewing) (hdone : x.done s.epoch = x.mag) :
    exec .slewComplete s = .next (((s.updTime (fun t => { t with quality := .locked, slew := none })).timeEvent R.TIME_EVENT.LOCKED R.TIME_LOCK_CNT.COUNT 0).settledFrom s) := by
  refine fin_effect ?_
  rw [hx]
  exact if_pos ⟨hq, hdone⟩

/-! ### PPS_OUT and the anchor (R335, R344) -/

/-- A pin that is driven waits for nothing. -/
theorem State.drive_busy (u : State) (o : Out) : (u.drive o).busy = u.busy := by
  unfold State.drive
  split <;> rfl

theorem State.drive_pending (u : State) (o : Out) : (u.drive o).pending = u.pending := by
  unfold State.drive
  split <;> rfl

theorem exec_ppsOutRise (h : s.Rests) (hact : s.ppsActive = true) (hlow : s.time.ppsHigh = false) (hfirst : s.time.ppsRise = none) (hsec : s.rackNs % 1000000000 < 20) :
    exec .ppsOutRise s = .next ((s.updTime (fun t => { t with
      ppsHigh := true, ppsEnd := s.now + s.rd R.TIME_CFG.PPS_WIDTH_US * 1000, ppsRise := some (s.epoch, s.rackNs / 1000000000), ppsSkip := false })).drive (.pin "PPS_OUT" true)) := by
  refine fin_effect_rests (if_pos ?_) (by rw [State.drive_busy, State.updTime_busy]; exact h) (State.drive_pending _ _)
  simp only [hact, hlow, hfirst, decide_eq_true hsec, Bool.not_false, Bool.and_self]

theorem exec_ppsOutFall (h : s.Rests) (hhigh : s.time.ppsHigh = true) (hend : s.time.ppsEnd ≤ s.now) :
    exec .ppsOutFall s = .next ((s.updTime (fun t => { t with ppsHigh := false })).drive (.pin "PPS_OUT" false)) :=
  fin_effect_rests (if_pos (by rw [hhigh, State.due_of_le hend, Bool.and_self])) (by rw [State.drive_busy, State.updTime_busy]; exact h) (State.drive_pending _ _)

theorem exec_anchorUpdate (h : s.Rests) (hrun : s.time.fastRun = true) (hdue : s.rd R.TIME_ANCHOR_NS + 1000000 ≤ s.epoch) :
    exec .anchorUpdate s = .next ((s.wr R.TIME_ANCHOR_TICKS.TICKS s.time.ticks).wr R.TIME_ANCHOR_NS s.epoch) :=
  fin_effect_rests (if_pos (by rw [hrun, decide_eq_true hdue, Bool.and_self])) (by rw [State.wr_busy, State.wr_busy]; exact h) rfl

end time

/-- Settles O35: each event is its rule's effect once its condition holds. -/
theorem timeEventsComplete : Obligations.TimeEventsComplete := fun _ =>
  ⟨fun _ _ hon hrun he => ⟨exec_ppsEdge_accepted hon hrun he, exec_ppsEdge_rejected hon hrun he⟩, fun _ => exec_holdoverTimeout, fun _ => exec_slewComplete, exec_ppsOutRise,
    exec_ppsOutFall, exec_anchorUpdate, fun hen hns hrun => fin_effect (State.alarmCheck_fires hrun hen hns)⟩

section watch
variable {s : State}

/-! ### Events and windows (R348, R350, R352) -/

/-- A walk over numbers that acts on one of them only is that one act. -/
theorem foldl_range_single {m n : Nat} (hn : n < m) (f : State → Nat → State) (hf : ∀ u k, k ≠ n → f u k = u) (s : State) : (List.range m).foldl f s = f s n := by
  have hid (l : List Nat) (hl : n ∉ l) (u : State) : l.foldl f u = u := by
    induction l generalizing u with
    | nil => rfl
    | cons k l ih =>
      rw [List.mem_cons, not_or] at hl
      rw [List.foldl_cons, hf u k (Ne.symm hl.1), ih hl.2]
  induction m with
  | zero => omega
  | succ m ih =>
    rw [List.range_succ, List.foldl_concat]
    by_cases hm : n = m
    · subst hm
      rw [hid _ (by simp)]
    · rw [ih (by omega), hf _ m (Ne.symm hm)]

theorem exec_faultEvent_single {e : FaultEv} (h1 : 1 ≤ e.cls) (h4 : e.cls ≤ 4) (hsrc : e.src < 310) : exec (.faultEvent [e]) s = .next ((s.reportAt e none).settledFrom s) := by
  refine fin_effect ?_
  rw [foldl_range_single hsrc]
  · simp [h1, h4]
  · intro u k hk
    have hne : (e.src == k) = false := beq_eq_false_iff_ne.mpr (Ne.symm hk)
    simp [h1, h4, hne]

theorem exec_ceWindowRollover (h : s.Rests) (hon : s.coreOn = true) (hnew : s.ceWindow ≠ s.watch.ceWin) :
    exec .ceWindowRollover s = .next (s.updWatch (fun w => { w with ce := [], ceWin := s.ceWindow })) :=
  fin_effect_rests ((if_pos hon).trans (if_neg hnew)) ((State.updWatch_busy s _ rfl).trans h) rfl

theorem State.graceOver_due {n t : Nat} (ht : Tab.get? s.watch.timers n = some t) (hdue : t ≤ s.now) (hl : s.ladder n = Ladder.running) :
    s.graceOver n = s.takeStep n (s.rd R.WATCH_SRC_STATUS.STEP n + 1) := by
  simp only [State.graceOver, ht, State.due_of_le hdue, hl, and_self, if_true]

theorem filter_contains_single {m n : Nat} (hn : n < m) : (List.range m).filter [n].contains = [n] := by
  have hp : [n].contains = fun k => k == n := by funext k; simp [beq_eq_decide]
  rw [hp]
  simp [List.filter_beq, List.count_range, hn]

/-! ### Resets and their windows (R354, R359, R360) -/

section shadow
variable {n : Nat} {x : Shadow} {t : Nat} {u : State} (h : s.Rests) (hx : s.watch.shadows.find? (fun x => x.unit == n) = some x) (ht : x.closeAt = some t) (hdue : t ≤ s.now)
  (hu : u = s.updWatch (fun w => { w with shadows := w.shadows.filter (fun y => y.unit != n) }))
include h hx ht hdue hu

theorem exec_shadowWindowClose : exec (.shadowWindowClose n) s = .next (if n = packageWindow then u.wr R.WATCH_STATUS.WARM_SHADOW 0 else u.wr R.WATCH_RU_STATUS.SHADOW 0 n) := by
  subst hu
  have hrest : (s.updWatch (fun w => { w with shadows := w.shadows.filter (fun y => y.unit != n) })).busy = false := (State.updWatch_busy s _ rfl).trans h
  refine fin_effect_rests (by simp only [State.closeShadow, hx, ht, State.due_of_le hdue, Bool.not_true, Bool.false_eq_true, if_false]) ?_ ?_
  · split <;> rw [State.wr_busy, hrest]
  · split <;> rfl

end shadow
end watch

/-- Settles O36: each event is its rule's effect once its condition holds. -/
theorem watchEventsComplete : Obligations.WatchEventsComplete := by
  intro s
  refine ⟨fun _ => fin_settledFrom s _, fun _ => exec_faultEvent_single, exec_ceWindowRollover, fun _ hon => fin_effect (if_pos hon), ?grace, ?resetEnd, ?overdue, ?shadow, ?warm,
    fun _ _ _ _ hon hd hpkg => fin_effect (if_pos ⟨hon, hd, hpkg⟩)⟩
  case grace =>
    intro n t hon hn ht hdue hl
    refine fin_effect ((if_pos hon).trans ?_)
    rw [filter_contains_single hn, List.foldl_cons, List.foldl_nil, State.graceOver_due ht hdue hl]
  case resetEnd =>
    rintro n hon hn hst _ rfl
    exact fin_effect (if_pos ⟨hon, hn, hst⟩)
  case overdue =>
    intro n t ht hon hn hst hdue
    refine fin_effect ?_
    rw [ht]
    exact if_pos ⟨hon, hn, hst, State.due_of_le hdue⟩
  case shadow =>
    intro n x t h hx ht hdue u hu
    have hrow := exec_shadowWindowClose h hx ht hdue hu
    exact ⟨fun hn => hrow.trans (congrArg _ (if_pos hn)), fun hn => hrow.trans (congrArg _ (if_neg hn))⟩
  case warm =>
    rintro t ht hw hdue _ rfl
    refine fin_effect ?_
    rw [ht]
    exact if_pos ⟨hw, State.due_of_le hdue⟩

end Sys2Proof.Machine
end

section
/-! PROOF. The events of the power manager: credit windows, thermal trips, PERCH entry and wake. -/

namespace Sys2Proof.Machine

section power
variable {s : State}

/-! ### Credit windows (R311, R312, R315) -/

/-- A window begins: the tiles' work is taken, the window before is closed, and meter, caps and temperatures are taken. -/
def State.windowTaken (s : State) (w : WindowIn) : State :=
  (((((if s.pwr.windows = 0 then w.work.foldl State.drawTile s else (w.work.foldl State.drawTile s).closeWindow w).meter w).capsInForce.vrFallback).dieTemps w.dieTemp).wr R.PWR_WINDOW
    (s.epoch / 100000)).updPwr (fun p => { p with windows := p.windows + 1, baseEst := if s.pwr.windows = 0 then (w.energy : Nat) else avgInt p.baseHist })

theorem State.windowStart_begins {w : WindowIn} (hon : s.coreOn = true) (hrun : s.time.fastRun = true) (hnew : s.pwr.windows = 0 ∨ s.rd R.PWR_WINDOW ≠ s.epoch / 100000) {v : State}
    (hv : v = (((s.windowTaken w).setGrant w.energy).raiseWarden 4).parkPolicy.sweepReady) : s.windowStart w = (State.dispatchItems v.items v).fitClocks.rebook := by
  subst hv
  have hold : (s.pwr.windows != 0 && s.rd R.PWR_WINDOW == s.epoch / 100000) = false := by
    rw [Bool.and_eq_false_iff, bne_eq_false_iff_eq, beq_eq_false_iff_ne]
    exact hnew
  have hgo : (!s.coreOn || !s.time.fastRun || (s.pwr.windows != 0 && s.rd R.PWR_WINDOW == s.epoch / 100000)) = false := by rw [hon, hrun, hold]; rfl
  simp only [State.windowStart, hgo, Bool.false_eq_true, if_false]
  rfl

theorem State.windowStart_again {w : WindowIn} (hwin : s.pwr.windows ≠ 0) (hsame : s.rd R.PWR_WINDOW = s.epoch / 100000) : s.windowStart w = s := by
  refine if_pos ?_
  rw [hsame, beq_self_eq_true, Bool.and_true, bne_iff_ne.mpr hwin, Bool.or_true]

theorem exec_creditWindowStart {w : WindowIn} (hon : s.coreOn = true) : exec (.creditWindowStart w) s = fin s (s.windowStart w) := congrArg (fin s) (if_pos hon)

theorem State.windowTaken_later {w : WindowIn} (hwin : s.pwr.windows ≠ 0) :
    s.windowTaken w = ((((((w.work.foldl State.drawTile s).closeWindow w).meter w).capsInForce.vrFallback).dieTemps w.dieTemp).wr R.PWR_WINDOW (s.epoch / 100000)).updPwr (fun p => { p with
      windows := p.windows + 1, baseEst := avgInt p.baseHist }) := by
  simp only [State.windowTaken, if_neg hwin]

/-! ### Thermal trips (R313) -/

section trip
variable {d t : Nat} (hon : s.coreOn = true) (hd : d < 4)
include hon hd

theorem State.dieTrip_trips (htemp : s.rd R.PWR_THERM_CFG.DIE_TRIP_C * 10 ≤ t) (hfirst : s.pwr.tripped.contains d = false) {u : State}
    (hu : u = (s.wr R.PWR_DIE.TEMP_DC t d).updPwr (fun p => { p with tripped := sinsert p.tripped d })) :
    s.dieTrip d t = (((u.flag R.PWR_EVENT.THERM_TRIP R.PWR_TRIP_CNT.COUNT).killPasses (fun p => (u.planTiles p.plan).any (fun x => x / 96 == d)) Stat.faulted).report (Src.dieTherm d)
      Cls.fa Cause.thermalTrip) := by
  subst hu
  refine if_neg ?_
  simpa [hon, hd, htemp] using hfirst

theorem State.dieTrip_stays (hno : t < s.rd R.PWR_THERM_CFG.DIE_TRIP_C * 10 ∨ s.pwr.tripped.contains d = true) : s.dieTrip d t = s := by
  refine if_pos ?_
  obtain hlow | hdone := hno
  · simp [hon, hd, hlow]
  · simp only [hdone, Bool.or_true, Bool.true_or]

theorem exec_dieThermalTrip : exec (.dieThermalTrip d t) s = fin s (s.dieTrip d t) := congrArg (fin s) (if_pos ⟨hon, hd⟩)

end trip

/-- Settles O58: a credit window begins or the event passes, and a die trips or the event passes. -/
theorem creditWindowsAndThermalTripsComplete : Obligations.CreditWindowsAndThermalTripsComplete := by
  intro s hon
  refine ⟨?window, ?again, ?trip, ?stays⟩
  case window =>
    rintro w _ _ v hrun hnew rfl rfl hv
    exact (exec_creditWindowStart hon).trans (fin_effect (State.windowStart_begins hon hrun hnew hv))
  case again =>
    intro w h hwin hsame
    exact (exec_creditWindowStart hon).trans (fin_effect_rests (State.windowStart_again hwin hsame) h rfl)
  case trip =>
    rintro d t _ hd htemp hfirst rfl
    exact (exec_dieThermalTrip hon hd).trans (fin_effect (State.dieTrip_trips hon hd htemp hfirst rfl))
  case stays =>
    intro d t h hno
    by_cases hd : d < 4
    · exact (exec_dieThermalTrip hon hd).trans (fin_effect_rests (State.dieTrip_stays hon hd hno) h rfl)
    · exact fin_effect_rests (if_neg fun hgo => hd hgo.2) h rfl

/-! ### PERCH entry (R304, R306) -/

section entry
variable {t : Nat} {u : State} (hat : s.pwr.perchAt = some t) (hdue : t ≤ s.now) (hready : s.boot.stage = .ready) (hst : s.pwr.pstate = .flight ∨ s.pwr.pstate = .glide)
  (hu : u = (((s.wr R.PWR_PERCH_STATE.PRIOR (if s.pwr.pstate = .flight then 0 else 1)).csrPut R.PWR_WAKE_CAUSE.base 0).updPwr (fun p => { p with
    perchAt := none, pstate := .entering, entryStep := 1, entryAt := s.now })).wr R.TCI_STATUS.READY 0)
include hat hdue hready hst hu

theorem State.perchEntry_due : s.perchEntry = u.wakeTimer := by
  have hgo : ¬ ((!s.due t) = true ∨ (s.pwr.pstate ≠ .flight ∧ s.pwr.pstate ≠ .glide) ∨ s.boot.stage ≠ .ready) := by
    rw [State.due_of_le hdue]
    obtain hst | hst := hst <;> simp [hready, hst]
  subst hu
  simp only [State.perchEntry, hat, if_neg hgo]
  rfl

end entry

/-- A wake time already reached reverses an entry at once. -/
theorem State.wakeTimer_entering (hent : s.pwr.pstate = .entering) : s.wakeTimer =
    if s.rd R.PWR_WAKE_AT.ENABLE = 1 ∧ s.rd R.PWR_WAKE_AT.TICK ≤ s.time.ticks then ((s.wr R.PWR_WAKE_AT.ENABLE 0).wr R.PWR_WAKE_CAUSE.TIMER 1).perchAbort else s := by
  simp only [State.wakeTimer, hent, true_or, and_true, State.wakeBy, State.wr_pwr]

theorem State.perchAbort_first (hstep : s.pwr.entryStep = 1) : s.perchAbort = (s.flag R.PWR_EVENT.PERCH_ABORT R.PWR_ABORT_CNT.COUNT).perchBack := by
  have hlt : (s.flag R.PWR_EVENT.PERCH_ABORT R.PWR_ABORT_CNT.COUNT).pwr.entryStep < 2 := by rw [State.flag_pwr, hstep]; decide
  simp only [State.perchAbort, if_pos hlt]

theorem State.perchTimeout_late (hst : s.pwr.pstate = .entering) (hstep : s.pwr.entryStep = 1) (hlate : s.pwr.entryAt + 10000000 ≤ s.now) (hrun : s.tci.running ≠ []) :
    s.perchTimeout = s.perchAbort := if_pos ⟨hst, hstep, State.due_of_le hlate, hrun⟩

theorem State.perchKeeper_due {t : Nat} (hhold : s.pwr.perchHoldAt = some t) (hst : s.pwr.pstate = .entering) (hdue : t ≤ s.now) :
    s.perchKeeper = ((((s.allKeeper).wr R.MGMT_TGT_STATUS.MBOX_LIVE 0).timeStop true).updPwr (fun p => { p with
      pstate := .perch, entryStep := 0, perchHoldAt := none, ballast := [0, 0, 0, 0] })).coreLow := by
  simp only [State.perchKeeper, hhold, hst, State.due_of_le hdue, ne_eq, not_true_eq_false, Bool.not_true, Bool.false_eq_true, or_self, if_false]

theorem State.coreLow_on (hen : s.rd R.PWR_PERCH_STATE.CORE_EN ≠ 0) :
    s.coreLow = ((s.wr R.PWR_PERCH_STATE.CORE_EN 0).updPwr (fun p => { p with coreLowAt := some s.now })).emit (.pin "CORE_EN" false) := if_neg hen

/-! ### Waking (R303, R306, R308) -/

section coreHigh
variable {t : Nat} (hlow : s.pwr.coreLowAt = some t) (hheld : t + 2000000 ≤ s.now)
include hlow hheld

theorem State.coreLowOver_due (hpend : s.pwr.wakePend = true) : s.coreLowOver = s.coreHigh := by
  simp only [State.coreLowOver, hlow, hpend, State.due_of_le hheld, and_self, if_true]

theorem State.coreHigh_held : s.coreHigh = ((s.wr R.PWR_PERCH_STATE.CORE_EN 1).updPwr (fun p => { p with
    wakePend := false, coreLowAt := none, pstate := if p.pstate = .perch then .waking else p.pstate })).emit (.pin "CORE_EN" true) := by
  have hsoon : decide (s.now < t + 2000000) = false := decide_eq_false (Nat.not_lt.mpr hheld)
  simp only [State.coreHigh, hlow, hsoon, Bool.false_eq_true, if_false]

end coreHigh

theorem State.wakeTimer_reached (hen : s.rd R.PWR_WAKE_AT.ENABLE = 1) (htick : s.rd R.PWR_WAKE_AT.TICK ≤ s.time.ticks) (hst : s.pwr.pstate = .entering ∨ s.pwr.pstate = .perch) :
    s.wakeTimer = (s.wr R.PWR_WAKE_AT.ENABLE 0).wakeBy R.PWR_WAKE_CAUSE.TIMER := if_pos ⟨hen, htick, hst⟩

theorem State.wakeTimer_disabled (hen : s.rd R.PWR_WAKE_AT.ENABLE ≠ 1) : s.wakeTimer = s := if_neg fun hgo => hen hgo.1

theorem State.wakeBy_entering (f : RF) (hst : s.pwr.pstate = .entering) : s.wakeBy f = (s.wr f 1).perchAbort := by simp only [State.wakeBy, hst]

theorem State.wakeBy_perch (f : RF) (hst : s.pwr.pstate = .perch) : s.wakeBy f = (s.wr f 1).coreHigh := by simp only [State.wakeBy, hst]

end power

/-- Settles O59: each timer's effect, the abort and the rise of CORE_EN written out. -/
theorem perchTimersComplete : Obligations.PerchTimersComplete := by
  intro s
  refine ⟨?entry, ?late, ?keeper, ?low, ?wake, fun h hen => fin_effect_rests (State.wakeTimer_disabled hen) h rfl⟩
  case entry =>
    intro t p u hat hdue hready hst hu
    have hp : p = if s.pwr.pstate = .flight then 0 else 1 := by obtain ⟨hst, rfl⟩ | ⟨hst, rfl⟩ := hst <;> rw [hst] <;> rfl
    have hst : s.pwr.pstate = .flight ∨ s.pwr.pstate = .glide := hst.imp And.left And.left
    rw [hp] at hu
    exact fin_effect ((State.perchEntry_due hat hdue hready hst hu).trans (State.wakeTimer_entering (by rw [hu]; rfl)))
  case late => exact fun hst hstep hlate hrun => fin_effect ((State.perchTimeout_late hst hstep hlate hrun).trans (State.perchAbort_first hstep))
  case keeper =>
    rintro t _ hhold hst hdue rfl hen
    exact fin_effect ((State.perchKeeper_due hhold hst hdue).trans (State.coreLow_on hen))
  case low => exact fun t hlow hpend hheld => fin_effect ((State.coreLowOver_due hlow hheld hpend).trans (State.coreHigh_held hlow hheld))
  case wake =>
    rintro _ hen htick rfl
    exact ⟨fun hst => fin_effect ((State.wakeTimer_reached hen htick (.inl hst)).trans (State.wakeBy_entering _ hst)),
      fun hst => fin_effect ((State.wakeTimer_reached hen htick (.inr hst)).trans (State.wakeBy_perch _ hst))⟩

/-- Settles O34: each event's effect in the terms of the operations that the rules share. -/
theorem powerEventsComplete : Obligations.PowerEventsComplete := by
  intro s
  refine ⟨?window, ?trip, ?entry, fun hst hstep hlate hrun => fin_effect (State.perchTimeout_late hst hstep hlate hrun),
    fun _ hhold hst hdue => fin_effect (State.perchKeeper_due hhold hst hdue), fun _ hlow hpend hheld => fin_effect (State.coreLowOver_due hlow hheld hpend),
    fun hen htick hst => fin_effect (State.wakeTimer_reached hen htick hst)⟩
  case window =>
    rintro w _ hon hrun hwin hnew rfl v hv
    exact (exec_creditWindowStart hon).trans (fin_effect (State.windowStart_begins hon hrun (.inr hnew) (by rw [State.windowTaken_later hwin]; exact hv)))
  case trip =>
    intro d t u hon hd htemp hfirst hu
    exact (exec_dieThermalTrip hon hd).trans (fin_effect (State.dieTrip_trips hon hd htemp hfirst hu))
  case entry =>
    rintro t hat hdue hready hst _ rfl
    exact fin_effect (State.perchEntry_due hat hdue hready hst rfl)

end Sys2Proof.Machine
end

section
/-! PROOF. The sealed test port, and the characters of the consoles. -/

namespace Sys2Proof.Machine

/-! ### Instructions of the open port while it is sealed (R388) -/

section sealedPort
variable {s : State} (hup : s.tapAnswers = true) (hsealed : s.portOpen = false)
include hup hsealed

theorem State.tapOpenOnly_sealed (f : State → State) : s.tapOpenOnly f = s.sealedReject := by
  simp only [State.tapOpenOnly, hup, hsealed, Bool.not_true, Bool.false_eq_true, if_false]

theorem fin_tapOpenOnly_sealed (h : s.Rests) (f : State → State) : fin s (s.tapOpenOnly f) = .next s.sealedReject :=
  fin_effect_rests (State.tapOpenOnly_sealed hup hsealed f) (by rw [State.sealedReject, State.flag_busy, State.tapIr, State.updTap_busy]; exact h) rfl

end sealedPort

/-- Settles O55: each of the six instructions is refused as the sealed port refuses. -/
theorem sealedPortRefusesDebugInstructions : Obligations.SealedPortRefusesDebugInstructions := by
  intro s pins update word hs h hup hport
  have hsealed : s.portOpen = false := by rw [State.portOpen, hport]; rfl
  have hrow (f : State → State) := fin_tapOpenOnly_sealed hup hsealed h f
  have hcsr : Tab.wf (s.tapIr Ir.bypass).csr = true := hs.csr
  refine ⟨s.sealedReject, ⟨hrow _, hrow _, hrow _, hrow _, hrow _, hrow _⟩, rfl, State.flag_bit hcsr _ _ 0 0 0 (by decide) (by decide),
    State.flag_count hcsr _ _ 0 0 0 (by decide) (by decide), fun a hev hcnt => State.flag_others hcsr _ _ 0 0 0 hev hcnt, rfl⟩

/-! ### The bits of a character (R412) -/

/-- The bits of a number below a power of two add up to it. -/
theorem sum_bits (b n : Nat) : (((List.range n).filter b.testBit).map (fun i => 2 ^ i)).sum = b % 2 ^ n := by
  induction n with
  | zero => simp [Nat.mod_one]
  | succ n ih =>
    rw [List.range_succ, List.filter_append, List.map_append, List.sum_append, ih, Nat.mod_pow_succ, ← Nat.toNat_testBit]
    cases hbit : b.testBit n <;> simp [List.filter, hbit]

/-- The samples hold `v` for the whole of bit `k`. -/
def holdsBit (smp : List Bool) (k : Nat) (v : Bool) : Prop := ∀ i, i < 16 → smp[16 * k + i]? = some v

theorem uartMajority_holdsBit {smp : List Bool} {k : Nat} {v : Bool} (h : holdsBit smp k v) : uartMajority smp (16 * k + 7) = v := by
  have hmid (i : Nat) (hi : i < 3) : lget smp (16 * k + 7 + i) true = v := by
    rw [lget, Nat.add_assoc, h (7 + i) (by omega), Option.getD_some]
  have hall : (List.range 3).filter (fun i => lget smp (16 * k + 7 + i) true) = (List.range 3).filter (fun _ => v) :=
    List.filter_congr fun i hi => hmid i (List.mem_range.mp hi)
  rw [uartMajority, hall]
  cases v <;> rfl

/-- A start bit, eight data bits and a stop bit are a byte. -/
theorem uartReceive_byte {smp : List Bool} {b : Nat} (hstart : holdsBit smp 0 false) (hdata : ∀ k, k < 8 → holdsBit smp (k + 1) (b.testBit k)) (hstop : holdsBit smp 9 true)
    (hb : b < 256) : uartReceive false smp = .byte b true := by
  have h0 : uartMajority smp 7 = false := uartMajority_holdsBit hstart
  have h9 : uartMajority smp (16 * 9 + 7) = true := uartMajority_holdsBit hstop
  have hbits : (List.range 8).map (fun b => uartMajority smp (16 * (b + 1) + 7)) = (List.range 8).map b.testBit :=
    List.map_congr_left fun k hk => uartMajority_holdsBit (hdata k (List.mem_range.mp hk))
  have hsum : (((List.range 8).filter (fun i => lget ((List.range 8).map b.testBit) i false)).map (fun i => 2 ^ i)).sum = b := by
    have hget : (List.range 8).filter (fun i => lget ((List.range 8).map b.testBit) i false) = (List.range 8).filter b.testBit := by
      refine List.filter_congr fun i hi => ?_
      rw [lget, List.getElem?_map, List.getElem?_range (List.mem_range.mp hi), Option.map_some, Option.getD_some]
    rw [hget, sum_bits]; exact Nat.mod_eq_of_lt hb
  simp only [uartReceive, h0, Bool.false_eq_true, if_false, h9, if_true, Nat.add_one_sub_one, hbits, hsum, Bool.not_false, Bool.true_or]

/-- Two of the three samples about the middle of the start bit high: no start bit. -/
theorem uartReceive_falseStart {smp : List Bool} (h7 : smp[7]? = some true) (h8 : smp[8]? = some true) (parity : Bool) : uartReceive parity smp = .none_ := by
  have hmaj : uartMajority smp 7 = true := by
    have hr : List.range 3 = [0, 1, 2] := rfl
    simp only [uartMajority, hr, lget]
    cases hv : (smp[9]?).getD true <;> simp [h7, h8, hv]
  simp only [uartReceive, hmaj, if_true]

/-! ### What follows from a change of a console's queues (R412, R413) -/

section uart
variable {s : State} {n : Nat}

theorem State.setUart_uart (u : Uart) : (s.setUart n u).uart n = u := by
  by_cases hn : n = 0 <;> simp [State.setUart, State.uart, hn]

theorem State.setUart_other {m : Nat} (hm : m = 0 ↔ n ≠ 0) (u : Uart) : (s.setUart n u).uart m = s.uart m := by
  by_cases hn : n = 0 <;> by_cases hm0 : m = 0 <;> simp_all [State.setUart, State.uart]

/-- The levels of the console's status register as its queues have them. -/
def State.uartLevels (s : State) (n : Nat) : State :=
  ((s.wr R.MGMT_UART_STATUS.RX_LEVEL (s.uart n).rx.length n).wr R.MGMT_UART_STATUS.TX_LEVEL (s.uart n).tx.length n).wr R.MGMT_UART_STATUS.TX_BUSY (b2n (s.uart n).line.isSome) n

/-- The conditions that the console's interrupt takes notice of. -/
def State.uartConds (s : State) (n : Nat) : Nat :=
  (b2n ((s.uart n).rx != []) + 2 * b2n ((s.uart n).tx == []) + 4 * b2n (((s.uartLevels n).csrAt (R.MGMT_UART_EVENT.FRAMING.addr n 0 0)).field 0 5 != 0)) &&&
    (s.uartLevels n).rd R.MGMT_UART_CFG.IRQ_EN n

/-- The levels are stored and the conditions noted. -/
def State.uartNoted (s : State) (n : Nat) : State := (s.uartLevels n).setUart n { s.uart n with conds := s.uartConds n }

/-- A condition that rises raises an identity, at the warden cores or at one core. -/
theorem State.uartDone_cases (s : State) (n : Nat) :
    s.uartDone n = s.uartNoted n ∨ s.uartDone n = (s.uartNoted n).raiseWarden 9 ∨ ∃ core, s.uartDone n = (s.uartNoted n).raiseAt core 1 9 := by
  simp only [State.uartDone]
  split
  · exact .inl rfl
  · split
    · exact .inr (.inl rfl)
    · split
      · exact .inr (.inr ⟨_, rfl⟩)
      · exact .inl rfl

/-- What is noted and every raise keep, the console's change keeps. -/
theorem State.uartDone_keeps {P : State → Prop} {s : State} (n : Nat) (h : P (s.uartNoted n)) (raise : ∀ (t : State) (c f : Nat), P t → P (t.raiseAt c f 9)) : P (s.uartDone n) := by
  obtain hd | hd | ⟨core, hd⟩ := s.uartDone_cases n <;> rw [hd]
  · exact h
  · exact State.raiseWarden_keeps 9 h fun t c _ ht => raise t c 0 ht
  · exact raise _ core 1 h

theorem State.uartNoted_csr (s : State) (n : Nat) : (s.uartNoted n).csr = (s.uartLevels n).csr := rfl

/-- What a register holds depends on the registers alone. -/
theorem State.rd_of_csr {t : State} (h : t.csr = s.csr) (f : RF) (i j k : Nat) : t.rd f i j k = s.rd f i j k := by simp only [State.rd, State.csrAt, h]

theorem State.uartDone_busy (s : State) (n : Nat) : (s.uartDone n).busy = s.busy := by
  refine State.uartDone_keeps (P := fun t => t.busy = s.busy) n ?_ fun t c f ht => ?_
  · rw [State.uartNoted, State.setUart, State.updBus_busy, State.uartLevels, State.wr_busy, State.wr_busy, State.wr_busy]
  · obtain ⟨r, i, hr⟩ := t.raiseAt_only c f 9
    rw [hr, ← ht]
    rfl

theorem State.uartDone_pending (s : State) (n : Nat) : (s.uartDone n).pending = s.pending := by
  refine State.uartDone_keeps (P := fun t => t.pending = s.pending) n rfl fun t c f ht => ?_
  obtain ⟨r, i, hr⟩ := t.raiseAt_only c f 9
  rw [hr, ← ht]

theorem State.uartDone_mem (s : State) (n : Nat) : (s.uartDone n).mem = s.mem := by
  refine State.uartDone_keeps (P := fun t => t.mem = s.mem) n rfl fun t c f ht => ?_
  obtain ⟨r, i, hr⟩ := t.raiseAt_only c f 9
  rw [hr, ← ht]

/-- The queues stay as they were. -/
theorem State.uartDone_bus (s : State) (n : Nat) : (s.uartDone n).bus = (s.setUart n { s.uart n with conds := s.uartConds n }).bus := by
  refine State.uartDone_keeps (P := fun t => t.bus = _) n rfl fun t c f ht => ?_
  obtain ⟨r, i, hr⟩ := t.raiseAt_only c f 9
  rw [hr, ← ht]

theorem State.uart_of_bus {s t : State} (h : t.bus = s.bus) (n : Nat) : t.uart n = s.uart n := by simp only [State.uart, h]

theorem State.uartDone_uart (s : State) (n : Nat) : (s.uartDone n).uart n = { s.uart n with conds := s.uartConds n } :=
  (State.uart_of_bus (s.uartDone_bus n) n).trans (State.setUart_uart _)

theorem State.uartDone_other {m : Nat} (hm : m = 0 ↔ n ≠ 0) : (s.uartDone n).uart m = s.uart m :=
  (State.uart_of_bus (s.uartDone_bus n) m).trans (State.setUart_other hm _)

theorem State.uartLevels_wf (h : Tab.wf s.csr = true) : Tab.wf (s.uartLevels n).csr = true :=
  State.wr_csr_wf (State.wr_csr_wf (State.wr_csr_wf h _ _ n 0 0) _ _ n 0 0) _ _ n 0 0

theorem State.uartLevels_rxLevel (h : Tab.wf s.csr = true) : (s.uartLevels n).rd R.MGMT_UART_STATUS.RX_LEVEL n = (s.uart n).rx.length % 2 ^ 7 := by
  have h1 := State.wr_csr_wf h R.MGMT_UART_STATUS.RX_LEVEL (s.uart n).rx.length n 0 0
  have h2 := State.wr_csr_wf h1 R.MGMT_UART_STATUS.TX_LEVEL (s.uart n).tx.length n 0 0
  rw [State.uartLevels, State.rd_wr_beside h2 R.MGMT_UART_STATUS.TX_BUSY R.MGMT_UART_STATUS.RX_LEVEL _ n 0 0 n 0 0 rfl (by decide),
    State.rd_wr_beside h1 R.MGMT_UART_STATUS.TX_LEVEL R.MGMT_UART_STATUS.RX_LEVEL _ n 0 0 n 0 0 rfl (by decide), State.rd_wr_self h R.MGMT_UART_STATUS.RX_LEVEL _ n 0 0 (by decide)]
  rfl

/-- RX_LEVEL reads how many bytes wait. -/
theorem State.uartDone_rxLevel (h : Tab.wf s.csr = true) (hn : n < 2) : (s.uartDone n).rd R.MGMT_UART_STATUS.RX_LEVEL n = (s.uart n).rx.length % 2 ^ 7 := by
  have hne (c : Nat) : R.MGMT_UART_STATUS.RX_LEVEL.addr n 0 0 ≠ R.MEWS_CORE_STATUS.STATE.addr c 0 0 := by
    simp only [RF.addr, R.MGMT_UART_STATUS.RX_LEVEL, R.MEWS_CORE_STATUS.STATE]; omega
  have hwf : Tab.wf (s.uartNoted n).csr = true := by rw [State.uartNoted_csr]; exact State.uartLevels_wf h
  have hlevel : (s.uartNoted n).rd R.MGMT_UART_STATUS.RX_LEVEL n = (s.uart n).rx.length % 2 ^ 7 := by
    rw [State.rd_of_csr (s.uartNoted_csr n)]; exact State.uartLevels_rxLevel h
  have hkeeps := State.uartDone_keeps (P := fun t => Tab.wf t.csr = true ∧ t.rd R.MGMT_UART_STATUS.RX_LEVEL n = (s.uart n).rx.length % 2 ^ 7) n ⟨hwf, hlevel⟩
  refine (hkeeps fun t c f ht => ⟨State.raiseAt_csr_wf ht.1 c f 9, ?_⟩).2
  rw [← ht.2, State.rd, State.raiseAt_csrAt_ne ht.1 f 9 (hne c), State.rd]

/-! ### Characters received (R412) -/

section receive
variable {smp : List Bool} (hn : n < 2) (hon : s.uartOn n = true)
include hn hon

theorem State.uartRx_on : s.uartRx n smp = (match uartReceive (s.rd R.MGMT_UART_CFG.PARITY_EN n == 1) smp with
    | .none_ => s
    | .framing => s.flag R.MGMT_UART_EVENT.FRAMING R.MGMT_UART_FRM_CNT.COUNT n
    | .break_ => s.flag R.MGMT_UART_EVENT.BREAK R.MGMT_UART_BRK_CNT.COUNT n
    | .byte b ok =>
      let s' := if ok then s else s.flag R.MGMT_UART_EVENT.PARITY R.MGMT_UART_PAR_CNT.COUNT n
      if 64 ≤ (s.uart n).rx.length then s'.flag R.MGMT_UART_EVENT.OVERRUN R.MGMT_UART_OVR_CNT.COUNT n else s'.setUart n { s.uart n with rx := (s.uart n).rx ++ [b] }).uartDone n := by
  have hgo : ¬ (2 ≤ n ∨ s.uartOn n = false) := by simp [hon, hn]
  exact if_neg hgo

theorem State.uartRx_byte {b : Nat} (hbyte : uartReceive (s.rd R.MGMT_UART_CFG.PARITY_EN n == 1) smp = .byte b true) (hroom : (s.uart n).rx.length < 64) :
    s.uartRx n smp = (s.setUart n { s.uart n with rx := (s.uart n).rx ++ [b] }).uartDone n := by
  rw [State.uartRx_on hn hon, hbyte]
  simp only [if_true, if_neg (Nat.not_le.mpr hroom)]

theorem State.uartRx_framing (hframe : uartReceive (s.rd R.MGMT_UART_CFG.PARITY_EN n == 1) smp = .framing) :
    s.uartRx n smp = (s.flag R.MGMT_UART_EVENT.FRAMING R.MGMT_UART_FRM_CNT.COUNT n).uartDone n := by
  rw [State.uartRx_on hn hon, hframe]

theorem State.uartRx_none (hnone : uartReceive (s.rd R.MGMT_UART_CFG.PARITY_EN n == 1) smp = .none_) : s.uartRx n smp = s.uartDone n := by
  rw [State.uartRx_on hn hon, hnone]

end receive
end uart

/-- Settles O56: the bits that hold make the byte, and the byte enters the queue. -/
theorem uartCharacterIsReceived : Obligations.UartCharacterIsReceived := by
  intro s n b smp hs h hn hb hon
  have hother : 1 - n = 0 ↔ n ≠ 0 := by omega
  constructor
  · intro hpar hroom _ hsmp
    have hbit (k : Nat) (hk : k < 10) (v : Bool) (hv : v = if k = 0 then false else if k < 9 then b.testBit (k - 1) else true) : holdsBit smp k v := by
      intro i hi
      have hdiv : (16 * k + i) / 16 = k := by omega
      have hstart : 16 * k + i < 16 ↔ k = 0 := by omega
      have hdata : 16 * k + i < 144 ↔ k < 9 := by omega
      rw [hsmp _ (by omega), hdiv, hv]
      simp only [hstart, hdata]
    have hbyte : uartReceive (s.rd R.MGMT_UART_CFG.PARITY_EN n == 1) smp = .byte b true := by
      rw [hpar]
      exact uartReceive_byte (hbit 0 (by decide) _ rfl) (fun k hk => hbit (k + 1) (by omega) _ (by rw [if_neg (Nat.succ_ne_zero k), if_pos (by omega), Nat.add_sub_cancel]))
        (hbit 9 (by decide) _ rfl) hb
    have hrx : (s.setUart n { s.uart n with rx := (s.uart n).rx ++ [b] }).uart n = { s.uart n with rx := (s.uart n).rx ++ [b] } := State.setUart_uart _
    have hcsr : Tab.wf (s.setUart n { s.uart n with rx := (s.uart n).rx ++ [b] }).csr = true := hs.csr
    refine ⟨_, fin_effect_rests (State.uartRx_byte hn hon hbyte hroom) (by rw [State.uartDone_busy]; exact h) (State.uartDone_pending _ n), ?_, ?_, ?_, ?_, State.uartDone_mem _ n⟩
    · rw [State.uartDone_uart, hrx]
    · rw [State.uartDone_uart, hrx]
    · rw [State.uartDone_other hother, State.setUart_other hother]
    · rw [State.uartDone_rxLevel hcsr hn, hrx, List.length_append, List.length_singleton]
      omega
  · intro h7 h8
    exact ⟨_, fin_effect_rests (State.uartRx_none hn hon (uartReceive_falseStart h7 h8 _)) ((s.uartDone_busy n).trans h) (s.uartDone_pending n), by rw [State.uartDone_uart],
      by rw [State.uartDone_uart], s.uartDone_mem n⟩

end Sys2Proof.Machine
end

section
/-! PROOF. The two-wire target's transfers, the mailbox, the controller's round and the consoles' characters. -/

namespace Sys2Proof.Machine

/-! ### Transfers to the target that is free (R394 to R404) -/

section target
variable {s : State} (hfree : s.tgtFree = true)
include hfree

theorem State.tgtStatus_read (whole : Bool) : s.tgtStatus 1 whole =
    if whole then ((s.emit (.bytes "TGT" (s.statusBlock.map BitVec.toNat))).updBus (fun b => { b with changed := false })).alertCheck
    else s.emit (.bytes "TGT" (s.statusBlock.map BitVec.toNat)) := by
  simp only [State.tgtStatus, hfree, Bool.not_true, Bool.false_eq_true, if_false, if_true]

theorem State.tgtSetMode_accepted {d : Nat} {pec : Option Nat} (hd : d < 2) (hpec : s.pecOk [3, d] pec = true) : s.tgtSetMode d pec = s.wr R.MGMT_TGT_CFG.MODE d := by
  simp only [State.tgtSetMode, hfree, decide_eq_false (Nat.not_le.mpr hd), Bool.not_true, Bool.or_false, Bool.false_eq_true, if_false, hpec, if_true]

theorem State.mboxWrite_accepted (hbusy : s.mboxBusy = false) (wake : State → State) (n : Nat) (l : List Byte) (pec : Option Nat) :
    s.mboxWrite wake n l pec = s.mboxAccept wake n l pec := by
  simp only [State.mboxWrite, hfree, hbusy, Bool.not_true, Bool.not_false, Bool.false_eq_true, if_false, if_true]

/-- The staged reply is gone, and with it what it showed. -/
def State.replyDropped (s : State) : State := ((s.updBus (fun b => { b with reply := none })).wr R.MGMT_TGT_STATUS.REPLY_READY 0).alertCheck

theorem State.mboxPop_live {l : List Byte} {pec : Option Nat} (hreply : s.bus.reply = some l) (hpec : s.pecOk [0x12] pec = true) (hlive : s.replyDropped.mboxLive = true) :
    s.mboxPop pec = s.replyDropped.popHead := by
  have hgo : ¬ ((!s.tgtFree || s.bus.reply.isNone) = true) := by simp [hfree, hreply]
  have hok : ¬ ((!s.pecOk [0x12] pec) = true) := by simp [hpec]
  rw [State.mboxPop, if_neg hgo, if_neg hok]
  exact if_pos hlive

end target

/-! ### The target's timeouts (R398, R399) -/

theorem State.stretchTimeout_due {s : State} {x : Stretch} (hx : s.bus.stretch = some x) (hdue : s.due (x.since + 10000000) = true) : s.stretchTimeout = s.stretchEnd.busyNack := by
  simp only [State.stretchTimeout, hx, hdue, if_true]

theorem State.tgtTimeout_free {s : State} (hans : s.bus.answers = true) (hfree : s.bus.stretch.isSome = false) :
    s.tgtTimeout = (s.flag R.MGMT_TGT_EVENT.TIMEOUT R.MGMT_TGT_TMO_CNT.COUNT).report Src.mgmtTgt Cls.ce Cause.timeout := by
  simp only [State.tgtTimeout, hans, hfree, Bool.not_true, Bool.false_eq_true, if_false]

/-! ### The mailbox engine (R401, R402) -/

theorem State.mailboxMove_moves {s t : State} {e : List Byte} (hstage : s.bus.stage = some e) (hlive : s.mboxLive = true) (hqp : s.qpState mgmtQp = qpLive)
    (hroom : s.sqWait mgmtQp < 15) (hwrite : s.cacheWrite mailboxEngine (s.sqBase mgmtQp + s.rd R.TCI_QP_PTR.SQ_TAIL mgmtQp * 64) e = (t, true)) (wake : State → State) :
    s.mailboxMove wake = (((t.sqRing mgmtQp ((s.rd R.TCI_QP_PTR.SQ_TAIL mgmtQp + 1) % t.sqDepth mgmtQp)).updBus (fun b => { b with stage := none })).wr
      R.MGMT_TGT_STATUS.STAGE_FULL 0).stretchGo wake := by
  have hgo : ¬ ((!s.mboxLive || s.qpState mgmtQp != qpLive || decide (15 ≤ s.sqWait mgmtQp)) = true) := by simp [hlive, hqp, hroom]
  simp only [State.mailboxMove, hstage, if_neg hgo, hwrite]

theorem State.mailboxReply_stages {s t : State} {l : List Byte} (hreply : s.bus.reply = none) (hlive : s.mboxLive = true) (hwait : s.repliesWaiting ≠ 0)
    (hread : s.cacheRead mailboxEngine (s.rqBase mgmtQp + s.rd R.TCI_QP_PTR.RQ_HEAD mgmtQp * 32) 32 = (t, some (l, false))) :
    s.mailboxReply = ((t.updBus (fun b => { b with reply := some l })).wr R.MGMT_TGT_STATUS.REPLY_READY 1).alertSet.countReplies := by
  have hgo : ¬ ((s.bus.reply.isSome || !s.mboxLive || s.repliesWaiting == 0) = true) := by simp [hreply, hlive, hwait]
  simp only [State.mailboxReply, if_neg hgo, hread]

/-! ### The controller's round (R406) -/

/-- The entries' attempts of a round. -/
def State.roundTried (s : State) (tries : List (Nat × CtlTry)) : State :=
  s.roundEntries.foldl (fun (x : State) i => x.ctlAttempt tries i) (s.wr R.MGMT_CTL_STATUS.LATE (b2n (decide (10 ≤ s.epoch % 1000000))))

theorem State.controllerRound_polls {s : State} (hrun : s.pwr.pstate = .flight ∨ s.pwr.pstate = .glide) (hen : s.rd R.MGMT_CTL_CFG.ENABLE ≠ 0)
    (hms : s.epoch / 1000000 ≠ s.bus.roundMs) {tries : List (Nat × CtlTry)} {i : Nat} (hi : (s.roundTried tries).nextSensor = some i) (mw : Nat) :
    s.controllerRound tries mw =
      ((s.roundTried tries).updBus (fun b => { b with round := b.round + 1, roundMs := s.epoch / 1000000, sensor := i })).vrUpdate mw := by
  have hgo : ¬ ((!(s.pwr.pstate == .flight || s.pwr.pstate == .glide) || s.rd R.MGMT_CTL_CFG.ENABLE == 0 || s.epoch / 1000000 == s.bus.roundMs) = true) := by
    obtain hp | hp := hrun <;> simp [hp, hen, hms]
  rw [State.roundTried] at hi ⊢
  simp only [State.controllerRound, if_neg hgo, hi]

/-! ### A byte sent (R411) -/

theorem State.uartSent_line {s : State} {n b : Nat} (hline : (s.uart n).line = some b) :
    s.uartSent n = ((((s.setUart n { s.uart n with line := none }).drive (.bytes (if n = 0 then "UART0" else "UART1") [b])).uartStart n).uartDone n) := by
  simp only [State.uartSent, hline]

/-- Settles O38: each row is its rule's effect on the state whose status has been sampled. -/
theorem twoWireAndConsoleEventsComplete : Obligations.TwoWireAndConsoleEventsComplete := by
  rintro s _ rfl
  refine ⟨fun hfree => ⟨?status, fin_effect (if_pos hfree), fun d pec hd hpec => fin_effect (State.tgtSetMode_accepted hfree hd hpec),
      fun n l pec hbusy => fin_effect (State.mboxWrite_accepted hfree hbusy _ n l pec), ?read, ?pop, fun halert => fin_effect (if_pos ⟨hfree, halert, rfl⟩)⟩,
    fun x hx hdue => fin_effect (State.stretchTimeout_due hx (State.due_of_le hdue)), fun hans hstr => fin_effect (State.tgtTimeout_free hans hstr), ?move, ?reply, ?round, ?uart⟩
  case status =>
    rintro _ rfl
    exact ⟨fin_effect (State.tgtStatus_read hfree true), fin_effect (State.tgtStatus_read hfree false)⟩
  case read => exact fun l hl => fin_effect ((if_pos hfree).trans (by rw [hl]))
  case pop =>
    rintro l pec hl hpec _ rfl hlive
    exact fin_effect (State.mboxPop_live hfree hl hpec hlive)
  case move =>
    rintro e t hc hstage hlive hqp hroom hwrite _ rfl
    exact fin_effect ((if_pos hc).trans (State.mailboxMove_moves hstage hlive hqp hroom hwrite _))
  case reply => exact fun l t hc hreply hlive hwait hread => fin_effect ((if_pos hc).trans (State.mailboxReply_stages hreply hlive hwait hread))
  case round =>
    rintro tries mw hrun hen hms _ rfl i hi
    exact fin_effect (State.controllerRound_polls hrun hen hms hi mw)
  case uart =>
    intro n smp hn hon
    refine ⟨fun b hbyte hroom => fin_effect (State.uartRx_byte hn hon hbyte hroom), fun hframe => fin_effect (State.uartRx_framing hn hon hframe), ?_⟩
    rintro b hline _ rfl
    exact fin_effect ((if_pos ⟨hn, hon⟩).trans (State.uartSent_line hline))

end Sys2Proof.Machine
end

section
/-! PROOF. Canonical form (strictly rising keys of registers, memory and poison marks) is kept: what writes the three tables, and how a proof
follows the shape of an operation (a branch, a pair, a fold, an optional answer). The sections after this one hold one lemma per operation of
the model, which cites those of the operations it is made of. -/

namespace Sys2Proof.Machine
namespace State
variable {s : State}

/-- Only the registers, memory and the poison marks matter: an operation that leaves all three keeps the form. -/
theorem Canon.of_data {t : State} (h : s.Canon) (hcsr : t.csr = s.csr) (hmem : t.mem = s.mem) (hpoison : t.poison = s.poison) : t.Canon :=
  ⟨hcsr ▸ h.csr, hmem ▸ h.mem, hpoison ▸ h.poison⟩

theorem Canon.ite {t : State} {c : Prop} [Decidable c] (h : s.Canon) (ht : t.Canon) : (if c then s else t).Canon := by
  split
  · exact h
  · exact ht

theorem Canon.ite_fst {α : Type} {p q : State × α} {c : Prop} [Decidable c] (h : p.1.Canon) (hq : q.1.Canon) : (if c then p else q).1.Canon := by
  split
  · exact h
  · exact hq

theorem Canon.of_pair {α : Type} {p : State × α} {t : State} {x : α} (h : p.1.Canon) (hp : p = (t, x)) : t.Canon := by
  subst hp
  exact h

theorem Canon.pair {α : Type} {x : α} (h : s.Canon) : (s, x).1.Canon := h

theorem Canon.foldl {α : Type} {f : State → α → State} {l : List α} (h : s.Canon) (hf : ∀ {t : State} {x}, t.Canon → (f t x).Canon) :
    (l.foldl f s).Canon := by
  induction l generalizing s with
  | nil => exact h
  | cons x r ih => exact ih (hf h)

theorem Canon.foldl_fst {α β : Type} {f : State × β → α → State × β} {l : List α} {p : State × β}
    (h : p.1.Canon) (hf : ∀ {q : State × β} {x}, q.1.Canon → (f q x).1.Canon) :
    (l.foldl f p).1.Canon := by
  induction l generalizing p with
  | nil => exact h
  | cons x r ih => exact ih (hf h)

theorem Canon.csrPut {a v} (h : s.Canon) : (s.csrPut a v).Canon := ⟨State.csrPut_csr_wf h.csr a v, h.mem, h.poison⟩

theorem Canon.store {a l} (h : s.Canon) : (s.store a l).Canon := ⟨h.csr, Memory.wf_memPut h.mem a l, h.poison⟩

theorem setWf_sinsert {l : List Nat} (h : setWf l = true) (k : Nat) : setWf (sinsert l k) = true := by
  rw [setWf_iff] at h ⊢
  induction l with
  | nil => exact List.pairwise_singleton ..
  | cons a r ih =>
    obtain ⟨ha, hr⟩ := List.pairwise_cons.mp h
    have hmem (b : Nat) (hb : b ∈ sinsert r k) : b = k ∨ b ∈ r := mem_sinsert.mp hb
    by_cases hak : a = k
    · simpa only [sinsert, if_pos hak] using h
    · by_cases hka : k < a
      · rw [sinsert, if_neg hak, if_pos hka, List.pairwise_cons]
        refine ⟨fun b hb => ?_, h⟩
        obtain rfl | hb := List.mem_cons.mp hb
        · exact hka
        · exact Nat.lt_trans hka (ha b hb)
      · rw [sinsert, if_neg hak, if_neg hka, List.pairwise_cons]
        refine ⟨fun b hb => ?_, ih hr⟩
        obtain rfl | hb := hmem b hb
        · omega
        · exact ha b hb

theorem Canon.setPoison {a p} (h : s.Canon) : (s.setPoison a p).Canon := by
  refine ⟨h.csr, h.mem, ?_⟩
  cases p
  · exact setWf_filter h.poison _
  · exact setWf_sinsert h.poison a

theorem Canon.resetRegs {keep} (h : s.Canon) : (s.resetRegs keep).Canon := ⟨Tab.wf_filter h.csr _, h.mem, h.poison⟩

theorem Canon.forget {lo hi} (h : s.Canon) : (s.forget lo hi).Canon := ⟨h.csr, Memory.wf_filter h.mem _, setWf_filter h.poison _⟩

/-- An operation that may answer nothing: what it answers holds a state in canonical form, which `get` takes out. -/
structure CanonOf {β : Type} (get : β → State) (o : Option β) : Prop where
  of_eq : ∀ {b}, o = some b → (get b).Canon

theorem CanonOf.none {β : Type} {get : β → State} : CanonOf get none := ⟨fun hb => nomatch hb⟩

theorem CanonOf.some {β : Type} {get : β → State} {b : β} (h : (get b).Canon) : CanonOf get (some b) := ⟨fun hb => Option.some.inj hb ▸ h⟩

theorem CanonOf.ite {β : Type} {get : β → State} {o o' : Option β} {c : Prop} [Decidable c] (h : CanonOf get o) (h' : CanonOf get o') :
    CanonOf get (if c then o else o') := by
  split
  · exact h
  · exact h'

theorem CanonOf.bind {β γ : Type} {get : β → State} {get' : γ → State} {o : Option β} {f : β → Option γ}
    (h : CanonOf get o) (hf : ∀ {b}, (get b).Canon → CanonOf get' (f b)) :
    CanonOf get' (o.bind f) := by
  cases o with
  | none => exact .none
  | some b => exact hf (h.of_eq rfl)

theorem CanonOf.map {β γ : Type} {get : β → State} {get' : γ → State} {o : Option β} {f : β → γ}
    (h : CanonOf get o) (hf : ∀ {b}, (get b).Canon → (get' (f b)).Canon) :
    CanonOf get' (o.map f) := by
  cases o with
  | none => exact .none
  | some b => exact .some (hf (h.of_eq rfl))

theorem CanonOf.or {β : Type} {get : β → State} {o o' : Option β} (h : CanonOf get o) (h' : CanonOf get o') : CanonOf get (o.or o') := by
  cases o with
  | none => exact h'
  | some b => exact h

/-- A step's outcome: the next state, where it answers one, is in canonical form. -/
structure NextCanon (o : Host.Outcome State Fault Refusal) : Prop where
  canon : ∀ {t}, o = .next t → t.Canon

end State
end Sys2Proof.Machine
end

section
/-! PROOF. Canonical form is kept by the operations of the registers, Watch, Jess, the CSR space and single lines. -/

namespace Sys2Proof.Machine
namespace State
variable {s : State}

theorem Canon.wr {f v i j k} (h : s.Canon) : (s.wr f v i j k).Canon := h.csrPut

theorem Canon.bump {f n i j k} (h : s.Canon) : (s.bump f n i j k).Canon := h.wr

theorem Canon.flag {f cnt i j k} (h : s.Canon) : (s.flag f cnt i j k).Canon := h.wr.bump

theorem Canon.emit {o} (h : s.Canon) : (s.emit o).Canon := ⟨h.csr, h.mem, h.poison⟩

theorem Canon.emits {l} (h : s.Canon) : (s.emits l).Canon := ⟨h.csr, h.mem, h.poison⟩

theorem Canon.errTo {m} (h : s.Canon) : (s.errTo m).Canon := h.emit

theorem Canon.draw (h : s.Canon) : s.draw.Canon := ⟨h.csr, h.mem, h.poison⟩

theorem Canon.raiseAt {c f id} (h : s.Canon) : (s.raiseAt c f id).Canon := .ite h (.of_data (.ite h.wr h) rfl rfl rfl)

theorem Canon.raiseWarden {id} (h : s.Canon) : (s.raiseWarden id).Canon := h.foldl (fun h' => .ite h'.raiseAt h')

theorem Canon.raiseTenant {mask vector} (h : s.Canon) : (s.raiseTenant mask vector).Canon := by
  unfold State.raiseTenant
  refine .ite h ?_
  split
  · exact h.raiseAt
  · exact ⟨h.csr, h.mem, h.poison⟩

theorem Canon.updTime {f} (h : s.Canon) : (s.updTime f).Canon := ⟨h.csr, h.mem, h.poison⟩

theorem Canon.updWatch {f} (h : s.Canon) : (s.updWatch f).Canon := ⟨h.csr, h.mem, h.poison⟩

theorem Canon.updTci {f} (h : s.Canon) : (s.updTci f).Canon := ⟨h.csr, h.mem, h.poison⟩

theorem Canon.updSes {f} (h : s.Canon) : (s.updSes f).Canon := ⟨h.csr, h.mem, h.poison⟩

theorem Canon.updJess {f} (h : s.Canon) : (s.updJess f).Canon := ⟨h.csr, h.mem, h.poison⟩

theorem Canon.updKtl {f} (h : s.Canon) : (s.updKtl f).Canon := ⟨h.csr, h.mem, h.poison⟩

theorem Canon.updMews {f} (h : s.Canon) : (s.updMews f).Canon := ⟨h.csr, h.mem, h.poison⟩

theorem Canon.updPwr {f} (h : s.Canon) : (s.updPwr f).Canon := ⟨h.csr, h.mem, h.poison⟩

theorem Canon.updTop {f} (h : s.Canon) : (s.updTop f).Canon := ⟨h.csr, h.mem, h.poison⟩

theorem Canon.updHbm {f} (h : s.Canon) : (s.updHbm f).Canon := ⟨h.csr, h.mem, h.poison⟩

theorem Canon.updRoost {f} (h : s.Canon) : (s.updRoost f).Canon := ⟨h.csr, h.mem, h.poison⟩

theorem Canon.updCrypt {f} (h : s.Canon) : (s.updCrypt f).Canon := ⟨h.csr, h.mem, h.poison⟩

theorem Canon.updBoot {f} (h : s.Canon) : (s.updBoot f).Canon := ⟨h.csr, h.mem, h.poison⟩

theorem Canon.wlog {src cls ovr conseq kind code link detail} (h : s.Canon) : (s.wlog src cls ovr conseq kind code link detail).Canon :=
  h.wr.wr.wr

theorem Canon.endLadder {l n} (h : s.Canon) : (s.endLadder l n).Canon := .ite h.wr.updWatch h

theorem Canon.resolveLadders {p} (h : s.Canon) : (s.resolveLadders p).Canon := h.foldl (fun h' => .ite h'.endLadder h')

theorem Canon.act {a} (h : s.Canon) : (s.act a).Canon := h.updWatch

theorem Canon.logStep {src cls step link unit} (h : s.Canon) : (s.logStep src cls step link unit).Canon := h.flag.wlog.raiseWarden

theorem Canon.quarantineUnit {u} (h : s.Canon) : (s.quarantineUnit u).Canon := .ite h.wr.act h

theorem Canon.startUnitReset {u by_ link} (h : s.Canon) : (s.startUnitReset u by_ link).Canon :=
  h.resolveLadders.wr.wr.wr.wr.updWatch.act

theorem Canon.startWarm {origin link} (h : s.Canon) : (s.startWarm origin link).Canon := by
  unfold State.startWarm
  extract_lets s1 s2 arm s3 s4
  have hs1 : s1.Canon := h.resolveLadders
  have hs2 : s2.Canon := hs1.foldl (fun h' => .ite h' h'.wr)
  have hs3 : s3.Canon := hs2.updWatch
  have hs4 : s4.Canon := .ite hs3.wr hs3
  exact hs4.wr.act

theorem Canon.trayAlarm (h : s.Canon) : s.trayAlarm.Canon := h.wr.flag.emit

theorem Canon.performStep {n k} (h : s.Canon) : (s.performStep n k).Canon := by
  unfold State.performStep
  extract_lets ru cls seq s1 s2
  have hs1 : s1.Canon := h.logStep
  have hs2 : s2.Canon := hs1.wr.updWatch
  exact .ite hs2.quarantineUnit (.ite hs2.startUnitReset (.ite hs2.startWarm (.ite hs2.trayAlarm hs2)))

theorem Canon.takeStep {n k} (h : s.Canon) : (s.takeStep n k).Canon := .ite h.updWatch h.performStep

theorem Canon.ladderEvent {n cls seq force} (h : s.Canon) : (s.ladderEvent n cls seq force).Canon := by
  unfold State.ladderEvent
  split
  · extract_lets s1
    have hs1 : s1.Canon := .ite h.updWatch h
    split
    · exact hs1.performStep
    · exact hs1
  · extract_lets s1 s2 s3
    have hs1 : s1.Canon := h.wr.wr.wr
    have hs2 : s2.Canon := hs1.updWatch
    have hs3 : s3.Canon := hs2.flag
    split
    · exact hs3.performStep
    · exact hs3.takeStep

theorem Canon.consequent {e cls ovr x} (h : s.Canon) : (s.consequent e cls ovr x).Canon := by
  unfold State.consequent
  extract_lets s1 s2 s3
  have hs1 : s1.Canon := h.wr.wr
  have hs2 : s2.Canon := .ite hs1.wr hs1
  have hs3 : s3.Canon := .ite hs2.bump hs2
  exact .ite hs3.wlog.updWatch hs3

theorem Canon.seriousEvent {e cls ovr force} (h : s.Canon) : (s.seriousEvent e cls ovr force).Canon :=
  h.wr.wr.wr.bump.wr.wlog.ladderEvent

theorem Canon.ceCount {e ovr} (h : s.Canon) : (s.ceCount e ovr).Canon := .ite h.wr.wr.bump.wlog h.wr.wr.bump

theorem Canon.ceRoll (h : s.Canon) : s.ceRoll.Canon := .ite h h.updWatch

theorem Canon.ceEvent {e ovr} (h : s.Canon) : (s.ceEvent e ovr).Canon :=
  .ite (.ite h.ceCount.ceRoll.updWatch.ceCount h.ceCount.ceRoll.updWatch.seriousEvent) h.ceCount.ceRoll.updWatch

theorem Canon.reportAt {e force} (h : s.Canon) : (s.reportAt e force).Canon := by
  unfold State.reportAt
  refine .ite h (.ite (.ite h.bump h.bump) ?_)
  split
  · exact h.consequent
  · exact .ite h.ceEvent h.seriousEvent

theorem Canon.report {src cls cause detail} (h : s.Canon) : (s.report src cls cause detail).Canon := h.reportAt

theorem Canon.takeWarmFor {unit} (h : s.Canon) : (s.takeWarmFor unit).Canon := .ite h.logStep.startWarm h.logStep.trayAlarm

theorem Canon.requestReset {u by_} (h : s.Canon) : (s.requestReset u by_).Canon := by
  unfold State.requestReset
  split
  · exact h
  · exact h
  · exact h.logStep.startUnitReset
  · exact h.takeWarmFor
  · exact h.takeWarmFor

theorem Canon.unitLeaves {u} (h : s.Canon) : (s.unitLeaves u).Canon := h.wr.wlog.updWatch.act

theorem Canon.unitOverdue {u} (h : s.Canon) : (s.unitOverdue u).Canon := by
  unfold State.unitOverdue
  extract_lets by_ s1 s2
  have hs2 : s2.Canon := h.wr.wlog.updWatch
  clear_value by_
  split
  · exact .ite hs2.performStep hs2.reportAt
  · exact hs2.reportAt

theorem Canon.jessRefuse {k m kind f} (h : s.Canon) : (s.jessRefuse k m kind f).Canon :=
  .report (.ite h.wr.wr.wr.wr.flag.flag h.wr.wr.wr.wr.flag)

theorem Canon.jessCommit {n} (h : s.Canon) : (s.jessCommit n).Canon := .ite h.wr.wr.wr.wr.wr.updJess h.wr.flag

theorem Canon.jessSyncGo (h : s.Canon) : s.jessSyncGo.Canon := by
  unfold State.jessSyncGo
  exact h.wr.updJess

theorem Canon.jessReload {k} (h : s.Canon) : (s.jessReload k).Canon := by
  unfold State.jessReload
  exact h.updJess

theorem Canon.jessMustReload {k} (h : s.Canon) : (s.jessMustReload k).Canon := h.updJess

theorem Canon.csrGate {a kind m size sub plain} (h : s.Canon) : CanonOf id (s.csrGate a kind m size sub plain) := by
  unfold State.csrGate
  refine .ite (.some h.errTo) (.ite (.some h.errTo) (.ite (.some h.report.errTo) ?_))
  split
  · exact .some h.jessRefuse.errTo
  · split
    · exact .ite (.some h.errTo) .none
    · exact .none

theorem Canon.csrWrite {a w f} (h : s.Canon) (hf : ∀ {t : State}, t.Canon → (f t).Canon) : (s.csrWrite a w f).Canon := by
  unfold State.csrWrite
  split
  next hq => exact h.csrGate.of_eq hq
  · exact (hf h).emit

theorem Canon.csrWriteF {a w f} (h : s.Canon) (hf : ∀ {t : State}, t.Canon → (f t).Canon) : (s.csrWriteF a w f).Canon := by
  unfold State.csrWriteF
  split
  next hq => exact h.csrGate.of_eq hq
  · exact .ite (hf h).emit h.errTo

theorem Canon.decodeGate {src m a n} (h : s.Canon) : CanonOf id (s.decodeGate src m a n) :=
  .ite (.some h.report.errTo) (.ite (.some h.report.errTo) .none)

theorem Canon.putRec {sec r} (h : s.Canon) : (s.putRec sec r).Canon := h.updCrypt

theorem Canon.putAt {a key l poison} (h : s.Canon) : (s.putAt a key l poison).Canon := by
  unfold State.putAt
  extract_lets s1
  have hs1 : s1.Canon := ⟨h.csr, h.mem, h.poison⟩
  split
  · exact hs1.putRec.putRec
  · exact hs1.store.setPoison

theorem Canon.putLine {a l poison} (h : s.Canon) : (s.putLine a l poison).Canon := h.putAt

theorem Canon.putData {mode a l poison} (h : s.Canon) : (s.putData mode a l poison).Canon := h.putLine

theorem Canon.decay {l} (h : s.Canon) : (s.decay l).Canon := h.foldl (fun h' => ⟨h'.csr, h'.mem, h'.poison⟩)

theorem Canon.dropLine {a} (h : s.Canon) : (s.dropLine a).Canon := h.updMews

theorem Canon.breakResv {a keep} (h : s.Canon) : (s.breakResv a keep).Canon := h.updMews

theorem Canon.overlapAt {m kind a} (h : s.Canon) : (s.overlapAt m kind a).Canon := by
  unfold State.overlapAt
  extract_lets k
  split
  · exact h.jessRefuse
  · exact h

end State
end Sys2Proof.Machine
end

section
/-! PROOF. Canonical form is kept by the operations of the HBM and Roost controllers. -/

namespace Sys2Proof.Machine
namespace State
variable {s : State}

theorem Canon.setHq {st p q} (h : s.Canon) : (s.setHq st p q).Canon := h.updHbm

theorem Canon.hqDone {st p old q} (h : s.Canon) : (s.hqDone st p old q).Canon := by
  unfold State.hqDone
  refine .setHq ?_
  split
  · exact .bump (.ite (.ite h h.bump) (.bump (.ite h h.bump)))
  · exact .ite (.ite h h.bump) (.bump (.ite h h.bump))

theorem Canon.hqStep {st p f} (h : s.Canon) : (s.hqStep st p f).Canon := h.hqDone

theorem Canon.hbmReq {r mode quiet} (h : s.Canon) : (s.hbmReq r mode quiet).1.Canon := .pair h.updHbm

theorem Canon.spareRow {st p bank row origin} (h : s.Canon) : (s.spareRow st p bank row origin).Canon := by
  unfold State.spareRow
  split
  · exact h
  · split
    · exact h.flag.report
    · exact h.wr.wr.wr.wr.wr.bump.wr

theorem Canon.trackRow {st p x n ue} (h : s.Canon) : (s.trackRow st p x n ue).Canon := .ite h.setHq.spareRow h.setHq

theorem Canon.errAddr {st p l kind} (h : s.Canon) : (s.errAddr st p l kind).Canon := h.wr.wr

theorem Canon.hbmDecode {st p x w} (h : s.Canon) : (s.hbmDecode st p x w).1.Canon := by
  unfold State.hbmDecode
  extract_lets l errs at_ pois r s1 r1 s2
  have hs1 : s1.Canon := h.bump
  have hs2 : s2.Canon := h.flag.errAddr
  split
  · exact .ite_fst (.pair h) (.pair (.ite hs1 hs1.trackRow))
  · exact .pair h.flag.errAddr.wr.report.trackRow
  · exact .pair hs2.report.trackRow

theorem Canon.hbmEnter {st p x} (h : s.Canon) : (s.hbmEnter st p x).Canon := .ite h.hqDone h.setHq

theorem Canon.rewrite {st p x cls old a} (h : s.Canon) : (s.rewrite st p x cls old a).Canon := by
  unfold State.rewrite
  split
  · exact h
  · refine .ite h ?_
    split
    next hq => exact (h.hbmReq.of_pair hq).hbmEnter

theorem Canon.kiteRefuse {a} (h : s.Canon) : (s.kiteRefuse a).Canon := h.flag.wr.wr.report

theorem Canon.addRefused {a} (h : s.Canon) : (s.addRefused a).Canon := by
  unfold State.addRefused
  split
  · exact h.report
  · exact h.report
  · exact h.report
  · exact h

theorem Canon.addOutside {m a n} (h : s.Canon) : CanonOf id (s.addOutside m a n) := by
  unfold State.addOutside
  split
  · exact .none
  · exact .some h.addRefused
  · split
    · exact .some h.jessRefuse
    · exact .some h.addRefused

theorem Canon.answer {m a} (h : s.Canon) : (s.answer m a).Canon := by
  unfold State.answer
  split
  · exact h.emit
  · exact h.emit
  · exact h.emit
  · exact h.errTo

theorem Canon.answerRead {m l poison} (h : s.Canon) : (s.answerRead m l poison).Canon := h.answer

theorem Canon.complete {x r} (h : s.Canon) : (s.complete x r).Canon := .ite h h.answer

theorem Canon.refillRaw {mode a} (h : s.Canon) : (s.refillRaw mode a).Canon := .ite h h.updMews

theorem Canon.putReq {x l poison} (h : s.Canon) : (s.putReq x l poison).Canon := h.putAt.refillRaw

theorem Canon.hbmPerform {st p x w rmw} (h : s.Canon) : (s.hbmPerform st p x w rmw).1.Canon := by
  unfold State.hbmPerform
  refine .ite_fst (.pair (.ite h.putAt h)) ?_
  split
  · exact .pair h.hbmDecode.rewrite
  · exact .pair h.putReq
  · exact .pair h.putReq
  · exact .ite_fst (.pair h.kiteRefuse) (.pair h.hbmDecode.putReq.bump)

/-- A request's operation on the state of its queue keeps canonical form. -/
def KeepsCanon (f : State → Nat → Nat → QReq → State) : Prop := ∀ {s : State} {st p x}, s.Canon → (f s st p x).Canon

theorem Canon.hbmActivate {st p x} (h : s.Canon) : (s.hbmActivate st p x).Canon := by
  suffices hall : KeepsCanon State.hbmActivate from hall h
  delta State.hbmActivate
  obtain ⟨count, hbump⟩ : ∃ count, count = @State.bump := ⟨_, rfl⟩
  have hcount {t : State} {f n i j k} (ht : t.Canon) : (count t f n i j k).Canon := hbump ▸ ht.bump
  rw [← hbump]
  intro t st p x ht
  beta_reduce
  extract_lets t1
  have ht1 : t1.Canon := hcount ht
  split
  split
  extract_lets t2 t3
  have ht2 : t2.Canon := ht1.setHq
  have ht3 : t3.Canon := .ite (hcount ht2) ht2
  exact .ite ht3.flag ht3

theorem Canon.hbmBurst {st p x} (h : s.Canon) : (s.hbmBurst st p x).Canon :=
  .ite (.bump (.ite h.hbmActivate h)) (.bump (.ite h.hbmActivate h))

theorem Canon.hbmInner {st p x w} (h : s.Canon) : (s.hbmInner st p x w).Canon := h.hbmBurst.setHq.hbmDecode.setHq

theorem Canon.hbmIssueOne {st p x w} (h : s.Canon) : (s.hbmIssueOne st p x w).1.Canon := h.hbmBurst.bump.hqDone.hbmPerform

theorem Canon.hbmSlot {st p notReady w} (h : s.Canon) : (s.hbmSlot st p notReady w).1.Canon := by
  unfold State.hbmSlot
  extract_lets g v q s1
  have hs1 : s1.Canon := .ite h.bump h
  split
  · exact .ite_fst (.pair h.hbmInner) (.pair h.hbmIssueOne)
  · exact .pair hs1.hqDone

theorem Canon.hbmIssue {st p notReady w} (h : s.Canon) : (s.hbmIssue st p notReady w).Canon := by
  unfold State.hbmIssue
  refine .ite h ?_
  split
  next hq => exact (h.hbmSlot.of_pair hq).complete
  next hq => exact h.hbmSlot.of_pair hq

theorem Canon.hbmUntil {st p id n} (h : s.Canon) : (s.hbmUntil st p id n).1.Canon := by
  induction n generalizing s with
  | zero =>
    unfold State.hbmUntil
    split
    · exact h
    · exact Canon.hbmIssueOne (.hqStep (.ite h.hbmInner h))
  | succ n ih =>
    unfold State.hbmUntil
    split
    next hs => exact ih (h.hbmSlot.of_pair hs)
    next hs => exact .ite_fst (h.hbmSlot.of_pair hs) (ih (h.hbmSlot.of_pair hs).complete)

theorem Canon.hbmServe {r mode} (h : s.Canon) : (s.hbmServe r mode).1.Canon := by
  unfold State.hbmServe
  split
  next hq =>
    extract_lets st p s2
    have hs2 : s2.Canon := (h.hbmReq.of_pair hq).hbmEnter
    exact .ite_fst (.pair hs2) hs2.hbmUntil

theorem Canon.hbmSettleLine {st p key n} (h : s.Canon) : (s.hbmSettleLine st p key n).Canon := by
  induction n generalizing s with
  | zero => exact h
  | succ n ih =>
    unfold State.hbmSettleLine
    refine .ite ?_ h
    split
    next hs => exact ih (h.hbmSlot.of_pair hs).complete
    next hs => exact ih (h.hbmSlot.of_pair hs)

theorem Canon.hbmDrain {st p n} (h : s.Canon) : (State.hbmDrain st p n s).Canon := by
  induction n generalizing s with
  | zero => exact h
  | succ n ih =>
    unfold State.hbmDrain
    refine .ite h ?_
    split
    next hs => exact ih (h.hbmSlot.of_pair hs).complete
    next hs => exact ih (h.hbmSlot.of_pair hs)

theorem Canon.unknownWrite {x w} (h : s.Canon) : (s.unknownWrite x w).Canon := by
  unfold State.unknownWrite
  refine .ite (.ite h.putAt ?_) h
  extract_lets old
  split
  · exact h.putReq
  · exact h.putReq
  · exact h.putReq
  · exact h

theorem Canon.hbmGiveUp {st p x} (h : s.Canon) : (s.hbmGiveUp st p x).Canon :=
  .ite h.hqStep.flag.errAddr.report.unknownWrite.draw.complete h.hqStep.flag.errAddr.report.complete

theorem Canon.hbmParity {st p id} (h : s.Canon) : (s.hbmParity st p id).Canon := by
  unfold State.hbmParity
  extract_lets q n
  split
  · exact h
  · exact .ite h (.ite h.hbmGiveUp h.setHq.flag)

theorem Canon.flushOrd {mode a early} (h : s.Canon) : (s.flushOrd mode a early).Canon := by
  unfold State.flushOrd
  split
  · exact h
  · extract_lets st p s1
    have hs1 : s1.Canon := h.hbmSettleLine
    split
    next hq1 =>
      extract_lets s3
      have hs3 : s3.Canon := .ite (hs1.hbmReq.of_pair hq1).hbmActivate (hs1.hbmReq.of_pair hq1)
      split
      next hq2 =>
        extract_lets po old s5 s6
        have hs5 : s5.Canon := (hs3.hbmDecode.of_pair hq2).putReq.bump
        have hs6 : s6.Canon := hs5.updHbm
        exact .ite hs6.flag.wr.wr hs6

theorem Canon.ordAdd {op a src l poison} (h : s.Canon) : (s.ordAdd op a src l poison).1.Canon := by
  unfold State.ordAdd
  extract_lets st used put
  split
  · exact .pair h.updHbm.bump
  · exact .ite_fst (.pair h.updHbm.bump) (.pair h)

theorem Canon.flushStack {st} (h : s.Canon) : (s.flushStack st).Canon := h.foldl (fun h' => .ite h'.flushOrd h')

theorem Canon.hbmLoad {m mode a cls} (h : s.Canon) : (s.hbmLoad m mode a cls).1.Canon := by
  unfold State.hbmLoad
  split
  next hq => exact .pair (h.flushOrd.hbmServe.of_pair hq)
  next hq => exact .pair (h.flushOrd.hbmServe.of_pair hq)

theorem Canon.hbmStore {m mode a cls op l mask poison} (h : s.Canon) : (s.hbmStore m mode a cls op l mask poison).1.Canon := by
  unfold State.hbmStore
  split
  next hq => exact .pair (h.flushOrd.hbmServe.of_pair hq)
  next hq => exact .pair (h.flushOrd.hbmServe.of_pair hq)

theorem Canon.spareCopied {st p e} (h : s.Canon) : (s.spareCopied st p e).Canon := by
  unfold State.spareCopied
  refine .ite h (.wr (.wr (h.foldl (fun h' => ?_))))
  extract_lets a
  split
  next hq =>
    split
    next hq1 =>
      split
      · exact ((h'.hbmReq.of_pair hq).bump.hbmDecode.of_pair hq1).putAt
      · exact (h'.hbmReq.of_pair hq).bump.hbmDecode.of_pair hq1

theorem Canon.keepSlots {st} (h : s.Canon) : (s.keepSlots st).Canon := h.foldl (fun h' => h'.bump)

theorem Canon.hbmSelfRefresh {st} (h : s.Canon) : (s.hbmSelfRefresh st).Canon := by
  unfold State.hbmSelfRefresh
  refine .ite h ?_
  extract_lets s1 s2 s3
  have hs1 : s1.Canon := h.flushStack
  have hs2 : s2.Canon := hs1.foldl (fun h' => .setHq (.hbmDrain (.setHq (h'.foldl (fun h'' => h''.spareCopied)))))
  have hs3 : s3.Canon := hs2.foldl (fun h' => h'.wr)
  exact hs3.keepSlots.wr

theorem Canon.hbmWake {st} (h : s.Canon) : (s.hbmWake st).Canon := .ite h (h.wr.updHbm.foldl (fun h' => .ite h'.wr h'.wr.hqDone))

theorem Canon.showSpares {st} (h : s.Canon) : (s.showSpares st).Canon := h.foldl (fun h' => h'.wr)

theorem Canon.hbmBlockReset {st} (h : s.Canon) : (s.hbmBlockReset st).Canon := by
  unfold State.hbmBlockReset
  refine h.flushStack.foldl (fun h' => ?_)
  split
  · exact h'
  · exact h'.emits.hqDone

theorem Canon.hbmPoll {st t} (h : s.Canon) : (s.hbmPoll st t).Canon := by
  unfold State.hbmPoll
  refine .ite h.flag.wr.wr.report ?_
  extract_lets c stop thr hyst duty s1 s2 s3 n s4
  have hs1 : s1.Canon := h.wr.wr
  have hs2 : s2.Canon := hs1.wr
  have hs3 : s3.Canon := hs2.flag.wr
  have hs4 : s4.Canon := hs2.wr
  exact .ite (.ite hs2.wr.wr.hbmWake (.ite hs2.flag.report hs2)) (.ite hs3.report.hbmSelfRefresh (.ite (.ite hs4.flag hs4) (.ite hs2.wr hs2)))

theorem Canon.setRq {ch sub q} (h : s.Canon) : (s.setRq ch sub q).Canon := h.updRoost

theorem Canon.setFrame {f v} (h : s.Canon) : (s.setFrame f v).Canon := h.updRoost.store

theorem Canon.allocFrame (h : s.Canon) : CanonOf Prod.fst s.allocFrame := .ite .none (.some (.pair h.setFrame.updRoost))

theorem Canon.freeFrame {f} (h : s.Canon) : (s.freeFrame f).Canon := .ite h h.setFrame

theorem Canon.roostErr {a kind} (h : s.Canon) : (s.roostErr a kind).Canon := h.wr.wr.wr

theorem Canon.countFix {a dev} (h : s.Canon) : (s.countFix a dev).Canon := .ite h.updRoost.wr.wr.flag.report h.updRoost

theorem Canon.roostDecode {a w} (h : s.Canon) : (s.roostDecode a w).1.Canon := by
  unfold State.roostDecode
  refine .ite_fst (.pair h.roostErr) ?_
  split
  · exact .pair h
  · exact .pair h.flag.roostErr.wr.report.countFix
  · exact .pair h.flag.roostErr.updRoost.report

theorem Canon.roostReq {r mode quiet} (h : s.Canon) : (s.roostReq r mode quiet).1.Canon := .pair h.updRoost

theorem Canon.roostEnter {ch sub x} (h : s.Canon) : (s.roostEnter ch sub x).Canon := .ite h.setRq h.setRq

theorem Canon.roostRewrite {x old a} (h : s.Canon) : (s.roostRewrite x old a).Canon := by
  unfold State.roostRewrite
  split
  · exact h
  · refine .ite h ?_
    split
    next hq => exact (h.roostReq.of_pair hq).roostEnter

theorem Canon.roostPerform {x w rmw} (h : s.Canon) : (s.roostPerform x w rmw).1.Canon := by
  unfold State.roostPerform
  refine .ite_fst (.pair (.ite h.putLine h)) ?_
  split
  · exact .pair h.roostDecode.roostRewrite
  · exact .pair h.putReq
  · exact .pair h.putReq
  · exact .pair h

theorem Canon.roostActivate {ch sub x} (h : s.Canon) : (s.roostActivate ch sub x).Canon := .ite h.setRq.bump.flag h.setRq.bump

theorem Canon.roostBurst {ch sub x} (h : s.Canon) : (s.roostBurst ch sub x).Canon :=
  .ite (.bump (.ite h.roostActivate h)) (.bump (.ite h.roostActivate h))

theorem Canon.roostInner {ch sub x w} (h : s.Canon) : (s.roostInner ch sub x w).Canon := h.roostBurst.setRq.roostDecode.setRq

theorem Canon.roostIssueOne {ch sub x w} (h : s.Canon) : (s.roostIssueOne ch sub x w).1.Canon := h.roostBurst.setRq.roostPerform

theorem Canon.roostSlot {ch sub notReady w} (h : s.Canon) : (s.roostSlot ch sub notReady w).1.Canon := by
  unfold State.roostSlot
  extract_lets g q
  split
  · exact .ite_fst (.pair h.roostInner) (.pair h.roostIssueOne)
  · exact .pair h.setRq

theorem Canon.roostIssue {ch sub notReady w} (h : s.Canon) : (s.roostIssue ch sub notReady w).Canon := by
  unfold State.roostIssue
  refine .ite h ?_
  split
  next hq => exact (h.roostSlot.of_pair hq).complete
  next hq => exact h.roostSlot.of_pair hq

theorem Canon.roostUntil {ch sub id n} (h : s.Canon) : (s.roostUntil ch sub id n).1.Canon := by
  induction n generalizing s with
  | zero =>
    unfold State.roostUntil
    split
    · exact h
    · exact Canon.roostIssueOne (.setRq (.ite h.roostInner h))
  | succ n ih =>
    unfold State.roostUntil
    split
    next hs => exact ih (h.roostSlot.of_pair hs)
    next hs => exact .ite_fst (h.roostSlot.of_pair hs) (ih (h.roostSlot.of_pair hs).complete)

theorem Canon.roostServe {r mode} (h : s.Canon) : (s.roostServe r mode).1.Canon := by
  unfold State.roostServe
  split
  next hq =>
    extract_lets w s2
    have hs2 : s2.Canon := (h.roostReq.of_pair hq).roostEnter
    exact .ite_fst (.pair hs2) hs2.roostUntil

theorem Canon.roostLoad {m mode a cls} (h : s.Canon) : (s.roostLoad m mode a cls).1.Canon := by
  unfold State.roostLoad
  split
  next hq => exact .pair (h.roostServe.of_pair hq)
  next hq => exact .pair (h.roostServe.of_pair hq)

theorem Canon.roostStore {m mode a cls op l mask poison} (h : s.Canon) : (s.roostStore m mode a cls op l mask poison).Canon :=
  h.roostServe

theorem Canon.roostDrain {ch sub n} (h : s.Canon) : (State.roostDrain ch sub n s).Canon := by
  induction n generalizing s with
  | zero => exact h
  | succ n ih =>
    unfold State.roostDrain
    refine .ite h ?_
    split
    next hs => exact ih (h.roostSlot.of_pair hs).complete
    next hs => exact ih (h.roostSlot.of_pair hs)

theorem Canon.roostFail {ch sub ids} (h : s.Canon) : (s.roostFail ch sub ids).Canon := h.setRq.foldl (fun h' => h'.complete)

theorem Canon.roostCaParity {ch sub ids} (h : s.Canon) : (s.roostCaParity ch sub ids).Canon := by
  unfold State.roostCaParity
  extract_lets q
  split
  · exact h
  · exact .ite h.roostFail.flag.report h.setRq.flag

theorem Canon.roostWrCrc {ch sub id} (h : s.Canon) : (s.roostWrCrc ch sub id).Canon := by
  unfold State.roostWrCrc
  extract_lets q n s1
  have hs1 : s1.Canon := h.flag
  split
  · exact h
  · exact .ite hs1.roostFail.flag.report hs1.setRq

theorem Canon.roostSleep {ch} (h : s.Canon) : (s.roostSleep ch).Canon :=
  .ite h (.wr (h.foldl (fun h' => h'.setRq.roostDrain.setRq)))

theorem Canon.keepBursts (h : s.Canon) : s.keepBursts.Canon := .updRoost (h.foldl (fun h' => h'.bump))

theorem Canon.retrainResult {failed ch} (h : s.Canon) : (s.retrainResult failed ch).Canon := by
  unfold State.retrainResult
  extract_lets s1 s2
  have hs1 : s1.Canon := h.wr
  have hs2 : s2.Canon := .ite hs1 (hs1.foldl (fun h' => h'.setRq))
  exact .ite hs2 (.ite hs2.updRoost.flag hs2.updRoost)

theorem Canon.retrainCut {b} (h : s.Canon) : (s.retrainCut b).Canon := by
  unfold State.retrainCut
  split
  · exact h
  · refine .ite (.wr (.updRoost ?_)) (.updRoost ?_)
    · split
      · exact h.retrainResult
      · exact h
    · split
      · exact h.retrainResult
      · exact h

theorem Canon.roostSelfRefresh (h : s.Canon) : s.roostSelfRefresh.Canon :=
  .foldl (h.retrainCut.retrainCut.keepBursts.foldl (fun h' => h'.roostSleep)) (fun h' => .ite h'.wr h')

theorem Canon.bridgeBack {b} (h : s.Canon) : (s.bridgeBack b).Canon := h.wr

theorem Canon.roostChWake {ch} (h : s.Canon) : (s.roostChWake ch).Canon := .ite h (h.wr.updRoost.foldl (fun h' => h'.setRq))

theorem Canon.roostChReset {ch} (h : s.Canon) : (s.roostChReset ch).Canon := h.foldl (fun h' => h'.emits.setRq)

theorem Canon.chFail {ch} (h : s.Canon) : (s.chFail ch).Canon := .ite h.wr.wr.wr h.wr.wr.wr.report

end State
end Sys2Proof.Machine
end

section
/-! PROOF. Canonical form is kept by the operations of memory, Crypt and time. -/

namespace Sys2Proof.Machine
namespace State
variable {s : State}

theorem Canon.domRefresh {d} (h : s.Canon) : (s.domRefresh d).Canon := h.wr.wr

theorem Canon.useGroup {d b} (h : s.Canon) : (s.useGroup d b).Canon := ⟨h.csr, h.mem, h.poison⟩

theorem Canon.loadSector {sec c} (h : s.Canon) : (s.loadSector sec c).1.Canon :=
  .foldl_fst (.pair h) (fun h' => .pair h'.roostLoad)

theorem Canon.putCipher {sec l c} (h : s.Canon) : (s.putCipher sec l c).Canon := h.foldl (fun h' => h'.roostStore)

theorem Canon.loadRec {sec c} (h : s.Canon) : (s.loadRec sec c).1.Canon := .ite_fst (.pair h.hbmLoad) (.pair h)

theorem Canon.storeRec {sec r c} (h : s.Canon) : (s.storeRec sec r c).Canon := .ite h.hbmStore.putRec h.putRec

theorem Canon.sealAs {sec d b lsn walk plain c} (h : s.Canon) : (s.sealAs sec d b lsn walk plain c).1.Canon := by
  unfold State.sealAs
  split
  · exact .pair h
  · refine .ite_fst (.pair h) (.ite_fst (.pair h.useGroup.wr.domRefresh.flag.wr.wr.report) ?_)
    extract_lets n cipher s1 warn s2 s3 s4 s5
    have hs1 : s1.Canon := h.useGroup.putCipher
    have hs2 : s2.Canon := hs1.storeRec
    have hs3 : s3.Canon := hs2.bump.bump
    have hs4 : s4.Canon := hs3.wr
    have hs5 : s5.Canon := hs4.wr.domRefresh
    exact .ite_fst (.pair hs5.flag.report) (.pair hs4)

theorem Canon.sealSector {sec d plain c} (h : s.Canon) : (s.sealSector sec d plain c).1.Canon := h.sealAs

theorem Canon.verifyFail {sec} (h : s.Canon) : (s.verifyFail sec).Canon := h.flag.wr.wr.report

theorem Canon.unsealSector {sec c} (h : s.Canon) : (s.unsealSector sec c).1.Canon := by
  unfold State.unsealSector
  split
  next hq =>
    have ht := h.loadRec.of_pair hq
    extract_lets r
    split
    next hq1 =>
      have hu := Canon.of_pair (.ite_fst ht.loadSector (.pair ht)) hq1
      split
      · exact .pair (.ite hu.useGroup.bump.bump hu)
      · exact .pair (.ite hu.flag hu.verifyFail)

theorem Canon.cryptRefuse (h : s.Canon) : s.cryptRefuse.Canon := h.flag.report

theorem Canon.mergePut {e} (h : s.Canon) : (s.mergePut e).Canon := h.updCrypt

theorem Canon.mergeDrop {sec} (h : s.Canon) : (s.mergeDrop sec).Canon := h.updCrypt

theorem Canon.answerWaiter {ok a} (h : s.Canon) : (s.answerWaiter ok a).Canon := by
  unfold State.answerWaiter
  split
  · exact h.emit
  · exact h.updCrypt

theorem Canon.answerAll {ws ok} (h : s.Canon) : (s.answerAll ws ok).Canon := h.foldl (fun h' => h'.answerWaiter)

theorem Canon.mergeTry {e} (h : s.Canon) : (s.mergeTry e).1.Canon := by
  unfold State.mergeTry
  refine .ite_fst (.pair h) ?_
  extract_lets whole
  split
  next t base hb =>
    have ht : t.Canon := by
      split at hb
      · exact Canon.of_pair (.pair h) hb
      · exact Canon.of_pair (.ite_fst (.pair h) h.unsealSector) hb
    split
    · exact .pair ht.mergeDrop.answerAll
    · extract_lets full u
      have hu : u.Canon := .ite ht ht.bump
      split
      next hs => exact .pair (hu.sealSector.of_pair hs).mergePut.answerAll
      next hs => exact .pair (hu.sealSector.of_pair hs).mergeDrop.cryptRefuse.answerAll
      next hs => exact .pair (hu.sealSector.of_pair hs).mergeDrop.flag.answerAll
      next hs => exact .pair (hu.sealSector.of_pair hs).mergeDrop.answerAll

theorem Canon.mergeBack {e} (h : s.Canon) : (s.mergeBack e).Canon := h.mergeTry

theorem Canon.mergeNow {sec} (h : s.Canon) : (s.mergeNow sec).1.Canon := by
  unfold State.mergeNow
  split
  · exact h.mergeTry
  · exact .pair h

theorem Canon.mergeSettle {sec} (h : s.Canon) : (s.mergeSettle sec).Canon := by
  unfold State.mergeSettle
  split
  · exact h.mergeBack.mergeDrop
  · exact h

theorem Canon.mergeRoom (h : s.Canon) : s.mergeRoom.Canon := by
  unfold State.mergeRoom
  refine .ite h ?_
  split
  · exact h
  · exact h.mergeSettle

theorem Canon.mergeTurn (h : s.Canon) : s.mergeTurn.Canon := by
  unfold State.mergeTurn
  split
  · exact h
  · exact h.mergeBack

theorem Canon.mergeFlush (h : s.Canon) : s.mergeFlush.Canon := by
  unfold State.mergeFlush
  refine h.foldl (fun h' => ?_)
  split
  · exact h'.mergeBack
  · exact h'

theorem Canon.sectorRead {a d c} (h : s.Canon) : (s.sectorRead a d c).1.Canon := by
  unfold State.sectorRead
  extract_lets sec i
  split
  · split
    · exact .pair h.mergePut
    · split
      · exact .pair h.mergePut
      · split
        next hq3 => exact .pair (h.unsealSector.of_pair hq3).mergePut
        next hq3 => exact .pair (h.unsealSector.of_pair hq3)
  · split
    next hq1 => exact .pair (h.unsealSector.of_pair hq1).mergeRoom.mergePut
    next hq1 => exact .pair (h.unsealSector.of_pair hq1)

theorem Canon.sectorWrite {a d l who c} (h : s.Canon) : (s.sectorWrite a d l who c).Canon := by
  unfold State.sectorWrite
  extract_lets sec i
  split
  · exact h.mergePut
  · exact h.mergeRoom.mergePut

theorem Canon.tilePoison {t} (h : s.Canon) : (s.tilePoison t).Canon := h.wr

theorem Canon.tileSramError {t off e} (h : s.Canon) : (s.tileSramError t off e).Canon := by
  unfold State.tileSramError
  split
  · exact h
  · exact h.bump
  · exact h.setPoison.wr.wr.flag.tilePoison.report

theorem Canon.tileLine {a} (h : s.Canon) : (s.tileLine a).1.Canon := by
  unfold State.tileLine
  extract_lets errs t off bad one s1 s2
  have hs1 : s1.Canon := .ite h (h.foldl (fun h' => h'.tileSramError))
  have hs2 : s2.Canon := hs1.foldl (fun h' => h'.tileSramError)
  exact .pair (.ite ⟨hs2.csr, hs2.mem, hs2.poison⟩ hs2)

theorem Canon.lineIn {mode d a c m} (h : s.Canon) : (s.lineIn mode d a c m).1.Canon := by
  unfold State.lineIn
  split
  · split
    next hq1 => exact .pair (h.sectorRead.of_pair hq1)
    next hq1 => exact .pair (h.sectorRead.of_pair hq1)
  · split
    · exact h.hbmLoad
    · exact h.roostLoad
    · exact .pair h.tileLine
    · exact .pair h

theorem Canon.linePut {mode d a l mask poison c m who} (h : s.Canon) : (s.linePut mode d a l mask poison c m who).1.Canon := by
  unfold State.linePut
  refine .ite_fst (.ite_fst (.pair h.sectorWrite) ?_) ?_
  · split
    next hq => exact .pair (h.sectorRead.of_pair hq).sectorWrite
    next hq => exact .pair (h.sectorRead.of_pair hq)
  · split
    · exact h.hbmStore
    · exact .pair h.roostStore
    · exact .ite_fst (.pair h.putData) (.pair h.lineIn.putData)

theorem Canon.lineOut {mode d a l poison c m} (h : s.Canon) : (s.lineOut mode d a l poison c m).Canon := h.linePut

theorem Canon.cleanLine {a} (h : s.Canon) : (s.cleanLine a).Canon := by
  unfold State.cleanLine
  split
  · exact h
  · refine .ite h ?_
    extract_lets s1
    have hs1 : s1.Canon := h.updMews
    split
    · exact hs1.lineOut
    · exact hs1.overlapAt.dropLine

theorem Canon.ward {w a} (h : s.Canon) : (s.ward w a).Canon := by
  unfold State.ward
  split
  · exact .ite h h.breakResv
  · exact .ite (.ite h.cleanLine.bump h) (.breakResv (.dropLine (.ite h.cleanLine.bump h)))

theorem Canon.refill {a} (h : s.Canon) : (s.refill a).Canon := by
  unfold State.refill
  refine .ite h ?_
  split
  · exact h
  · exact h.lineIn.updMews

theorem Canon.portGate {m k a n} (h : s.Canon) : CanonOf id (s.portGate m k a n) := by
  unfold State.portGate
  extract_lets ck
  split
  · exact .some h.jessRefuse
  · exact .ite (.some h.cryptRefuse) (.ite .none (.some h))

theorem Canon.readLines {n a c m} (h : s.Canon) : (s.readLines n a c m).1.Canon := by
  induction n generalizing s a with
  | zero => exact h
  | succ n ih =>
    unfold State.readLines
    extract_lets s1
    have hs1 : s1.Canon := h.ward
    split
    split
    next hl =>
      split
      next hr => exact (ih (hs1.lineIn.of_pair hl)).of_pair hr

theorem Canon.portRead {m a n c} (h : s.Canon) : (s.portRead m a n c).1.Canon := by
  unfold State.portRead
  split
  next hq => exact .pair (h.portGate.of_eq hq)
  · extract_lets first
    split
    next hq1 => exact .pair (h.readLines.of_pair hq1)

theorem Canon.writeLine {a l mask poison c m who} (h : s.Canon) : (s.writeLine a l mask poison c m who).1.Canon :=
  .pair h.ward.linePut.refill

theorem Canon.writeLines {ls p c m} (h : s.Canon) : (s.writeLines ls p c m).1.Canon := by
  unfold State.writeLines
  refine .foldl_fst (.pair h) (fun h' => ?_)
  split
  next hq => exact .pair (h'.writeLine.of_pair hq)

theorem Canon.writtenBack {a ok} (h : s.Canon) : (s.writtenBack a ok).1.Canon := by
  unfold State.writtenBack
  exact .ite_fst (.pair h) (.ite_fst h.mergeNow (.pair h))

theorem Canon.portWrite {m a l poison c} (h : s.Canon) : (s.portWrite m a l poison c).1.Canon := by
  unfold State.portWrite
  refine .ite_fst (.pair h) ?_
  split
  next hq => exact .pair (h.portGate.of_eq hq)
  · exact h.writeLines.writtenBack

theorem Canon.addLine {op a l poison c m} (h : s.Canon) : (s.addLine op a l poison c m).1.Canon := .pair h.ward.hbmStore.refill

theorem Canon.addLines {m op a poison c l} (h : s.Canon) : (s.addLines m op a poison c l).1.Canon := by
  induction l generalizing s a with
  | nil => exact h
  | cons x r ih =>
    unfold State.addLines
    split
    next ha =>
      split
      next hr => exact (ih (h.addLine.of_pair ha)).of_pair hr

theorem Canon.portAdd {m op a l poison c} (h : s.Canon) : (s.portAdd m op a l poison c).1.Canon := by
  unfold State.portAdd
  split
  next hq => exact .pair (h.addOutside.of_eq hq)
  · split
    next hq1 => exact .pair (h.portGate.of_eq hq1)
    · exact h.addLines

theorem Canon.cputLine {a c} (h : s.Canon) : (s.cputLine a c).Canon := h.updMews

theorem Canon.evictWay {a way} (h : s.Canon) : (s.evictWay a way).Canon := by
  unfold State.evictWay
  split
  · exact h.cleanLine.dropLine.breakResv
  · exact h

theorem Canon.fillLine {tenant a way c} (h : s.Canon) : (s.fillLine tenant a way c).1.Canon := by
  unfold State.fillLine
  split
  · exact .pair h.overlapAt
  · exact .pair h.evictWay.lineIn.cputLine

theorem Canon.cachedLine {a c} (h : s.Canon) : (s.cachedLine a c).1.Canon := by
  unfold State.cachedLine
  split
  · exact .pair h.bump
  · split
    next hq1 => exact .pair (h.bump.fillLine.of_pair hq1).draw
    next hq1 => exact .pair (h.bump.fillLine.of_pair hq1)

theorem Canon.cachedLines {n a c} (h : s.Canon) : (s.cachedLines n a c).1.Canon := by
  induction n generalizing s a with
  | zero => exact h
  | succ n ih =>
    unfold State.cachedLines
    split
    next hl =>
      split
      next hr => exact (ih (h.cachedLine.of_pair hl)).of_pair hr

theorem Canon.cacheGate {m k a n} (h : s.Canon) : CanonOf id (s.cacheGate m k a n) := by
  unfold State.cacheGate
  split
  · exact .some h.jessRefuse
  · exact .ite .none (.some h)

theorem Canon.cacheRead {m a n} (h : s.Canon) : (s.cacheRead m a n).1.Canon := by
  unfold State.cacheRead
  split
  next hq => exact .pair (h.cacheGate.of_eq hq)
  · extract_lets first
    split
    next hq1 => exact .pair (h.cachedLines.of_pair hq1)

theorem Canon.cacheWriteLine {a l mask keep cls} (h : s.Canon) : (s.cacheWriteLine a l mask keep cls).1.Canon := by
  unfold State.cacheWriteLine
  extract_lets s1 put
  have hs1 : s1.Canon := h.breakResv
  split
  · exact .pair hs1.bump.cputLine
  · split
    next hq1 => exact .pair (hs1.bump.fillLine.of_pair hq1).draw.cputLine
    next hq1 => exact .pair (hs1.bump.fillLine.of_pair hq1)

theorem Canon.cacheWrite {m a l} (h : s.Canon) : (s.cacheWrite m a l).1.Canon := by
  unfold State.cacheWrite
  refine .ite_fst (.pair h) ?_
  split
  next hq => exact .pair (h.cacheGate.of_eq hq)
  · exact .foldl_fst (.pair h) (fun h' => .pair h'.cacheWriteLine)

theorem Canon.hbmIngress {r} (h : s.Canon) : (s.hbmIngress r).Canon := by
  unfold State.hbmIngress
  extract_lets a st p q r1 x mode s1 s2
  have hs1 : s1.Canon := .ite h h.ward
  have hs2 : s2.Canon := hs1.flushOrd
  split
  next hq => exact h.decodeGate.of_eq hq
  · refine .ite ?_ (.ite h.errTo (.ite h ?_))
    · split
      · split
        next hq2 => exact (h.addOutside.of_eq hq2).errTo
        · exact h
      · exact h
    · split
      · exact h.jessRefuse.errTo
      · split
        next hq2 => exact (hs2.hbmReq.of_pair hq2).hbmEnter

theorem Canon.sectorServe {r a d} (h : s.Canon) : (s.sectorServe r a d).Canon := by
  unfold State.sectorServe
  split
  · split
    next hq1 => exact (h.sectorRead.of_pair hq1).answerRead
    next hq1 => exact (h.sectorRead.of_pair hq1).answerRead
  · exact h.sectorWrite
  · split
    next hq1 => exact (h.sectorRead.of_pair hq1).sectorWrite
    next hq1 => exact (h.sectorRead.of_pair hq1).errTo
  · exact h.addRefused.errTo

theorem Canon.roostIngress {r} (h : s.Canon) : (s.roostIngress r).Canon := by
  unfold State.roostIngress
  extract_lets a w q r1 x s1
  have hs1 : s1.Canon := .ite h h.ward
  split
  next hq => exact h.decodeGate.of_eq hq
  · refine .ite h (.ite h.errTo (.ite h ?_))
    split
    · exact h.jessRefuse.errTo
    · split
      · split
        · exact h.addRefused.errTo
        · refine .ite h.cryptRefuse.errTo (.ite h (.ite hs1.sectorServe ?_))
          split
          next hq3 => exact (hs1.roostReq.of_pair hq3).roostEnter

theorem Canon.cryptCtrl {v} (h : s.Canon) : (s.cryptCtrl v).Canon := .ite h (.ite h.csrPut.wr h.csrPut)

theorem Canon.cryptFilled (h : s.Canon) : s.cryptFilled.Canon := .ite h h.updCrypt.wr

theorem Canon.sectorAccess {r} (h : s.Canon) : (s.sectorAccess r).Canon := by
  unfold State.sectorAccess
  extract_lets a
  split
  · exact h
  · split
    · exact h.jessRefuse.errTo
    · exact .ite h.cryptRefuse.errTo (.ite h.errTo (.ite h (.sectorServe (.ite h h.ward))))

theorem Canon.rawGate {m k sec} (h : s.Canon) : CanonOf id (s.rawGate m k sec) := by
  unfold State.rawGate
  refine .ite (.some h.flag.errTo) ?_
  split
  · exact .some h.jessRefuse.errTo
  · exact .ite (.some h.cryptRefuse.errTo) (.ite (.some h.errTo) .none)

theorem Canon.rawLoad {sec c} (h : s.Canon) : (s.rawLoad sec c).1.Canon := by
  unfold State.rawLoad
  split
  next hq =>
    split
    next hq1 => exact .pair ((h.loadRec.of_pair hq).loadSector.of_pair hq1)

theorem Canon.rawRead {m sec} (h : s.Canon) : (s.rawRead m sec).Canon := by
  unfold State.rawRead
  split
  next hq => exact h.rawGate.of_eq hq
  · split
    next hq1 => exact (h.mergeSettle.rawLoad.of_pair hq1).answerRead

theorem Canon.rawStore {sec r cipher c} (h : s.Canon) : (s.rawStore sec r cipher c).Canon := h.putCipher.storeRec

theorem Canon.wardSector {sec} (h : s.Canon) : (s.wardSector sec).Canon := h.foldl (fun h' => h'.ward)

theorem Canon.rawWrite {m sec rec_ cipher} (h : s.Canon) : (s.rawWrite m sec rec_ cipher).Canon := by
  unfold State.rawWrite
  split
  next hq => exact h.rawGate.of_eq hq
  · exact h.wardSector.mergeSettle.rawStore.emit

theorem Canon.freeRecs {f} (h : s.Canon) : (s.freeRecs f).Canon := h.foldl (fun h' => .ite h' h'.storeRec)

theorem Canon.releaseFrame {f} (h : s.Canon) : (s.releaseFrame f).Canon :=
  .freeRecs (.freeFrame (h.foldl (fun h' => h'.mergeSettle)))

theorem Canon.releaseFrames {l} (h : s.Canon) : (s.releaseFrames l).Canon := h.foldl (fun h' => h'.releaseFrame)

theorem Canon.metaPut {a l} (h : s.Canon) : (s.metaPut a l).Canon := h.roostStore

theorem Canon.journal {d boundary running newSet seq} (h : s.Canon) : (s.journal d boundary running newSet seq).Canon :=
  h.metaPut.wr.wr.wr.wr.wr

theorem Canon.journalTo {r to_} (h : s.Canon) : (s.journalTo r to_).Canon := .ite h h.journal

theorem Canon.rekeySector {r sec} (h : s.Canon) : (s.rekeySector r sec).1.Canon := by
  unfold State.rekeySector
  extract_lets newB s1 r1
  have hs1 : s1.Canon := h.mergeSettle.journalTo
  split
  next hq => exact .pair (hs1.unsealSector.of_pair hq).storeRec
  next hq =>
    split
    next hq1 => exact .pair ((hs1.unsealSector.of_pair hq).sealAs.of_pair hq1)
    next hq1 => exact .pair ((hs1.unsealSector.of_pair hq).sealAs.of_pair hq1).storeRec

theorem Canon.rekeyKeys {d} (h : s.Canon) : (s.rekeyKeys d).Canon := h.updCrypt.metaPut.csrPut.wr.wr.wr.wr.wr.domRefresh

theorem Canon.rekeyStop (h : s.Canon) : s.rekeyStop.Canon := h.updCrypt.wr

theorem Canon.cryptBlockReset (h : s.Canon) : s.cryptBlockReset.Canon :=
  .wr (.rekeyStop (.updCrypt (h.foldl (fun h' => h'.answerAll))))

theorem Canon.cryptBack (h : s.Canon) : s.cryptBack.Canon := .ite h.wr h

theorem Canon.timeEvent {f cnt n} (h : s.Canon) : (s.timeEvent f cnt n).Canon := .ite h.flag.raiseWarden h.flag

theorem Canon.ppsAt {e} (h : s.Canon) : (s.ppsAt e).Canon := .ite h.updTime.wr h.timeEvent

theorem Canon.labelEdge {label unc} (h : s.Canon) : (s.labelEdge label unc).Canon := by
  unfold State.labelEdge
  extract_lets e0 s1 t held mag s2
  have hs1 : s1.Canon := h.updTime
  have hs2 : s2.Canon := hs1.updTime
  split
  · exact hs1.updTime
  · exact hs1.updTime
  · split
    · exact hs1
    · exact hs1.updTime.timeEvent
  · split
    · exact hs1
    · exact .ite hs1.updTime hs2.timeEvent.timeEvent

theorem Canon.todMessage {label unc flags} (h : s.Canon) : (s.todMessage label unc flags).Canon := .ite h.labelEdge h.timeEvent

theorem Canon.anchor (h : s.Canon) : s.anchor.Canon := h.wr.wr

theorem Canon.alarmCheck (h : s.Canon) : s.alarmCheck.Canon := .ite h.wr.timeEvent h

theorem Canon.timeSample (h : s.Canon) : s.timeSample.Canon := h.wr.wr.wr.wr.wr

theorem Canon.timeStop {anchor} (h : s.Canon) : (s.timeStop anchor).Canon := .ite (.updTime (.ite h.anchor h)) h

theorem Canon.timeStart (h : s.Canon) : s.timeStart.Canon := .ite h h.updTime

theorem Canon.tickTime (h : s.Canon) : s.tickTime.Canon := ⟨h.csr, h.mem, h.poison⟩

end State
end Sys2Proof.Machine
end

section
/-! PROOF. Canonical form is kept by the operations of Kettle. -/

namespace Sys2Proof.Machine
namespace State
variable {s : State}

theorem Canon.setLink {n l} (h : s.Canon) : (s.setLink n l).Canon := h.updKtl

theorem Canon.setLstate {n v} (h : s.Canon) : (s.setLstate n v).Canon := h.wr

theorem Canon.linkFlag {f cnt n} (h : s.Canon) : (s.linkFlag f cnt n).Canon := h.flag.raiseWarden

theorem Canon.glbFlag {f cnt} (h : s.Canon) : (s.glbFlag f cnt).Canon := h.flag.raiseWarden

theorem Canon.drive {o} (h : s.Canon) : (s.drive o).Canon := .ite h h.emit

theorem Canon.stampSent {m} (h : s.Canon) : (s.stampSent m).Canon := .ite h.updKtl h

theorem Canon.txNow {n m bulk} (h : s.Canon) : (s.txNow n m bulk).Canon := h.stampSent.bump.bump.setLink.emit

theorem Canon.pump {k n} (h : s.Canon) : (State.pump k n s).Canon := by
  induction k generalizing s with
  | zero => exact h
  | succ k ih =>
    unfold State.pump
    split
    · exact h
    · exact ih h.setLink.txNow

theorem Canon.sendOn {n m} (h : s.Canon) : (s.sendOn n m).Canon := h.setLink.pump

theorem Canon.mgmt {n kind w} (h : s.Canon) : (s.mgmt n kind w).Canon := .ite h.sendOn h

theorem Canon.sendLinkstate (h : s.Canon) : s.sendLinkstate.Canon := h.wr.wr.updKtl.foldl (fun h' => .ite h'.mgmt h')

theorem Canon.sendPresence {st} (h : s.Canon) : (s.sendPresence st).Canon := h.foldl (fun h' => h'.mgmt)

theorem Canon.setRoute {t r} (h : s.Canon) : (s.setRoute t r).Canon := h.updKtl

theorem Canon.reqFails {o} (h : s.Canon) : (s.reqFails o).Canon := h.updKtl

theorem Canon.strandMsg {m} (h : s.Canon) : (s.strandMsg m).Canon := by
  unfold State.strandMsg
  refine .ite ?_ h
  split
  · exact h.reqFails
  · exact h

theorem Canon.strandHeld {t} (h : s.Canon) : (s.strandHeld t).Canon := h.setRoute.wr.foldl (fun h' => h'.strandMsg)

theorem Canon.sendRoute {t m} (h : s.Canon) : (s.sendRoute t m).Canon := .ite h.sendOn h.sendOn

theorem Canon.holdMsg {t m} (h : s.Canon) : (s.holdMsg t m).Canon := h.setRoute.wr

theorem Canon.sendTo {t m} (h : s.Canon) : (s.sendTo t m).Canon :=
  .ite (.ite h.strandMsg (.holdMsg (.ite h.setRoute.mgmt h))) (.ite h.holdMsg (.ite h.sendRoute (.ite h.strandMsg h.holdMsg)))

theorem Canon.releaseHeld {t} (h : s.Canon) : (s.releaseHeld t).Canon := h.setRoute.wr.foldl (fun h' => h'.sendRoute)

theorem Canon.setKind {t kind via} (h : s.Canon) : (s.setKind t kind via).Canon := by
  unfold State.setKind
  refine .ite (.ite h.wr.wr h.wr.wr.setRoute.glbFlag) ?_
  exact .ite (.ite h.wr.wr.setRoute h.wr.wr.setRoute.glbFlag) (.releaseHeld (.ite h.wr.wr.setRoute h.wr.wr.setRoute.glbFlag))

theorem Canon.probeRound {t rest} (h : s.Canon) : (s.probeRound t rest).Canon := by
  unfold State.probeRound
  split
  · exact .ite h.setRoute.releaseHeld h.setRoute.setKind
  · exact h.setRoute.foldl (fun h' => h'.sendOn)

theorem Canon.search {t} (h : s.Canon) : (s.search t).Canon := .ite h h.probeRound

theorem Canon.routeLost {t} (h : s.Canon) : (s.routeLost t).Canon := h.setRoute.search

theorem Canon.fenceTo {t kind via} (h : s.Canon) : (s.fenceTo t kind via).Canon := .ite h (.ite h.setRoute.sendRoute h.setKind)

theorem Canon.routeDirect {t} (h : s.Canon) : (s.routeDirect t).Canon := .ite h.setRoute.fenceTo h.setRoute.setKind

theorem Canon.answerRelay {m} (h : s.Canon) : (s.answerRelay m).Canon := by
  unfold State.answerRelay
  split
  · exact h.sendOn
  · exact h

theorem Canon.routesLost {n} (h : s.Canon) : (s.routesLost n).Canon := by
  unfold State.routesLost
  refine h.foldl (fun h' => .ite h' (.ite (.routeLost ?_) ?_))
  · split
    · exact h'.setRoute
    · exact h'
  · split
    · exact h'.setRoute
    · exact h'

theorem Canon.linkToKeeper {n} (h : s.Canon) : (s.linkToKeeper n).Canon := by
  unfold State.linkToKeeper
  extract_lets l own x s1 x1 s2 s3 s4 s5 s6
  have hs1 : s1.Canon := h.setLink
  have hs2 : s2.Canon := hs1.setRoute
  have hs3 : s3.Canon := hs2.setLstate.wr
  have hs4 : s4.Canon := hs3.sendLinkstate
  have hs5 : s5.Canon := hs4.routesLost
  have hs6 : s6.Canon := hs5.foldl (fun h' => .ite h' (.ite (.ite h' h'.sendTo) (.ite h'.answerRelay h'.strandMsg)))
  exact hs6.foldl (fun h' => .ite h' (.ite h'.answerRelay (.ite h'.strandMsg h'.sendTo)))

theorem Canon.linkDown {n} (h : s.Canon) : (s.linkDown n).Canon := .ite h h.linkFlag.report.linkToKeeper

theorem Canon.withdrawEnd {n} (h : s.Canon) : (s.withdrawEnd n).Canon := by
  unfold State.withdrawEnd
  split
  · exact h
  · exact .ite h.linkToKeeper h.linkToKeeper.setLstate

theorem Canon.withdrawLink {n retrain} (h : s.Canon) : (s.withdrawLink n retrain).Canon := by
  unfold State.withdrawLink
  refine .ite h.setLink (.ite ?_ (.ite h (.ite h.setLstate.wr (.ite h.setLstate h))))
  exact .ite h.setLstate.setLink.sendLinkstate.routeLost h.setLstate.setLink.sendLinkstate

theorem Canon.enableLink {n} (h : s.Canon) : (s.enableLink n).Canon := .ite h.setLstate h

theorem Canon.linkUp {n} (h : s.Canon) : (s.linkUp n).Canon :=
  .ite h.setLink.setLstate.wr.wr.sendLinkstate h.setLink.setLstate.wr.wr.sendLinkstate.setRoute.routeDirect

theorem Canon.allKeeper (h : s.Canon) : s.allKeeper.Canon := .wr (h.foldl (fun h' => .ite h'.linkToKeeper h'))

theorem Canon.allUp {failed} (h : s.Canon) : (s.allUp failed).Canon := h.wr.foldl (fun h' => .ite h'.linkUp h')

theorem Canon.trainingStart {n} (h : s.Canon) : (s.trainingStart n).Canon := .ite h.setLstate.wr.wr h

theorem Canon.storeEq {n eq} (h : s.Canon) : (s.storeEq n eq).Canon := h.foldl (fun h' => h'.wr)

theorem Canon.trainingEnd {n e} (h : s.Canon) : (s.trainingEnd n e).Canon := by
  unfold State.trainingEnd
  refine .ite h ?_
  extract_lets s1 s2
  have hs1 : s1.Canon := h.wr
  have hs2 : s2.Canon := hs1.setLstate.wr
  split
  · exact hs2.linkFlag.report
  · exact .ite hs1.wr.setLstate.linkFlag.report hs1.wr.storeEq.linkUp.updKtl

theorem Canon.flitHeader {n f} (h : s.Canon) : (s.flitHeader n f).Canon :=
  .ite (.withdrawEnd (.pump (.ite h.setLink.bump h.setLink))) (.pump (.ite h.setLink.bump h.setLink))

theorem Canon.flitReceive {n f} (h : s.Canon) : (s.flitReceive n f).Canon := by
  unfold State.flitReceive
  refine .ite h ?_
  extract_lets x s1 l s2 s3 s4
  have hs1 : s1.Canon := .ite h.setLink.wr h
  have hs2 : s2.Canon := .ite hs1 hs1.bump
  have hs3 : s3.Canon := .ite hs2 hs2.bump
  have hs4 : s4.Canon := .ite hs3.setLink.bump hs3
  exact .ite (.ite hs3 hs3.setLink.bump.linkFlag) hs4.flitHeader

theorem Canon.request {t m who for_} (h : s.Canon) : (s.request t m who for_).Canon := h.updKtl.sendTo

theorem Canon.requestGw {m who for_} (h : s.Canon) : (s.requestGw m who for_).Canon := .ite h.updKtl.sendOn h.updKtl.reqFails

theorem Canon.response {link m} (h : s.Canon) : (s.response link m).Canon := by
  unfold State.response
  extract_lets sender
  split
  · exact h
  · exact .ite h.updKtl.routeLost h.updKtl

theorem Canon.failPeer {t} (h : s.Canon) : (s.failPeer t).Canon := h.foldl (fun h' => h'.reqFails)

theorem Canon.answerTo {link m r} (h : s.Canon) : (s.answerTo link m r).Canon := .ite h.sendOn h.sendTo

theorem Canon.statusTo {link m st} (h : s.Canon) : (s.statusTo link m st).Canon := h.answerTo

theorem Canon.discard {link m} (h : s.Canon) : (s.discard link m).Canon := .ite h.linkFlag.report.statusTo h.linkFlag.report

theorem Canon.relay {m} (h : s.Canon) : (s.relay m).Canon := .ite (.ite h h.answerRelay) (.ite h.sendOn h.answerRelay)

theorem Canon.receive {link m f} (h : s.Canon) (hf : ∀ {t : State}, t.Canon → (f t).Canon) : (s.receive link m f).Canon :=
  .ite h (.ite h.discard (.ite h.relay (hf h)))

theorem Canon.tileGate {m a} (h : s.Canon) : (s.tileGate m a).1.Canon := by
  suffices hall : ∀ p, s.tileGate m a = p → p.1.Canon from hall _ rfl
  intro p hp
  unfold State.tileGate at hp
  split at hp
  · exact hp ▸ h
  · extract_lets t l at hp
    split at hp
    · exact hp ▸ h
    · exact hp ▸ h.draw

theorem Canon.kGate {m} (h : s.Canon) : (s.kGate m).1.Canon := by
  unfold State.kGate
  refine .ite_fst (.pair h) (.ite_fst (.pair h.report) (.ite_fst (.pair h) ?_))
  extract_lets ck
  split
  · exact .pair h.jessRefuse
  · split
    next hq1 => exact .pair (h.tileGate.of_pair hq1)
    next hq1 => exact .pair (h.tileGate.of_pair hq1)

theorem Canon.kRead {m c n a i} (h : s.Canon) : (s.kRead m c n a i).1.Canon := by
  induction n generalizing s a i with
  | zero => exact h
  | succ n ih =>
    unfold State.kRead
    split
    next hp => exact h.portRead.of_pair hp
    next hp =>
      split
      next hr => exact (ih (h.portRead.of_pair hp)).of_pair hr
      next hr => exact (ih (h.portRead.of_pair hp)).of_pair hr

theorem Canon.kWrite {m c a mask poison who l i} (h : s.Canon) : (s.kWrite m c a mask poison who l i).1.Canon := by
  induction l generalizing s i with
  | nil => exact h
  | cons x r ih =>
    unfold State.kWrite
    split
    next hw => exact h.writeLine.of_pair hw
    next hw => exact ih (h.writeLine.of_pair hw)

theorem Canon.ordTry {o} (h : s.Canon) : (s.ordTry o).1.Canon := by
  unfold State.ordTry
  extract_lets st p q mine
  refine .ite_fst (.pair h) ?_
  split
  next hq =>
    have ht := Canon.of_pair (.ite_fst h.ward.refill.ordAdd (.pair h)) hq
    exact .pair (.ite ht.hqStep ht)
  · exact .pair (.ite h h.setHq)

theorem Canon.ordDone {rest o st} (h : s.Canon) : (s.ordDone rest o st).Canon := by
  unfold State.ordDone
  split
  · exact .ite h h.statusTo
  · split
    · exact h.updKtl
    · exact .ite h (.ite h.emit h.errTo)

theorem Canon.ordRetry {l kept} (h : s.Canon) : (s.ordRetry l kept).Canon := by
  induction l generalizing s kept with
  | nil => exact h
  | cons o r ih =>
    unfold State.ordRetry
    split
    next ho => exact ih (h.ordTry.of_pair ho).ordDone
    next ho => exact ih (h.ordTry.of_pair ho).updHbm

theorem Canon.ordServe (h : s.Canon) : s.ordServe.Canon := .ite h h.updHbm.ordRetry

theorem Canon.ordSubmit {l} (h : s.Canon) : (s.ordSubmit l).Canon := h.updHbm.ordServe

theorem Canon.ordCut {st} (h : s.Canon) : (s.ordCut st).Canon := h.updHbm.foldl (fun h' => h'.ordDone)

theorem Canon.kPort {mode a} (h : s.Canon) : CanonOf id (s.kPort mode a) := .ite (.some h.cryptRefuse) (.ite .none (.some h))

theorem Canon.serve {link m} (h : s.Canon) : (s.serve link m).Canon := by
  unfold State.serve
  refine .ite h.discard ?_
  extract_lets a n
  split
  next hk => exact (h.kGate.of_pair hk).statusTo
  next hk =>
    have ht := h.kGate.of_pair hk
    extract_lets mode
    split
    next hp => exact ((CanonOf.ite .none ht.kPort).of_eq hp).statusTo
    · refine .ite h ?_
      split
      · split
        next hr => exact (ht.kRead.of_pair hr).statusTo
        next hr => exact (ht.kRead.of_pair hr).answerTo
      · refine .ite (.ite ht.statusTo ht.ordSubmit) ?_
        split
        next hp => exact (ht.portAdd.of_pair hp).statusTo
      · split
        next hw => exact .ite (ht.kWrite.of_pair hw) (ht.kWrite.of_pair hw).statusTo
        next hw => exact (ht.kWrite.of_pair hw).statusTo

theorem Canon.mergeReplies (h : s.Canon) : s.mergeReplies.Canon := h.updCrypt.foldl (fun h' => h'.statusTo)

theorem Canon.setPeer {t p} (h : s.Canon) : (s.setPeer t p).Canon := h.updKtl

theorem Canon.alignByPeers (h : s.Canon) : s.alignByPeers.Canon := by
  unfold State.alignByPeers
  refine .ite h ?_
  extract_lets present
  split
  · exact h.updKtl.wr.wr.wr
  · exact .ite h.wr.wr h

theorem Canon.shardsLost {p} (h : s.Canon) : (s.shardsLost p).Canon := h.updSes

theorem Canon.presenceFrom {t m} (h : s.Canon) : (s.presenceFrom t m).Canon := by
  unfold State.presenceFrom
  extract_lets p nonce st b fresh s1 perch was s2 x s3 s4 s5 s6 s7 s8 s9
  have hs1 : s1.Canon := h.setPeer
  have hs2 : s2.Canon := hs1.wr.wr
  have hs3 : s3.Canon := hs2.setRoute
  have hs4 : s4.Canon := .ite (.ite hs3.releaseHeld hs3) hs2
  have hs5 : s5.Canon := .ite hs4.routeLost hs4
  have hs6 : s6.Canon := .ite (hs5.foldl (fun h' => .ite h'.routeLost h')) hs5
  have hs7 : s7.Canon := hs6.failPeer.shardsLost.linkFlag
  have hs8 : s8.Canon := .ite (.ite hs7.linkToKeeper hs7) hs6
  have hs9 : s9.Canon := .ite hs8.failPeer hs8
  exact .ite hs9.alignByPeers hs9

theorem Canon.linkstateFrom {t m} (h : s.Canon) : (s.linkstateFrom t m).Canon :=
  h.wr.updKtl.foldl (fun h' => .ite h' (.ite h'.search (.ite h'.routeLost h')))

theorem Canon.chooseRelay {t i} (h : s.Canon) : (s.chooseRelay t i).Canon := .ite h.setKind h.setRoute.fenceTo

theorem Canon.probeAckFrom {i t} (h : s.Canon) : (s.probeAckFrom i t).Canon := by
  unfold State.probeAckFrom
  split
  · exact h
  · exact .ite h (.ite h.chooseRelay h.setRoute)

theorem Canon.probeTimeout {t} (h : s.Canon) : (s.probeTimeout t).Canon := by
  unfold State.probeTimeout
  split
  · exact h
  · refine .ite h ?_
    split
    · exact h.chooseRelay
    · exact h.probeRound

theorem Canon.slotSyncFrom (h : s.Canon) : s.slotSyncFrom.Canon := h.updKtl.wr.wr

theorem Canon.probeFrom {link m} (h : s.Canon) : (s.probeFrom link m).Canon := h.sendOn

theorem Canon.fenceFrom {link m} (h : s.Canon) : (s.fenceFrom link m).Canon := h.sendOn

theorem Canon.fenceDone {t} (h : s.Canon) : (s.fenceDone t).Canon := by
  unfold State.fenceDone
  split
  · exact h.setKind
  · exact h

theorem Canon.fenceAckFrom {link t} (h : s.Canon) : (s.fenceAckFrom link t).Canon := .ite h.fenceDone h

theorem Canon.leaveFrom {t} (h : s.Canon) : (s.leaveFrom t).Canon := h.wr.foldl (fun h' => .ite h'.search h')

theorem Canon.downReqFrom {n} (h : s.Canon) : (s.downReqFrom n).Canon :=
  .ite h (.ite (.withdrawEnd (.setLink (.mgmt (.ite h.withdrawLink h)))) (.setLink (.mgmt (.ite h.withdrawLink h))))

theorem Canon.downAckFrom {n} (h : s.Canon) : (s.downAckFrom n).Canon := .ite (.ite h.setLink.withdrawEnd h.setLink) h

theorem Canon.withdrawRequest {n} (h : s.Canon) : (s.withdrawRequest n).Canon := by
  unfold State.withdrawRequest
  split
  · exact .ite h h.setLink.mgmt
  · exact h

theorem Canon.readyFrom {link} (h : s.Canon) : (s.readyFrom link).Canon := h.setPeer

theorem Canon.replayAsk {n} (h : s.Canon) : (s.replayAsk n).Canon := by
  unfold State.replayAsk
  split
  · exact .ite h h.setLink.bump
  · exact h

theorem Canon.downTimeout {n} (h : s.Canon) : (s.downTimeout n).Canon := .ite h.linkDown h

theorem Canon.respTimeout {tag} (h : s.Canon) : (s.respTimeout tag).Canon := by
  unfold State.respTimeout
  split
  · exact .ite h.glbFlag.report.reqFails h
  · exact h

theorem Canon.strandExpiry {t} (h : s.Canon) : (s.strandExpiry t).Canon := by
  unfold State.strandExpiry
  extract_lets r s1
  have hs1 : s1.Canon := h.setRoute
  split
  · exact .ite h hs1.strandHeld.glbFlag
  · exact h

theorem Canon.perchHoldEnd {t} (h : s.Canon) : (s.perchHoldEnd t).Canon := by
  unfold State.perchHoldEnd
  extract_lets r s1
  have hs1 : s1.Canon := h.setRoute
  split
  · exact .ite h hs1.strandHeld.glbFlag
  · exact h

theorem Canon.fenceTimeout {t} (h : s.Canon) : (s.fenceTimeout t).Canon := by
  unfold State.fenceTimeout
  split
  · exact .ite h.fenceDone h
  · exact h

theorem Canon.lockLost {n} (h : s.Canon) : (s.lockLost n).Canon := .ite h h.setLink.wr

theorem Canon.keeperComes {n} (h : s.Canon) : (s.keeperComes n).Canon := .ite h.setLink.setLstate h.setLink

theorem Canon.kettleCold (h : s.Canon) : s.kettleCold.Canon :=
  .foldl ⟨h.csr, h.mem, h.poison⟩ (fun h' => .ite h'.wr.wr h'.wr.wr.wr.wr.setRoute)

end State
end Sys2Proof.Machine
end

section
/-! PROOF. Canonical form is kept by the operations of the cores, the Mews cache and the command interface. -/

namespace Sys2Proof.Machine
namespace State
variable {s : State}

theorem Canon.accFault {m k a} (h : s.Canon) : (s.accFault m k a).Canon := by
  unfold State.accFault
  split
  · exact h.emit
  · exact h.errTo

theorem Canon.csrBad {m k addr} (h : s.Canon) : (s.csrBad m k addr).Canon := h.report.accFault

theorem Canon.notMain {m k addr} (h : s.Canon) : CanonOf id (s.notMain m k addr) := .ite .none (.ite (.some h.accFault) (.ite (.some h.csrBad) .none))

theorem Canon.poisonUse {m k a} (h : s.Canon) : (s.poisonUse m k a).Canon := by
  unfold State.poisonUse
  split
  · exact h.flag.report.emit
  · exact h

theorem Canon.hitEcc {a c e} (h : s.Canon) : (s.hitEcc a c e).1.Canon := by
  unfold State.hitEcc
  split
  · exact .pair h
  · exact .pair h.flag
  · exact .pair h.cputLine.flag.report

theorem Canon.useLine {m a way e} (h : s.Canon) : (s.useLine m a way e).1.Canon := by
  unfold State.useLine
  split
  · exact .pair h.bump.hitEcc
  · exact h.bump.fillLine

theorem Canon.coreGate {m k addr n} (h : s.Canon) : CanonOf id (s.coreGate m k addr n) := by
  unfold State.coreGate
  extract_lets a
  refine .ite (.some h.report.accFault) ?_
  split
  · exact .some h.jessRefuse.accFault
  · exact .ite .none (.some h.accFault)

theorem Canon.cacheMain {r} (h : s.Canon) : (s.cacheMain r).Canon := by
  unfold State.cacheMain
  extract_lets a line off held s1
  have hs1 : s1.Canon := .ite h.breakResv h
  split
  · split
    · exact hs1.bump.overlapAt.accFault
    · refine .ite ?_ (.ite (.ite hs1.bump.lineIn.poisonUse hs1.bump.lineIn.answerRead) hs1.bump.lineIn.answerRead)
      split
      next hq => exact (hs1.bump.linePut.of_pair hq).accFault
      next hq => exact .ite (hs1.bump.linePut.of_pair hq) (hs1.bump.linePut.of_pair hq).emit
  · split
    next hq => exact (hs1.useLine.of_pair hq).accFault
    next hq =>
      have ht := hs1.useLine.of_pair hq
      exact .ite ht.cputLine.emit (.ite (.ite ht.poisonUse ht.answerRead) ht.answerRead)

theorem Canon.remoteAcc {r} (h : s.Canon) : (s.remoteAcc r).Canon := .ite h.request (.ite h.request h.accFault)

theorem Canon.cacheAccess {r csr} (h : s.Canon) (hcsr : ∀ {x} {t : State}, t.Canon → (csr x t).Canon) : (s.cacheAccess r csr).Canon := by
  unfold State.cacheAccess
  refine .ite h.remoteAcc (.ite (.ite (hcsr h) h.csrBad) (.ite h.accFault ?_))
  split
  · split
    · split
      next hq1 => exact (h.portWrite.of_pair hq1).emit
      next hq1 => exact (h.portWrite.of_pair hq1).accFault
    · split
      next hq1 => exact h.coreGate.of_eq hq1
      · exact .ite h h.cacheMain
  · split
    · split
      · split
        · exact h.jessRefuse.accFault
        · exact h.accFault
      · split
        next hq => exact .ite (h.portRead.of_pair hq).poisonUse (h.portRead.of_pair hq).answerRead
        next hq => exact (h.portRead.of_pair hq).accFault
    · split
      next hq => exact h.coreGate.of_eq hq
      · exact .ite h h.cacheMain

theorem Canon.atomic {m wide addr f ret resv} (h : s.Canon) (hresv : ∀ {t : State}, t.Canon → (resv t).Canon) :
    (s.atomic m wide addr f ret resv).Canon := by
  unfold State.atomic
  extract_lets n a line
  refine .ite ?_ ?_
  · split
    · exact h.emit
    · exact h.errTo
  · split
    next hg => exact (h.notMain.or h.coreGate).of_eq hg
    · refine .ite h ?_
      split
      next hu => exact (h.useLine.of_pair hu).accFault
      next hu =>
        have ht := hresv (h.useLine.of_pair hu)
        refine .ite (h.useLine.of_pair hu).poisonUse (.emit ?_)
        split
        · exact ht.bump.breakResv.cputLine
        · exact ht.bump

theorem Canon.setResv {m addr} (h : s.Canon) : (s.setResv m addr).Canon := by
  unfold State.setResv
  split
  · exact h.updMews
  · exact h

theorem Canon.clearResv {m} (h : s.Canon) : (s.clearResv m).Canon := by
  unfold State.clearResv
  split
  · exact h.updMews
  · exact h

theorem Canon.storeCond {wide m addr x} (h : s.Canon) : (s.storeCond wide m addr x).Canon :=
  .ite h (.ite (.clearResv (h.atomic (fun h' => h'))) (.clearResv (h.atomic (fun h' => h'))))

theorem Canon.fenceServe (h : s.Canon) : s.fenceServe.Canon := h.updMews.emits

theorem Canon.cbo {m k addr f} (h : s.Canon) (hf : ∀ {a} {t : State}, t.Canon → (f a t).Canon) : (s.cbo m k addr f).Canon := by
  unfold State.cbo
  split
  next hg => exact (h.notMain.or h.coreGate).of_eq hg
  · exact (hf h).emit

theorem Canon.flushLine {a} (h : s.Canon) : (s.flushLine a).Canon := by
  unfold State.flushLine
  extract_lets s1
  have hs1 : s1.Canon := h.cleanLine
  split
  · exact .ite hs1.dropLine.breakResv hs1
  · exact hs1

theorem Canon.zeroLine {m a} (h : s.Canon) : (s.zeroLine m a).Canon := by
  unfold State.zeroLine
  extract_lets s1 z w
  have hs1 : s1.Canon := h.breakResv
  split
  · exact hs1.bump.cputLine
  · exact hs1.bump.evictWay.cputLine

theorem Canon.prefetch {m addr way} (h : s.Canon) : (s.prefetch m addr way).Canon := .ite h.fillLine h

theorem Canon.cleanAll (h : s.Canon) : s.cleanAll.Canon := h.foldl (fun h' => h'.cleanLine)

theorem Canon.emptyCache (h : s.Canon) : s.emptyCache.Canon := h.cleanAll.updMews

theorem Canon.unlock {tag} (h : s.Canon) : (s.unlock tag).Canon := h.updMews

theorem Canon.lockWrite {i v} (h : s.Canon) : (s.lockWrite i v).Canon :=
  .ite h.unlock.csrPut.updMews (.ite h.flag h.unlock.csrPut.updMews)

theorem Canon.lockLine {a} (h : s.Canon) : (s.lockLine a).Canon := by
  unfold State.lockLine
  extract_lets w s1
  have hs1 : s1.Canon := h.evictWay
  split
  · exact .ite h h.dropLine.evictWay.cputLine
  · split
    · exact h
    · exact hs1.lineIn.cputLine

theorem Canon.lockLines {n a} (h : s.Canon) : (State.lockLines n a s).Canon := by
  induction n generalizing s a with
  | zero => exact h
  | succ n ih => exact ih h.lockLine

theorem Canon.lockFill (h : s.Canon) : s.lockFill.Canon := by
  unfold State.lockFill
  split
  · exact h
  · exact h.lockLines.updMews

theorem Canon.tenantServe {c} (h : s.Canon) : (s.tenantServe c).Canon := h.updMews.foldl (fun h' => h'.raiseAt)

theorem Canon.coreStart {c} (h : s.Canon) : (s.coreStart c).Canon := h.wr.tenantServe

theorem Canon.coreHalt {c} (h : s.Canon) : (s.coreHalt c).Canon := h.wr.updMews

theorem Canon.flashGo {op} (h : s.Canon) : (s.flashGo op).Canon := .ite h.flag h.wr.wr.wr.updMews

theorem Canon.bufRead {m n a} (h : s.Canon) : (s.bufRead m n a).1.Canon := by
  induction n generalizing s a with
  | zero => exact h
  | succ n ih =>
    unfold State.bufRead
    refine .ite_fst (.pair h.report) ?_
    split
    next hc =>
      split
      next hr => exact (ih (h.cacheRead.of_pair hc)).of_pair hr
      next hr => exact (ih (h.cacheRead.of_pair hc)).of_pair hr
    next hc => exact h.cacheRead.of_pair hc

theorem Canon.bufWrite {m a l} (h : s.Canon) : (s.bufWrite m a l).1.Canon := by
  induction l generalizing s a with
  | nil => exact h
  | cons x r ih =>
    unfold State.bufWrite
    refine .ite_fst (.pair h.report) ?_
    split
    next hw => exact ih (h.cacheWrite.of_pair hw)
    next hw => exact h.cacheWrite.of_pair hw

theorem Canon.flashEnd {deviceError} (h : s.Canon) : (s.flashEnd deviceError).Canon := by
  unfold State.flashEnd
  split
  · exact h
  · refine .ite h ?_
    extract_lets s1
    have hs1 : s1.Canon := h.updMews
    split
    next t err hq =>
      have ht : t.Canon := by
        refine Canon.of_pair (.ite_fst (.pair hs1) (.ite_fst (.pair hs1) (.ite_fst (.pair hs1) ?_))) hq
        split
        · exact .pair hs1.bufWrite
        · split
          next hr => exact .pair (hs1.bufRead.of_pair hr).updMews
          next hr => exact .pair (hs1.bufRead.of_pair hr)
        · exact .pair hs1.updMews
      exact .raiseWarden (.ite ht.wr.wr.wr ht.wr.wr.wr.flag)

theorem Canon.setQp {q st} (h : s.Canon) : (s.setQp q st).Canon := h.wr.wr

theorem Canon.killRuns {p} (h : s.Canon) : (s.killRuns p).Canon := h.updTci

theorem Canon.stormCheck (h : s.Canon) : s.stormCheck.Canon := .ite h.wr.flag (.ite h h.wr)

theorem Canon.qpError {q} (h : s.Canon) : (s.qpError q).Canon := .ite h h.setQp.flag.killRuns.updTci.stormCheck.report

theorem Canon.ringWrite {q a l} (h : s.Canon) : (s.ringWrite q a l).1.Canon := .ite_fst (.pair h.emit) h.cacheWrite

theorem Canon.raiseQp {q} (h : s.Canon) : (s.raiseQp q).Canon := .ite h.updTci.emit (.ite h.updTci.raiseTenant h.updTci)

theorem Canon.signal {q notify} (h : s.Canon) : (s.signal q notify).Canon := .ite h.raiseQp (.ite h.updTci.raiseQp h.updTci)

theorem Canon.rqWrite {q r notify} (h : s.Canon) : (s.rqWrite q r notify).Canon := by
  unfold State.rqWrite
  extract_lets tail r1
  split
  next hq => exact (h.ringWrite.of_pair hq).qpError
  next hq => exact (h.ringWrite.of_pair hq).wr.updTci.emit.signal

theorem Canon.replyMsgTo {q reps} (h : s.Canon) : (s.replyMsgTo q reps).Canon := .ite h.emits.sendOn h.emits.sendTo

theorem Canon.deliver {i r} (h : s.Canon) : (s.deliver i r).Canon := by
  unfold State.deliver
  extract_lets q
  split
  · split
    · exact h.emit.answerTo
    · exact h.emit
  · exact .ite h (.ite h.replyMsgTo.signal h.rqWrite)

theorem Canon.dupAdd {key rid} (h : s.Canon) : (s.dupAdd key rid).Canon := h.updTci

theorem Canon.dupForget {key rid} (h : s.Canon) : (s.dupForget key rid).Canon := h.updTci

theorem Canon.dupSet {key rid st} (h : s.Canon) : (s.dupSet key rid st).Canon := h.updTci

theorem Canon.dupReply {i status r0 r1 done} (h : s.Canon) : (s.dupReply i status r0 r1 done).Canon := h.deliver

theorem Canon.dupFinal {key rid status r0 r1 done} (h : s.Canon) : (s.dupFinal key rid status r0 r1 done).Canon :=
  h.dupSet.updTci.foldl (fun h' => h'.dupReply)

theorem Canon.dupGone {key rid} (h : s.Canon) : (s.dupGone key rid).Canon := by
  unfold State.dupGone
  extract_lets s1
  have hs1 : s1.Canon := h.dupForget
  split
  · exact hs1
  · exact hs1.updTci.dupAdd.stormCheck

theorem Canon.dupEnd {i status r0 r1 done} (h : s.Canon) : (s.dupEnd i status r0 r1 done).Canon :=
  .ite h (.ite h.dupGone (.ite h.dupSet (.ite h.dupSet (.ite h.dupFinal h.dupFinal))))

theorem Canon.dropRun {seq} (h : s.Canon) : (s.dropRun seq).Canon := h.updTci

theorem Canon.waitOn {seq w arg arg2} (h : s.Canon) : (s.waitOn seq w arg arg2).Canon := h.updTci

theorem Canon.endAt {seq status r0 r1 retry flags done} (h : s.Canon) : (s.endAt seq status r0 r1 retry flags done).Canon := by
  unfold State.endAt
  split
  · exact h
  · exact .ite (.ite h.dropRun.updTci.dupFinal h.dropRun.updTci) h.dropRun.updTci.deliver.dupEnd

theorem Canon.endFlags {seq status r0 r1 retry flags} (h : s.Canon) : (s.endFlags seq status r0 r1 retry flags).Canon := h.endAt

theorem Canon.endRun {seq status r0 r1} (h : s.Canon) : (s.endRun seq status r0 r1).Canon := h.endFlags

theorem Canon.endRetry {seq status retry} (h : s.Canon) : (s.endRetry seq status retry).Canon := h.endFlags

theorem Canon.endAll {p status} (h : s.Canon) : (s.endAll p status).Canon := h.foldl (fun h' => h'.endRun)

theorem Canon.endAllRetry {p status retry} (h : s.Canon) : (s.endAllRetry p status retry).Canon := h.foldl (fun h' => h'.endRetry)

theorem Canon.turnAway {i status retry flags} (h : s.Canon) : (s.turnAway i status retry flags).Canon := h.deliver

theorem Canon.admitCmd {c fwd link} (h : s.Canon) : (s.admitCmd c fwd link).1.Canon := by
  unfold State.admitCmd
  refine .ite_fst (.pair h.updTci.turnAway) (.ite_fst (.pair (.turnAway (.ite h.updTci.bump.bump h.updTci.bump))) ?_)
  extract_lets s1 enter
  have hs1 : s1.Canon := .ite h.updTci.bump h.updTci
  split
  · exact .pair hs1.turnAway
  · refine .ite_fst (.pair hs1.updTci.stormCheck) ?_
    split
    · exact .pair hs1.dupAdd.updTci.stormCheck
    · split
      · exact .pair hs1.dupReply
      · exact .ite_fst (.pair hs1.updTci.stormCheck) (.pair hs1.turnAway)
      · exact .ite_fst (.pair hs1.updTci.stormCheck) (.pair hs1.updTci)

theorem Canon.dispatch {i} (h : s.Canon) : (s.dispatch i).Canon := h.updTci.stormCheck

theorem Canon.forward {i} (h : s.Canon) : (s.forward i).Canon := h.waitOn.request

theorem Canon.command {op c f} (h : s.Canon) (hf : ∀ {t : State} {x}, t.Canon → (f t x).Canon) : (s.command op c f).Canon := by
  unfold State.command
  refine .ite h ?_
  split
  · exact .ite h (.ite h.dispatch.forward (hf h.dispatch))
  · split
    next hq1 => exact .ite (h.admitCmd.of_pair hq1) (.ite (h.admitCmd.of_pair hq1).dispatch.forward (hf (h.admitCmd.of_pair hq1).dispatch))
    next hq1 => exact h.admitCmd.of_pair hq1

theorem Canon.dropDoorbell (h : s.Canon) : s.dropDoorbell.Canon := h.bump

theorem Canon.doorbellDrop {q m v d} (h : s.Canon) : CanonOf id (s.doorbellDrop q m v d) :=
  .ite (.some h.dropDoorbell) (.ite (.some h.flag.report) (.ite (.some h.dropDoorbell) .none))

theorem Canon.sqRing {q v} (h : s.Canon) : (s.sqRing q v).Canon := h.wr.updTci

theorem Canon.sqDoorbellAt {q w} (h : s.Canon) : (s.sqDoorbellAt q w).Canon := by
  unfold State.sqDoorbellAt
  refine .ite h ?_
  split
  next hq => exact h.doorbellDrop.of_eq hq
  · exact h.sqRing

theorem Canon.rqDoorbellAt {q w} (h : s.Canon) : (s.rqDoorbellAt q w).Canon := by
  unfold State.rqDoorbellAt
  refine .ite h ?_
  split
  next hq => exact h.doorbellDrop.of_eq hq
  · exact h.wr

theorem Canon.fetchServed {q} (h : s.Canon) : (s.fetchServed q).Canon := by
  unfold State.fetchServed
  exact h.updTci

theorem Canon.fetchBlock {a} (h : s.Canon) : (s.fetchBlock a).1.Canon := by
  unfold State.fetchBlock
  split
  next hq =>
    refine .ite_fst (.pair (h.cacheRead.of_pair hq)) ?_
    split
    next hq1 => exact .pair ((h.cacheRead.of_pair hq).cacheRead.of_pair hq1)
    next hq1 => exact .pair ((h.cacheRead.of_pair hq).cacheRead.of_pair hq1)
  next hq => exact .pair (h.cacheRead.of_pair hq)

theorem Canon.fetchEntry {q i hd} (h : s.Canon) : (s.fetchEntry q i hd).1.Canon := by
  unfold State.fetchEntry
  refine .ite_fst (.pair h) ?_
  split
  next hq =>
    refine .ite_fst (.pair (h.cacheRead.of_pair hq)) (.ite_fst (.pair (h.cacheRead.of_pair hq).updTci) ?_)
    split
    next hq1 => exact .pair ((h.cacheRead.of_pair hq).fetchBlock.of_pair hq1)
    next hq1 => exact .pair ((h.cacheRead.of_pair hq).fetchBlock.of_pair hq1)
  next hq => exact .pair (h.cacheRead.of_pair hq)

theorem Canon.fetchList {q n i host} (h : s.Canon) : (s.fetchList q n i host).1.Canon := by
  induction n generalizing s i host with
  | zero => exact h
  | succ n ih =>
    unfold State.fetchList
    split
    next he => exact h.fetchEntry.of_pair he
    next he =>
      split
      next hl => exact (ih (h.fetchEntry.of_pair he)).of_pair hl

theorem Canon.headShadow {q} (h : s.Canon) : (s.headShadow q).Canon := by
  unfold State.headShadow
  split
  next hq => exact h.ringWrite.of_pair hq
  next hq => exact (h.ringWrite.of_pair hq).qpError

theorem Canon.admitAll {l} (h : s.Canon) : (s.admitAll l).Canon := h.foldl (fun h' => h'.admitCmd)

theorem Canon.fetchTurn {host fail} (h : s.Canon) : (s.fetchTurn host fail).Canon := by
  unfold State.fetchTurn
  split
  · exact h
  · extract_lets want n s1 head
    have hs1 : s1.Canon := h.fetchServed
    refine .ite hs1.qpError (.ite hs1 ?_)
    split
    next hq1 => exact (hs1.fetchList.of_pair hq1).qpError
    next hq1 =>
      extract_lets s3 s4 s5 s6
      have hs3 : s3.Canon := (hs1.fetchList.of_pair hq1).wr
      have hs4 : s4.Canon := hs3.updTci
      have hs5 : s5.Canon := .ite hs4.updTci hs4
      have hs6 : s6.Canon := .ite hs5 hs5.headShadow
      exact .ite hs6 hs6.admitAll

theorem Canon.cmdAnswer {link m q reps} (h : s.Canon) : (s.cmdAnswer link m q reps).Canon := .ite h h.emits.answerTo

theorem Canon.cmdAppend {q link l} (h : s.Canon) : (s.cmdAppend q link l).1.Canon := by
  induction l generalizing s with
  | nil => exact h
  | cons c r ih =>
    unfold State.cmdAppend
    extract_lets
    refine .ite_fst h (.ite_fst ?_ ?_)
    · split
      next hr => exact .pair ((ih h).of_pair hr).bump
    · extract_lets
      split
      next hw => exact .pair (h.ringWrite.of_pair hw).qpError
      next hw => exact ih (h.ringWrite.of_pair hw).updTci.sqRing

theorem Canon.cmdMessage {link m} (h : s.Canon) : (s.cmdMessage link m).Canon :=
  .ite h.cmdAnswer (.ite h.flag.report.cmdAnswer (.ite h.dropDoorbell h.cmdAppend.cmdAnswer))

theorem Canon.fwdMessage {m} (h : s.Canon) : (s.fwdMessage m).Canon := by
  unfold State.fwdMessage
  split
  · exact h
  · exact h.admitCmd

theorem Canon.coalesce {q} (h : s.Canon) : (s.coalesce q).Canon := by
  unfold State.coalesce
  split
  · exact h
  · exact .ite h h.raiseQp

theorem Canon.dupExpire {q rid} (h : s.Canon) : (s.dupExpire q rid).Canon := by
  unfold State.dupExpire
  split
  · exact .ite h.dupForget h
  · exact h

theorem Canon.cmdTimeout {q tag ridLo} (h : s.Canon) : (s.cmdTimeout q tag ridLo).Canon := by
  unfold State.cmdTimeout
  extract_lets hit
  split
  · exact .ite h.deliver.dropRun (.ite h.deliver.killRuns.dupSet h.deliver.killRuns)
  · split
    · exact h
    · exact .ite h.updTci.stormCheck.deliver.dupFinal h.updTci.stormCheck.deliver

theorem Canon.deferred (h : s.Canon) : s.deferred.Canon := h.flag

theorem Canon.book {claim} (h : s.Canon) : (s.book claim).Canon := h.updPwr.bump

theorem Canon.charge {uj} (h : s.Canon) : (s.charge uj).Canon := h.updPwr

theorem Canon.chargeWork {uj} (h : s.Canon) : (s.chargeWork uj).Canon := h.updPwr

end State
end Sys2Proof.Machine
end

section
/-! PROOF. Canonical form is kept by the operations of sessions, transfers and buffers. -/

namespace Sys2Proof.Machine
namespace State
variable {s : State}

theorem Canon.allocHbm (h : s.Canon) : CanonOf Prod.fst s.allocHbm := .ite .none (.some (.pair h.updSes))

theorem Canon.freeHbm {l} (h : s.Canon) : (s.freeHbm l).Canon := h.updSes

theorem Canon.idleSessions (h : s.Canon) : s.idleSessions.Canon := h.foldl (fun h' => .ite (h'.setSes _ _) h')

theorem Canon.setXfers {f} (h : s.Canon) : (s.setXfers f).Canon := h.updRoost

theorem Canon.dropXfer {k obj} (h : s.Canon) : (s.dropXfer k obj).Canon := h.setXfers

theorem Canon.endPark {slot status retry} (h : s.Canon) : (s.endPark slot status retry).Canon := by
  unfold State.endPark
  split
  · exact h
  · exact .endAllRetry (.setSes (h.dropXfer.releaseFrames.foldl (fun h' => h'.putLine)) _ _)

theorem Canon.endParkFail {slot status retry} (h : s.Canon) : (s.endParkFail slot status retry).Canon := by
  unfold State.endParkFail
  extract_lets s1
  have hs1 : s1.Canon := h.endPark
  split
  · exact hs1
  · exact (hs1.setSes _ _)

theorem Canon.failUnpark {slot status retry} (h : s.Canon) : (s.failUnpark slot status retry).Canon := by
  unfold State.failUnpark
  extract_lets runs x s1 s2 s3
  have hs1 : s1.Canon := ⟨h.csr, h.mem, h.poison⟩
  have hs2 : s2.Canon := hs1.foldl fun h' => h'.endRetry
  have hs3 : s3.Canon := hs2.endAllRetry
  split
  · exact hs3
  · exact hs3.setSes _ _

theorem Canon.stopUnpark {slot} (h : s.Canon) : (s.stopUnpark slot).Canon := by
  unfold State.stopUnpark
  split
  · exact h
  · exact .ite (.ite h.dropXfer.freeHbm h.dropXfer) (.setSes (.ite h.dropXfer.freeHbm h.dropXfer) _ _)

theorem Canon.dropBuddySend {slot} (h : s.Canon) : (s.dropBuddySend slot).Canon := by
  unfold State.dropBuddySend
  extract_lets s1
  have hs1 : s1.Canon := h.dropXfer
  split
  · exact hs1
  · exact (hs1.setSes _ _)

theorem Canon.endExport {slot status retry} (h : s.Canon) : (s.endExport slot status retry).Canon := by
  unfold State.endExport
  refine .endAllRetry ?_
  split
  · exact h.dropXfer
  · exact (h.dropXfer.setSes _ _)

theorem Canon.endImport {stream status retry} (h : s.Canon) : (s.endImport stream status retry).Canon := by
  unfold State.endImport
  split
  · exact h
  · exact h.dropXfer.releaseFrames.updSes.endRetry

theorem Canon.dropIncoming {p} (h : s.Canon) : (s.dropIncoming p).Canon := by
  unfold State.dropIncoming
  extract_lets s1
  have hs1 : s1.Canon := h.dropXfer
  split
  · exact hs1
  · exact hs1.releaseFrames.updSes

theorem Canon.displace {x code} (h : s.Canon) : (s.displace x code).Canon := by
  unfold State.displace
  extract_lets s1
  have hs1 : s1.Canon := h.flag
  split
  · exact hs1.endPark
  · exact hs1.dropXfer.failUnpark
  · exact hs1.endExport
  · exact hs1.endImport
  · exact hs1.dropBuddySend
  · exact hs1.dropIncoming

theorem Canon.enqueue {k obj cls pages pt} (h : s.Canon) : (s.enqueue k obj cls pages pt).1.Canon := by
  unfold State.enqueue
  refine .ite_fst (.pair h.updRoost) (.ite_fst (.pair h.flag) ?_)
  split
  · exact .pair h.flag
  · exact .pair h.flag.displace.updRoost

theorem Canon.startPark {slot hard} (h : s.Canon) : (s.startPark slot hard).1.Canon := by
  unfold State.startPark
  split
  · exact .pair h
  · split
    next hq1 => exact .pair ((h.enqueue.of_pair hq1).setSes _ _)
    next hq1 => exact .pair (h.enqueue.of_pair hq1)

theorem Canon.parkUntil {hard goal l} (h : s.Canon) : (s.parkUntil hard goal l).Canon := by
  induction l generalizing s with
  | nil => exact h
  | cons x r ih => exact .ite h (ih h.startPark)

theorem Canon.parkSome {n l} (h : s.Canon) : (s.parkSome n l).Canon := by
  induction n generalizing s l with
  | zero => unfold State.parkSome; exact h
  | succ n ih =>
    cases l with
    | nil => exact h
    | cons x r => exact ih h.startPark

theorem Canon.hardParks {goal} (h : s.Canon) : (s.hardParks goal).Canon := h.parkUntil

theorem Canon.freeParked {slot} (h : s.Canon) : (s.freeParked slot).Canon := by
  unfold State.freeParked
  split
  · exact h
  · exact .ite (h.freeHbm.setSes _ _) h

theorem Canon.parkEvaluation (h : s.Canon) : s.parkEvaluation.Canon := by
  unfold State.parkEvaluation
  extract_lets s1 pool hard ok s2 n
  have hs1 : s1.Canon := h.foldl (fun h' => h'.freeParked)
  have hs2 : s2.Canon := .ite hs1.hardParks (.ite hs1.parkUntil hs1)
  exact .updPwr (.ite hs2 hs2.parkSome)

theorem Canon.adopt {slot x} (h : s.Canon) : (s.adopt slot x).Canon := .setSes (h.foldl (fun h' => h'.setFrame)) _ _

theorem Canon.queueUnpark {slot x crit} (h : s.Canon) : (s.queueUnpark slot x crit).1.Canon := by
  unfold State.queueUnpark
  refine .ite_fst (.pair (.ite (h.setSes _ _).setXfers (h.setSes _ _))) ?_
  split
  next hq => exact .pair ((h.enqueue.of_pair hq).setSes _ _)
  next hq => exact .pair (h.enqueue.of_pair hq)

theorem Canon.activate {slot op crit} (h : s.Canon) : (s.activate slot op crit).1.Canon := by
  unfold State.activate
  split
  · exact .pair h
  · refine .ite_fst (.pair h) (.ite_fst (.pair h) ?_)
    split
    · exact .ite_fst (.pair h) (.pair (h.setSes _ _))
    · exact .pair h
    · extract_lets s1
      have hs1 : s1.Canon := .ite h.endPark h
      split
      · exact .pair (hs1.setSes _ _)
      · exact .pair hs1
    · exact .ite_fst (.pair h) (.ite_fst (.pair h) (.ite_fst (.pair h.adopt) h.queueUnpark))
    · exact .pair h

theorem Canon.unparked {slot x} (h : s.Canon) : (s.unparked slot x).Canon :=
  .foldl (.setSes (.ite (h.dropXfer.foldl (fun h' => h'.setFrame)) h.dropXfer.releaseFrames) _ _) (fun h' => h'.endRun)

theorem Canon.dropClean {slot} (h : s.Canon) : (s.dropClean slot).Canon := by
  unfold State.dropClean
  split
  · exact h
  · exact (h.releaseFrames.setSes _ _)

theorem Canon.reclaimList {goal l} (h : s.Canon) : (s.reclaimList goal l).Canon := by
  induction l generalizing s with
  | nil => exact h
  | cons x r ih => exact .ite h (ih h.dropClean)

theorem Canon.reclaim {goal} (h : s.Canon) : (s.reclaim goal).Canon := h.reclaimList

theorem Canon.keepQuarter (h : s.Canon) : s.keepQuarter.Canon := .ite h.reclaim h

theorem Canon.sendBuddyDel {x} (h : s.Canon) : (s.sendBuddyDel x).Canon := .ite h h.request

theorem Canon.stopRuns {p status} (h : s.Canon) : (s.stopRuns p status).Canon := ⟨h.csr, h.mem, h.poison⟩

theorem Canon.dropReady {p status} (h : s.Canon) : (s.dropReady p status).Canon :=
  .foldl ⟨h.csr, h.mem, h.poison⟩ (fun h' => h'.endRun)

theorem Canon.beginClose {slot} (h : s.Canon) : (s.beginClose slot).Canon := by
  unfold State.beginClose
  split
  · exact h
  · extract_lets s1 s2 s3 s4 s5 s6
    have hs1 : s1.Canon := (h.setSes _ _)
    have hs2 : s2.Canon := hs1.dropReady
    have hs3 : s3.Canon := hs2.stopRuns
    have hs4 : s4.Canon := hs3.endAll
    have hs5 : s5.Canon := .ite hs4.endPark hs4
    have hs6 : s6.Canon := hs5.stopUnpark.dropBuddySend
    exact .ite hs6.endExport hs6

theorem Canon.finishClose {slot x} (h : s.Canon) : (s.finishClose slot x).Canon :=
  h.freeHbm.releaseFrames.sendBuddyDel.updSes.endAll.endAll

theorem Canon.closeSessions (h : s.Canon) : s.closeSessions.Canon := h.foldl (fun h' => .ite h'.finishClose h')

theorem Canon.countFrame {sectors} (h : s.Canon) : (s.countFrame sectors).Canon := h.bump.charge

theorem Canon.takeFrame (h : s.Canon) : CanonOf Prod.fst s.takeFrame := by
  unfold State.takeFrame
  split
  next hr => exact .some (h.allocFrame.of_eq hr)
  · exact .ite .none h.reclaim.allocFrame

theorem Canon.hbmSector {f i} (h : s.Canon) : (s.hbmSector f i).1.Canon := h.readLines

theorem Canon.sealFrameSector {f i d l poison} (h : s.Canon) : (s.sealFrameSector f i d l poison).1.Canon := by
  unfold State.sealFrameSector
  extract_lets sec
  split
  next hq => exact .pair (.mergeTurn (.ite (h.mergeSettle.sealSector.of_pair hq).storeRec (h.mergeSettle.sealSector.of_pair hq)))
  · exact h.mergeSettle.sealSector

theorem Canon.parkRefused {slot e} (h : s.Canon) : (s.parkRefused slot e).Canon := .ite h.endParkFail h.endParkFail

theorem Canon.sealFrame {f d get n i} (h : s.Canon) (hget : ∀ {t : State} {i}, t.Canon → (get t i).1.Canon) : (s.sealFrame f d get n i).1.Canon := by
  induction n generalizing s i with
  | zero => exact h
  | succ n ih =>
    unfold State.sealFrame
    split
    next hg =>
      split
      next hs => exact ih (((hget h).of_pair hg).sealFrameSector.of_pair hs)
      · exact ((hget h).of_pair hg).sealFrameSector

theorem Canon.parkStep {t} (h : s.Canon) : (s.parkStep t).Canon := by
  unfold State.parkStep
  split
  · exact h.dropXfer
  · split
    · exact h.endParkFail
    next hq1 =>
      split
      · extract_lets s2 hbm
        have hs2 : s2.Canon := ((h.takeFrame.of_eq hq1).setSes _ _)
        split
        next hq3 => exact .countFrame (.putXfer (.of_pair (hs2.sealFrame (fun h' => h'.hbmSector)) hq3) _)
        next hq3 => exact .parkRefused (.of_pair (hs2.sealFrame (fun h' => h'.hbmSector)) hq3)
      · extract_lets s2 base n
        have hs2 : s2.Canon := ((h.takeFrame.of_eq hq1).setSes _ _)
        split
        next hq3 => exact .countFrame (.putXfer (.of_pair (hs2.sealFrame (fun h' => .pair h')) hq3) _)
        next hq3 => exact .parkRefused (.of_pair (hs2.sealFrame (fun h' => .pair h')) hq3)

theorem Canon.commitWrite {slot} (h : s.Canon) : (s.commitWrite slot).Canon := by
  unfold State.commitWrite
  split
  · refine .ite h ?_
    split
    · exact h.parkRefused
    · exact ((h.putLine.setSes _ _).putXfer _)
  · exact h

theorem Canon.buddyStart {slot} (h : s.Canon) : (s.buddyStart slot).Canon := by
  unfold State.buddyStart
  split
  · exact h
  · refine .ite h ?_
    split
    next hq1 => exact ((h.enqueue.of_pair hq1).setSes _ _)
    next hq1 => exact ((h.enqueue.of_pair hq1).setSes _ _)

theorem Canon.firstRecord {slot pt} (h : s.Canon) : (s.firstRecord slot pt).Canon := by
  unfold State.firstRecord
  split
  · exact h
  · refine .buddyStart (.setSes ?_ _ _)
    split
    · exact h
    · exact h.putLine

theorem Canon.commitAck {slot freed shards} (h : s.Canon) : (s.commitAck slot freed shards).Canon := by
  unfold State.commitAck
  split
  · refine .ite h (.ite (h.setSes _ _).endPark (.ite h ?_))
    extract_lets old s1 pages s2 recs s3 s4 s5
    have hs1 : s1.Canon := h.dropXfer.releaseFrames
    have hs2 : s2.Canon := hs1.foldl (fun h' => h'.setFrame)
    have hs3 : s3.Canon := (hs2.setSes _ _)
    have hs4 : s4.Canon := .ite hs3.freeParked hs3
    have hs5 : s5.Canon := .ite hs4 hs4.buddyStart
    split
    · exact hs5
    · exact hs5.foldl (fun h' => h'.endRun)
  · exact h

theorem Canon.unsealFrame {f n i} (h : s.Canon) : (s.unsealFrame f n i).1.Canon := by
  induction n generalizing s i with
  | zero => exact h
  | succ n ih =>
    unfold State.unsealFrame
    split
    next hu => exact h.mergeSettle.unsealSector.of_pair hu
    next hu =>
      split
      next hr => exact (ih (h.mergeSettle.unsealSector.of_pair hu).mergeTurn).of_pair hr
      next hr => exact (ih (h.mergeSettle.unsealSector.of_pair hu).mergeTurn).of_pair hr

theorem Canon.unparkFails {slot} (h : s.Canon) : (s.unparkFails slot).Canon := by
  unfold State.unparkFails
  extract_lets s1
  have hs1 : s1.Canon := h.stopUnpark
  split
  · exact hs1
  · exact (hs1.setSes _ _).failUnpark

theorem Canon.unparkStep {t} (h : s.Canon) : (s.unparkStep t).Canon := by
  unfold State.unparkStep
  split
  · split
    · exact (h.putXfer _)
    · split
      next hq3 => exact (h.unsealFrame.of_pair hq3).flag.unparkFails
      next hq3 => exact (((h.unsealFrame.of_pair hq3).writeLines.setSes _ _).putXfer _).countFrame
  · exact h

theorem Canon.framesFor {l} (h : s.Canon) : CanonOf Prod.fst (s.framesFor l) := by
  induction l generalizing s with
  | nil => exact .some h
  | cons x r ih =>
    unfold State.framesFor
    split
    · exact .none
    next ha =>
      split
      · exact .none
      next hr =>
        have ht := (ih (h.allocHbm.of_eq ha)).of_eq hr
        exact .some ht

theorem Canon.unparkBegin {t x} (h : s.Canon) : (s.unparkBegin t x).1.Canon := by
  unfold State.unparkBegin
  split
  · exact .pair (.hardParks (.ite (h.setSes _ _) h))
  next hq => exact .pair (((h.framesFor.of_eq hq).setSes _ _).putXfer _)

theorem Canon.unparkComplete {slot shards} (h : s.Canon) : (s.unparkComplete slot shards).Canon := by
  unfold State.unparkComplete
  split
  · exact .ite h (.ite h.unparkFails (.ite h.unparked h))
  · exact h

theorem Canon.toGateway {kind w data for_} (h : s.Canon) : (s.toGateway kind w data for_).Canon := h.requestGw

theorem Canon.sendExport {slot stream idx k plain} (h : s.Canon) : (s.sendExport slot stream idx k plain).Canon := h.toGateway

theorem Canon.pagePlain {e} (h : s.Canon) : (s.pagePlain e).1.Canon := by
  unfold State.pagePlain
  refine .ite_fst (.foldl_fst (.pair h) fun h' => ?_) h.unsealFrame
  split
  · split
    next hq => exact .pair (h'.hbmSector.of_pair hq)
  · exact h'

theorem Canon.sendSectors {slot stream k i l} (h : s.Canon) : (s.sendSectors slot stream k i l).Canon := by
  induction l generalizing s i with
  | nil => exact h
  | cons x r ih => exact ih h.sendExport

theorem Canon.exportStep {t} (h : s.Canon) : (s.exportStep t).Canon := by
  unfold State.exportStep
  split
  · exact h.dropXfer
  · split
    · exact .ite h.endExport h.endExport
    · refine .ite (h.sendSectors.putXfer _).countFrame ?_
      split
      · exact (h.putXfer _)
      · split
        · exact (h.putXfer _)
        · split
          next hq4 => exact (h.pagePlain.of_pair hq4).endExport
          next hq4 => exact ((h.pagePlain.of_pair hq4).sendSectors.putXfer _).countFrame

theorem Canon.exportBegin {t x} (h : s.Canon) : (s.exportBegin t x).1.Canon := by
  unfold State.exportBegin
  split
  · exact .pair (.ite h.endExport h.endExport)
  · exact .pair (h.toGateway.putXfer _)

theorem Canon.exported {slot t x} (h : s.Canon) : (s.exported slot t x).Canon :=
  (h.dropXfer.freeHbm.releaseFrames.setSes _ _).foldl (fun h' => .ite h'.endRun h')

theorem Canon.exportAnswer {slot m} (h : s.Canon) : (s.exportAnswer slot m).Canon := by
  unfold State.exportAnswer
  split
  · split
    · exact h.endExport
    · exact .ite h.endExport (.ite h.exported h)
  · exact h

theorem Canon.queueExports (h : s.Canon) : s.queueExports.Canon := by
  unfold State.queueExports
  refine h.foldl (fun h' => .ite h' ?_)
  split
  next hq => exact h'.enqueue.of_pair hq
  next hq => exact (h'.enqueue.of_pair hq).endExport

theorem Canon.sendBuddy {x slot kind w data} (h : s.Canon) : (s.sendBuddy x slot kind w data).Canon := h.request

theorem Canon.sendFrame {x slot f n} (h : s.Canon) : (s.sendFrame x slot f n).Canon := by
  unfold State.sendFrame
  exact h.foldl (fun h' => h'.mergeSettle.sendBuddy)

theorem Canon.sendBuddyCommit {x slot} (h : s.Canon) : (s.sendBuddyCommit x slot).Canon := by
  unfold State.sendBuddyCommit
  split
  · exact h.dropBuddySend
  · exact h.sendBuddy

theorem Canon.buddyStep {t} (h : s.Canon) : (s.buddyStep t).Canon := by
  unfold State.buddyStep
  split
  · exact h.dropXfer
  · split
    · exact .ite h.dropBuddySend (.ite (h.sendFrame.putXfer _).countFrame.sendBuddyCommit (h.sendFrame.putXfer _).countFrame)
    · refine .ite (.ite h (h.putXfer _).sendBuddyCommit) ?_
      extract_lets pt i n
      split
      · exact h.dropBuddySend
      · exact .ite (h.sendFrame.putXfer _).countFrame.sendBuddyCommit (h.sendFrame.putXfer _).countFrame

theorem Canon.buddyAnswer {slot kind m} (h : s.Canon) : (s.buddyAnswer slot kind m).Canon := by
  unfold State.buddyAnswer
  split
  · exact h
  · exact .ite (.ite (h.dropXfer.setSes _ _) h) (.ite h h.dropBuddySend)

theorem Canon.buddyRetry {slot} (h : s.Canon) : (s.buddyRetry slot).Canon := by
  unfold State.buddyRetry
  split
  · exact h
  · exact .ite h.buddyStart h

theorem Canon.dirWrite {idx head record} (h : s.Canon) : (s.dirWrite idx head record).Canon := h.putLine.putLine

theorem Canon.putBuddy {b} (h : s.Canon) : (s.putBuddy b).Canon := h.updSes.dirWrite

theorem Canon.dropBuddy {b} (h : s.Canon) : (s.dropBuddy b).Canon := h.updSes.dirWrite

theorem Canon.recvFrame {p home} (h : s.Canon) : CanonOf Prod.fst (s.recvFrame p home) := by
  unfold State.recvFrame
  extract_lets l
  split
  · exact .some h
  · split
    · exact .none
    next hf => exact .some (.pair (h.takeFrame.of_eq hf).updSes)

theorem Canon.recvOrder {p home} (h : s.Canon) : (s.recvOrder p home).Canon := h.updSes

theorem Canon.recvSector {link m} (h : s.Canon) : (s.recvSector link m).Canon := by
  unfold State.recvSector
  extract_lets lsn i d v isV
  split
  · exact h.dropIncoming.statusTo
  next hq =>
    extract_lets s2 k r
    have hs2 : s2.Canon := .ite (h.recvFrame.of_eq hq).recvOrder (h.recvFrame.of_eq hq)
    exact hs2.mergeSettle.rawStore.mergeTurn.bump.statusTo

theorem Canon.recvCommit {link m} (h : s.Canon) : (s.recvCommit link m).Canon :=
  .ite h.dropIncoming.statusTo h.dropXfer.updSes.releaseFrames.putBuddy.statusTo

theorem Canon.recvServe {link m} (h : s.Canon) : (s.recvServe link m).Canon := .ite h.recvCommit h.recvSector

theorem Canon.holdXferMsg {link m} (h : s.Canon) : (s.holdXferMsg link m).Canon := h.updRoost

theorem Canon.buddyDelMsg {link m} (h : s.Canon) : (s.buddyDelMsg link m).Canon := by
  unfold State.buddyDelMsg
  extract_lets h1
  split
  · exact h.statusTo
  · exact h.releaseFrames.dropBuddy.statusTo

theorem Canon.claimMsg {link m} (h : s.Canon) : (s.claimMsg link m).Canon := by
  unfold State.claimMsg
  refine .statusTo ?_
  split
  · exact .ite h.beginClose h
  · exact h

theorem Canon.sendClaims (h : s.Canon) : s.sendClaims.Canon := h.foldl (fun h' => .ite h' h'.updSes.request)

theorem Canon.setImport {i} (h : s.Canon) : (s.setImport i).Canon := h.updSes

theorem Canon.importBegin {t} (h : s.Canon) : (s.importBegin t).1.Canon := .pair (h.putXfer _).toGateway

theorem Canon.importHeader {link m} (h : s.Canon) : (s.importHeader link m).Canon := by
  unfold State.importHeader
  extract_lets f dom groups
  split
  · exact h.statusTo
  · refine .ite h.updKtl.endImport.statusTo ?_
    split
    · exact h.updKtl.endImport.statusTo
    · exact .ite h.updKtl.endImport.statusTo h.updKtl.setImport.statusTo

theorem Canon.imported {i} (h : s.Canon) : (s.imported i).Canon := by
  unfold State.imported
  split
  · exact h.endImport
  · exact .ite h.endImport (h.dropXfer.updSes.setSes _ _).firstRecord.endRun

theorem Canon.importRecord {link m i} (h : s.Canon) : (s.importRecord link m i).Canon := by
  unfold State.importRecord
  extract_lets fail idx tag done j
  have hfail {t : State} {st rt} (h' : t.Canon) : (fail t st rt).Canon := h'.endImport.statusTo
  split
  · exact hfail h
  · refine .ite (hfail h) ?_
    have hdone {t : State} {i} (h' : t.Canon) : (done t i).Canon := .ite h'.setImport.statusTo.imported h'.setImport.statusTo
    refine .ite (hdone h) ?_
    split
    · exact hfail h
    next hf =>
      have ht := (CanonOf.ite h.takeFrame (.some h)).of_eq hf
      extract_lets k
      split
      next hs => exact hdone (ht.setImport.sealFrameSector.of_pair hs).countFrame
      next hs => exact hfail (ht.setImport.sealFrameSector.of_pair hs)
      next hs => exact hfail (ht.setImport.sealFrameSector.of_pair hs)

theorem Canon.importServe {link m} (h : s.Canon) : (s.importServe link m).Canon := by
  unfold State.importServe
  split
  · exact h.statusTo
  · exact h.importRecord

theorem Canon.importSector {link m} (h : s.Canon) : (s.importSector link m).Canon := .ite h.holdXferMsg h.importServe

theorem Canon.xferDead {t} (h : s.Canon) : (s.xferDead t).Canon := by
  unfold State.xferDead
  split
  · exact h.endParkFail
  · exact h.unparkFails
  · exact h.endExport
  · exact h.endImport
  · exact h.dropBuddySend
  · exact h.updRoost.dropIncoming.foldl (fun h' => h'.statusTo)

theorem Canon.xferBegin {t} (h : s.Canon) : (s.xferBegin t).1.Canon := by
  unfold State.xferBegin
  refine .ite_fst (.pair h.xferDead) ?_
  split
  · exact .pair (h.putXfer _)
  · split
    · exact h.unparkBegin
    · exact .pair h.dropXfer
  · split
    · exact h.exportBegin
    · exact .pair h.dropXfer
  · exact h.importBegin
  · exact .pair (h.putXfer _)
  · exact .pair (h.putXfer _)

theorem Canon.startFirst {l} (h : s.Canon) : (s.startFirst l).1.Canon := by
  induction l generalizing s with
  | nil => exact h
  | cons t r ih =>
    unfold State.startFirst
    split
    next hb => exact h.xferBegin.of_pair hb
    next hb => exact ih (h.xferBegin.of_pair hb)

theorem Canon.transferStart (h : s.Canon) : s.transferStart.Canon := by
  unfold State.transferStart
  refine .ite h ?_
  split
  next hq => exact .ite (h.startFirst.of_pair hq).book (h.startFirst.of_pair hq)
  next hq => exact h.startFirst.of_pair hq

theorem Canon.serveMsgs {t} (h : s.Canon) : (s.serveMsgs t).Canon := h.updRoost.foldl (fun h' => .ite h'.importServe h'.recvServe)

theorem Canon.pageTransfer (h : s.Canon) : s.pageTransfer.Canon := by
  unfold State.pageTransfer
  refine .ite h ?_
  extract_lets l
  split
  · exact h
  · refine .keepQuarter ?_
    split
    · exact h.updRoost.parkStep
    · exact h.updRoost.unparkStep
    · exact h.updRoost.exportStep
    · exact h.updRoost.serveMsgs
    · exact h.updRoost.serveMsgs
    · exact h.updRoost.buddyStep

theorem Canon.openReceipt {p} (h : s.Canon) : (s.openReceipt p).1.Canon := by
  unfold State.openReceipt
  refine .ite_fst (.pair h) ?_
  split
  next hq => exact .pair (h.enqueue.of_pair hq)
  next hq => exact .pair (.ite (h.enqueue.of_pair hq).transferStart (h.enqueue.of_pair hq))

theorem Canon.recvMsg {link m} (h : s.Canon) : (s.recvMsg link m).Canon := by
  unfold State.recvMsg
  refine .ite h.dropIncoming.statusTo ?_
  split
  next hq => exact (h.openReceipt.of_pair hq).statusTo
  next hq =>
    split
    · exact (h.openReceipt.of_pair hq).statusTo
    · exact .ite (h.openReceipt.of_pair hq).recvServe (h.openReceipt.of_pair hq).holdXferMsg

theorem Canon.buddySecMsg {link m} (h : s.Canon) : (s.buddySecMsg link m).Canon := h.recvMsg

theorem Canon.buddyCommitMsg {link m} (h : s.Canon) : (s.buddyCommitMsg link m).Canon := h.recvMsg

theorem Canon.unparkDefer {slot} (h : s.Canon) : (s.unparkDefer slot).Canon := by
  unfold State.unparkDefer
  split
  · exact h
  · exact .ite h.dropXfer.deferred.failUnpark h

theorem Canon.unparkFrames {slot} (h : s.Canon) : (s.unparkFrames slot).Canon := by
  unfold State.unparkFrames
  split
  · exact h
  · split
    · exact h
    · exact .ite h h.dropXfer.failUnpark

theorem Canon.tierFailed (h : s.Canon) : s.tierFailed.Canon := by
  unfold State.tierFailed
  extract_lets s1
  have hs1 : s1.Canon := h.foldl (fun h' => h'.xferDead)
  exact hs1.updSes

theorem Canon.roostEngineStops (h : s.Canon) : s.roostEngineStops.Canon := by
  unfold State.roostEngineStops
  refine h.foldl (fun h' => ?_)
  split
  · exact h'.endPark
  · split
    · exact h'
    · exact h'.stopUnpark.setXfers
  · exact h'

theorem Canon.actRead {m a n c} (h : s.Canon) : (s.actRead m a n c).1.Canon := by
  unfold State.actRead
  refine .ite_fst (.pair h.report) (.ite_fst (.pair h.report) ?_)
  extract_lets j
  split
  next hq => exact .pair (h.portRead.of_pair hq)
  next hq => exact .pair (h.portRead.of_pair hq)

theorem Canon.actWrite {m a l poison c} (h : s.Canon) : (s.actWrite m a l poison c).1.Canon :=
  .ite_fst (.pair h.report) (.ite_fst (.pair h.report) (.pair h.portWrite))

theorem Canon.actAdd {m op a l poison c} (h : s.Canon) : (s.actAdd m op a l poison c).1.Canon := by
  unfold State.actAdd
  refine .ite_fst (.pair h.report) ?_
  extract_lets j
  split
  next hq => exact .pair (h.portAdd.of_pair hq)
  next hq => exact .pair (h.portAdd.of_pair hq)

theorem Canon.sendWrites {t who c poison for_ l} (h : s.Canon) : (s.sendWrites t who c poison for_ l).Canon := by
  induction l generalizing s with
  | nil => exact h
  | cons x r ih => exact ih h.request

theorem Canon.sendAdd {t who c op a l ordered poison for_} (h : s.Canon) : (s.sendAdd t who c op a l ordered poison for_).Canon :=
  h.request

theorem Canon.sendRead {t who c a n for_} (h : s.Canon) : (s.sendRead t who c a n for_).Canon := h.request

theorem Canon.fetchNext {i w n o} (h : s.Canon) : (s.fetchNext i w n o).Canon := h.sendRead

theorem Canon.fetchStart {i w n} (h : s.Canon) : (s.fetchStart i w n).Canon := h.updTci.waitOn.fetchNext

theorem Canon.srcRead {m w x o n c} (h : s.Canon) : (s.srcRead m w x o n c).1.Canon :=
  .ite_fst h.actRead (.ite_fst (.pair h) (.pair h))

theorem Canon.dstWrite {m seq w o l poison c} (h : s.Canon) : (s.dstWrite m seq w o l poison c).1.Canon :=
  .ite_fst (.pair h.emit) (.ite_fst h.actWrite (.pair h.sendWrites))

theorem Canon.copyLines {get put n o} (h : s.Canon) (hget : ∀ {t : State} {o}, t.Canon → (get t o).1.Canon)
    (hput : ∀ {t : State} {o l p}, t.Canon → (put t o l p).1.Canon) : (s.copyLines get put n o).1.Canon := by
  induction n generalizing s o with
  | zero => exact h
  | succ n ih =>
    unfold State.copyLines
    split
    next hg => exact (hget h).of_pair hg
    next hg =>
      split
      next hp => exact ih ((hput ((hget h).of_pair hg)).of_pair hp)
      next hp => exact (hput ((hget h).of_pair hg)).of_pair hp

theorem Canon.gather {m w x c n o} (h : s.Canon) : (s.gather m w x c n o).1.Canon := by
  induction n generalizing s o with
  | zero => exact h
  | succ n ih =>
    unfold State.gather
    split
    next hr => exact h.srcRead.of_pair hr
    next hr =>
      refine .ite_fst (h.srcRead.of_pair hr) ?_
      split
      next hg => exact (ih (h.srcRead.of_pair hr)).of_pair hg
      next hg => exact (ih (h.srcRead.of_pair hr)).of_pair hg

theorem Canon.endK {seq k n} (h : s.Canon) : (s.endK seq k n).Canon := h.endFlags

theorem Canon.copyEnd {seq n k} (h : s.Canon) : (s.copyEnd seq n k).Canon := .ite h.endK (.ite h.waitOn h.endRun)

theorem Canon.copyMove {i ext} (h : s.Canon) : (s.copyMove i ext).Canon :=
  .copyEnd (h.copyLines (fun h' => h'.srcRead) (fun h' => h'.dstWrite))

theorem Canon.fillMove {i} (h : s.Canon) : (s.fillMove i).Canon :=
  .copyEnd (h.copyLines (fun h' => .pair h') (fun h' => h'.dstWrite))

end State
end Sys2Proof.Machine
end

section
/-! PROOF. Canonical form is kept by the operations of plans, the execution units, the tiles and DMA. -/

namespace Sys2Proof.Machine
namespace State
variable {s : State}

theorem Canon.tileStore {t off l poison} (h : s.Canon) : (s.tileStore t off l poison).Canon := .ite h h.writeLines

theorem Canon.storeCode {img w l} (h : s.Canon) : (s.storeCode img w l).Canon := by
  induction l generalizing s with
  | nil => exact h
  | cons x r ih => exact ih h.tileStore

theorem Canon.planInstall {img domain} (h : s.Canon) : (s.planInstall img domain).1.Canon := by
  unfold State.planInstall
  refine .ite_fst (.pair h) ?_
  extract_lets tiles n x
  split
  · exact .pair (.storeCode ⟨h.csr, h.mem, h.poison⟩)
  · exact .pair h

theorem Canon.weightStore {p o l poison} (h : s.Canon) : (s.weightStore p o l poison).1.Canon := .pair h.tileStore

theorem Canon.unloadPlans (h : s.Canon) : s.unloadPlans.Canon :=
  h.foldl (fun h' => .ite (.endAll (.updPwr ⟨h'.csr, h'.mem, h'.poison⟩)) h')

theorem Canon.setTalon {f} (h : s.Canon) : (s.setTalon f).Canon := ⟨h.csr, h.mem, h.poison⟩

theorem Canon.setUnits {t u} (h : s.Canon) : (s.setUnits t u).Canon := h.setTalon

theorem Canon.tileLines {t n off} (h : s.Canon) : (s.tileLines t n off).1.Canon := by
  induction n generalizing s off with
  | zero => exact h
  | succ n ih =>
    unfold State.tileLines
    split
    next hl =>
      split
      next hr => exact (ih (h.tileLine.of_pair hl)).of_pair hr

theorem Canon.readAt {t l} (h : s.Canon) : (s.readAt t l).1.Canon := by
  induction l generalizing s with
  | nil => exact h
  | cons o r ih =>
    unfold State.readAt
    split
    next hl =>
      split
      next hr => exact (ih (h.tileLines.of_pair hl)).of_pair hr

theorem Canon.tileOp {t o} (h : s.Canon) : (s.tileOp t o).1.Canon := by
  unfold State.tileOp
  extract_lets u
  split
  · split
    next hq => exact .ite_fst (.pair (h.readAt.of_pair hq)) (.pair (h.readAt.of_pair hq).setUnits)
  · split
    next hq => exact .ite_fst (.pair (h.tileLines.of_pair hq)) (.pair (h.tileLines.of_pair hq).setUnits)
  · exact .pair h.tileStore
  · exact .pair h.tileStore
  · exact .pair h.setUnits

theorem Canon.tileOps {t l} (h : s.Canon) : (s.tileOps t l).1.Canon := by
  induction l generalizing s with
  | nil => exact h
  | cons o r ih =>
    unfold State.tileOps
    split
    next ho => exact h.tileOp.of_pair ho
    next ho => exact ih (h.tileOp.of_pair ho)

theorem Canon.countTile {t u} (h : s.Canon) : (s.countTile t u).Canon := h.bump.bump.bump

theorem Canon.countUse {l} (h : s.Canon) : CanonOf id (s.countUse l) := by
  induction l generalizing s with
  | nil => exact .some h
  | cons x r ih =>
    unfold State.countUse
    split
    · exact .none
    next ho => exact ih (h.decay.tileOps.of_pair ho).countTile

theorem Canon.setTile {t v} (h : s.Canon) : (s.setTile t v).Canon := h.wr

theorem Canon.accrueAll (h : s.Canon) : s.accrueAll.Canon := h.setTalon

theorem Canon.setClock {d f} (h : s.Canon) : (s.setClock d f).Canon := .ite h (.wr (.wr (.wr (.accrueAll (.ite h.flag h)))))

theorem Canon.newPages {l t} (h : s.Canon) : CanonOf Prod.fst (s.newPages l t) := by
  induction l generalizing s t with
  | nil => exact .some h
  | cons k r ih =>
    unfold State.newPages
    split
    · exact .none
    next ha => exact ih (h.allocHbm.of_eq ha)

theorem Canon.dirtyPage {x k} (h : s.Canon) : (s.dirtyPage x k).1.Canon := by
  unfold State.dirtyPage
  split
  · exact .pair h
  · exact .pair (.ite h.releaseFrames h)

theorem Canon.runBegin {r} (h : s.Canon) : CanonOf Prod.fst (s.runBegin r) := by
  unfold State.runBegin
  split
  · exact .some h
  · split
    · exact .none
    · refine .ite (.some h) (.ite .none ?_)
      split
      · exact .none
      next hp =>
        have ht := h.newPages.of_eq hp
        extract_lets y
        split
        next hd =>
          have hu := Canon.of_pair (.ite_fst (.pair ht) (.foldl_fst (.pair ht) fun h' => h'.dirtyPage)) hd
          exact .some (.pair (hu.setSes _ _))

theorem Canon.runEndPages {r len} (h : s.Canon) : (s.runEndPages r len).Canon := by
  unfold State.runEndPages
  split
  · exact h
  · split
    · exact h
    · exact .ite h (h.freeHbm.setSes _ _)

theorem Canon.startTile {plan n t} (h : s.Canon) : (s.startTile plan n t).Canon := h.wr.wr.setTile.foldl (fun h' => h'.wr.wr)

theorem Canon.startPass {p} (h : s.Canon) : (s.startPass p).Canon := h.setTalon.foldl (fun h' => h'.startTile)

theorem Canon.tryStart {p} (h : s.Canon) : (s.tryStart p).Canon := by
  unfold State.tryStart
  refine .ite h ?_
  split
  · exact h
  · exact .startPass (h.foldl (fun h' => .ite h'.setClock h'))

theorem Canon.beginRuns {l} (h : s.Canon) : (s.beginRuns l).1.Canon := by
  induction l generalizing s with
  | nil => exact h
  | cons r l ih =>
    unfold State.beginRuns
    split
    · exact ih h
    next hb =>
      split
      next hl => exact (ih (h.runBegin.of_eq hb)).of_pair hl

theorem Canon.loadTiles {p} (h : s.Canon) : (s.loadTiles p).Canon := .ite h (h.foldl (fun h' => .ite h'.setTile h'))

theorem Canon.dispatchPass {l} (h : s.Canon) : (s.dispatchPass l).1.Canon := by
  unfold State.dispatchPass
  split
  next hq => exact .pair (h.beginRuns.of_pair hq)
  next hq => exact .pair (h.beginRuns.of_pair hq).setTalon.loadTiles.tryStart

theorem Canon.groupWoke {g} (h : s.Canon) : (s.groupWoke g).Canon :=
  .foldl (h.setTalon.foldl (fun h' => h'.loadTiles)) (fun h' => h'.tryStart)

theorem Canon.sweepReady (h : s.Canon) : s.sweepReady.Canon := by
  unfold State.sweepReady
  refine h.foldl (fun h' => .ite h'.setTalon.endRun ?_)
  split
  · exact h'
  · split
    · exact h'.setTalon.endRun
    · exact .ite h'.setTalon.endRun (.ite h'.setTalon.endRetry h')

theorem Canon.takeUse {p use} (h : s.Canon) : CanonOf Prod.fst (s.takeUse p use) := by
  unfold State.takeUse
  split
  · exact .none
  next hu => exact .some (.pair (h.countUse.of_eq hu).setTalon)

theorem Canon.dropJobs {f} (h : s.Canon) : (s.dropJobs f).Canon := h.setTalon.foldl (fun h' => .ite h' h'.wr)

theorem Canon.idleTiles {p} (h : s.Canon) : (s.idleTiles p).Canon := by
  unfold State.idleTiles
  extract_lets s1
  have hs1 : s1.Canon := h.foldl (fun h' => .ite h'.wr.wr.setTile h'.wr.wr)
  exact hs1.updPwr

theorem Canon.passLeaves {p learn} (h : s.Canon) : (s.passLeaves p learn).Canon :=
  .ite h.idleTiles.chargeWork.setTalon h.idleTiles.chargeWork.setTalon.updPwr

theorem Canon.runDone {r session uj cycles out} (h : s.Canon) : (s.runDone r session uj cycles out).Canon := by
  unfold State.runDone
  split
  · exact .ite h.runEndPages.endRun h.runEndPages.endRun
  · exact .ite h.endRun h.runEndPages.endRun

theorem Canon.passComplete {id use cycles outs} (h : s.Canon) : (s.passComplete id use cycles outs).Canon := by
  unfold State.passComplete
  split
  · exact h
  · split
    · exact h
    · refine .ite h ?_
      split
      · exact h
      next hq2 => exact (h.takeUse.of_eq hq2).passLeaves.foldl (fun h' => h'.runDone)

theorem Canon.leaveRuns {p seqs} (h : s.Canon) : (s.leaveRuns p seqs).Canon := by
  unfold State.leaveRuns
  extract_lets gone rest s1 s2 s3
  have hs1 : s1.Canon := h.dropJobs
  have hs2 : s2.Canon := hs1.setTalon
  have hs3 : s3.Canon := .ite hs1.passLeaves (.ite (hs2.foldl (fun h' => h'.wr)) hs2)
  exact hs3.foldl (fun h' => h'.runEndPages)

theorem Canon.leavePass {p seqs st r0} (h : s.Canon) : (s.leavePass p seqs st r0).Canon := h.leaveRuns.foldl (fun h' => h'.endRun)

theorem Canon.leaveWith {p seqs st r0 use} (h : s.Canon) : (s.leaveWith p seqs st r0 use).Canon := by
  unfold State.leaveWith
  split
  · exact h
  next hq => exact (h.takeUse.of_eq hq).leavePass

theorem Canon.killPasses {f st} (h : s.Canon) : (s.killPasses f st).Canon := h.foldl (fun h' => h'.leavePass)

theorem Canon.abortPoint {id seq use} (h : s.Canon) : (s.abortPoint id seq use).Canon := by
  unfold State.abortPoint
  split
  · exact h
  · split
    · exact h
    · split
      · exact .ite h h.leaveWith
      · exact h

theorem Canon.watchdog {id t use} (h : s.Canon) : (s.watchdog id t use).Canon := by
  unfold State.watchdog
  split
  · exact h
  · refine .ite h ?_
    split
    · exact h
    next hq1 => exact (h.takeUse.of_eq hq1).flag.leavePass

theorem Canon.runDefer {seq} (h : s.Canon) : (s.runDefer seq).Canon := by
  unfold State.runDefer
  split
  · exact .ite h h.setTalon.deferred.endRetry
  · split
    · split
      · exact .ite h h.leaveRuns.deferred.endRetry
      · exact h
    · split
      · exact h
      · split
        · exact h
        · exact .ite h h.dispatch.deferred.endRetry

theorem Canon.resetTile {t} (h : s.Canon) : (s.resetTile t).Canon := by
  unfold State.resetTile
  extract_lets s1 s2 s3
  have hs1 : s1.Canon := ⟨h.csr, Memory.wf_filter h.mem _, setWf_filter h.poison _⟩
  exact hs1.dropJobs.setTalon.foldl fun h' => h'.csrPut

theorem Canon.stopTiles {tiles st} (h : s.Canon) : (s.stopTiles tiles st).Canon := h.killPasses

theorem Canon.tileGroupReset {g} (h : s.Canon) : (s.tileGroupReset g).Canon := h.stopTiles.foldl (fun h' => h'.resetTile.setTile)

theorem Canon.tileGroupBack {g} (h : s.Canon) : (s.tileGroupBack g).Canon := h.foldl (fun h' => h'.setTile)

theorem Canon.dmaGate {c kv a} (h : s.Canon) : (s.dmaGate c kv a).1.Canon :=
  .ite_fst (.pair h.report) (.ite_fst (.pair h) (.ite_fst (.pair h) (.pair h)))

theorem Canon.dmaGet {c i o} (h : s.Canon) : (s.dmaGet c i o).1.Canon := by
  unfold State.dmaGet
  split
  · exact .pair h
  · split
    next hq1 => exact .pair (h.dmaGate.of_pair hq1)
    next hq1 =>
      refine .ite_fst (.pair (h.dmaGate.of_pair hq1).sendRead) ?_
      split
      next hq2 => exact .pair ((h.dmaGate.of_pair hq1).actRead.of_pair hq2)
      next hq2 => exact .pair ((h.dmaGate.of_pair hq1).actRead.of_pair hq2)

theorem Canon.countWrote {c o} (h : s.Canon) : (s.countWrote c o).Canon := .ite h h.setTalon

theorem Canon.dirtyFor {c} (h : s.Canon) : (s.dirtyFor c).Canon := by
  unfold State.dirtyFor
  split
  · exact h
  · split
    · exact h
    · exact (h.dirtyPage.setSes _ _)

theorem Canon.dmaAdd {c i o a who l poison} (h : s.Canon) : (s.dmaAdd c i o a who l poison).1.Canon := by
  unfold State.dmaAdd
  split
  · split
    · exact .pair h.jessRefuse
    · exact .ite_fst (.pair h) (.pair h.ordSubmit)
  · split
    next hq => exact .pair (h.actAdd.of_pair hq).countWrote
    next hq => exact .pair (h.actAdd.of_pair hq)

theorem Canon.dmaPut {c i o l poison} (h : s.Canon) : (s.dmaPut c i o l poison).1.Canon := by
  unfold State.dmaPut
  split
  · exact .pair h
  · split
    next hq1 => exact .pair (h.dmaGate.of_pair hq1)
    next hq1 =>
      extract_lets s2
      have hs2 : s2.Canon := .ite (h.dmaGate.of_pair hq1).dirtyFor (h.dmaGate.of_pair hq1)
      refine .ite_fst (.pair (.ite hs2.sendAdd hs2.sendWrites)) (.ite_fst hs2.dmaAdd ?_)
      split
      next hq2 => exact .pair (.countWrote (.ite (hs2.actWrite.of_pair hq2).tilePoison (hs2.actWrite.of_pair hq2)))
      next hq2 => exact .pair (hs2.actWrite.of_pair hq2)

theorem Canon.dmaLines {c l i} (h : s.Canon) : (s.dmaLines c l i).1.Canon := by
  induction l generalizing s i with
  | nil => exact h
  | cons x r ih =>
    unfold State.dmaLines
    split
    next hg => exact h.dmaGet.of_pair hg
    next hg => exact h.dmaGet.of_pair hg
    next hg =>
      split
      next hp => exact ih ((h.dmaGet.of_pair hg).dmaPut.of_pair hp)
      next hp => exact (h.dmaGet.of_pair hg).dmaPut.of_pair hp

theorem Canon.putJob {j} (h : s.Canon) : (s.putJob j).Canon := h.setTalon

theorem Canon.dmaHalt {c e} (h : s.Canon) : (s.dmaHalt c e).Canon := by
  unfold State.dmaHalt
  extract_lets s1 s2
  have hs1 : s1.Canon := h.wr.wr
  have hs2 : s2.Canon := hs1.flag
  split
  · exact hs2
  · exact hs2.leavePass

theorem Canon.dmaDone {j} (h : s.Canon) : (s.dmaDone j).Canon := .ite h.dropJobs.bump h.dropJobs

theorem Canon.dmaWork {j c got} (h : s.Canon) : (s.dmaWork j c got).1.Canon := by
  unfold State.dmaWork
  refine .pair (.putJob ?_)
  split
  · split
    next hq1 => exact (h.dmaPut.of_pair hq1).dmaLines
    next hq1 => exact .pair (h.dmaPut.of_pair hq1)
  · exact h.dmaLines

theorem Canon.dmaChannel {t ch n} (h : s.Canon) : (s.dmaChannel t ch n).Canon := by
  induction n generalizing s with
  | zero => exact h
  | succ n ih =>
    unfold State.dmaChannel
    split
    · exact h
    · split
      · exact h
      · refine .ite h ?_
        split
        next hw => exact (h.dmaWork.of_pair hw).dmaHalt
        next hw => exact h.dmaWork.of_pair hw
        next hw => exact .ite (h.dmaWork.of_pair hw) (ih (h.dmaWork.of_pair hw).dmaDone)

theorem Canon.dmaGo {t ch} (h : s.Canon) : (s.dmaGo t ch).Canon := h.dmaChannel

theorem Canon.dmaAnswered {job line rd r} (h : s.Canon) : (s.dmaAnswered job line rd r).Canon := by
  unfold State.dmaAnswered
  split
  · exact h
  · split
    · exact h
    · split
      · exact h.dmaHalt
      · refine .ite h.dmaHalt (.ite ?_ h.countWrote.dmaGo)
        split
        next hq2 => exact (h.dmaWork.of_pair hq2).dmaHalt
        next hq2 => exact h.dmaWork.of_pair hq2
        next hq2 => exact .ite (h.dmaWork.of_pair hq2) (h.dmaWork.of_pair hq2).dmaDone.dmaGo

theorem Canon.dmaPush {v} (h : s.Canon) : CanonOf Prod.fst (s.dmaPush v) := by
  unfold State.dmaPush
  extract_lets j
  split
  · exact .none
  · refine .ite .none ?_
    split
    · exact .none
    next ho => exact .some (.pair (h.tileOps.of_pair ho).setTalon.wr)

theorem Canon.dmaComplete {v} (h : s.Canon) : (s.dmaComplete v).Canon := by
  unfold State.dmaComplete
  split
  · exact h
  next hq =>
    refine .ite (h.dmaPush.of_eq hq) ?_
    split
    · exact h
    next hq1 => exact (h.dmaPush.of_eq hq).dmaWork.of_pair hq1
    next hq1 => exact .ite ((h.dmaPush.of_eq hq).dmaWork.of_pair hq1) ((h.dmaPush.of_eq hq).dmaWork.of_pair hq1).dmaDone

theorem Canon.runUse {seq use} (h : s.Canon) : CanonOf id (s.runUse seq use) := by
  unfold State.runUse
  split
  · exact .none
  · exact h.takeUse.map fun hp => hp

theorem Canon.dmaStop {v use} (h : s.Canon) : (s.dmaStop v use).Canon := by
  have hpush : CanonOf Prod.fst ((s.runUse v.seq use).bind fun s => s.dmaPush v) := h.runUse.bind fun h' => h'.dmaPush
  unfold State.dmaStop
  split
  · exact h
  next hb =>
    refine .ite h ?_
    split
    next hw => exact ((hpush.of_eq hb).dmaWork.of_pair hw).dmaHalt
    · exact h

theorem Canon.poisonChannels {t hit} (h : s.Canon) : (s.poisonChannels t hit).Canon := h.foldl (fun h' => h'.wr.wr)

theorem Canon.poisonRun {id t off hit use} (h : s.Canon) : (s.poisonRun id t off hit use).Canon := by
  unfold State.poisonRun
  split
  · exact h
  · refine .ite h ?_
    split
    · exact h
    next hq1 =>
      split
      next hq2 =>
        refine .ite h ?_
        extract_lets u
        have hu : u.Canon := ((h.takeUse.of_eq hq1).tileLines.of_pair hq2).report.poisonChannels
        exact hu.leaveRuns.foldl (fun h' => h'.endRun)

end State
end Sys2Proof.Machine
end

section
/-! PROOF. Canonical form is kept by the operations of power, security, keys and the management buses. -/

namespace Sys2Proof.Machine
namespace State
variable {s : State}

theorem Canon.capsInForce (h : s.Canon) : s.capsInForce.Canon := by
  unfold State.capsInForce
  exact h.updPwr

theorem Canon.vrFallback (h : s.Canon) : s.vrFallback.Canon := .ite (.ite h h.wr.flag) h.wr

theorem Canon.drawTile {x} (h : s.Canon) : (s.drawTile x).Canon := by
  unfold State.drawTile
  split
  · exact h
  · exact h.bump.chargeWork.setTalon

theorem Canon.closeWindow {i} (h : s.Canon) : (s.closeWindow i).Canon := by
  unfold State.closeWindow
  exact h.updPwr

theorem Canon.meter {i} (h : s.Canon) : (s.meter i).Canon := by
  unfold State.meter
  extract_lets uj l s1 s2 s3
  have hs1 : s1.Canon := h.bump.bump.wr
  have hs2 : s2.Canon := hs1.wr
  have hs3 : s3.Canon := hs2.foldl (fun h' => h'.bump)
  exact hs3.updPwr

theorem Canon.setGrant {e} (h : s.Canon) : (s.setGrant e).Canon := by
  unfold State.setGrant
  extract_lets t g s1
  have hs1 : s1.Canon := h.wr.wr.wr
  exact hs1.updPwr

theorem Canon.setTarget {d f} (h : s.Canon) : (s.setTarget d f).Canon := h.updPwr

theorem Canon.rebook (h : s.Canon) : s.rebook.Canon := h.updPwr.wr

theorem Canon.lowerSteps {dies ok n} (h : s.Canon) : (State.lowerSteps dies ok n s).Canon := by
  induction n generalizing s with
  | zero => exact h
  | succ n ih => exact .ite h (ih (h.foldl fun h' => h'.setTarget))

theorem Canon.raiseSteps {dies n} (h : s.Canon) : (State.raiseSteps dies n s).Canon := by
  induction n generalizing s with
  | zero => exact h
  | succ n ih => exact .ite h (ih (h.foldl fun h' => h'.setTarget))

theorem Canon.fitClocks (h : s.Canon) : s.fitClocks.Canon := by
  unfold State.fitClocks
  extract_lets low high s1 ok s2
  have hs1 : s1.Canon := h.foldl (fun h' => h'.setTarget)
  have hs2 : s2.Canon := .ite hs1.raiseSteps.raiseSteps hs1.lowerSteps.lowerSteps
  exact hs2.wr

theorem Canon.itemOf {i claim go} {t : State} (hgo : s.itemOf i = some (claim, go)) (h : t.Canon) : (go t).Canon := by
  unfold State.itemOf at hgo
  split at hgo
  · split at hgo
    · exact nomatch hgo
    · split at hgo
      · exact nomatch hgo
      · cases hgo
        exact h.xferBegin
  · split at hgo
    · exact nomatch hgo
    · split at hgo
      · cases hgo
        exact h.dispatchPass
      · exact nomatch hgo

theorem Canon.dispatchItems {l} (h : s.Canon) : (State.dispatchItems l s).Canon := by
  induction l generalizing s with
  | nil => exact h
  | cons x r ih =>
    unfold State.dispatchItems
    split
    · exact ih h
    next hi => exact .ite (ih (Canon.itemOf hi h)) (.ite (.ite (ih (Canon.itemOf hi h.lowerSteps)) h) h)

theorem Canon.parkPolicy (h : s.Canon) : s.parkPolicy.Canon := .ite h.updPwr h

theorem Canon.dieTemps {l} (h : s.Canon) : (s.dieTemps l).Canon := by
  unfold State.dieTemps
  extract_lets s1
  have hs1 : s1.Canon := h.foldl (fun h' => h'.wr)
  exact hs1.updPwr

theorem Canon.windowStart {i} (h : s.Canon) : (s.windowStart i).Canon := by
  unfold State.windowStart
  refine .ite h ?_
  extract_lets first s1 s2 s3 s4 s5 s6 s7
  have hs1 : s1.Canon := h.foldl (fun h' => h'.drawTile)
  have hs2 : s2.Canon := .ite hs1 hs1.closeWindow
  have hs3 : s3.Canon := hs2.meter.capsInForce.vrFallback
  have hs4 : s4.Canon := hs3.dieTemps.wr
  have hs5 : s5.Canon := hs4.updPwr
  have hs6 : s6.Canon := hs5.setGrant.raiseWarden
  have hs7 : s7.Canon := hs6.parkPolicy.sweepReady
  exact hs7.dispatchItems.fitClocks.rebook

theorem Canon.windowsReset (h : s.Canon) : s.windowsReset.Canon := h.updPwr

theorem Canon.dieTrip {d t} (h : s.Canon) : (s.dieTrip d t).Canon := .ite h h.wr.updPwr.flag.killPasses.report

theorem Canon.setGated {g v} (h : s.Canon) : (s.setGated g v).Canon := h.wr

theorem Canon.setWaking {g v} (h : s.Canon) : (s.setWaking g v).Canon := h.wr

theorem Canon.groupWakeDone {g} (h : s.Canon) : (s.groupWakeDone g).Canon :=
  .ite h (.groupWoke (h.setWaking.setGated.updPwr.foldl (fun h' => .ite h'.setTile h')))

theorem Canon.gateGroup {g} (h : s.Canon) : (s.gateGroup g).Canon := h.setGated.foldl (fun h' => .ite h'.setTile h')

theorem Canon.wakeGroups (h : s.Canon) : s.wakeGroups.Canon := .ite h (h.updPwr.foldl (fun h' => h'.setWaking))

theorem Canon.gateIdle (h : s.Canon) : s.gateIdle.Canon := .ite h (h.updPwr.foldl (fun h' => h'.gateGroup))

theorem Canon.setBallast {want extreme} (h : s.Canon) : (s.setBallast want extreme).Canon := h.updPwr.foldl (fun h' => h'.wr.wr)

theorem Canon.addReserve {d} (h : s.Canon) : (s.addReserve d).Canon := by
  unfold State.addReserve
  extract_lets v m out s1
  have hs1 : s1.Canon := .ite h.flag h
  exact hs1.updPwr

theorem Canon.moveClock {d} (h : s.Canon) : (s.moveClock d).Canon :=
  .ite (.ite h.setClock h) (.ite (.ite (.ite h.setClock h) (.ite h.setClock h)) (.ite (.ite h (.ite h.setClock h)) h))

theorem Canon.governor (h : s.Canon) : s.governor.Canon := by
  unfold State.governor
  refine .ite h ?_
  extract_lets p s1 load want s2 s3 slow s4 s5
  have hs1 : s1.Canon := h.updPwr
  have hs2 : s2.Canon := hs1.setBallast
  have hs3 : s3.Canon := hs2.addReserve
  have hs4 : s4.Canon := hs3.foldl (fun h' => h'.moveClock)
  have hs5 : s5.Canon := .ite hs4.updPwr hs4
  exact .wakeGroups (hs5.foldl (fun h' => h'.tryStart))

theorem Canon.idle (h : s.Canon) : s.idle.Canon := h.tickTime.governor

theorem Canon.updSec {f} (h : s.Canon) : (s.updSec f).Canon := ⟨h.csr, h.mem, h.poison⟩

theorem Canon.rand64 (h : s.Canon) : s.rand64.1.Canon := .pair h.draw

theorem Canon.rand256 (h : s.Canon) : s.rand256.1.Canon := .pair h.rand64.rand64.rand64.rand64

theorem Canon.sealRecord {d b} (h : s.Canon) : (s.sealRecord d b).Canon := by
  unfold State.sealRecord
  split
  · exact h
  · exact h.store

theorem Canon.setKey {d b k} (h : s.Canon) : (s.setKey d b k).Canon := h.updCrypt.updSec.domRefresh.sealRecord

theorem Canon.drawKeys {version ex} (h : s.Canon) : (s.drawKeys version ex).1.Canon :=
  .pair h.rand256.rand256.rand256.rand256.rand256.rand256

theorem Canon.keyTableNew (h : s.Canon) : s.keyTableNew.Canon := by
  unfold State.keyTableNew
  extract_lets old s1 s2
  have hs1 : s1.Canon := h.updCrypt
  have hs2 : s2.Canon := hs1.foldl (fun h' => h'.domRefresh)
  split
  next hq => exact (hs2.drawKeys.of_pair hq).wr.setKey

theorem Canon.keyTableRebuild (h : s.Canon) : s.keyTableRebuild.Canon := h.foldl (fun h' => h'.domRefresh)

theorem Canon.zeroize (h : s.Canon) : s.zeroize.Canon :=
  .wr (.wr (.wr (.foldl (.updSec (.updCrypt (h.foldl (fun h' => h'.answerAll)))) (fun h' => h'.domRefresh))))

theorem Canon.keyFail (h : s.Canon) : s.keyFail.Canon := h.flag

theorem Canon.setMeasure {d} (h : s.Canon) : (s.setMeasure d).Canon := h.foldl (fun h' => h'.wr)

theorem Canon.fillKeys (h : s.Canon) : s.fillKeys.Canon := by
  unfold State.fillKeys
  refine .ite h.wr.wr ?_
  split
  · exact h.wr.wr
  · exact h.wr.wr.wr.wr

theorem Canon.svnAdvance {target} (h : s.Canon) : (s.svnAdvance target).Canon := .ite h h.updSec.wr

theorem Canon.planMove {i ext} (h : s.Canon) : (s.planMove i ext).Canon := by
  unfold State.planMove
  split
  next hq => exact (h.gather.of_pair hq).endK
  next hq =>
    split
    next hq1 => exact ((h.gather.of_pair hq).planInstall.of_pair hq1).endRun
    next hq1 => exact ((h.gather.of_pair hq).planInstall.of_pair hq1).endRetry

theorem Canon.weightsMove {i ext p} (h : s.Canon) : (s.weightsMove i ext p).Canon :=
  .copyEnd (.foldl (h.copyLines (fun h' => h'.srcRead) (fun h' => h'.weightStore)) (fun h' => h'.tilePoison))

theorem Canon.walk0 {i d from_} (h : s.Canon) : (s.walk0 i d from_).Canon := h.updCrypt.wr.waitOn

theorem Canon.rekeyStart {i d k} (h : s.Canon) : (s.rekeyStart i d k).Canon := h.setKey.journal.domRefresh.updCrypt.walk0

theorem Canon.rekeyZero {i} (h : s.Canon) : (s.rekeyZero i).Canon := by
  unfold State.rekeyZero
  refine .ite h.waitOn ?_
  split
  next hq => exact (h.drawKeys.of_pair hq).rekeyStart

theorem Canon.rekeyBlob {i d k} (h : s.Canon) : (s.rekeyBlob i d k).Canon :=
  .ite (.ite h.walk0 h.endRun) (.ite h.endRun h.rekeyStart)

theorem Canon.blobKeys {i ext} (h : s.Canon) : (s.blobKeys i ext).1.Canon := by
  unfold State.blobKeys
  split
  next hq => exact .pair (h.gather.of_pair hq)
  next hq =>
    split
    · exact .pair (h.gather.of_pair hq).keyFail
    · exact .pair (h.gather.of_pair hq)

theorem Canon.rekeyMove {i ext} (h : s.Canon) : (s.rekeyMove i ext).Canon := by
  unfold State.rekeyMove
  refine .ite h.endRetry ?_
  split
  next hq => exact (h.blobKeys.of_pair hq).endRun
  next hq => exact (h.blobKeys.of_pair hq).rekeyBlob

theorem Canon.keyLoadMove {i ext} (h : s.Canon) : (s.keyLoadMove i ext).Canon := by
  unfold State.keyLoadMove
  refine .ite h.endRun ?_
  split
  next hq => exact (h.blobKeys.of_pair hq).endRun
  next hq => exact (h.blobKeys.of_pair hq).wr.setKey.endRun

theorem Canon.putBytes {m seq w c n o l} (h : s.Canon) : (s.putBytes m seq w c n o l).1.Canon := by
  induction n generalizing s o l with
  | zero => exact h
  | succ n ih =>
    unfold State.putBytes
    refine .ite_fst h ?_
    split
    next hw => exact ih (h.dstWrite.of_pair hw)
    next hw => exact h.dstWrite.of_pair hw

theorem Canon.attestMove {i ext} (h : s.Canon) : (s.attestMove i ext).Canon := by
  unfold State.attestMove
  extract_lets m
  split
  next hq => exact (h.gather.of_pair hq).endRun
  next hq => exact (h.gather.of_pair hq).putBytes.copyEnd

theorem Canon.runMove {i ext} (h : s.Canon) : (s.runMove i ext).Canon := by
  unfold State.runMove
  split
  · exact h.copyMove
  · exact h.planMove
  · split
    · exact h.endRun
    · exact h.weightsMove
  · exact h.keyLoadMove
  · exact h.rekeyMove
  · exact h.attestMove

theorem Canon.startMove {i ext w n} (h : s.Canon) : (s.startMove i ext w n).Canon := .ite h.fetchStart h.runMove

theorem Canon.srcAnswered {seq off n r} (h : s.Canon) : (s.srcAnswered seq off n r).Canon := by
  unfold State.srcAnswered
  split
  · exact h
  · exact .ite h (.ite h.updTci.runMove h.updTci.fetchNext)

theorem Canon.updBus {f} (h : s.Canon) : (s.updBus f).Canon := ⟨h.csr, h.mem, h.poison⟩

theorem Canon.alertSet (h : s.Canon) : s.alertSet.Canon := .ite h h.wr.emit

theorem Canon.alertClear (h : s.Canon) : s.alertClear.Canon := .ite h h.wr.emit

theorem Canon.alertCheck (h : s.Canon) : s.alertCheck.Canon := .ite h.alertClear h

theorem Canon.watchStatus (h : s.Canon) : s.watchStatus.Canon := .ite h (.ite h.updBus h.updBus.alertSet)

theorem Canon.pecErr (h : s.Canon) : s.pecErr.Canon := h.flag

theorem Canon.busyNack (h : s.Canon) : s.busyNack.Canon := h.flag

theorem Canon.tgtStatus {code whole} (h : s.Canon) : (s.tgtStatus code whole).Canon :=
  .ite h (.ite (.ite h.emit.updBus.alertCheck h.emit) (.ite h h.flag))

theorem Canon.tgtSetMode {data pec} (h : s.Canon) : (s.tgtSetMode data pec).Canon := .ite h (.ite h.wr h.pecErr)

theorem Canon.mboxAccept {wake count data pec} (h : s.Canon) (hwake : ∀ {t : State}, t.Canon → (wake t).Canon) :
    (s.mboxAccept wake count data pec).Canon :=
  .ite h (.ite h.pecErr (hwake h.updBus.wr))

theorem Canon.mboxWrite {wake count data pec} (h : s.Canon) (hwake : ∀ {t : State}, t.Canon → (wake t).Canon) :
    (s.mboxWrite wake count data pec).Canon :=
  .ite h (.ite (h.mboxAccept hwake) (.ite h.busyNack h.updBus.wr.emit))

theorem Canon.stretchEnd (h : s.Canon) : s.stretchEnd.Canon := h.updBus.wr.emit

theorem Canon.stretchTimeout (h : s.Canon) : s.stretchTimeout.Canon := by
  unfold State.stretchTimeout
  split
  · exact h
  · exact .ite h.stretchEnd.busyNack h

theorem Canon.stretchGo {wake} (h : s.Canon) (hwake : ∀ {t : State}, t.Canon → (wake t).Canon) : (s.stretchGo wake).Canon := by
  unfold State.stretchGo
  split
  · exact h
  · exact .ite h (.ite h.stretchEnd.busyNack (h.stretchEnd.mboxAccept hwake))

theorem Canon.tgtTimeout (h : s.Canon) : s.tgtTimeout.Canon := .ite h (.report (.flag (.ite h.stretchEnd h)))

theorem Canon.countReplies (h : s.Canon) : s.countReplies.Canon := .ite h.wr h

theorem Canon.mailboxMove {wake} (h : s.Canon) (hwake : ∀ {t : State}, t.Canon → (wake t).Canon) : (s.mailboxMove wake).Canon := by
  unfold State.mailboxMove
  split
  · exact h
  · refine .ite h ?_
    extract_lets tail
    split
    next hq1 => exact (h.cacheWrite.of_pair hq1).qpError
    next hq1 => exact (h.cacheWrite.of_pair hq1).sqRing.updBus.wr.stretchGo hwake

theorem Canon.mailboxReply (h : s.Canon) : s.mailboxReply.Canon := by
  unfold State.mailboxReply
  refine .ite h ?_
  split
  next hq => exact (h.cacheRead.of_pair hq).updBus.wr.alertSet.countReplies
  next hq => exact (h.cacheRead.of_pair hq).qpError

theorem Canon.popHead (h : s.Canon) : s.popHead.Canon := h.wr.countReplies

theorem Canon.mboxPop {pec} (h : s.Canon) : (s.mboxPop pec).Canon :=
  .ite h (.ite h.pecErr (.ite h.updBus.wr.alertCheck.popHead h.updBus.wr.alertCheck.updBus.wr))

theorem Canon.mgmtQpNew (h : s.Canon) : s.mgmtQpNew.Canon := h.wr.wr.wr.wr.wr.wr.wr.wr.wr.csrPut.csrPut.setQp

theorem Canon.mboxGo (h : s.Canon) : s.mboxGo.Canon :=
  .ite h (.countReplies (.foldl (.updBus (.wr (.ite h.mgmtQpNew h))) (fun h' => h'.popHead)))

theorem Canon.setAbsent {i v} (h : s.Canon) : (s.setAbsent i v).Canon := h.wr

theorem Canon.ctlFailed {i f} (h : s.Canon) : (s.ctlFailed i f).Canon := by
  unfold State.ctlFailed
  extract_lets s1 s2 s3 n s4
  have hs1 : s1.Canon := h.flag
  have hs2 : s2.Canon := .ite hs1.flag hs1
  have hs3 : s3.Canon := .ite hs2.flag.wr hs2
  have hs4 : s4.Canon := hs3.updBus
  exact .ite hs3.updBus (.ite hs4.setAbsent.flag.report hs3.updBus)

theorem Canon.ctlRead {i t} (h : s.Canon) : (s.ctlRead i t).Canon := .ite h.setAbsent.updBus.wr.wr.wr h.setAbsent.updBus.wr.wr

theorem Canon.ctlPin {i t} (h : s.Canon) : (s.ctlPin i t).Canon := .ite h.wr.updBus h

theorem Canon.ctlAttempt {tries i} (h : s.Canon) : (s.ctlAttempt tries i).Canon := by
  unfold State.ctlAttempt
  split
  · exact h.ctlFailed
  · split
    · exact .ite h.ctlRead h.ctlPin.ctlFailed
    · exact h.ctlRead

theorem Canon.vrUpdate {meterMw} (h : s.Canon) : (s.vrUpdate meterMw).Canon := .ite h.wr.wr h.wr.wr.wr

theorem Canon.controllerRound {tries meterMw} (h : s.Canon) : (s.controllerRound tries meterMw).Canon :=
  .ite h (.vrUpdate (.updBus (h.wr.foldl (fun h' => h'.ctlAttempt))))

theorem Canon.setUart {n u} (h : s.Canon) : (s.setUart n u).Canon := h.updBus

theorem Canon.uartDone {n} (h : s.Canon) : (s.uartDone n).Canon :=
  .ite h.wr.wr.wr.setUart (.ite h.wr.wr.wr.setUart.raiseWarden (.ite h.wr.wr.wr.setUart.raiseAt h.wr.wr.wr.setUart))

theorem Canon.uartStart {n} (h : s.Canon) : (s.uartStart n).Canon := by
  unfold State.uartStart
  extract_lets u
  split
  · exact .ite h.setUart h
  · exact h

theorem Canon.uartRx {n smp} (h : s.Canon) : (s.uartRx n smp).Canon := by
  unfold State.uartRx
  refine .ite h (.uartDone ?_)
  split
  · exact h
  · exact h.flag
  · exact h.flag
  · exact .ite (.flag (.ite h h.flag)) (.setUart (.ite h h.flag))

theorem Canon.uartQueue {n b} (h : s.Canon) : (s.uartQueue n b).Canon := .uartDone (.uartStart (.ite h.flag h.setUart))

theorem Canon.uartTake {n} (h : s.Canon) : (s.uartTake n).1.Canon := by
  unfold State.uartTake
  extract_lets u
  split
  · exact .pair h
  · exact .pair h.setUart.uartDone

theorem Canon.uartSent {n} (h : s.Canon) : (s.uartSent n).Canon := by
  unfold State.uartSent
  extract_lets u
  split
  · exact h
  · exact h.setUart.drive.uartStart.uartDone

theorem Canon.uartsEmpty (h : s.Canon) : s.uartsEmpty.Canon := h.foldl (fun h' => h'.setUart.wr.wr.wr)

end State
end Sys2Proof.Machine
end

section
/-! PROOF. Canonical form is kept by the operations of bring-up, the test port and resets, and what settles after each command. -/

namespace Sys2Proof.Machine
namespace State
variable {s : State}

theorem Canon.coldReset {held p} (h : s.Canon) : (s.coldReset held p).Canon := by
  refine ⟨h.resetRegs.csr, ?_, ?_⟩
  · cases held
    · rfl
    · exact Memory.wf_filter h.mem _
  · cases held
    · rfl
    · exact setWf_filter h.poison _

theorem Canon.coreLow (h : s.Canon) : s.coreLow.Canon := .ite h h.wr.updPwr.emit

theorem Canon.coreHigh (h : s.Canon) : s.coreHigh.Canon := .ite h.updPwr h.wr.updPwr.emit

theorem Canon.dark : s.dark.Canon := ⟨rfl, rfl, rfl⟩

theorem Canon.perchDraws (h : s.Canon) : s.perchDraws.Canon := h.wr.draw.rand256.updSec.wr.keyTableNew

theorem Canon.perchOn {addrSel ok} (h : s.Canon) : (s.perchOn addrSel ok).Canon :=
  .ite h (.ite Canon.dark.updPwr.updBoot.wr.perchDraws Canon.dark.updPwr.updBoot.wr.updSec)

theorem Canon.perchOff (h : s.Canon) : s.perchOff.Canon := .ite h Canon.dark

theorem Canon.powerStart (h : s.Canon) : s.powerStart.Canon :=
  .ite h.updPwr.csrPut.wr.wr.wr.updTop h.updPwr.csrPut.wr.wr.wr.updTop.updPwr.updBoot.coreHigh

theorem Canon.pwrOkUp {tray sel} (h : s.Canon) : (s.pwrOkUp tray sel).Canon :=
  .ite h (.ite h.updPwr.updTop.updPwr h.updPwr.updTop.powerStart)

theorem Canon.powerFall (h : s.Canon) : s.powerFall.Canon := by
  unfold State.powerFall
  split
  · exact h
  · exact h
  · exact h.coreLow.coldReset
  · exact .wr (.coldReset (.coreLow (.timeStop (.ite h.mergeFlush.roostSelfRefresh h))))

theorem Canon.pwrOkDown (h : s.Canon) : s.pwrOkDown.Canon := .ite h h.updPwr.powerFall

theorem Canon.corePgUp (h : s.Canon) : (s.corePgUp).Canon := .ite h (h.of_data rfl rfl rfl)

theorem Canon.corePgDown (h : s.Canon) : s.corePgDown.Canon := .ite h (.ite h.updPwr.powerFall h.updPwr)

theorem Canon.clocksOn (h : s.Canon) : s.clocksOn.Canon := .windowsReset (h.foldl (fun h' => h'.setClock.setTarget))

theorem Canon.fuses (h : s.Canon) : s.fuses.Canon := h.wr.foldl (fun h' => h'.wr.wr)

theorem Canon.refillRanges (h : s.Canon) : s.refillRanges.Canon := h.updMews

theorem Canon.drawScramble (h : s.Canon) : s.drawScramble.Canon := by
  unfold State.drawScramble
  exact h.rand64.updCrypt.updSec

theorem Canon.coldGo (h : s.Canon) : s.coldGo.Canon := by
  unfold State.coldGo
  extract_lets s1 s2 s3 s4
  have hs1 : s1.Canon := .ite h.updSec h.drawScramble
  have hs2 : s2.Canon := hs1.updPwr.timeStart
  have hs3 : s3.Canon := hs2.fuses.clocksOn.foldl (fun h' => h'.setGated)
  have hs4 : s4.Canon := hs3.kettleCold
  exact hs4.updBoot

theorem Canon.pllUp (h : s.Canon) : s.pllUp.Canon := by
  unfold State.pllUp
  refine .ite h ?_
  split
  · exact h.coldGo
  · exact .ite h h.timeStart.clocksOn.allUp.refillRanges
  · exact h

theorem Canon.destroyBank (h : s.Canon) : s.destroyBank.Canon := by
  unfold State.destroyBank
  split
  · exact h.updSec
  · exact h

theorem Canon.tamperLatch {bits first} (h : s.Canon) : (s.tamperLatch bits first).Canon := .ite h.wr h.wr.wr.wr.wr.wr

theorem Canon.hood (h : s.Canon) : s.hood.Canon := by
  unfold State.hood
  extract_lets early s1 s2 s3 s4
  have hs1 : s1.Canon := .ite h.updTci.endAll h
  have hs2 : s2.Canon := hs1.timeStop.coreLow
  have hs3 : s3.Canon := hs2.coldReset.wr
  have hs4 : s4.Canon := hs3.updBoot
  exact .ite hs4.wr hs4

theorem Canon.tamper {bits first bankDone} (h : s.Canon) : (s.tamper bits first bankDone).Canon :=
  .ite h.tamperLatch (.hood (.zeroize (.wr (.updSec (.ite h.tamperLatch.destroyBank h.tamperLatch)))))

theorem Canon.sensorsAre {sensors bankDone} (h : s.Canon) : (s.sensorsAre sensors bankDone).Canon := by
  unfold State.sensorsAre
  exact .ite h (.ite h.wr h.wr.tamper)

theorem Canon.bootLines {a l} (h : s.Canon) : (s.bootLines a l).Canon := by
  induction l generalizing s a with
  | nil => exact h
  | cons x r ih => exact ih h.cputLine

theorem Canon.bootLoad {slotB hd body} (h : s.Canon) : (s.bootLoad slotB hd body).Canon :=
  h.wr.wr.wr.bootLines.setMeasure.wr.wr.wr.updSec.fillKeys

theorem Canon.adminCheck (h : s.Canon) : s.adminCheck.Canon := h.wr

theorem Canon.tirloStart (h : s.Canon) : s.tirloStart.Canon := by
  unfold State.tirloStart
  extract_lets s1 s2
  have hs1 : s1.Canon := h.foldl (fun h' => h'.coreStart)
  have hs2 : s2.Canon := hs1.updTci.adminCheck
  exact hs2.updBoot

theorem Canon.bootFails (h : s.Canon) : s.bootFails.Canon := h.wr.updBoot

theorem Canon.bootFlash (h : s.Canon) : s.bootFlash.1.Canon := by
  unfold State.bootFlash
  split
  · exact .pair h.bootLoad
  · extract_lets s1
    have hs1 : s1.Canon := h.flag
    split
    · exact .pair hs1.bootLoad
    · exact .pair hs1.bootFails

theorem Canon.cutQueue {q across put} (h : s.Canon) (hput : ∀ {t : State} {x}, t.Canon → (put t x).Canon) : (s.cutQueue q across put).Canon :=
  .ite h (hput h).emits

theorem Canon.cutOrds {n l} (h : s.Canon) : (s.cutOrds n l).Canon := by
  induction l generalizing s with
  | nil => exact h
  | cons o r ih => exact .ite (ih h.ordDone) (ih h.updHbm)

theorem Canon.cutLink {n} (h : s.Canon) : (s.cutLink n).Canon := by
  unfold State.cutLink
  extract_lets s1 s2 s3 gone x s4 past ws
  have hs1 : s1.Canon := h.foldl (fun h' => h'.cutQueue (fun h'' => h''.setHq))
  have hs2 : s2.Canon := hs1.foldl (fun h' => h'.cutQueue (fun h'' => h''.setRq))
  have hs3 : s3.Canon := hs2.updHbm.cutOrds
  have hs4 : s4.Canon := hs3.updKtl
  exact .ite hs3 hs4.updCrypt.answerAll

theorem Canon.d2dFail {n} (h : s.Canon) : (s.d2dFail n).Canon := h.wr.wr.report.updTop.cutLink

theorem Canon.d2dTrain {fails} (h : s.Canon) : (s.d2dTrain fails).Canon := by
  unfold State.d2dTrain
  refine h.foldl (fun h' => .ite (.d2dFail (h'.foldl (fun h'' => h''.report))) ?_)
  extract_lets s1
  have hs1 : s1.Canon := .wr (h'.foldl (fun h' => h'.report))
  exact .ite hs1 (.ite hs1.wr (.ite hs1.wr hs1.wr))

theorem Canon.warmReleased (h : s.Canon) : s.warmReleased.Canon := h.updWatch

theorem Canon.bootWarm (h : s.Canon) : s.bootWarm.Canon := by
  unfold State.bootWarm
  extract_lets s1 same
  have hs1 : s1.Canon := h.warmReleased.foldl (fun h' => h'.hbmWake)
  split
  next hq => exact (.of_pair (.ite_fst (.pair hs1) hs1.bootFlash) hq)
  next hq => exact .refillRanges (.allUp (.tirloStart (.of_pair (.ite_fst (.pair hs1) hs1.bootFlash) hq)))

theorem Canon.bootRom {d2dFails} (h : s.Canon) : (s.bootRom d2dFails).Canon := by
  unfold State.bootRom
  refine .ite h.bootWarm (.ite h (.ite (.tamper (.ite h.d2dTrain.report h.d2dTrain)) ?_))
  split
  next hq => exact (.of_pair (.bootFlash (.ite h.d2dTrain.report h.d2dTrain)) hq)
  next hq => exact .tirloStart (.of_pair (.bootFlash (.ite h.d2dTrain.report h.d2dTrain)) hq)

theorem Canon.trainStart (h : s.Canon) : s.trainStart.Canon :=
  .ite h (.foldl (h.foldl (fun h' => .ite h'.wr h')) (fun h' => .ite h'.wr h'))

theorem Canon.placePool (h : s.Canon) : s.placePool.Canon := .ite h.updSes h

theorem Canon.seedProb {st} (h : s.Canon) : (s.seedProb st).Canon := h.foldl (fun h' => h'.rand64.setHq)

theorem Canon.hbmTrained {st ok ppr} (h : s.Canon) : (s.hbmTrained st ok ppr).Canon := by
  unfold State.hbmTrained
  refine .ite h ?_
  extract_lets s1 s2
  have hs1 : s1.Canon := h.foldl (fun h' => .ite h'.wr h')
  have hs2 : s2.Canon := hs1.wr.wr
  exact .ite hs2.updHbm.placePool.seedProb (.ite hs1.wr.updBoot hs1.wr.report)

theorem Canon.roostLost (h : s.Canon) : s.roostLost.Canon := by
  unfold State.roostLost
  extract_lets s1 s2 s3
  have hs1 : s1.Canon := .forget ⟨h.csr, h.mem, h.poison⟩
  have hs2 : s2.Canon := .ite hs1 hs1.keyTableNew
  have hs3 : s3.Canon := hs2.csrPut
  split
  · exact hs3.wr.wr.updCrypt
  · exact hs3

theorem Canon.zeroRecords (h : s.Canon) : s.zeroRecords.Canon := h.forget.forget.of_data rfl rfl rfl

theorem Canon.seedRoost (h : s.Canon) : s.seedRoost.Canon := h.foldl (fun h' => h'.rand64.setRq)

theorem Canon.roostTrainedAll {results fig} (h : s.Canon) : (s.roostTrainedAll results fig).Canon := by
  unfold State.roostTrainedAll
  refine .ite h ?_
  extract_lets held s1 s2 s3 s4 s5 kept s6
  have hs1 : s1.Canon := h.foldl (fun h' => h'.wr.wr.wr)
  have hs2 : s2.Canon := hs1.foldl (fun h' => h'.wr.wr.wr)
  have hs3 : s3.Canon := hs2.wr.updRoost
  have hs4 : s4.Canon := hs3.foldl (fun h' => .ite h'.chFail h')
  have hs5 : s5.Canon := hs4.wr
  have hs6 : s6.Canon := .ite hs5 hs5.roostLost
  exact hs6.zeroRecords.keyTableRebuild.seedRoost.updBoot

theorem Canon.selfTested {failed} (h : s.Canon) : (s.selfTested failed).Canon :=
  .ite h (.updBoot (h.forget.setTalon.foldl (fun h' => h'.setTile.report)))

theorem Canon.goReady (h : s.Canon) : s.goReady.Canon := by
  unfold State.goReady
  extract_lets s1 s2 gw s3 s4
  have hs1 : s1.Canon := h.wr.adminCheck
  have hs2 : s2.Canon := .ite hs1.emit hs1
  have hs3 : s3.Canon := .ite hs2.sendOn hs2
  have hs4 : s4.Canon := hs3.sendPresence
  exact hs4.updTci

theorem Canon.warmDone (h : s.Canon) : s.warmDone.Canon := by
  unfold State.warmDone
  extract_lets s1 s2
  have hs1 : s1.Canon := h.endAll
  have hs2 : s2.Canon := hs1.wr.updWatch
  exact hs2.updBoot

theorem Canon.resendBuddies (h : s.Canon) : s.resendBuddies.Canon := h.foldl (fun h' => .ite h'.buddyStart h')

theorem Canon.tciReady (h : s.Canon) : s.tciReady.Canon := by
  unfold State.tciReady
  split
  · exact .ite h.updPwr.updBoot.goReady h
  · exact .ite (.ite (.resendBuddies (.goReady (.updBoot (.ite h.warmDone h)))) (.goReady (.updBoot (.ite h.warmDone h)))) h

theorem Canon.mboxPoll (h : s.Canon) : s.mboxPoll.Canon := .ite h.mboxGo h

theorem Canon.holdCommands (h : s.Canon) : s.holdCommands.Canon := by
  unfold State.holdCommands
  extract_lets l s1
  have hs1 : s1.Canon := h.foldl (fun h' => .ite h'.dupSet h')
  exact hs1.updTci

theorem Canon.warmTiles (h : s.Canon) : s.warmTiles.Canon := by
  unfold State.warmTiles
  extract_lets s1 s2
  have hs1 : s1.Canon := h.foldl (fun h' => h'.leaveRuns)
  have hs2 : s2.Canon := hs1.foldl (fun h' => .resetTile (.ite h'.setTile h'))
  exact hs2.setTalon

theorem Canon.warmTop (h : s.Canon) : s.warmTop.Canon := h.wr.wr.wr

theorem Canon.warmBlocks (h : s.Canon) : s.warmBlocks.Canon := by
  unfold State.warmBlocks
  extract_lets s1 s2 s3 s4 s5 s6 s7 s8
  have hs1 : s1.Canon := h.warmTiles.foldl (fun h' => h'.jessMustReload)
  have hs2 : s2.Canon := hs1.foldl (fun h' => h'.coreHalt)
  have hs3 : s3.Canon := hs2.updMews
  have hs4 : s4.Canon := hs3.updHbm
  have hs5 : s5.Canon := hs4.updRoost
  have hs6 : s6.Canon := hs5.updSes
  have hs7 : s7.Canon := hs6.updKtl
  have hs8 : s8.Canon := hs7.rekeyStop.uartsEmpty
  exact hs8.resetRegs.warmTop.foldl (fun h' => h'.showSpares)

theorem Canon.warmReset (h : s.Canon) : s.warmReset.Canon := by
  unfold State.warmReset
  refine .ite h (.ite h.timeStop.coldReset.coldGo.updPwr ?_)
  extract_lets s1 s2 s3 s4 s5 s6
  have hs1 : s1.Canon := h.wr.wr
  have hs2 : s2.Canon := hs1.updBoot
  have hs3 : s3.Canon := hs2.updPwr
  have hs4 : s4.Canon := hs3.sendPresence.allKeeper
  have hs5 : s5.Canon := hs4.holdCommands.emptyCache.mergeFlush
  have hs6 : s6.Canon := .roostSelfRefresh (hs5.foldl (fun h' => h'.hbmSelfRefresh))
  exact hs6.wr.warmBlocks

theorem Canon.revalidate {slot x} (h : s.Canon) : (s.revalidate slot x).Canon := by
  unfold State.revalidate
  refine .ite (h.freeHbm.setSes _ _) ?_
  split
  · exact .ite (.freeParked (.setSes (h.freeHbm.foldl (fun h' => h'.setFrame)) _ _)) (h.freeHbm.setSes _ _)
  · exact (h.freeHbm.setSes _ _)

theorem Canon.revalidation (h : s.Canon) : s.revalidation.Canon :=
  .ite h (.updBoot (.updTci (.releaseFrames (h.foldl (fun h' => .ite h'.finishClose h'.revalidate)))))

theorem Canon.perchBack (h : s.Canon) : s.perchBack.Canon := h.updPwr.goReady

theorem Canon.perchAbort (h : s.Canon) : s.perchAbort.Canon := by
  unfold State.perchAbort
  extract_lets s1 s2 s3 s4 s5
  have hs1 : s1.Canon := h.flag
  have hs2 : s2.Canon := .ite hs1.allUp hs1.sendLinkstate
  have hs3 : s3.Canon := hs2.foldl (fun h' => h'.roostChWake)
  have hs4 : s4.Canon := hs3.foldl (fun h' => .ite h'.bridgeBack h')
  have hs5 : s5.Canon := .ite hs1 (.refillRanges (hs4.foldl (fun h' => h'.hbmWake)))
  exact hs5.perchBack

theorem Canon.linkstateDown (h : s.Canon) : s.linkstateDown.Canon := h.updKtl.foldl (fun h' => .ite h'.mgmt h')

theorem Canon.perchSteps (h : s.Canon) : s.perchSteps.Canon := by
  unfold State.perchSteps
  extract_lets s1 s2 s3 s4 s5
  have hs1 : s1.Canon := h.sendPresence.linkstateDown
  have hs2 : s2.Canon := hs1.emptyCache
  have hs3 : s3.Canon := hs2.foldl (fun h' => h'.gateGroup)
  have hs4 : s4.Canon := hs3.mergeFlush
  have hs5 : s5.Canon := .roostSelfRefresh (hs4.foldl (fun h' => h'.hbmSelfRefresh))
  exact hs5.uartsEmpty.updPwr

theorem Canon.perchPoll (h : s.Canon) : s.perchPoll.Canon := .ite h (.ite h.perchAbort (.ite h.perchSteps h))

theorem Canon.wakeBy {f} (h : s.Canon) : (s.wakeBy f).Canon := by
  unfold State.wakeBy
  split
  · exact h.wr.perchAbort
  · exact h.wr.coreHigh
  · exact h.wr
  · exact h

theorem Canon.wakeTimer (h : s.Canon) : s.wakeTimer.Canon := .ite h.wr.wakeBy h

theorem Canon.wakeKettle {n} (h : s.Canon) : (s.wakeKettle n).Canon := h.wakeBy.wr

theorem Canon.wakeMgmt (h : s.Canon) : s.wakeMgmt.Canon := h.wakeBy

theorem Canon.perchEntry (h : s.Canon) : s.perchEntry.Canon := by
  unfold State.perchEntry
  split
  · exact h
  · exact .ite h h.wr.csrPut.updPwr.wr.wakeTimer

theorem Canon.perchTimeout (h : s.Canon) : s.perchTimeout.Canon := .ite h.perchAbort h

theorem Canon.perchKeeper (h : s.Canon) : s.perchKeeper.Canon := by
  unfold State.perchKeeper
  split
  · exact h
  · exact .ite h h.allKeeper.wr.timeStop.updPwr.coreLow

theorem Canon.coreLowOver (h : s.Canon) : s.coreLowOver.Canon := by
  unfold State.coreLowOver
  split
  · exact .ite h.coreHigh h
  · exact h

theorem Canon.updTap {f} (h : s.Canon) : (s.updTap f).Canon := ⟨h.csr, h.mem, h.poison⟩

theorem Canon.tapIr {ir} (h : s.Canon) : (s.tapIr ir).Canon := h.updTap

theorem Canon.tdo {v} (h : s.Canon) : (s.tdo v).Canon := h.emit

theorem Canon.sealedReject (h : s.Canon) : s.sealedReject.Canon := h.tapIr.flag

theorem Canon.tapOpenOnly {f} (h : s.Canon) (hf : ∀ {t : State}, t.Canon → (f t).Canon) : (s.tapOpenOnly f).Canon :=
  .ite h (.ite (hf h) h.sealedReject)

theorem Canon.leavesMission (h : s.Canon) : s.leavesMission.Canon := h.foldl (fun h' => h'.linkDown)

theorem Canon.tapDrive {ir pins update} (h : s.Canon) : (s.tapDrive ir pins update).Canon :=
  h.tapOpenOnly (fun h' => h'.tapIr.leavesMission.tdo.updTap)

theorem Canon.tapHold {ir} (h : s.Canon) : (s.tapHold ir).Canon := h.tapOpenOnly (fun h' => h'.tapIr.leavesMission.tdo)

theorem Canon.tapSample {pins update} (h : s.Canon) : (s.tapSample pins update).Canon := .ite h.tapIr.tdo.updTap h

theorem Canon.tapOpen {v} (h : s.Canon) : (s.tapOpen v).Canon := .ite h (.ite h.tapIr.tdo h.tapIr.tdo.zeroize.updSec.wr)

theorem Canon.openDone {ok} (h : s.Canon) : (s.openDone ok).Canon :=
  .ite h (.ite (.ite h.destroyBank.updSec.wr.wr.wr.wr h.destroyBank.updSec.wr.wr) h.destroyBank.updSec.wr.wr.tamper)

theorem Canon.dbgResult {res data} (h : s.Canon) : (s.dbgResult res data).Canon := h.updTap

theorem Canon.unitRegs {u} (h : s.Canon) : (s.unitRegs u).Canon := h.resetRegs

theorem Canon.unitStops {u} (h : s.Canon) : (s.unitStops u).Canon := by
  unfold State.unitStops
  refine .ite h.stopTiles.unitRegs.tileGroupReset (.ite ?_ (.ite ?_ (.ite ?_ ?_)))
  · extract_lets st up s1 s2
    have hs1 : s1.Canon := h.keepSlots.hbmBlockReset.ordCut.unitRegs.showSpares
    have hs2 : s2.Canon := hs1.foldl (fun h' => h'.wr)
    exact .ite hs2.wr hs1
  · extract_lets chs b s1 s2 s3
    have hs1 : s1.Canon := .ite h.retrainCut h
    have hs2 : s2.Canon := .unitRegs (hs1.keepBursts.roostEngineStops.foldl (fun h' => h'.roostChReset))
    have hs3 : s3.Canon := hs2.foldl (fun h' => .ite h'.wr h')
    exact .ite hs3.wr hs3
  · exact .ite h.roostEngineStops.unitRegs.wr h.roostEngineStops.unitRegs
  · exact .ite h.cryptBlockReset.endAll.unitRegs (.ite h.linkDown.unitRegs h.coreHalt.wr)

theorem Canon.unitBack {u} (h : s.Canon) : (s.unitBack u).Canon := by
  unfold State.unitBack
  refine .ite h.tileGroupBack (.ite h.jessMustReload.hbmWake (.ite ?_ (.ite (.ite h.wr h) (.ite h.cryptBack (.ite h (.ite h.wr h))))))
  exact .ite (.bridgeBack (h.foldl (fun h' => h'.roostChWake))) (h.foldl (fun h' => h'.roostChWake))

theorem Canon.roostFaulted (h : s.Canon) : s.roostFaulted.Canon := by
  unfold State.roostFaulted
  refine h.foldl (fun h' => ?_)
  split
  · exact h'.endPark
  · exact h'.stopUnpark.failUnpark
  · exact h'.endExport
  · exact h'.endImport
  · exact h'.xferDead
  · exact h'.xferDead

theorem Canon.unitQuarantined {u} (h : s.Canon) : (s.unitQuarantined u).Canon :=
  .ite h.dropReady.stopRuns (.ite h (.ite h.roostFaulted (.ite h.rekeyStop.endAll (.ite h.linkDown h.coreHalt))))

theorem Canon.joinersEnd {u st} (h : s.Canon) : (s.joinersEnd u st).Canon := h.endAll

theorem Canon.carry {a} (h : s.Canon) : (s.carry a).Canon := by
  unfold State.carry
  split
  · exact h.unitQuarantined
  · exact h.unitStops
  · exact h
  · exact h.warmReset
  · exact h.unitBack.joinersEnd

theorem Canon.carryAll (h : s.Canon) : s.carryAll.Canon := h.updWatch.foldl (fun h' => h'.carry)

theorem Canon.accessAnswered {o k addr off len r} (h : s.Canon) : (s.accessAnswered o k addr off len r).Canon :=
  .ite h.dbgResult (.ite h (.ite h.accFault (.ite h.emit (.ite h.poisonUse (.ite h.emit h.emit)))))

theorem Canon.forwardAnswered {seq r} (h : s.Canon) : (s.forwardAnswered seq r).Canon := by
  unfold State.forwardAnswered
  split
  · exact h.endFlags
  · split
    · exact h.endFlags
    · exact h.endAt

theorem Canon.counterRead {i} (h : s.Canon) : (s.counterRead i).Canon := h.request

theorem Canon.counterAnswered {seq r} (h : s.Canon) : (s.counterAnswered seq r).Canon := by
  unfold State.counterAnswered
  split
  · exact h
  · exact h.endRun
  · exact .ite h.endRun (.ite h.endRun h.counterRead)

theorem Canon.answered {o r} (h : s.Canon) : (s.answered o r).Canon := by
  unfold State.answered
  split
  · exact h.accessAnswered
  · exact h.forwardAnswered
  · extract_lets st
    split
    · exact h
    · exact .ite h (.ite h.endFlags h.endRun)
  · exact h.counterAnswered
  · exact h.srcAnswered
  · exact h.dmaAnswered
  · exact .ite h h.updSes
  · exact h.buddyAnswer
  · exact h
  · exact h.exportAnswer
  · split
    · exact h.endImport
    · exact h

theorem Canon.answersOf {n} (h : s.Canon) : (State.answersOf n s).Canon := by
  induction n generalizing s with
  | zero => exact h
  | succ n ih =>
    unfold State.answersOf
    split
    · exact h
    · exact ih h.updKtl.answered

theorem Canon.stopRun {r st} (h : s.Canon) : (s.stopRun r st).Canon := by
  unfold State.stopRun
  extract_lets seq
  split
  · exact h.dropReady.stopRuns
  · exact h.endExport
  · exact h.endImport
  · exact h.rekeyStop.endRun
  · exact h.endRun
  · exact h.endRun
  · exact h.endRun
  · exact h.endRun
  · exact h.endRun
  · exact h.endRun
  · exact h

theorem Canon.stopDead (h : s.Canon) : s.stopDead.Canon := h.foldl (fun h' => h'.stopRun)

theorem Canon.queueDrain {q self} (h : s.Canon) : (s.queueDrain q self).Canon := by
  unfold State.queueDrain
  refine h.setQp.updTci.stormCheck.foldl (fun h' => ?_)
  split
  · exact h'.stopRun
  · exact h'.stopRun
  · exact h'.stopRun
  · exact h'.stopRun
  · exact h'.endRun

theorem Canon.queueGone {q} (h : s.Canon) : (s.queueGone q).Canon := h.setQp.updTci

theorem Canon.queueEnd {q self} (h : s.Canon) : (s.queueEnd q self).Canon := .ite h.queueGone h

theorem Canon.adminEnd (h : s.Canon) : s.adminEnd.Canon := .ite h.queueEnd h

theorem Canon.reducePoll {r} (h : s.Canon) : (s.reducePoll r).Canon :=
  .ite h (.ite h.endRun (.ite (.ite (.ite h.waitOn.actAdd.endRun h.waitOn.actAdd.endRun) h.waitOn.sendAdd) h.endRun))

theorem Canon.counterPoll {r} (h : s.Canon) : (s.counterPoll r).Canon := by
  unfold State.counterPoll
  refine .ite h ?_
  split
  next hq => exact (h.actRead.of_pair hq).endRun
  · exact .ite h.endRun h

theorem Canon.drainPoll {r} (h : s.Canon) : (s.drainPoll r).Canon := .ite h (.endRun (h.updKtl.foldl (fun h' => .ite h'.mgmt h')))

theorem Canon.drainParks (h : s.Canon) : s.drainParks.Canon := .ite h (h.foldl (fun h' => .ite h'.startPark h'))

theorem Canon.poll {r} (h : s.Canon) : (s.poll r).Canon := by
  unfold State.poll
  extract_lets seq s1
  have hs1 : s1.Canon := h.queueEnd
  split
  · exact .ite h h.endRun
  · exact .ite h.endRun h
  · exact h.drainPoll
  · exact .ite hs1.endRun hs1
  · exact .ite h.endRun h
  · exact h.reducePoll
  · exact h.counterPoll
  · exact h

theorem Canon.pollAll (h : s.Canon) : s.pollAll.Canon := h.foldl (fun h' => h'.poll)

theorem Canon.settleOnce (h : s.Canon) : s.settleOnce.Canon := by
  unfold State.settleOnce
  extract_lets s1 s2 s3 s4 s5
  have hs1 : s1.Canon := h.carryAll
  have hs2 : s2.Canon := hs1.answersOf
  have hs3 : s3.Canon := hs2.stopDead.pollAll.adminEnd
  have hs4 : s4.Canon := .ite hs3 hs3.idleSessions
  have hs5 : s5.Canon := hs4.closeSessions.queueExports.sendClaims.drainParks
  exact hs5.ordServe.fenceServe.mergeReplies.unloadPlans.perchPoll

theorem Canon.settleRounds {n} (h : s.Canon) : (State.settleRounds n s).Canon := by
  induction n generalizing s with
  | zero => exact h
  | succ n ih => exact .ite (ih h.settleOnce) h

theorem Canon.settle (h : s.Canon) : s.settle.Canon := h.settleRounds

theorem Canon.snapFill {a id upper} (h : s.Canon) : (s.snapFill a id upper).Canon := ⟨h.csr, h.mem, h.poison⟩

theorem Canon.csrTake {a id size sub} (h : s.Canon) : (s.csrTake a id size sub).1.Canon := by
  unfold State.csrTake
  extract_lets v snap
  split
  · exact .ite_fst (.pair h) h.uartTake
  · refine .ite_fst (.pair h) (.ite_fst (.pair (.ite h.snapFill h)) ?_)
    split
    · exact .pair ⟨h.csr, h.mem, h.poison⟩
    · exact .pair h

theorem Canon.csrLoad {a m size sub} (h : s.Canon) : (s.csrLoad a m size sub).Canon := by
  unfold State.csrLoad
  split
  next hq => exact h.csrGate.of_eq hq
  · exact h.csrTake.emit

end State
end Sys2Proof.Machine
end

section
/-! PROOF. Canonical form is kept by the operations of the register writes that act. -/

namespace Sys2Proof.Machine
namespace State
variable {s : State}

theorem Canon.plainWrite {a w} (h : s.Canon) : (s.plainWrite a w).Canon := h.csrWrite (fun h' => h'.csrPut)

theorem Canon.plainWriteF {a w} (h : s.Canon) : (s.plainWriteF a w).Canon := h.csrWriteF (fun h' => h'.csrPut)

theorem Canon.shapedWrite {a w f} (h : s.Canon) : (s.shapedWrite a w f).Canon := h.csrWrite (fun h' => h'.csrPut)

theorem Canon.adminOn (h : s.Canon) : s.adminOn.Canon := .ite h h.csrPut.wr.wr.wr.csrPut.wr.wr.csrPut.csrPut.csrPut.setQp

theorem Canon.adminOff (h : s.Canon) : s.adminOff.Canon := .ite h h.queueDrain.queueEnd

theorem Canon.adminCfg {v} (h : s.Canon) : (s.adminCfg v).Canon :=
  .adminCheck (.ite h.csrPut.adminOn (.ite h.csrPut.adminOff h.csrPut))

theorem Canon.adminCfgWrite {w} (h : s.Canon) : (s.adminCfgWrite w).Canon := by
  unfold State.adminCfgWrite
  exact h.csrWrite (fun h' => h'.adminCfg)

theorem Canon.adminBaseWrite {a w} (h : s.Canon) : (s.adminBaseWrite a w).Canon := h.csrWrite (fun h' => .ite h' h'.csrPut)

theorem Canon.intakeWrite {w} (h : s.Canon) : (s.intakeWrite w).Canon := by
  unfold State.intakeWrite
  exact h.csrWrite (fun h' => h'.csrPut.stormCheck)

theorem Canon.sqDoorbellWrite {q w} (h : s.Canon) : (s.sqDoorbellWrite q w).Canon := h.csrWrite (fun h' => h'.sqDoorbellAt)

theorem Canon.rqDoorbellWrite {q w} (h : s.Canon) : (s.rqDoorbellWrite q w).Canon := h.csrWrite (fun h' => h'.rqDoorbellAt)

theorem Canon.spareCmdWrite {st p w} (h : s.Canon) : (s.spareCmdWrite st p w).Canon := h.csrWrite (fun h' => .ite h'.spareRow h')

theorem Canon.locWrite {hi w} (h : s.Canon) : (s.locWrite hi w).Canon := h.csrWrite (fun h' => h'.csrPut.wr)

theorem Canon.locDone (h : s.Canon) : s.locDone.Canon := .ite h h.updHbm.wr

theorem Canon.pcCfgWrite {st p w} (h : s.Canon) : (s.pcCfgWrite st p w).Canon := by
  unfold State.pcCfgWrite
  exact h.csrWrite (fun h' => .ite h'.csrPut h'.flag)

theorem Canon.stkCfgWrite {st w} (h : s.Canon) : (s.stkCfgWrite st w).Canon := by
  unfold State.stkCfgWrite
  exact h.csrWrite (fun h' => .ite h'.csrPut h')

theorem Canon.thermCfgWrite {st w} (h : s.Canon) : (s.thermCfgWrite st w).Canon := by
  unfold State.thermCfgWrite
  exact h.csrWrite (fun h' => .ite h'.csrPut h')

theorem Canon.pprWrite {st a w} (h : s.Canon) : (s.pprWrite st a w).Canon := h.csrWrite (fun h' => .ite h'.csrPut h')

theorem Canon.chCfgWrite {ch w} (h : s.Canon) : (s.chCfgWrite ch w).Canon := by
  unfold State.chCfgWrite
  exact h.csrWrite (fun h' => .ite h'.csrPut h'.flag)

theorem Canon.brCfgWrite {b w} (h : s.Canon) : (s.brCfgWrite b w).Canon := by
  unfold State.brCfgWrite
  exact h.csrWrite (fun h' => h'.csrPut)

theorem Canon.cryptCtrlWrite {w} (h : s.Canon) : (s.cryptCtrlWrite w).Canon := h.csrWrite (fun h' => h'.cryptCtrl)

theorem Canon.stblWrite {w} (h : s.Canon) : (s.stblWrite w).Canon := h.csrWrite (fun h' => .ite h' h'.csrPut)

theorem Canon.stageGoWrite {w} (h : s.Canon) : (s.stageGoWrite w).Canon := h.csrWrite (fun h' => .ite h'.jessCommit h')

theorem Canon.syncGoWrite {w} (h : s.Canon) : (s.syncGoWrite w).Canon := h.csrWrite (fun h' => .ite h'.jessSyncGo h')

theorem Canon.linkEnable {n} (h : s.Canon) : (s.linkEnable n).Canon := by
  unfold State.linkEnable
  split
  · exact h.setLink
  · exact h.enableLink

theorem Canon.linkCtrlWrite {n w} (h : s.Canon) : (s.linkCtrlWrite n w).Canon := by
  unfold State.linkCtrlWrite
  refine h.csrWrite (fun h' => ?_)
  extract_lets v s1 s2
  have hs1 : s1.Canon := h'.csrPut
  have hs2 : s2.Canon := .ite hs1 (.ite hs1.withdrawLink hs1.linkEnable)
  exact .ite hs2.withdrawLink hs2

theorem Canon.coreCtrlWrite {c w} (h : s.Canon) : (s.coreCtrlWrite c w).Canon :=
  h.csrWriteF (fun h' => .ite (.requestReset (.ite h'.coreStart h')) (.ite h'.coreStart h'))

theorem Canon.coreVectorWrite {c w} (h : s.Canon) : (s.coreVectorWrite c w).Canon := by
  unfold State.coreVectorWrite
  exact h.csrWriteF (fun h' => .ite h'.csrPut h')

theorem Canon.lockRegWrite {i w} (h : s.Canon) : (s.lockRegWrite i w).Canon := h.csrWrite (fun h' => h'.lockWrite)

theorem Canon.cacheMaintWrite {w} (h : s.Canon) : (s.cacheMaintWrite w).Canon := h.csrWrite (fun h' => .ite h'.cleanAll h')

theorem Canon.imsicWrite {core file w} (h : s.Canon) : (s.imsicWrite core file w).Canon :=
  h.csrWrite (fun h' => h'.raiseAt.raiseAt)

theorem Canon.flashCmdWrite {w} (h : s.Canon) : (s.flashCmdWrite w).Canon := h.csrWriteF (fun h' => .ite h'.flashGo h')

theorem Canon.capWrite {w} (h : s.Canon) : (s.capWrite w).Canon := h.shapedWrite

theorem Canon.pwrCfgStore {which w} (h : s.Canon) : (s.pwrCfgStore which w).Canon := by
  unfold State.pwrCfgStore
  exact h.csrWrite (fun h' => .ite h'.csrPut h'.flag)

theorem Canon.wakeAtWrite {w} (h : s.Canon) : (s.wakeAtWrite w).Canon := by
  unfold State.wakeAtWrite
  exact h.csrWrite (fun h' => h'.csrPut.wakeTimer)

theorem Canon.timeCfgWrite {w} (h : s.Canon) : (s.timeCfgWrite w).Canon := by
  unfold State.timeCfgWrite
  exact h.csrWrite (fun h' => .ite h'.csrPut h'.csrPut.updTime)

theorem Canon.alarmWrite {w} (h : s.Canon) : (s.alarmWrite w).Canon := by
  unfold State.alarmWrite
  exact h.csrWrite (fun h' => h'.csrPut.alarmCheck)

theorem Canon.captureWrite {w} (h : s.Canon) : (s.captureWrite w).Canon := h.csrWrite (fun h' => .ite h'.timeSample h')

theorem Canon.watchAck {n code} (h : s.Canon) : (s.watchAck n code).Canon :=
  .ite h.flag (.ite h.wlog.endLadder (.ite h.wlog.bump.updWatch h.wlog.takeStep))

theorem Canon.ackWrite {w} (h : s.Canon) : (s.ackWrite w).Canon := h.csrWrite (fun h' => .ite h' h'.watchAck)

theorem Canon.alarmClear (h : s.Canon) : s.alarmClear.Canon := .ite h h.wr.emit

theorem Canon.alarmClrWrite {w} (h : s.Canon) : (s.alarmClrWrite w).Canon := h.csrWrite (fun h' => .ite h'.alarmClear h')

theorem Canon.clearSource {n} (h : s.Canon) : (s.clearSource n).Canon := .ite h.wr h.wr.wr.wr.wr.wr

theorem Canon.srcStatusWrite {n w} (h : s.Canon) : (s.srcStatusWrite n w).Canon := h.csrWrite (fun h' => .ite h'.clearSource h')

theorem Canon.inject {n} (h : s.Canon) : (s.inject n).Canon := h.report

theorem Canon.srcCfg {n w} (h : s.Canon) : (s.srcCfg n w).Canon :=
  h.csrWrite (fun h' => .ite h' (.ite h'.flag (.ite h'.csrPut.inject h'.csrPut)))

theorem Canon.releaseUnit {u} (h : s.Canon) : (s.releaseUnit u).Canon := .ite h.wr.act h

theorem Canon.ruCfgWrite {u w} (h : s.Canon) : (s.ruCfgWrite u w).Canon := by
  unfold State.ruCfgWrite
  refine h.csrWrite (fun h' => .ite h' ?_)
  exact .ite (.requestReset (.ite h'.csrPut.releaseUnit h'.csrPut)) (.ite h'.csrPut.releaseUnit h'.csrPut)

theorem Canon.svnWrite {w} (h : s.Canon) : (s.svnWrite w).Canon := h.csrWriteF (fun h' => h'.svnAdvance)

theorem Canon.maskWrite {w} (h : s.Canon) : (s.maskWrite w).Canon := by
  unfold State.maskWrite
  exact h.csrWriteF (fun h' => .ite h' h'.csrPut.sensorsAre)

theorem Canon.ctlCfgWrite {dev w} (h : s.Canon) : (s.ctlCfgWrite dev w).Canon := h.csrWriteF (fun h' => .ite h'.csrPut h'.flag)

theorem Canon.uartWrite {n a w f} (h : s.Canon) (hf : ∀ {t : State}, t.Canon → (f t).Canon) : (s.uartWrite n a w f).Canon :=
  .ite (h.csrWrite hf) (h.csrWriteF hf)

theorem Canon.uartCfgWrite {n w} (h : s.Canon) : (s.uartCfgWrite n w).Canon := by
  unfold State.uartCfgWrite
  exact h.uartWrite (fun h' => h'.csrPut.uartStart.uartDone)

theorem Canon.uartEventWrite {n w} (h : s.Canon) : (s.uartEventWrite n w).Canon := h.uartWrite (fun h' => h'.csrPut.uartDone)

theorem Canon.uartDataStore {n w} (h : s.Canon) : (s.uartDataStore n w).Canon := h.uartWrite (fun h' => .ite h' h'.uartQueue)

theorem Canon.otherWrite {a w} (h : s.Canon) : (s.otherWrite a w).Canon := .ite h.plainWriteF h.plainWrite

theorem Canon.tciWrite {a w} (h : s.Canon) : (s.tciWrite a w).Canon := by
  unfold State.tciWrite
  refine .ite h.adminCfgWrite (.ite h.adminBaseWrite (.ite h.intakeWrite ?_))
  split
  · exact h.sqDoorbellWrite
  · exact h.rqDoorbellWrite
  · exact h.otherWrite

theorem Canon.hbmWrite {a w} (h : s.Canon) : (s.hbmWrite a w).Canon := by
  unfold State.hbmWrite
  refine .ite h.locWrite (.ite h.locWrite ?_)
  split
  · exact h.pcCfgWrite
  · exact h.spareCmdWrite
  · split
    · exact h.stkCfgWrite
    · exact h.thermCfgWrite
    · exact h.pprWrite
    · exact h.shapedWrite
    · exact h.otherWrite

theorem Canon.mewsWrite {a w} (h : s.Canon) : (s.mewsWrite a w).Canon := by
  unfold State.mewsWrite
  refine .ite h.cacheMaintWrite (.ite h.flashCmdWrite (.ite h.lockRegWrite ?_))
  split
  · exact h.lockRegWrite
  · exact h.coreCtrlWrite
  · exact h.coreVectorWrite
  · exact h.imsicWrite
  · exact h.otherWrite

theorem Canon.watchWrite {a w} (h : s.Canon) : (s.watchWrite a w).Canon := by
  unfold State.watchWrite
  refine .ite h.shapedWrite (.ite h.shapedWrite (.ite h.ackWrite (.ite h.alarmClrWrite ?_)))
  split
  · exact h.srcStatusWrite
  · exact h.srcCfg
  · exact h.ruCfgWrite
  · exact h.otherWrite

theorem Canon.pwrWrite {a w} (h : s.Canon) : (s.pwrWrite a w).Canon :=
  .ite h.capWrite (.ite h.pwrCfgStore (.ite h.pwrCfgStore (.ite h.pwrCfgStore (.ite h.shapedWrite (.ite h.wakeAtWrite h.otherWrite)))))

theorem Canon.busWrite {a w} (h : s.Canon) : (s.busWrite a w).Canon := by
  unfold State.busWrite
  refine .ite h.ctlCfgWrite ?_
  split
  · exact h.ctlCfgWrite
  · exact h.uartCfgWrite
  · exact h.uartEventWrite
  · exact h.uartDataStore
  · exact h.otherWrite

theorem Canon.csrStore {a w} (h : s.Canon) : (s.csrStore a w).Canon := by
  unfold State.csrStore
  refine .ite h.tciWrite (.ite h.watchWrite (.ite (.ite h.stageGoWrite (.ite h.syncGoWrite h.otherWrite)) (.ite h.pwrWrite ?_)))
  refine .ite (.ite h.timeCfgWrite (.ite h.alarmWrite (.ite h.captureWrite h.otherWrite))) ?_
  refine .ite (.ite h.svnWrite (.ite h.maskWrite h.otherWrite)) (.ite h.busWrite ?_)
  refine .ite (.ite h.cryptCtrlWrite (.ite h.stblWrite (.ite h.shapedWrite h.otherWrite))) ?_
  refine .ite ?_ (.ite ?_ (.ite h.mewsWrite (.ite h.hbmWrite h.otherWrite)))
  · split
    · exact h.brCfgWrite
    · exact h.chCfgWrite
    · exact h.otherWrite
  · split
    · exact h.linkCtrlWrite
    · exact h.otherWrite

theorem Canon.barAccess {m f} (h : s.Canon) (hf : ∀ {t : State}, t.Canon → (f t).Canon) : (s.barAccess m f).Canon :=
  .ite (hf h) (.ite h.wakeBy (hf h).wakeBy)

end State
end Sys2Proof.Machine
end

section
/-! PROOF. Canonical form is kept by the operations of the commands and the events of each block, and the idle tick. -/

namespace Sys2Proof.Machine
namespace State
variable {s : State}

theorem Canon.plain {op c f} (h : s.Canon) (hf : ∀ {t : State} {x}, t.Canon → (f t x).Canon) : (s.plain op c f).Canon :=
  h.command (fun h' => .ite h'.endRun (hf h'))

theorem Canon.onSession {op c f} (h : s.Canon) (hf : ∀ {t : State} {x} {x1} {x2}, t.Canon → (f t x x1 x2).Canon) : (s.onSession op c f).Canon := by
  unfold State.onSession
  refine h.command (fun h' => ?_)
  split
  · exact h'.endRun
  · refine .ite h'.endRun ?_
    split
    · exact h'.endRun
    · exact hf h'

theorem Canon.createQp {c} (h : s.Canon) : (s.createQp c).Canon := h.csrPut.csrPut.csrPut.csrPut.csrPut.setQp

theorem Canon.perchStarted (h : s.Canon) : s.perchStarted.Canon := .ite h (.ite h.updBus.powerStart h.updBus)

theorem Canon.resetLow (h : s.Canon) : s.resetLow.Canon := .ite h (.ite h.updPwr h.updPwr.wlog.startWarm)

theorem Canon.perstLow (h : s.Canon) : s.perstLow.Canon :=
  .ite h.updPwr (.updBoot (h.updPwr.adminCfg.foldl (fun h' => h'.qpError)))

theorem Canon.strapsAre {tray sel} (h : s.Canon) : (s.strapsAre tray sel).Canon := .ite h.updTop.flag h.updTop

theorem Canon.warmStarts (h : s.Canon) : s.warmStarts.Canon := by
  unfold State.warmStarts
  split
  · exact h
  · exact .ite h h.updPwr.logStep.startWarm

theorem Canon.d2dCrc {n onReplay} (h : s.Canon) : (s.d2dCrc n onReplay).Canon := by
  unfold State.d2dCrc
  refine .ite h ?_
  split
  · exact .ite h.d2dFail h.updTop.bump
  · exact h.updTop.bump

theorem Canon.d2dLate {n} (h : s.Canon) : (s.d2dLate n).Canon := by
  unfold State.d2dLate
  split
  · exact .ite h.d2dFail h
  · exact h

theorem Canon.busView (h : s.Canon) : s.busView.Canon := h.watchStatus.countReplies

theorem Canon.hbmAge {st p} (h : s.Canon) : (s.hbmAge st p).Canon := h.hqStep

theorem Canon.hbmRefresh {st p bank} (h : s.Canon) : (s.hbmRefresh st p bank).Canon := .ite h h.setHq

theorem Canon.hbmScrub {st p l w} (h : s.Canon) : (s.hbmScrub st p l w).Canon := by
  unfold State.hbmScrub
  refine .ite h ?_
  extract_lets a s1 s2
  have hs1 : s1.Canon := h.updHbm
  have hs2 : s2.Canon := hs1.decay.flushOrd
  split
  next hq => exact .ite (hs2.hbmReq.of_pair hq) (hs2.hbmReq.of_pair hq).hbmEnter

theorem Canon.rhClear (h : s.Canon) : s.rhClear.Canon := .ite h h.updHbm

theorem Canon.ordered {m addr op src data poison} (h : s.Canon) : (s.ordered m addr op src data poison).Canon := by
  unfold State.ordered
  refine .ite h.hbmIngress ?_
  split
  next hq => exact h.decodeGate.of_eq hq
  · refine .ite ?_ (.ite h.errTo (.ite h ?_))
    · split
      next hq1 => exact (h.addOutside.of_eq hq1).errTo
      · exact h
    · split
      · exact h.jessRefuse.errTo
      · exact .ite h.kiteRefuse.errTo h.ordSubmit

theorem Canon.ordHold {a} (h : s.Canon) : (s.ordHold a).Canon := by
  unfold State.ordHold
  split
  · exact h
  · exact .ite h.flushOrd h

theorem Canon.hearMsg {link m f} (h : s.Canon) (hf : ∀ {t : State}, t.Canon → (f t).Canon) : (s.hearMsg link m f).Canon :=
  .ite h (h.receive hf)

theorem Canon.onGateway {link f} (h : s.Canon) (hf : ∀ {t : State}, t.Canon → (f t).Canon) : (s.onGateway link f).Canon :=
  .ite (hf h) h

theorem Canon.fromPeer {link f} (h : s.Canon) (hf : ∀ {t : State}, t.Canon → (f t).Canon) : (s.fromPeer link f).Canon :=
  .ite h (hf h)

theorem Canon.ktlTimer {n f} (h : s.Canon) (hf : ∀ {t : State}, t.Canon → (f t).Canon) : (s.ktlTimer n f).Canon := .ite h (hf h)

theorem Canon.addSession {f} (h : s.Canon) : (s.addSession f).1.Canon := .pair (h.updSes.setSes _ _)

theorem Canon.queueRun {r} (h : s.Canon) : (s.queueRun r).Canon := .waitOn ⟨h.csr, h.mem, h.poison⟩

theorem Canon.assignChunks {x l} (h : s.Canon) : CanonOf Prod.fst (s.assignChunks x l) := by
  induction l generalizing s x with
  | nil => exact .some h
  | cons c r ih => exact .ite (ih h) (.ite (ih h.draw) (.ite (ih h.draw) .none))

theorem Canon.placeChunks {slot l} (h : s.Canon) : CanonOf id (s.placeChunks slot l) := by
  unfold State.placeChunks
  split
  · exact .some h
  · exact h.assignChunks.map fun hp => hp.setSes _ _

theorem Canon.runFor {i slot op bufsOk new r} (h : s.Canon) : (s.runFor i slot op bufsOk new r).Canon := by
  unfold State.runFor
  split
  next hq => exact (h.activate.of_pair hq).endRetry
  next hq =>
    refine .ite h.endRun ?_
    split
    · exact h.endRetry
    next hq1 => exact ((h.activate.of_pair hq).placeChunks.of_eq hq1).queueRun

theorem Canon.changeBuddy {slot buddy} (h : s.Canon) : (s.changeBuddy slot buddy).Canon := by
  unfold State.changeBuddy
  split
  · exact h
  · exact .ite h (.ite ((h.sendBuddyDel.dropXfer.setSes _ _).setSes _ _).buddyStart (h.sendBuddyDel.dropXfer.setSes _ _))

theorem Canon.beginExport {slot} (h : s.Canon) : (s.beginExport slot).Canon := by
  unfold State.beginExport
  split
  · exact h
  · exact (h.setSes _ _).dropReady.endAll.stopUnpark.dropBuddySend

theorem Canon.recoverCopy {b} (h : s.Canon) : (s.recoverCopy b).1.Canon := by
  unfold State.recoverCopy
  extract_lets groups len keys pages s1
  have hs1 : s1.Canon := h.dropBuddy
  split
  next hq => exact .pair (hs1.addSession.of_pair hq).firstRecord.updSes

theorem Canon.kernelGo {i slot} (h : s.Canon) : (s.kernelGo i slot).Canon := by
  unfold State.kernelGo
  extract_lets args r len
  split
  · exact h.endRun
  · refine .ite h.endRun ?_
    extract_lets ok
    split
    · exact h.runFor
    · exact .ite h.queueRun h.endRun

theorem Canon.mergeHold {sec} (h : s.Canon) : (s.mergeHold sec).Canon := by
  unfold State.mergeHold
  split
  · exact h
  · exact .ite h.mergeBack h

theorem Canon.retagAll {d k} (h : s.Canon) : (s.retagAll d k).Canon :=
  .foldl (h.foldl (fun h' => h'.foldl (fun h'' => h''.putLine))) (fun h' => h'.putBuddy)

theorem Canon.damageOwners {secs} (h : s.Canon) : (s.damageOwners secs).Canon := by
  unfold State.damageOwners
  exact h.updSes

theorem Canon.rekeyEnd {r} (h : s.Canon) : (s.rekeyEnd r).Canon := by
  unfold State.rekeyEnd
  refine .foldl (.damageOwners (.sealRecord (.sealRecord (.rekeyKeys ?_)))) (fun h' => .ite h'.endRun h')
  split
  · exact h.retagAll
  · exact h

theorem Canon.rekeyStep (h : s.Canon) : s.rekeyStep.Canon := by
  unfold State.rekeyStep
  split
  · exact h
  · refine .ite h ?_
    split
    · exact h.rekeyEnd
    · exact h.rekeySector.updCrypt

theorem Canon.setRegion {i} (h : s.Canon) : (s.setRegion i).Canon := h.csrPut.csrPut.csrPut.jessCommit.endRun

theorem Canon.syncDone (h : s.Canon) : s.syncDone.Canon := by
  unfold State.syncDone
  split
  · exact h
  · exact .ite h.updJess.wr h

theorem Canon.trngFails (h : s.Canon) : s.trngFails.Canon := .ite h h.updSec.flag.report

theorem Canon.trngRecovers (h : s.Canon) : s.trngRecovers.Canon := by
  unfold State.trngRecovers
  refine .ite h ?_
  extract_lets s1 s2 s3
  have hs1 : s1.Canon := h.updSec
  have hs2 : s2.Canon := .ite hs1.perchDraws hs1
  have hs3 : s3.Canon := .ite hs2.drawScramble hs2
  split
  · exact hs3.rekeyZero
  · exact hs3

theorem Canon.linkControl {c act f} (h : s.Canon) (hf : ∀ {t : State} {x}, t.Canon → (f t x).Canon) : (s.linkControl c act f).Canon :=
  .ite h (h.plain (fun h' => .ite h'.endRun (hf h').waitOn))

theorem Canon.contribute {i o l p} (h : s.Canon) : (s.contribute i o l p).1.Canon := by
  unfold State.contribute
  refine .ite_fst (.pair h.sendAdd) (.ite_fst ?_ h.actAdd)
  extract_lets a k
  split
  · exact .pair h.jessRefuse
  · exact .ite_fst (.pair h.kiteRefuse) (.ite_fst (.pair h) (.pair h.ordSubmit))

theorem Canon.reduceMove {i} (h : s.Canon) : (s.reduceMove i).Canon := by
  unfold State.reduceMove
  extract_lets r
  have hr : r.1.Canon := h.copyLines (fun h' => h'.srcRead) (fun h' => h'.contribute)
  exact .ite hr.endRun hr.waitOn

theorem Canon.pkgDrain {c act f} (h : s.Canon) (hf : ∀ {t : State} {x}, t.Canon → (f t x).Canon) : (s.pkgDrain c act f).Canon :=
  .ite h (h.plain hf)

theorem Canon.drainEnds (h : s.Canon) : s.drainEnds.Canon :=
  .ite (h.updSes.updKtl.foldl (fun h' => .ite h'.mgmt h')) h.updSes.updKtl

theorem Canon.powerTo {c target f} (h : s.Canon) (hf : ∀ {t : State} {x}, t.Canon → (f t x).Canon) : (s.powerTo c target f).Canon :=
  .ite h (h.plain (fun h' => .ite h'.endRun (.ite h'.endRetry (hf h'))))

theorem Canon.byMaster {m f} (h : s.Canon) (hf : ∀ {t : State}, t.Canon → (f t).Canon) : (s.byMaster m f).Canon := .ite (hf h) h

theorem Canon.roostRefresh {ch sub} (h : s.Canon) : (s.roostRefresh ch sub).Canon := .ite h h.setRq.wr

theorem Canon.roostTemp {ch hot} (h : s.Canon) : (s.roostTemp ch hot).Canon := .ite h h.updRoost

theorem Canon.roostScrub {ch sector line w} (h : s.Canon) : (s.roostScrub ch sector line w).Canon := by
  unfold State.roostScrub
  refine .ite h ?_
  extract_lets s1
  have hs1 : s1.Canon := h.updRoost
  split
  next hq => exact (hs1.decay.roostReq.of_pair hq).roostEnter

theorem Canon.roostRhClear (h : s.Canon) : s.roostRhClear.Canon := .ite h h.updRoost

theorem Canon.chDies {ch} (h : s.Canon) : (s.chDies ch).Canon := .ite h.chFail h.chFail.tierFailed

theorem Canon.retrained {failed ch} (h : s.Canon) : (s.retrained failed ch).Canon := .ite h.retrainResult.chDies h.retrainResult

theorem Canon.retrainNext {b x} (h : s.Canon) : (s.retrainNext b x).Canon := by
  unfold State.retrainNext
  split
  · exact h.wr.updRoost
  · exact .ite h.updRoost.bridgeBack.wr.flag h.updRoost.bridgeBack

theorem Canon.retrainPoll {b} (h : s.Canon) : (s.retrainPoll b).Canon := by
  unfold State.retrainPoll
  split
  · split
    · exact .ite h h.retrained.retrainNext
    · exact h
  · exact h

theorem Canon.retrainCheck {b temp failed} (h : s.Canon) : (s.retrainCheck b temp failed).Canon :=
  .ite h (.ite h.wr.updRoost (.retrainNext (.ite h.wr.updRoost.updRoost.wr h.wr.updRoost.updRoost)))

theorem Canon.roostExit {failed} (h : s.Canon) : (s.roostExit failed).Canon :=
  .ite h (.foldl (.foldl (h.foldl (fun h' => h'.roostChWake)) (fun h' => .ite h'.bridgeBack h')) (fun h' => h'.chDies))

theorem Canon.dbgCsr {m write a data} (h : s.Canon) : (s.dbgCsr m write a data).Canon := by
  unfold State.dbgCsr
  refine .ite h.csrStore.dbgResult ?_
  split
  next hq => exact (h.csrGate.of_eq hq).dbgResult
  · exact h.csrTake.dbgResult

theorem Canon.dbgMem {m write a data} (h : s.Canon) : (s.dbgMem m write a data).Canon := by
  unfold State.dbgMem
  split
  · split
    next hq1 => exact (h.portWrite.of_pair hq1).dbgResult
    next hq1 => exact (h.portWrite.of_pair hq1).dbgResult
  · split
    next hq => exact (h.portRead.of_pair hq).dbgResult
    next hq => exact (h.portRead.of_pair hq).dbgResult

theorem Canon.dbgAccess {w} (h : s.Canon) : (s.dbgAccess w).Canon :=
  .ite h.dbgResult (.ite h.dbgResult.remoteAcc (.ite h.dbgCsr (.ite h.report.dbgResult h.dbgMem)))

theorem Canon.graceOver {n} (h : s.Canon) : (s.graceOver n).Canon := by
  unfold State.graceOver
  split
  · exact .ite h.takeStep h
  · exact h

theorem Canon.closeShadow {u} (h : s.Canon) : (s.closeShadow u).Canon := by
  unfold State.closeShadow
  split
  · split
    · exact .ite h (.ite h.updWatch.wr h.updWatch.wr)
    · exact h
  · exact h

theorem Canon.idleQueues (h : s.Canon) : s.idleQueues.Canon := by
  unfold State.idleQueues
  extract_lets s1
  have hs1 : s1.Canon := h.updHbm
  exact hs1.updRoost

end State
end Sys2Proof.Machine
end

section
/-! PROOF. Every step keeps canonical form and the well-formed queue (00_scope.md, 01_machine.md). -/

namespace Sys2Proof.Machine
namespace State
variable {s : State}

/-- What settles after a command keeps the form, and the queue has no part in it. -/
theorem NextCanon.fin {t : State} (h : t.Canon) : NextCanon (fin s t) where
  canon := fun hu => by
    cases hu
    exact h.settle.of_data rfl rfl rfl

/-- Each command and event keeps canonical form, by the lemma of the operation that it is. -/
theorem Canon.exec {c : Instr} (h : s.Canon) : NextCanon (exec c s) := by
  cases c with
  | perchPowerOn => exact .fin h.perchOn
  | pwrOkRise => exact .fin h.pwrOkUp
  | pwrOkFall => exact .fin h.pwrOkDown
  | corePgRise => exact .fin h.corePgUp
  | corePgFall => exact .fin h.corePgDown
  | pllLock => exact .fin h.pllUp
  | bootRomStart => exact .fin h.bootRom.mboxPoll
  | resetNAssert => exact .fin h.resetLow
  | resetNRelease => exact .fin h.updPwr
  | perstNAssert => exact .fin h.perstLow
  | perstNRelease => exact .fin h.updPwr
  | strapChange => exact .fin h.strapsAre
  | warmResetStart => exact .fin h.warmStarts
  | revalidation => exact .fin h.revalidation
  | hbmTrainingDone => exact .fin h.hbmTrained.mboxPoll
  | roostTrainingDone => exact .fin h.roostTrainedAll
  | tileSelfTestDone => exact .fin h.selfTested
  | tciReady => exact .fin h.tciReady
  | d2dFlitCrcError => exact .fin h.d2dCrc
  | d2dLinkFailed => exact .fin h.d2dLate
  | sqDoorbell => exact .fin (.ite (h.barAccess (fun h' => h'.sqDoorbellWrite)) h)
  | rqDoorbell => exact .fin (.ite (h.barAccess (fun h' => h'.rqDoorbellWrite)) h)
  | fetchTurn => exact .fin (.ite h.fetchTurn h)
  | commandTimeout => exact .fin h.cmdTimeout
  | coalesceTimer => exact .fin h.coalesce
  | onceIdExpiry => exact .fin h.dupExpire
  | adminQpEnable => exact .fin (.ite (h.barAccess (fun h' => h'.adminCfgWrite)) h)
  | adminQpDisable => exact .fin (.ite (h.barAccess (fun h' => h'.adminCfgWrite)) h)
  | nop => exact .fin (h.plain (fun h' => h'.endRun))
  | identify => exact .fin (h.plain (fun h' => h'.endRun))
  | queueCreate => exact .fin (h.plain (fun h' => .ite h'.endRun (.ite h'.endRun h'.createQp.endRun)))
  | queueDelete => exact .fin (h.plain (fun h' => .ite h'.endRun (.ite h'.endRun h'.queueDrain.waitOn)))
  | queueQuery => exact .fin (h.plain (fun h' => .ite h'.endRun h'.endRun))
  | queueModify => exact .fin (h.plain (fun h' => .ite h'.endRun (.endRun (.wr (.wr (.ite h' h'.wr))))))
  | resetWarm => exact .fin (h.plain (fun h' => h'.endRun.updPwr))
  | sessionOpen =>
    refine .fin (h.plain (fun h' => .ite h'.endRun ?_))
    split
    · exact h'.endRetry
    · split
      next hq1 => exact (h'.addSession.of_pair hq1).endRun
  | sessionAppend => exact .fin (h.onSession (fun h' => .ite h'.endRun h'.runFor))
  | sessionResume =>
    refine .fin (h.onSession (fun h' => ?_))
    split
    next hq => exact (h'.activate.of_pair hq).endRetry
    next hq => exact (h'.activate.of_pair hq).endRun
    next hq => exact (h'.activate.of_pair hq).waitOn
  | sessionPark =>
    refine .fin (h.onSession (fun h' => .ite h'.endRun ?_))
    split
    · exact h'.endRetry
    · exact h'.endRetry
    · exact h'.endRetry
    · exact .ite h'.endRetry h'.endRun
    · refine .ite h'.waitOn ?_
      split
      next hq1 => exact (h'.startPark.of_pair hq1).waitOn
      next hq1 => exact (h'.startPark.of_pair hq1).endRetry
  | sessionSet =>
    refine .fin (h.onSession (fun h' => ?_))
    exact .ite h'.endRun (.ite h'.endRun (.endRun (.ite (.changeBuddy (.ite (h'.setSes _ _) h')) (.ite (h'.setSes _ _) h'))))
  | sessionQuery => exact .fin (h.onSession (fun h' => .ite h'.endRun h'.endRun))
  | sessionExport => exact .fin (h.onSession (fun h' => .ite h'.endRetry (.ite h'.endRun h'.beginExport.waitOn)))
  | sessionImport =>
    refine .fin (h.plain (fun h' => .ite h'.endRun (.ite h'.endRetry ?_)))
    split
    · exact h'.endRetry
    · split
      next hq1 => exact (h'.enqueue.of_pair hq1).endRetry
      next hq1 => exact (h'.enqueue.of_pair hq1).updSes.waitOn
  | sessionRecover =>
    refine .fin (h.command (fun h' => ?_))
    split
    · exact h'.endRun
    · refine .ite h'.endRun (.ite h'.endRun (.ite h'.endRetry ?_))
      split
      · exact h'.endRetry
      · refine .ite h'.endRun ?_
        split
        next hq2 => exact (h'.recoverCopy.of_pair hq2).endRun
  | sessionClose => exact .fin (h.onSession (fun h' => .ite h'.endRun h'.beginClose.waitOn))
  | memCopy => exact .fin (h.plain (fun h' => .ite h'.endRun (.ite h'.endRun h'.startMove)))
  | memFill => exact .fin (h.plain (fun h' => .ite h'.endRun (.ite h'.endRun h'.fillMove)))
  | roostStatus => exact .fin (h.plain (fun h' => h'.endRun))
  | roostReclaim => exact .fin (h.plain (fun h' => .ite h'.endRun h'.reclaim.endRun))
  | planLoad => exact .fin (h.plain (fun h' => .ite h'.endRun (.ite h'.endRun h'.startMove)))
  | planUnload =>
    refine .fin (h.plain (fun h' => ?_))
    extract_lets id x1
    split
    · exact h'.endRun
    · exact .waitOn ⟨h'.csr, h'.mem, h'.poison⟩
  | weightsLoad =>
    refine .fin (h.plain (fun h' => ?_))
    extract_lets n
    split
    · exact h'.endRun
    · exact .ite h'.endRun (.ite h'.endRun h'.startMove)
  | kernelRun =>
    refine .fin (h.command (fun h' => ?_))
    split
    · exact h'.endRun
    · exact .ite h'.endRun h'.kernelGo
  | linkStatus => exact .fin (h.plain (fun h' => h'.endRun))
  | linkControlEnable => exact .fin (h.linkControl (fun h' => h'.wr.linkEnable))
  | linkControlDisable => exact .fin (h.linkControl (fun h' => h'.wr.withdrawLink))
  | linkControlRetrain => exact .fin (h.linkControl (fun h' => h'.withdrawLink))
  | reduce => exact .fin (h.plain (fun h' => .ite h'.endRun (.ite h'.endRun h'.reduceMove)))
  | reduceWait => exact .fin (h.plain (fun h' => .ite h'.endRun (.ite h'.endRun (.ite h'.waitOn h'.waitOn.counterRead))))
  | pkgDrainStart => exact .fin (h.pkgDrain (fun h' => h'.updSes.waitOn))
  | pkgDrainEnd => exact .fin (h.pkgDrain (fun h' => h'.drainEnds.endRun))
  | powerQuery => exact .fin (h.plain (fun h' => h'.endRun))
  | powerSetCap => exact .fin (h.plain (fun h' => .ite h'.endRun h'.wr.endRun))
  | powerStateFlight => exact .fin (h.powerTo (fun h' => h'.updPwr.waitOn))
  | powerStateGlide => exact .fin (h.powerTo (fun h' => h'.updPwr.endRun))
  | powerStatePerch => exact .fin (h.powerTo (fun h' => .ite h'.endRetry h'.endRun.updPwr))
  | timeQuery => exact .fin (h.plain (fun h' => h'.endRun))
  | keyDomainLoad =>
    refine .fin (h.plain (fun h' => ?_))
    exact .ite h'.endRun (.ite h'.endRun (.ite h'.endRun (.ite h'.endRun (.ite h'.endRun h'.startMove))))
  | keyDomainDelete =>
    refine .fin (h.plain (fun h' => ?_))
    exact .ite h'.endRun (.ite h'.endRun (.ite h'.endRetry (.endRun (.ite h'.setKey.setKey.csrPut h'.setKey.setKey))))
  | cryptRekey =>
    refine .fin (h.plain (fun h' => ?_))
    refine .ite h'.endRun (.ite h'.endRun (.ite h'.endRun (.ite h'.endRetry (.ite h'.endRun ?_))))
    exact .ite (.ite h'.walk0 h'.rekeyZero) (.ite h'.endRun h'.startMove)
  | cryptStatus => exact .fin (h.plain (fun h' => .ite h'.endRun h'.endRun))
  | jessSetRegion => exact .fin (h.plain (fun h' => .ite h'.endRun h'.setRegion))
  | jessSync => exact .fin (h.plain (fun h' => h'.jessSyncGo.waitOn))
  | trngRead =>
    refine .fin (h.plain (fun h' => .ite h'.endRun ?_))
    split
    next hq =>
      split
      next hq1 => exact ((h'.rand64.of_pair hq).rand64.of_pair hq1).endRun
  | attest => exact .fin (h.plain (fun h' => .ite h'.endRun (.ite h'.endRun h'.startMove)))
  | faultQuery => exact .fin (h.plain (fun h' => .ite h'.endRun h'.endRun))
  | faultLogRead => exact .fin (h.plain (fun h' => h'.endRun))
  | faultClear => exact .fin (h.plain (fun h' => .ite h'.endRun h'.clearSource.endRun))
  | faultInject => exact .fin (h.plain (fun h' => .ite h'.endRun h'.endRun.inject))
  | blockReset =>
    refine .fin (h.plain (fun h' => ?_))
    extract_lets u
    split
    · exact h'.endRun
    · exact h'.waitOn
    · exact h'.waitOn.requestReset
    · exact h'.endRun.requestReset
    · exact h'.endRun.requestReset
  | parkEvaluation => exact .fin (.ite h.parkEvaluation h)
  | transferStart => exact .fin h.transferStart
  | roostPageTransfer => exact .fin h.pageTransfer
  | parkCommitWrite => exact .fin h.commitWrite
  | parkCommitAck => exact .fin h.commitAck
  | unparkComplete => exact .fin h.unparkComplete
  | unparkDeferTimeout => exact .fin h.unparkDefer
  | unparkFrameTimeout => exact .fin h.unparkFrames
  | buddyRetryTimer => exact .fin h.buddyRetry
  | runComplete => exact .fin h.passComplete
  | runWatchdog => exact .fin h.watchdog
  | runAbortPoint => exact .fin h.abortPoint
  | runDeferTimeout => exact .fin h.runDefer
  | dmaDescriptorComplete => exact .fin h.dmaComplete
  | dmaChannelStop => exact .fin h.dmaStop
  | poisonConsumed => exact .fin h.poisonRun
  | tileSramScrub => exact .fin (.ite h.tileSramError h)
  | groupGateIdle => exact .fin (.ite h.gateIdle h)
  | groupWakeComplete => exact .fin (.ite h.groupWakeDone h)
  | hbmRequestIngress => exact .fin h.hbmIngress
  | writeDrainAge => exact .fin (.ite h.hbmAge h)
  | hbmRequestIssue => exact .fin (.ite h.decay.hbmIssue h)
  | hbmRefreshDue => exact .fin (.ite h.hbmRefresh h)
  | parityRetry => exact .fin (.ite h.hbmParity h)
  | hbmSpareCmd => exact .fin (.ite h.spareCmdWrite h)
  | spareCopyComplete => exact .fin (.ite h.spareCopied h)
  | hbmPatrolScrub => exact .fin (.ite h.hbmScrub h)
  | hbmThermalPoll => exact .fin (.ite h.hbmPoll h)
  | rhWindowClear => exact .fin h.rhClear
  | hbmSelfRefreshEntry => exact .fin (.ite h.hbmSelfRefresh h)
  | hbmSelfRefreshExit => exact .fin (.ite h.hbmWake h)
  | orderedContribution => exact .fin (.ite h.ordered h)
  | ordHoldExpiry => exact .fin h.ordHold
  | hbmGlbLocWrite => exact .fin h.locWrite
  | locPropagationDone => exact .fin h.locDone
  | hbmPcCfgWrite => exact .fin (.ite h.pcCfgWrite h)
  | hbmStkCfgWrite => exact .fin (.ite h.stkCfgWrite h)
  | hbmThermCfgWrite => exact .fin (.ite h.thermCfgWrite h)
  | roostRequestIngress => exact .fin h.roostIngress
  | roostDrainAge => exact .fin (.ite h.setRq h)
  | roostRequestIssue => exact .fin (.ite h.decay.roostIssue h)
  | roostRefreshDue => exact .fin (.ite h.roostRefresh h)
  | roostTempRead => exact .fin (.ite h.roostTemp h)
  | roostPatrolScrub => exact .fin (.ite h.roostScrub h)
  | roostRhWindowClear => exact .fin h.roostRhClear
  | caParityRetry => exact .fin (.ite h.roostCaParity h)
  | wrCrcResend => exact .fin (.ite h.roostWrCrc h)
  | roostRetrainCheck => exact .fin (.ite h.retrainCheck h)
  | roostSelfRefreshEntry => exact .fin h.roostSelfRefresh
  | roostSelfRefreshExit => exact .fin h.roostExit
  | roostChCfgWrite => exact .fin (.ite h.chCfgWrite h)
  | cryptEnable => exact .fin (.ite h.cryptCtrlWrite h)
  | sectorTableFillDone => exact .fin (.ite h.cryptFilled h)
  | sectorLineRead => exact .fin h.sectorAccess
  | sectorLineWrite => exact .fin h.sectorAccess
  | mergeHoldExpiry => exact .fin h.mergeHold
  | rawSectorRead => exact .fin (.ite h.rawRead h)
  | rawSectorWrite => exact .fin (.ite h.rawWrite h)
  | rekeySector => exact .fin h.rekeyStep
  | jessStageGo => exact .fin h.stageGoWrite
  | jessCheckerApply => exact .fin (.ite h.updJess h)
  | jessSyncGo => exact .fin h.syncGoWrite
  | jessSyncDone => exact .fin h.syncDone
  | jessCheckerReload => exact .fin (.ite h.jessReload h)
  | flitReceive => exact .fin (h.ktlTimer (fun h' => h'.flitReceive))
  | replayRequestTimer => exact .fin (h.ktlTimer (fun h' => h'.replayAsk))
  | linkDownTimeout => exact .fin (h.ktlTimer (fun h' => h'.downTimeout))
  | rd => exact .fin (h.hearMsg (fun h' => h'.serve))
  | wr => exact .fin (h.hearMsg (fun h' => h'.serve))
  | wrMask => exact .fin (h.hearMsg (fun h' => h'.serve))
  | add => exact .fin (h.hearMsg (fun h' => h'.serve))
  | cmd => exact .fin (h.hearMsg (fun h' => h'.cmdMessage))
  | fwd => exact .fin (h.hearMsg (fun h' => h'.fwdMessage))
  | buddySec => exact .fin (h.hearMsg (fun h' => h'.buddySecMsg))
  | buddyCommit => exact .fin (h.hearMsg (fun h' => h'.buddyCommitMsg))
  | buddyDel => exact .fin (h.hearMsg (fun h' => h'.buddyDelMsg))
  | claim => exact .fin (h.hearMsg (fun h' => h'.claimMsg))
  | expHdr => exact .fin (h.hearMsg (fun h' => .ite h'.importHeader h'.discard))
  | expSec => exact .fin (h.hearMsg (fun h' => .ite h'.importSector h'.discard))
  | impReq => exact .fin (h.hearMsg (fun h' => h'.discard))
  | rdData => exact .fin (h.hearMsg (fun h' => h'.response))
  | ack => exact .fin (h.hearMsg (fun h' => h'.response))
  | replyMsg => exact .fin (h.hearMsg (fun h' => h'))
  | fwdReply => exact .fin (h.hearMsg (fun h' => h'.response))
  | relayMessage => exact .fin (h.hearMsg (fun h' => h'))
  | presence => exact .fin (h.hearMsg (fun h' => h'.fromPeer (fun h'' => h''.presenceFrom)))
  | linkstate => exact .fin (h.hearMsg (fun h' => h'.fromPeer (fun h'' => h''.linkstateFrom)))
  | probe => exact .fin (h.hearMsg (fun h' => h'.fromPeer (fun h'' => h''.probeFrom)))
  | probeAck => exact .fin (h.hearMsg (fun h' => h'.fromPeer (fun h'' => h''.probeAckFrom)))
  | routeFence => exact .fin (h.hearMsg (fun h' => h'.fromPeer (fun h'' => h''.fenceFrom)))
  | fenceAck => exact .fin (h.hearMsg (fun h' => h'.fromPeer (fun h'' => h''.fenceAckFrom)))
  | leave => exact .fin (h.hearMsg (fun h' => h'.fromPeer (fun h'' => h''.leaveFrom)))
  | join => exact .fin (h.hearMsg (fun h' => h'.fromPeer (fun h'' => h''.wr)))
  | downReq => exact .fin (h.hearMsg (fun h' => h'.downReqFrom))
  | downAck => exact .fin (h.hearMsg (fun h' => h'.downAckFrom))
  | slotSync => exact .fin (h.hearMsg (fun h' => h'.onGateway (fun h'' => h''.slotSyncFrom)))
  | tod => exact .fin (h.hearMsg (fun h' => h'.onGateway (fun h'' => h''.todMessage)))
  | wake => exact .fin (.ite (h.hearMsg (fun h' => h')) h.wakeKettle)
  | ready => exact .fin (h.hearMsg (fun h' => h'.readyFrom))
  | responseTimeout => exact .fin (.ite h.respTimeout h)
  | linkstateTimer => exact .fin (.ite h.sendLinkstate h)
  | probeRoundTimeout => exact .fin (h.ktlTimer (fun h' => h'.probeTimeout))
  | strandedHoldExpiry => exact .fin (h.ktlTimer (fun h' => h'.strandExpiry))
  | reprobeTimer => exact .fin (h.ktlTimer (fun h' => .ite h'.search h'))
  | routeFenceTimeout => exact .fin (h.ktlTimer (fun h' => h'.fenceTimeout))
  | slotSyncTimeout => exact .fin (.ite h.alignByPeers h)
  | trainingSlotStart => exact .fin (h.ktlTimer (fun h' => .ite (.trainingStart (.ite h' h'.updBoot)) h'))
  | linkTrainingComplete => exact .fin (h.ktlTimer (fun h' => h'.trainingEnd))
  | presenceTimer => exact .fin (.ite h.sendPresence h)
  | perchHoldExpiry => exact .fin (h.ktlTimer (fun h' => h'.perchHoldEnd))
  | wakeResendTimer => exact .fin (h.ktlTimer (fun h' => .ite h'.mgmt h'))
  | ktlLinkDisable => exact .fin (.ite h.linkCtrlWrite h)
  | ktlLinkEnable => exact .fin (.ite h.linkCtrlWrite h)
  | ktlLinkRetrain => exact .fin (.ite h.linkCtrlWrite h)
  | pcieConfigRequest => exact .fin (.ite h (.ite h.emit h.emit))
  | pcieBar0Read => exact .fin (.ite h (.ite h.emit.wakeBy (.ite h.csrLoad (.ite h.csrLoad h.errTo))))
  | pcieL1Exit => exact .fin h.wakeBy
  | coreRelease => exact .fin (.ite h.coreCtrlWrite h)
  | coreReset => exact .fin (.ite h.coreCtrlWrite h)
  | amo => exact .fin (h.byMaster (fun h' => h'.atomic (fun h'' => h'')))
  | amofadd => exact .fin (h.byMaster (fun h' => h'.atomic (fun h'' => h'')))
  | loadReserved => exact .fin (h.byMaster (fun h' => h'.atomic (fun h'' => h''.setResv)))
  | storeConditional => exact .fin (h.byMaster (fun h' => h'.storeCond))
  | reservationTimeout =>
    refine .fin ?_
    split
    · exact .ite h.updMews h
    · exact h
  | fenceW => exact .fin (.ite (h.byMaster (fun h' => h'.updMews)) h)
  | cboClean => exact .fin (h.byMaster (fun h' => h'.cbo (fun h'' => h''.cleanLine)))
  | cboFlush => exact .fin (h.byMaster (fun h' => h'.cbo (fun h'' => h''.flushLine)))
  | cboInval => exact .fin (h.byMaster (fun h' => h'.cbo (fun h'' => h''.flushLine)))
  | cboZero => exact .fin (h.byMaster (fun h' => h'.cbo (fun h'' => h''.zeroLine)))
  | prefetchHint => exact .fin (h.byMaster (fun h' => .ite h' h'.prefetch))
  | cacheAccess =>
    refine .fin (h.byMaster (fun h' => h'.cacheAccess (fun h'' => ?_)))
    split
    · exact h''.csrStore
    · exact h''.csrLoad
    · exact h''.accFault
  | mewsLockWrite => exact .fin (.ite h.lockRegWrite h)
  | lockFillComplete => exact .fin (.ite h.lockFill.mboxPoll h)
  | cleanAll => exact .fin (.ite h.cacheMaintWrite h)
  | imsicSeteipnum => exact .fin (.ite h.imsicWrite h)
  | flashRead => exact .fin (.ite h.flashCmdWrite h)
  | flashProgram => exact .fin (.ite h.flashCmdWrite h)
  | flashErase => exact .fin (.ite h.flashCmdWrite h)
  | flashCommandDone => exact .fin (.ite h.flashEnd h)
  | flashProtectWrite => exact .fin h.otherWrite
  | creditWindowStart => exact .fin (.ite h.windowStart h)
  | dieThermalTrip => exact .fin (.ite h.dieTrip h)
  | perchEntryStart => exact .fin h.perchEntry
  | perchEntryTimeout => exact .fin h.perchTimeout
  | wakeTimer => exact .fin h.wakeTimer
  | pwrWakeAtWrite => exact .fin h.wakeAtWrite
  | pwrCapWrite => exact .fin h.capWrite
  | pwrCfgWrite => exact .fin h.pwrCfgStore
  | ppsEdge => exact .fin (.ite h.ppsAt h)
  | holdoverTimeout => exact .fin (.ite h.updTime.timeEvent h)
  | slewComplete =>
    refine .fin ?_
    split
    · exact .ite h.updTime.timeEvent h
    · exact h
  | ppsOutRise => exact .fin (.ite h.updTime.drive h)
  | ppsOutFall => exact .fin (.ite h.updTime.drive h)
  | anchorUpdate => exact .fin (.ite h.anchor h)
  | timeAlarmExpiry => exact .fin h.alarmCheck
  | timeAlarmWrite => exact .fin h.alarmWrite
  | timeCapture => exact .fin h.captureWrite
  | faultEvent => exact .fin (h.foldl (fun h' => h'.foldl (fun h'' => h''.reportAt)))
  | ceWindowRollover => exact .fin (.ite h.ceRoll h)
  | graceTimerExpiry => exact .fin (.ite (h.foldl (fun h' => h'.graceOver)) h)
  | unitResetEnd => exact .fin (.ite h.unitLeaves h)
  | resetOverdue =>
    refine .fin ?_
    split
    · exact .ite h.unitOverdue h
    · exact h
  | shadowWindowClose => exact .fin h.closeShadow
  | warmLimitExpiry =>
    refine .fin ?_
    split
    · exact .ite h.wr.updWatch.logStep.trayAlarm h
    · exact h
  | timeoutDetectorFire => exact .fin (.ite h.accFault.report h)
  | ackHandled => exact .fin (.ite h.ackWrite h)
  | ackExtend => exact .fin (.ite h.ackWrite h)
  | ackAdvance => exact .fin (.ite h.ackWrite h)
  | alarmClear => exact .fin (.ite h.alarmClrWrite h)
  | pendingClear => exact .fin (.ite h.srcStatusWrite h)
  | sourceCfgWrite => exact .fin (.ite h.srcCfg h)
  | sourceForce => exact .fin (.ite h.srcCfg h)
  | unitRelease => exact .fin (.ite h.ruCfgWrite h)
  | unitReset => exact .fin (.ite h.ruCfgWrite h)
  | tamperEvent => exact .fin h.sensorsAre
  | trngHealthFail => exact .fin h.trngFails
  | trngHealthRecover => exact .fin h.trngRecovers
  | svnAdvance => exact .fin h.svnWrite
  | tamperMaskWrite => exact .fin h.maskWrite
  | tapReset => exact .fin (.ite h.tapIr h)
  | tapExtest => exact .fin h.tapDrive
  | tapIdcode => exact .fin (.ite h.tapIr.tdo h)
  | tapSamplePreload => exact .fin h.tapSample
  | tapClamp => exact .fin h.tapHold
  | tapHighz => exact .fin h.tapHold
  | tapExtestPulse => exact .fin h.tapDrive
  | tapExtestTrain => exact .fin h.tapDrive
  | tapBypass => exact .fin (.ite h.tapIr.tdo h)
  | tapOpen => exact .fin h.tapOpen
  | openComplete => exact .fin h.openDone
  | tapDbgMem => exact .fin (h.tapOpenOnly (fun h' => .ite h' (.ite h'.tapIr.tdo h'.tapIr.tdo.dbgAccess)))
  | tgtStatus => exact .fin h.busView.tgtStatus
  | mboxStatus => exact .fin (.ite h.busView.emit h.busView)
  | setMode => exact .fin h.busView.tgtSetMode
  | mboxWrite => exact .fin (h.busView.mboxWrite (fun h' => h'.wakeMgmt))
  | mboxRead => exact .fin (.ite h.busView.emit h.busView)
  | mboxPop => exact .fin h.busView.mboxPop
  | alertResponse => exact .fin (.ite h.busView.emit.alertClear h.busView)
  | stretchTimeout => exact .fin h.busView.stretchTimeout
  | targetBusTimeout => exact .fin h.busView.tgtTimeout
  | mailboxMove => exact .fin (.ite (h.mailboxMove (fun h' => h'.wakeMgmt)) h)
  | mailboxReplyStage => exact .fin (.ite h.mailboxReply h)
  | mgmtTgtCfgWrite => exact .fin h.otherWrite
  | controllerRound => exact .fin h.controllerRound
  | mgmtCtlCfgWrite => exact .fin (.ite h.ctlCfgWrite h)
  | uartRxCharacter => exact .fin h.uartRx
  | uartDataWrite => exact .fin (.ite h.uartDataStore h)
  | uartDataRead => exact .fin (.ite h.csrLoad h)
  | uartTxComplete => exact .fin (.ite h.uartSent h)
  | snapLowerRead => exact .fin h.csrLoad
  | snapUpperRead => exact .fin h.csrLoad
  | registerWrite => exact .fin (h.barAccess (fun h' => h'.csrStore))
  | perchPowerLoss => exact .fin h.perchOff
  | perchStartupExpiry => exact .fin h.perchStarted
  | lockLoss => exact .fin (h.ktlTimer (fun h' => h'.lockLost))
  | keeperUp => exact .fin (.ite h.keeperComes h)
  | pcieLinkUp => exact .fin (.ite h.updBoot h)
  | coreWfi => exact .fin (.ite h.wr h)
  | perchKeeperExpiry => exact .fin h.perchKeeper
  | linkWithdrawExpiry => exact .fin (h.ktlTimer (fun h' => h'.withdrawRequest))
  | coreEnLowExpiry => exact .fin h.coreLowOver

theorem Canon.idleTick (h : s.Canon) : NextCanon (idleTick s) :=
  .fin h.idle.idleQueues.retrainPoll.retrainPoll.trainStart.mboxPoll.watchStatus.countReplies

theorem Canon.step {t : State} (h : s.Canon) (ht : step s = .next t) : t.Canon := by
  cases hp : s.pending with
  | nil => exact h.idleTick.canon ((step_nil hp).symm.trans ht)
  | cons c rest =>
    have hrest : { s with pending := rest }.Canon := h.of_data rfl rfl rfl
    exact hrest.exec.canon ((step_cons hp).symm.trans ht)

theorem QueueWf.step {t : State} (h : s.QueueWf) (ht : step s = .next t) : t.QueueWf := by
  obtain ⟨u, hu, hpend⟩ := step_next s
  obtain rfl : u = t := Host.Outcome.next.inj (hu.symm.trans ht)
  exact fun c hc => h c (List.mem_of_mem_tail (hpend ▸ hc))

end State

/-- Settles O4: the front command's operation keeps the form, and the queue only gets shorter. -/
theorem canonicalFormIsKept : Obligations.CanonicalFormIsKept := fun _ _ hs hq ht => ⟨hs.step ht, hq.step ht⟩

end Sys2Proof.Machine
end

section
/-! PROOF. The upkeep of the HBM controllers: spare copies, patrol reads, polls, the disturbance window, self-refresh and the locality map. -/

namespace Sys2Proof.Machine

section upkeep
variable {s : State} {st p : Nat}

/-! ### Spare rows (R169, R170) -/

/-- A write of GO that the checks admit, for a row that exists, spares the row. -/
theorem State.spareCmdWrite_spares {w : CsrWr} (h : s.csrGate (R.HBM_PC_SPARE_CMD.addr st p 0) .w w.m w.size w.sub w.plain = none) (hgo : written w R.HBM_PC_SPARE_CMD.GO = 1)
    (hrow : written w R.HBM_PC_SPARE_CMD.ROW < 49152) :
    s.spareCmdWrite st p w = (s.spareRow st p (written w R.HBM_PC_SPARE_CMD.BANK) (written w R.HBM_PC_SPARE_CMD.ROW) 1).emit (.done w.m []) := by
  rw [State.spareCmdWrite, State.csrWrite_admitted h, if_pos ⟨hgo, hrow⟩]

theorem exec_spareCopyComplete (hst : st < 8) (hp : p < 64) {e : Nat} (he : e < 64) : exec (.spareCopyComplete st p e) s = .next ((s.spareCopied st p e).settledFrom s) :=
  fin_effect (if_pos (by simp [pcOk_true hst hp, he]))

/-- What a copy's read of a clean line does: the request takes its number, and the read is counted. -/
def State.lineCounted (s : State) (st p : Nat) : State := (s.updHbm (fun h => { h with seq := h.seq + 1 })).bump R.HBM_PC_RD_CNT 1 st p

/-- Said of any counter: at a counter's own offset the kernel would compute with the offset's terms. -/
theorem State.updHbm_bump_only (s : State) (g : HbmState → HbmState) (f : RF) (n i j k : Nat) :
    (s.updHbm g).bump f n i j k = { s with csr := ((s.updHbm g).bump f n i j k).csr, hbm := g s.hbm } := rfl

/-- Only the register file and the number of requests change. -/
theorem State.lineCounted_only (s : State) (st p : Nat) : s.lineCounted st p = { s with csr := (s.lineCounted st p).csr, hbm := { s.hbm with seq := s.hbm.seq + 1 } } :=
  s.updHbm_bump_only ..

@[simp] theorem State.lineCounted_busy (s : State) (st p : Nat) : (s.lineCounted st p).busy = s.busy := by
  rw [State.lineCounted, State.bump_busy]
  exact s.updHbm_busy _ rfl

@[simp] theorem State.lineCounted_pending (s : State) (st p : Nat) : (s.lineCounted st p).pending = s.pending := by rw [State.lineCounted_only]

@[simp] theorem State.lineCounted_loc (s : State) (st p : Nat) : (s.lineCounted st p).hbm.loc = s.hbm.loc := by rw [State.lineCounted_only]

@[simp] theorem State.lineCounted_lineKey (s : State) (st p a : Nat) : (s.lineCounted st p).lineKey a = s.lineKey a := by rw [State.lineKey, State.lineCounted_loc, State.lineKey]

/-- A copy's read of line `i` of the row that begins at local address `l0`, with the rewrite that the code asks for. -/
def State.copyLine (st p l0 : Nat) (s : State) (i : Nat) : State :=
  let q := s.hbmReq { m := ⟨0x9000, .f, false⟩, addr := hbmUnmap s.hbm.loc st p (l0 + 64 * i), op := .read, cls := .bulk, data := [], mask := 0, poison := false } 0 true
  let d := (q.1.bump R.HBM_PC_RD_CNT 1 st p).hbmDecode st p q.2 ⟨0, []⟩
  match d.2.rewrite with
  | some (l, po) => d.1.putAt q.2.line q.2.key l po
  | none => d.1

/-- The end of a copy that runs: its sixteen lines are read in turn, and COPYING is 0. -/
theorem State.spareCopied_runs {e : Nat} (hv : s.rd R.HBM_PC_SPARE.VALID st p e = 1) (hc : s.rd R.HBM_PC_SPARE.COPYING st p e = 1) :
    ∃ n, s.spareCopied st p e = (((List.range 16).foldl (State.copyLine st p (s.rd R.HBM_PC_SPARE.ROW st p e * 2 ^ 14 +
      ((s.rd R.HBM_PC_SPARE.BANK st p e ^^^ s.rd R.HBM_PC_SPARE.ROW st p e) % 16) * 2 ^ 10)) s).wr R.HBM_PC_SPARE.COPYING 0 st p e).wr R.HBM_PC_RAS_STATUS.COPYING n st p :=
  ⟨_, if_neg (by rw [hv, hc]; decide)⟩

theorem decode72_nil : decode72 [] = .clean := rfl

/-- Without an error on the wire or in the cells a read changes nothing and asks for no rewrite. -/
theorem State.hbmDecode_clean {x : QReq} (h : s.cellErrs x.line x.key = []) : (s.hbmDecode st p x ⟨0, []⟩).1 = s ∧ (s.hbmDecode st p x ⟨0, []⟩).2.rewrite = none := by
  simp only [State.hbmDecode, h, List.append_nil, decode72_nil, if_true, and_self]

/-- The local address of a line's first byte is that of a line's first byte in the package too. -/
theorem hbmUnmap_line {loc stack pc l : Nat} (hl : l % 64 = 0) : hbmUnmap loc stack pc l / 64 * 64 = hbmUnmap loc stack pc l := by
  cases h : natBit loc (l / 2 ^ 23)
  case false => rw [hbmUnmap_wide h]; omega
  case true => rw [hbmUnmap_pair h]; omega

/-- What a line's cells show hangs on the registers by the place of the sector table alone. -/
theorem State.cellErrs_csr_hbm {c : Tab Word} {hb : HbmState} {a : Nat} (h : ({ s with csr := c, hbm := hb } : State).stblIdx a = s.stblIdx a) (key : Nat) :
    ({ s with csr := c, hbm := hb } : State).cellErrs a key = s.cellErrs a key := by
  simp only [State.cellErrs, State.lostAt, h]
  rfl

section clean
variable (hs : Tab.wf s.csr = true)
include hs

/-- A count of reads moves no sector table. -/
theorem State.lineCounted_stblIdx (a : Nat) : (s.lineCounted st p).stblIdx a = s.stblIdx a := by
  have hready : (s.lineCounted st p).cryptReady = s.cryptReady :=
    congrArg (· == 2) (State.rd_wr_ne (s := s.updHbm _) hs _ _ _ _ _ _ _ _ _ (by simp only [RF.addr, R.CRYPT_STATUS.STATE, R.HBM_PC_RD_CNT]; omega))
  have hbase : (s.lineCounted st p).stblBase = s.stblBase :=
    congrArg (· * 65536) (State.rd_wr_ne (s := s.updHbm _) hs _ _ _ _ _ _ _ _ _ (by simp only [RF.addr, R.CRYPT_STBL_BASE.BASE, R.HBM_PC_RD_CNT]; omega))
  unfold State.stblIdx
  rw [hready, hbase]

/-- What the cells of a line show is left. -/
theorem State.lineCounted_cellErrs (a key : Nat) : (s.lineCounted st p).cellErrs a key = s.cellErrs a key := by
  have hidx := State.lineCounted_stblIdx (st := st) (p := p) hs a
  rw [State.lineCounted_only] at hidx ⊢
  exact State.cellErrs_csr_hbm hidx key

/-- The read of a clean line is counted, and nothing is written again. -/
theorem State.copyLine_clean {l0 i a : Nat} (hl : l0 % 64 = 0) (ha : a = hbmUnmap s.hbm.loc st p (l0 + 64 * i)) (herr : s.cellErrs a (s.lineKey a) = []) :
    State.copyLine st p l0 s i = s.lineCounted st p := by
  have hline : a / 64 * 64 = a := ha ▸ hbmUnmap_line (by omega)
  obtain ⟨x, hx⟩ : ∃ x, x = (s.hbmReq { m := ⟨0x9000, .f, false⟩, addr := a, op := .read, cls := .bulk, data := [], mask := 0, poison := false } 0 true).2 := ⟨_, rfl⟩
  have hxline : x.line = a := by rw [hx, QReq.line, State.hbmReq_line, hline, hline]
  have hxkey : x.key = s.lineKey a := by rw [hx, ← congrArg s.lineKey hline]; rfl
  obtain ⟨hstate, hrewrite⟩ := State.hbmDecode_clean (s := s.lineCounted st p) (st := st) (p := p) (x := x) (by rw [hxline, hxkey, State.lineCounted_cellErrs hs, herr])
  subst ha hx
  unfold State.copyLine
  simp only [State.hbmReq_state]
  rw [← State.lineCounted, hrewrite, hstate]

/-- A row of clean lines is read as sixteen counts. -/
theorem State.copyLines_clean {l0 : Nat} (hl : l0 % 64 = 0) (l : List Nat) (herr : ∀ i ∈ l, ∀ a, a = hbmUnmap s.hbm.loc st p (l0 + 64 * i) → s.cellErrs a (s.lineKey a) = []) :
    l.foldl (State.copyLine st p l0) s = l.foldl (fun v _ => v.lineCounted st p) s := by
  induction l generalizing s with
  | nil => rfl
  | cons i l ih =>
    rw [List.foldl_cons, List.foldl_cons, State.copyLine_clean hs hl rfl (herr i List.mem_cons_self _ rfl)]
    refine ih (State.bump_csr_wf (s := s.updHbm _) hs ..) (fun j hj a ha => ?_)
    rw [State.lineCounted_loc] at ha
    rw [State.lineCounted_cellErrs hs, State.lineCounted_lineKey, herr j (List.mem_cons_of_mem i hj) a ha]

end clean

/-- The row of HbmUpkeepEventsComplete on a copy whose sixteen lines show no error, in a package at rest: sixteen reads are counted, and COPYING is 0. -/
def State.CopiesComplete (s : State) (st p : Nat) : Prop :=
  ∀ e b row, s.Rests → e < 64 → s.rd R.HBM_PC_SPARE.VALID st p e = 1 → s.rd R.HBM_PC_SPARE.COPYING st p e = 1 → b = s.rd R.HBM_PC_SPARE.BANK st p e →
    row = s.rd R.HBM_PC_SPARE.ROW st p e →
    (∀ i a, i < 16 → a = hbmUnmap s.hbm.loc st p (row * 2 ^ 14 + ((b ^^^ row) % 16) * 2 ^ 10 + 64 * i) → s.cellErrs a (s.lineKey a) = []) →
    ∃ n, exec (.spareCopyComplete st p e) s = .next ((((List.range 16).foldl (fun v _ => v.lineCounted st p) s).wr R.HBM_PC_SPARE.COPYING 0 st p e).wr R.HBM_PC_RAS_STATUS.COPYING n st p)

/-- Counted reads leave what waits alone. -/
theorem State.linesCounted_rests (s : State) (st p : Nat) (l : List Nat) :
    (l.foldl (fun v _ => v.lineCounted st p) s).busy = s.busy ∧ (l.foldl (fun v _ => v.lineCounted st p) s).pending = s.pending := by
  induction l generalizing s with
  | nil => exact ⟨rfl, rfl⟩
  | cons i l ih => simpa using ih (s.lineCounted st p)

/-- The row holds with the registers in their one form. Out of it, a read counter that wraps to its reset value is deleted, which can uncover an entry of CRYPT_STBL_BASE behind it: the sector table moves, and
what a line that it no longer covers shows is `Config.lostErrs`, of which no value is known. -/
theorem State.copiesComplete (hs : Tab.wf s.csr = true) (hst : st < 8) (hp : p < 64) : s.CopiesComplete st p := by
  rintro e b row h he hv hc rfl rfl herr
  obtain ⟨n, hn⟩ := State.spareCopied_runs hv hc
  obtain ⟨hbusy, hpend⟩ := s.linesCounted_rests st p (List.range 16)
  rw [State.copyLines_clean hs (by omega) _ (fun i hi a ha => herr i a (List.mem_range.mp hi) ha)] at hn
  refine ⟨n, ?_⟩
  rw [exec_spareCopyComplete hst hp he, hn, State.settledFrom_rests]
  · rw [State.wr_busy, State.wr_busy, hbusy]; exact h
  · rw [State.wr_pending, State.wr_pending, hpend]

/-! ### The patrol (R173) -/

/-- A patrol that is off reads nothing. -/
theorem State.hbmScrub_off {l : Nat} {w : WireErr} (h : s.rd R.HBM_STK_SCRUB.PERIOD_H st = 0) : s.hbmScrub st p l w = s := if_pos (.inl h)

/-- A patrol's read that is due, and that the queue need not hold back, enters its pseudo-channel's queue behind the flush of the line's ordered slot. -/
theorem State.hbmScrub_reads {l a : Nat} {w : WireErr} {u v : State} {x : QReq} (hper : s.rd R.HBM_STK_SCRUB.PERIOD_H st ≠ 0) (hready : s.stkState st = stkReady)
    (hunit : s.unitState (48 + st) ≠ Unit.resetting) (hdue : scrubDue (Tab.get? s.hbm.scrubAt (64 * st + p)) (s.rd R.HBM_STK_SCRUB.PERIOD_H st) 12582912 s.now = true)
    (ha : a = hbmUnmap s.hbm.loc st p (l / 64 * 64)) (hv : v = s.updHbm (fun h => { h with scrubAt := Tab.put h.scrubAt (64 * st + p) s.now }))
    (hu : ((v.decay [(a, w.errs)]).flushOrd (v.modeAt (1 + st) a).1 a false).hbmReq
      { m := ⟨0x9000, .f, false⟩, addr := a, op := .read, cls := .bulk, data := [], mask := 0, poison := false } 0 true = (u, x)) (hfree : (u.hq st p).holds x = false) :
    s.hbmScrub st p l w = u.hbmEnter st p x := by
  subst ha hv
  simp only [State.hbmScrub, hper, hready, hunit, hdue, hu, hfree, ne_eq, not_true_eq_false, Bool.not_true, Bool.false_eq_true, or_self, if_false]

/-! ### The disturbance window (R179) -/

theorem State.rhClear_boundary (h : s.hbm.rhWin < s.epoch / 32000000) :
    s.rhClear = s.updHbm (fun h => { h with rhWin := s.epoch / 32000000, pcs := h.pcs.map (fun e => (e.1, e.2.clearActs)) }) := if_neg (Nat.not_le.mpr h)

/-! ### The locality map (R149) -/

/-- The register takes the write, and PENDING shows that the decoders do not use it yet. -/
theorem exec_hbmGlbLocWrite {hi : Bool} {w : CsrWr} {a : Nat} (ha : a = if hi then R.HBM_GLB_LOC_HI.addr 0 0 0 else R.HBM_GLB_LOC_LO.addr 0 0 0) (h : s.Admits a w) :
    exec (.hbmGlbLocWrite hi w) s = .next (((s.csrPut a (s.csrMerged a w)).wr R.HBM_GLB_LOC_STATUS.PENDING 1).emit (.done w.m [])) := by
  subst ha
  exact fin_csrWrite h rfl ((State.wr_busy ..).trans (State.csrPut_busy ..)) ((State.wr_pending ..).trans (State.csrPut_pending ..))

theorem State.locDone_propagates (hpend : s.rd R.HBM_GLB_LOC_STATUS.PENDING ≠ 0) : s.locDone = (s.updHbm (fun h =>
    { h with loc := s.rd R.HBM_GLB_LOC_LO + s.rd R.HBM_GLB_LOC_HI.LOC * 2 ^ 64 })).wr R.HBM_GLB_LOC_STATUS.PENDING 0 := if_neg hpend

theorem exec_locPropagationDone (h : s.Rests) (hpend : s.rd R.HBM_GLB_LOC_STATUS.PENDING ≠ 0) : exec .locPropagationDone s = .next ((s.updHbm (fun h =>
    { h with loc := s.rd R.HBM_GLB_LOC_LO + s.rd R.HBM_GLB_LOC_HI.LOC * 2 ^ 64 })).wr R.HBM_GLB_LOC_STATUS.PENDING 0) := by
  have hbusy : (s.updHbm (fun h => { h with loc := s.rd R.HBM_GLB_LOC_LO + s.rd R.HBM_GLB_LOC_HI.LOC * 2 ^ 64 })).busy = false := (s.updHbm_busy _ rfl).trans h
  exact fin_effect_rests (State.locDone_propagates hpend) ((State.wr_busy ..).trans hbusy) ((State.wr_pending ..).trans (State.updHbm_pending ..))

end upkeep

/-- Every row of the statement holds in every state but that on the copies of clean lines, to which the statement comes down. `State.copiesComplete` gives that row for the registers' one form, which the statement
does not ask for. -/
theorem hbmUpkeepEventsComplete_iff : Obligations.HbmUpkeepEventsComplete ↔ ∀ (s : State) (st p : Nat), st < 8 → p < 64 → s.CopiesComplete st p := by
  refine ⟨fun h s st p hst hp => ?copy, fun hcopy s st p hst hp => ⟨?spare, fun e => exec_spareCopyComplete hst hp, hcopy s st p hst hp, ?off, ?patrol, fun t => fin_effect (if_pos hst), ?window,
    fun _ => fin_effect (if_pos hst), fun _ htemp hon => fin_effect (if_pos ⟨hst, htemp, hon⟩), fun w => exec_hbmGlbLocWrite rfl, fun w => exec_hbmGlbLocWrite rfl, exec_locPropagationDone⟩⟩
  case copy =>
    obtain ⟨-, -, hcopy, -⟩ := h s st p hst hp
    exact hcopy
  case spare => exact fun w hgate hgo hrow => fin_effect ((if_pos (pcOk_true hst hp)).trans (State.spareCmdWrite_spares hgate hgo hrow))
  case off => exact fun l w h hl hper => fin_effect_rests ((if_pos (by simp [pcOk_true hst hp, hl])).trans (State.hbmScrub_off hper)) h rfl
  case patrol =>
    intro l w a v u x hl hper hready hunit hdue ha hv hu hfree
    exact fin_effect ((if_pos (by simp [pcOk_true hst hp, hl])).trans (State.hbmScrub_reads hper hready hunit hdue ha hv hu hfree))
  case window => exact fun h hwin => fin_effect_rests (State.rhClear_boundary hwin) ((State.updHbm_busy _ _ rfl).trans h) rfl

end Sys2Proof.Machine
end
